-- ==== Sys2Proof/Word.lean ====
section
/-! DEFINITION. The word and byte types (R6). -/

namespace Sys2Proof

/-- A 32-bit word of a register, a packet or a command (R6). -/
abbrev Word := BitVec 32

/-- One byte of module memory, of a payload or of an image. -/
abbrev Byte := BitVec 8

end Sys2Proof
end

