-- ==== Sys2Proof/Types.lean ====
section
/-! DEFINITION. The plain data that commands carry: packet headers and packets (R101, R106), training
blocks (R76), command packets with their source (R366, R376) and names of buffers (R138, R139). -/

namespace Sys2Proof

/-- The packet header of R101, its reserved fields kept (R102: forwarded unchanged). -/
structure Hdr where
  ver : Nat := 2
  type : Nat := 0
  tc : Nat := 0
  dl : Bool := false
  color : Nat := 0
  ce : Bool := false
  ece : Bool := false
  late : Bool := false
  hops : Nat := 0
  rsv0 : Nat := 0
  dst : Nat := 0
  src : Nat := 0
  rsv1 : Nat := 0
  job : Nat := 0
  rsv2 : Nat := 0
  len : Nat := 0
  seq : Nat := 0
  offset : Nat := 0
  ctx : Nat := 0
  rsv5 : Nat := 0
  msg : Nat := 0
  chunk : Nat := 0
  deadline : Nat := 0
  deriving DecidableEq, Repr

/-- A packet without its trailer: header and payload (R101). -/
structure Pkt where
  hdr : Hdr := {}
  payload : List Byte := []
  deriving DecidableEq, Repr

/-- A training block's fields (R76). -/
structure TsBlock where
  lane : Nat := 0
  width : Nat := 0
  group : Nat := 0
  req : Nat := 0
  stat : Nat := 0
  rxReady : Bool := false
  preset : Bool := false
  presetNum : Nat := 0
  deriving DecidableEq, Repr

/-- Where a command comes from (R376): a slot of the aperture or an endpoint of the fabric. -/
inductive Src where
  | slot (n : Nat)
  | fabric (endpoint : Nat)
  deriving DecidableEq, Repr

/-- A command packet (R366) without OPCODE, which the row names: where it came from, FORCE and QUIET, whether
a reserved header bit is set, TAG, JOB and the parameter bytes (LEN is 16 more than their number). -/
structure Cmd where
  src : Src := .slot 0
  force : Bool := false
  quiet : Bool := false
  rsvSet : Bool := false
  tag : Nat := 0
  job : Nat := 0
  params : List Byte := []
  deriving DecidableEq, Repr

/-- How a pool operation names its buffer (R139): by handle or by module address. -/
inductive BufName where
  | handle (h : Nat)
  | address (pool : Nat) (a : Nat)
  deriving DecidableEq, Repr

/-- What the partner tells of itself in the formation checks (R420). -/
structure PairInfo where
  index : Nat := 0
  plane : Nat := 0
  rx : Nat := 0
  ry : Nat := 0
  member : Nat := 0
  ck2l : Bool := false
  line : Nat := 2
  release : Nat := 0
  pools : List Nat := []
  deriving DecidableEq, Repr

end Sys2Proof
end

