-- ==== Sys2Proof/Syntax.lean ====
section
/-! DEFINITION. The commands of the block: one constructor for each row of the operation table, in its order. A command packet (R366)
comes whole, as `Cmd`; an event comes with what the world outside the model determines of it. -/

namespace Sys2Proof

inductive Instr where
  /-- CODEWORD_RECEIVED (R73): the received symbols, and whether the lane buffer overflowed. -/
  | codewordReceived (lane : Nat) (syms : List Nat) (ovf : Bool)
  /-- HUNT_DEGRADE_TIMEOUT (R74). -/
  | huntDegradeTimeout (p : Nat)
  /-- TS_BLOCK_RECEIVED (R76). -/
  | tsBlockReceived (lane : Nat) (t : TsBlock)
  /-- EQ_COMPLETE (R75): lanes that pass, as a mask; the measured reference offset in ppm. -/
  | eqComplete (p : Nat) (pass : Nat) (offset : Nat)
  /-- EQ_TIMEOUT (R74). -/
  | eqTimeout (p : Nat)
  /-- DESKEW_COMPLETE (R79): LANE values received, in lane order. -/
  | deskewComplete (p : Nat) (ids : List Nat)
  /-- DESKEW_TIMEOUT (R74). -/
  | deskewTimeout (p : Nat)
  /-- IDENT_TIMEOUT (R74). -/
  | identTimeout (p : Nat)
  /-- IDENTITY_REPEAT_TIMER (R90). -/
  | identityRepeatTimer (p : Nat)
  /-- IDENTITY_MESSAGE_RECEIVED (R91). -/
  | identityMessageReceived (p : Nat) (pkt : Pkt)
  /-- TRAIN_RETRY_HOLD_EXPIRY (R75). -/
  | trainRetryHoldExpiry (p : Nat)
  /-- HOLD_DOWN_EXPIRY (R75). -/
  | holdDownExpiry (p : Nat)
  /-- DOWN_HOLD_EXPIRY (R89). -/
  | downHoldExpiry (p : Nat)
  /-- IDENTITY_CHECK_TIMEOUT (R89). -/
  | identityCheckTimeout (p : Nat)
  /-- FC_STATE_RECEIVED (R111): the XOFF mask. -/
  | fcStateReceived (p : Nat) (m : Nat)
  /-- WIDTH_REQ_RECEIVED (R83): the proposed mask. -/
  | widthReqReceived (p : Nat) (m : Nat)
  /-- WIDTH_ACK_RECEIVED (R83): the agreed mask. -/
  | widthAckReceived (p : Nat) (m : Nat)
  /-- WIDTH_SWITCH (R83). -/
  | widthSwitch (p : Nat)
  /-- WIDTH_CHANGE_TIMEOUT (R84). -/
  | widthChangeTimeout (p : Nat)
  /-- WIDEN_PROPOSAL_LAPSE (R84). -/
  | widenProposalLapse (p : Nat)
  /-- LANE_RETRAIN_RECEIVED (R88): the lanes named. -/
  | laneRetrainReceived (p : Nat) (m : Nat)
  /-- SOAK_COMPLETE (R87): lane `i` of the port. -/
  | soakComplete (p : Nat) (i : Nat)
  /-- LANE_RETRAIN_COMPLETE (R88): lane `i` of the port. -/
  | laneRetrainComplete (p : Nat) (i : Nat)
  /-- LANE_ERROR_LIMIT_EXCEEDED (R88): lane `i` of the port. -/
  | laneErrorLimitExceeded (p : Nat) (i : Nat)
  /-- TS_SYNC_TIMER (R58). -/
  | tsSyncTimer (p : Nat)
  /-- TS_SYNC_RECEIVED (R81). -/
  | tsSyncReceived (p : Nat)
  /-- TS_RX_RECEIVED (R81): t2 in ps. -/
  | tsRxReceived (p : Nat) (t : Nat)
  /-- TS_TX_RECEIVED (R58): t3 in ps. -/
  | tsTxReceived (p : Nat) (t : Nat)
  /-- TS_EXCHANGE_TIMEOUT (R81). -/
  | tsExchangeTimeout (p : Nat)
  /-- DRAIN_RECEIVED (R80): DRAIN 1 or 0. -/
  | drainReceived (p : Nat) (b : Bool)
  /-- FC_STATE_REPEAT_TIMER (R111). -/
  | fcStateRepeatTimer (p : Nat)
  /-- XOFF_STUCK (R113). -/
  | xoffStuck (p : Nat)
  /-- ROUTING_REPEAT_TIMER (R129). -/
  | routingRepeatTimer
  /-- ROUTING_RECEIVED (R129). -/
  | routingReceived (p : Nat) (pkt : Pkt)
  /-- PORT_DRAINED (R41). -/
  | portDrained (p : Nat)
  /-- PACKET_HEADER_RECEIVED (R136). -/
  | packetHeaderReceived (p : Nat) (h : Hdr)
  /-- PACKET_TRAILER_RECEIVED (R108): payload, trailer, no codeword was uncorrectable, the packet was aborted. -/
  | packetTrailerReceived (p : Nat) (payload : List Byte) (trailer : Nat) (cwOk : Bool) (aborted : Bool)
  /-- RESIDENCE_TIMEOUT (R105): the held packet. -/
  | residenceTimeout (id : Nat)
  /-- SCHEDULER_SLOT (R148). -/
  | schedulerSlot (den : Nat)
  /-- PACKET_TRANSMIT_COMPLETE (R176): den and attachment. -/
  | packetTransmitComplete (den : Nat) (att : Nat)
  /-- BRIDGE_ARRIVAL (R150): source and destination den. -/
  | bridgeArrival (src : Nat) (dst : Nat)
  /-- DEEP_PAGE_OPEN_TIMEOUT (R157): den, attachment, queue. -/
  | deepPageOpenTimeout (den : Nat) (att : Nat) (q : Nat)
  /-- DEEP_PAGE_READ_COMPLETE (R157): den, attachment, queue; no uncorrectable line was met. -/
  | deepPageReadComplete (den : Nat) (att : Nat) (q : Nat) (ok : Bool)
  /-- ALLOC (R139): the den that asks. -/
  | alloc (den : Nat) (pool : Nat) (reqDen : Nat)
  /-- FREE (R139). -/
  | bufFree (den : Nat) (b : BufName)
  /-- REF_INC (R143). -/
  | refInc (den : Nat) (b : BufName)
  /-- REF_DEC (R143). -/
  | refDec (den : Nat) (b : BufName)
  /-- POLICER_RELEASE (R180): the policer 0-31 of the port. -/
  | policerRelease (p : Nat) (i : Nat)
  /-- SAMPLE_TIMER (R185). -/
  | sampleTimer (den : Nat)
  /-- RESEND_TIMEOUT (R120). -/
  | resendTimeout (dst : Nat) (tc : Nat) (seq : Nat)
  /-- PATH_HOLD_TIMEOUT (R120). -/
  | pathHoldTimeout (dst : Nat) (tc : Nat)
  /-- OPERATION_DEADLINE (R120). -/
  | operationDeadline (dst : Nat) (tc : Nat)
  /-- ACK_TIMER (R118). -/
  | ackTimer (src : Nat) (tc : Nat)
  /-- RATE_INCREASE_TIMER (R127). -/
  | rateIncreaseTimer (dst : Nat) (tc : Nat)
  /-- ACK_RECEIVED (R116). -/
  | ackReceived (p : Nat) (pkt : Pkt)
  /-- OPEN_RECEIVED (R114). -/
  | openReceived (p : Nat) (pkt : Pkt)
  /-- OPEN_ACK_RECEIVED (R114). -/
  | openAckReceived (p : Nat) (pkt : Pkt)
  /-- RESYNC_RECEIVED (R114). -/
  | resyncReceived (p : Nat) (pkt : Pkt)
  /-- STATUS_COMPLETION_RECEIVED (R592). -/
  | statusCompletionReceived (p : Nat) (pkt : Pkt)
  /-- WRITE_RECEIVED (R347). -/
  | writeReceived (p : Nat) (pkt : Pkt)
  /-- READ_REQ_RECEIVED (R347). -/
  | readReqReceived (p : Nat) (pkt : Pkt)
  /-- READ_RESP_RECEIVED (R20). -/
  | readRespReceived (p : Nat) (pkt : Pkt)
  /-- COLL_CONTRIB_RECEIVED (R222). -/
  | collContribReceived (p : Nat) (pkt : Pkt)
  /-- ACC_BLOCK_READBACK_COMPLETE (R257): no uncorrectable line was met. -/
  | accBlockReadbackComplete (ctx : Nat) (chunk : Nat) (ok : Bool)
  /-- COLL_PARTIAL_RECEIVED (R222). -/
  | collPartialReceived (p : Nat) (pkt : Pkt)
  /-- MOE_DISPATCH_RECEIVED (R323). -/
  | moeDispatchReceived (p : Nat) (pkt : Pkt)
  /-- MOE_RETURN_RECEIVED (R330). -/
  | moeReturnReceived (p : Nat) (pkt : Pkt)
  /-- EMB_LOOKUP_RECEIVED (R332). -/
  | embLookupReceived (p : Nat) (pkt : Pkt)
  /-- CMD_PACKET_RECEIVED (R374). -/
  | cmdPacketReceived (p : Nat) (pkt : Pkt)
  /-- CMD_REPLY_RECEIVED (R20). -/
  | cmdReplyReceived (p : Nat) (pkt : Pkt)
  /-- RESEND_REQ_RECEIVED (R123). -/
  | resendReqReceived (p : Nat) (pkt : Pkt)
  /-- TEST_PACKET_RECEIVED (R529). -/
  | testPacketReceived (p : Nat) (pkt : Pkt)
  /-- NOTICE_TIMER (R219). -/
  | noticeTimer (ctx : Nat)
  /-- STEP_TIMEOUT (R218). -/
  | stepTimeout (ctx : Nat) (chunk : Nat) (phase : Nat) (rdir : Nat)
  /-- CTX_DEADLINE_EXPIRY (R208). -/
  | ctxDeadlineExpiry (ctx : Nat)
  /-- FAILURE_NOTICE_REPEAT (R229). -/
  | failureNoticeRepeat (ctx : Nat)
  /-- CTX_RELEASE_HOLD_EXPIRY (R209). -/
  | ctxReleaseHoldExpiry (ctx : Nat)
  /-- AQ_COMMIT (R305): the words staged. -/
  | aqCommit (core : Nat) (words : List Nat)
  /-- MATMUL (R269): the entries written before a detected error, and the failing row or column as W8 of R454, with bit 17 for a parity
  error and bit 18 for a residue error (R275). -/
  | matmul (core : Nat) (err : Option (Nat × Nat))
  /-- ELEM (R273): the entries written before a detected error, and the failing row or column as for MATMUL. -/
  | elem (core : Nat) (err : Option (Nat × Nat))
  /-- ARRAY_COMPLETION (R266). -/
  | arrayCompletion (core : Nat)
  /-- VQ_COMMIT (R305): the words staged. -/
  | vqCommit (core : Nat) (words : List Nat)
  /-- CHAIN (R296): the OUT rows written before a detected error, and the failing place. -/
  | chain (core : Nat) (err : Option (Nat × Nat))
  /-- SETPRED (R299). -/
  | setpred (core : Nat)
  /-- VECTOR_COMPLETION (R298). -/
  | vectorCompletion (core : Nat)
  /-- MQ_COMMIT (R305): the words staged. -/
  | mqCommit (core : Nat) (words : List Nat)
  /-- GET (R307). -/
  | movGet (core : Nat)
  /-- PUT (R307): sectors that the other side reports bad. -/
  | movPut (core : Nat) (bad : List Nat)
  /-- GATHER (R307). -/
  | gather (core : Nat)
  /-- SEND (R307). -/
  | send (core : Nat)
  /-- MOVER_COMPLETION (R309). -/
  | moverCompletion (core : Nat)
  /-- ACOMP_POP (R305). -/
  | acompPop (core : Nat)
  /-- VSUM_POP (R305). -/
  | vsumPop (core : Nat)
  /-- MCOMP_POP (R305). -/
  | mcompPop (core : Nat)
  /-- INBOX_POP (R305). -/
  | inboxPop (core : Nat)
  /-- SEGMENT_FINISHED (R312). -/
  | segmentFinished (core : Nat) (item : Nat)
  /-- ITEM_RELEASE (R312). -/
  | itemRelease (core : Nat) (item : Nat)
  /-- DISPATCH (R324): the words of the DISPATCH item. -/
  | dispatch (core : Nat) (words : List Nat)
  /-- EXIT (R313). -/
  | progExit (core : Nat) (code : Nat)
  /-- CONTROL_TIMER_EXPIRY (R305). -/
  | controlTimerExpiry (core : Nat)
  /-- SETT_PROG_FAULT (R306): cause, pc and trap value. -/
  | settProgFault (core : Nat) (cause : Nat) (pc : Nat) (tval : Nat)
  /-- STOP_TIMEOUT (R313). -/
  | stopTimeout (core : Nat)
  /-- REPAIR_LOAD (R279). -/
  | repairLoad (core : Nat)
  /-- SELFTEST_COMPLETE (R280): the result and the failing row. -/
  | selftestComplete (core : Nat) (res : Nat) (row : Nat)
  /-- CHAR_ALL_WRITE (R283). -/
  | charAllWrite (v : Bool)
  /-- SETT_START_LIMIT (R485). -/
  | settStartLimit (core : Nat)
  /-- WCB_AGE_EXPIRY (R353). -/
  | wcbAgeExpiry (line : Nat)
  /-- PATROL_SCRUB (R352): 0 clean, 1 corrected, 2 uncorrectable. -/
  | patrolScrub (line : Nat) (res : Nat)
  /-- CE_RATE_WINDOW (R352). -/
  | ceRateWindow (slow : Bool) (ch : Nat)
  /-- MEM_TEMP_SAMPLE (R356): temperatures in degrees of the stack and of LP6. -/
  | memTempSample (den : Nat) (stack : Nat) (lp6 : Nat)
  /-- BANK_REFRESH (R357). -/
  | bankRefresh (slow : Bool) (ch : Nat)
  /-- IMPEDANCE_CALIBRATION (R357). -/
  | impedanceCalibration (slow : Bool) (ch : Nat)
  /-- SHORT_RETRAIN (R357). -/
  | shortRetrain (slow : Bool) (ch : Nat) (ok : Bool)
  /-- FORCED_FULL_RETRAIN (R358). -/
  | forcedFullRetrain (slow : Bool) (ch : Nat)
  /-- FULL_RETRAIN_COMPLETE (R358). -/
  | fullRetrainComplete (slow : Bool) (ch : Nat) (ok : Bool)
  /-- TIER_REBUILD_COMPLETE (R360). -/
  | tierRebuildComplete (den : Nat) (slow : Bool)
  /-- REGION_WIPE_COMPLETE (R346). -/
  | regionWipeComplete (region : Nat)
  /-- UNCLEAN_FRAME_CLEAR (R512). -/
  | uncleanFrameClear (den : Nat) (frame : Nat)
  /-- APERTURE_WRITE (R371): offset in the slot and the bytes written. -/
  | apertureWrite (slot : Nat) (off : Nat) (bytes : List Byte)
  /-- SLOT_FILL_TIMEOUT (R371). -/
  | slotFillTimeout (slot : Nat)
  /-- PROGRESS_REPLY_TIMER (R382): the executing command. -/
  | progressReplyTimer (id : Nat)
  /-- REPLY_WRITE_REFUSED (R373). -/
  | replyWriteRefused (slot : Nat)
  /-- PEER_COMMAND_TIMEOUT (R385): the module asked and the TAG. -/
  | peerCommandTimeout (dst : Nat) (tag : Nat)
  /-- IMAGE_VERIFY_COMPLETE (R405): the executing command, the image as transferred, whether flash and the areas took it. -/
  | imageVerifyComplete (id : Nat) (image : List Byte) (flashOk : Bool) (areasOk : Bool)
  /-- PROG_STAGING_TIMEOUT (R394). -/
  | progStagingTimeout (src : Src)
  /-- ECHO (R386). -/
  | echo (c : Cmd)
  /-- GET_INFO (R386). -/
  | getInfo (c : Cmd)
  /-- GET_STATE (R386). -/
  | getState (c : Cmd)
  /-- GET_JOB (R386). -/
  | getJob (c : Cmd)
  /-- GET_STATS (R386). -/
  | getStats (c : Cmd)
  /-- BASE_LOAD (R412). -/
  | baseLoad (c : Cmd)
  /-- OVERLAY_STAGE (R410). -/
  | overlayStage (c : Cmd)
  /-- OVERLAY_APPLY (R413). -/
  | overlayApply (c : Cmd)
  /-- CONFIG_QUERY (R387). -/
  | configQuery (c : Cmd)
  /-- LINK_SET (R388). -/
  | linkSet (c : Cmd)
  /-- LINK_DRAIN (R41). -/
  | linkDrain (c : Cmd)
  /-- LINK_RESUME (R388). -/
  | linkResume (c : Cmd)
  /-- LINK_RECHECK (R92). -/
  | linkRecheck (c : Cmd)
  /-- LINK_RETRAIN (R588). -/
  | linkRetrain (c : Cmd)
  /-- LINK_QUERY (R388). -/
  | linkQuery (c : Cmd)
  /-- PART_WRITE (R46). -/
  | partWrite (c : Cmd)
  /-- PART_READ (R389). -/
  | partRead (c : Cmd)
  /-- ROUTE_NOTICE (R130). -/
  | routeNotice (c : Cmd)
  /-- QUEUE_CFG (R172). -/
  | queueCfg (c : Cmd)
  /-- QUEUE_RELEASE (R390). -/
  | queueRelease (c : Cmd)
  /-- SHAPER_SET (R182). -/
  | shaperSet (c : Cmd)
  /-- POLICER_SET (R181). -/
  | policerSet (c : Cmd)
  /-- TC1_ADMIT (R187). -/
  | tc1Admit (c : Cmd)
  /-- TC1_RELEASE (R390). -/
  | tc1Release (c : Cmd)
  /-- TC1_QUERY (R390). -/
  | tc1Query (c : Cmd)
  /-- TC1_HOP_HOLD (R187). -/
  | tc1HopHold (c : Cmd)
  /-- TC1_HOP_COMMIT (R187). -/
  | tc1HopCommit (c : Cmd)
  /-- TC1_HOP_RELEASE (R187). -/
  | tc1HopRelease (c : Cmd)
  /-- CTX_CREATE (R207). -/
  | ctxCreate (c : Cmd)
  /-- CTX_REARM (R209). -/
  | ctxRearm (c : Cmd)
  /-- CTX_RELEASE (R209). -/
  | ctxRelease (c : Cmd)
  /-- CTX_ABORT (R228). -/
  | ctxAbort (c : Cmd)
  /-- CTX_QUERY (R391). -/
  | ctxQuery (c : Cmd)
  /-- MOE_PLACE (R322). -/
  | moePlace (c : Cmd)
  /-- MOE_PLACE_COMMIT (R391). -/
  | moePlaceCommit (c : Cmd)
  /-- EMB_CREATE (R332). -/
  | embCreate (c : Cmd)
  /-- EMB_RELEASE (R391). -/
  | embRelease (c : Cmd)
  /-- CTX_PEER_HOLD (R207). -/
  | ctxPeerHold (c : Cmd)
  /-- CTX_PEER_COMMIT (R207). -/
  | ctxPeerCommit (c : Cmd)
  /-- CTX_PEER_RELEASE (R207). -/
  | ctxPeerRelease (c : Cmd)
  /-- CTX_PEER_REARM (R209). -/
  | ctxPeerRearm (c : Cmd)
  /-- CTX_PEER_FREE (R209). -/
  | ctxPeerFree (c : Cmd)
  /-- CTX_PEER_ABORT (R228). -/
  | ctxPeerAbort (c : Cmd)
  /-- CTX_PEER_FAIL (R229). -/
  | ctxPeerFail (c : Cmd)
  /-- REGION_CREATE (R345). -/
  | regionCreate (c : Cmd)
  /-- REGION_RELEASE (R346). -/
  | regionRelease (c : Cmd)
  /-- REGION_RELOAD (R346). -/
  | regionReload (c : Cmd)
  /-- REGION_QUERY (R392). -/
  | regionQuery (c : Cmd)
  /-- MEM_FLUSH (R353). -/
  | memFlush (c : Cmd)
  /-- MEM_FLUSH_ALL (R392). -/
  | memFlushAll (c : Cmd)
  /-- MEM_RETRAIN (R358). -/
  | memRetrain (c : Cmd)
  /-- BULK_XFER_TO_MODULE (R392). -/
  | bulkXferToModule (c : Cmd)
  /-- BULK_XFER_TO_HOST (R392). -/
  | bulkXferToHost (c : Cmd)
  /-- CORE_ASSIGN (R393). -/
  | coreAssign (c : Cmd)
  /-- CORE_RETURN (R393). -/
  | coreReturn (c : Cmd)
  /-- PROG_LOAD_REGION (R311). -/
  | progLoadRegion (c : Cmd)
  /-- PROG_LOAD_PART (R394). -/
  | progLoadPart (c : Cmd)
  /-- PROG_UNLOAD (R393). -/
  | progUnload (c : Cmd)
  /-- BIND (R312). -/
  | bind (c : Cmd)
  /-- UNBIND (R313). -/
  | unbind (c : Cmd)
  /-- LAUNCH (R312). -/
  | launch (c : Cmd)
  /-- PROG_WAIT (R393). -/
  | progWait (c : Cmd)
  /-- PROG_STOP (R313). -/
  | progStop (c : Cmd)
  /-- PROG_QUERY (R393). -/
  | progQuery (c : Cmd)
  /-- PAIR_FORM (R420). -/
  | pairForm (c : Cmd)
  /-- PAIR_BREAK (R436). -/
  | pairBreak (c : Cmd)
  /-- PAIR_STATUS (R395). -/
  | pairStatus (c : Cmd)
  /-- PAIR_RESYNC (R435). -/
  | pairResync (c : Cmd)
  /-- FAULT_READ (R455). -/
  | faultRead (c : Cmd)
  /-- FAULT_CLEAR (R443). -/
  | faultClear (c : Cmd)
  /-- FAULT_CFG (R446). -/
  | faultCfg (c : Cmd)
  /-- FAULT_FORCE (R448). -/
  | faultForce (c : Cmd)
  /-- SELFTEST (R280). -/
  | selftest (c : Cmd)
  /-- REPAIR_RESET (R279). -/
  | repairReset (c : Cmd)
  /-- BLACKBOX_READ (R459). -/
  | blackboxRead (c : Cmd)
  /-- POWER_CAP (R491). -/
  | powerCap (c : Cmd)
  /-- POWER_STATE_RUN (R495). -/
  | powerStateRun (c : Cmd)
  /-- POWER_STATE_TRIM (R497). -/
  | powerStateTrim (c : Cmd)
  /-- POWER_STATE_DROWSE (R498). -/
  | powerStateDrowse (c : Cmd)
  /-- POWER_STATE_HIBERNATE (R499). -/
  | powerStateHibernate (c : Cmd)
  /-- POWER_READ (R397). -/
  | powerRead (c : Cmd)
  /-- LC_CHANGE (R473). -/
  | lcChange (c : Cmd)
  /-- OWNER_KEY (R472). -/
  | ownerKey (c : Cmd)
  /-- ROLLBACK_ADVANCE (R469). -/
  | rollbackAdvance (c : Cmd)
  /-- MEASURE_READ (R475). -/
  | measureRead (c : Cmd)
  /-- MIRROR_SET (R159). -/
  | mirrorSet (c : Cmd)
  /-- MIRROR_CLEAR (R399). -/
  | mirrorClear (c : Cmd)
  /-- FOX_CFG_STREAM (R523). -/
  | foxCfgStream (c : Cmd)
  /-- FOX_CFG_CHECKER (R528). -/
  | foxCfgChecker (c : Cmd)
  /-- FOX_CFG_CLEAR (R523). -/
  | foxCfgClear (c : Cmd)
  /-- FOX_START (R527). -/
  | foxStart (c : Cmd)
  /-- FOX_STOP (R527). -/
  | foxStop (c : Cmd)
  /-- FOX_READ (R527). -/
  | foxRead (c : Cmd)
  /-- GOLDEN_SET (R532). -/
  | goldenSet (c : Cmd)
  /-- INJECT_DISARM (R537). -/
  | injectDisarm (c : Cmd)
  /-- INJECT_SYMBOL (R537). -/
  | injectSymbol (c : Cmd)
  /-- INJECT_SYNC (R537). -/
  | injectSync (c : Cmd)
  /-- INJECT_TRAILER (R537). -/
  | injectTrailer (c : Cmd)
  /-- INJECT_DROP (R537). -/
  | injectDrop (c : Cmd)
  /-- INJECT_DUPLICATE (R537). -/
  | injectDuplicate (c : Cmd)
  /-- INJECT_DELAY (R537). -/
  | injectDelay (c : Cmd)
  /-- INJECT_XOFF (R537). -/
  | injectXoff (c : Cmd)
  /-- INJECT_SILENCE (R537). -/
  | injectSilence (c : Cmd)
  /-- INJECTION_EXPIRY (R538). -/
  | injectionExpiry (p : Nat)
  /-- FOX_START_TIME (R527). -/
  | foxStartTime (u : Nat)
  /-- FOX_STREAM_PACKET (R524): stream `i` of unit `u`. -/
  | foxStreamPacket (u : Nat) (i : Nat)
  /-- FOX_CHECKER_SETTLE (R527). -/
  | foxCheckerSettle (u : Nat)
  /-- GOLDEN_RESULT_RECEIVED (R536). -/
  | goldenResultReceived (p : Nat) (pkt : Pkt)
  /-- FSW_CLEAR (R443): word and the bits written as 1. -/
  | fswClear (w : Nat) (m : Nat)
  /-- FORCE_WRITE (R448): word and the bits written as 1. -/
  | forceWrite (w : Nat) (m : Nat)
  /-- HALT_RELEASE (R444): HALT word and the bits written as 1. -/
  | haltRelease (w : Nat) (m : Nat)
  /-- IRQ_HOLDOFF_EXPIRY (R456). -/
  | irqHoldoffExpiry
  /-- KEEPER_WDOG (R441). -/
  | keeperWdog
  /-- SNAPSHOT_CAPTURE (R460). -/
  | snapshotCapture
  /-- BLACKBOX_WRITE_COMPLETE (R459). -/
  | blackboxWriteComplete
  /-- START_CONDITION (R480). -/
  | startCondition
  /-- PF_WARN (R480). -/
  | pfWarn
  /-- POWER_SAMPLE (R481): millivolts, milliamperes, degrees. -/
  | powerSample (mv : Nat) (ma : Nat) (temp : Nat)
  /-- CAPPING_LOOP (R492): mean input power in W over the last 50 µs. -/
  | cappingLoop (watts : Nat)
  /-- DEN_THERMAL_LOOP (R494). -/
  | denThermalLoop (den : Nat) (temp : Nat)
  /-- AVS_ADJUST (R486): islands whose point rises. -/
  | avsAdjust (islands : List Nat)
  /-- ISLAND_STEP_COMPLETE (R487): the island. -/
  | islandStepComplete (i : Nat)
  /-- PHASE_FAULT (R484). -/
  | phaseFault (phase : Nat)
  /-- RAIL_FAULT (R484). -/
  | railFault (den : Nat)
  /-- REF_LOST (R489). -/
  | refLost
  /-- REF_RELOCK (R489). -/
  | refRelock
  /-- DROWSE_DRAIN_TIMEOUT (R498). -/
  | drowseDrainTimeout
  /-- HIBERNATE_ENTRY_COMPLETE (R499). -/
  | hibernateEntryComplete
  /-- WAKE_N (R500). -/
  | wakeN
  /-- I3C_WAKE_REQUEST (R500). -/
  | i3cWakeRequest
  /-- WAKE_COMPLETE (R500). -/
  | wakeComplete (ok : Bool)
  /-- CORE_POWER_ON_COMPLETE (R497). -/
  | corePowerOnComplete (core : Nat)
  /-- PIN_RESET_ASSERT (R507). -/
  | pinResetAssert
  /-- PIN_RESET_RELEASE (R507). -/
  | pinResetRelease
  /-- ENDPOINT_RESET (R548). -/
  | endpointReset
  /-- PCIE_LINK_DOWN (R548). -/
  | pcieLinkDown
  /-- BOOT_CHAIN_VERIFIED (R466): slot, key number of the signer, counter 0 of the image. -/
  | bootChainVerified (slot : Nat) (key : Nat) (ctr : Nat)
  /-- CHANNEL_TRAINING_COMPLETE (R510): training succeeded. -/
  | channelTrainingComplete (slow : Bool) (ch : Nat) (ok : Bool)
  /-- WIPE_COMPLETE (R511): the cores whose self-test fails, each with its result and row. -/
  | wipeComplete (failed : List (Nat × Nat × Nat))
  /-- BOOT_RECORD_BASE_LOAD (R409): the base fits the areas. -/
  | bootRecordBaseLoad (areasOk : Bool)
  /-- EPOCH_PULSE (R55). -/
  | epochPulse
  /-- EPOCH_MISSING (R55). -/
  | epochMissing
  /-- EPOCH_LOAD_WRITE (R569). -/
  | epochLoadWrite (v : Nat)
  /-- EPOCH_PERIOD_WRITE (R569). -/
  | epochPeriodWrite (v : Nat)
  /-- DIR_STAT_TIMEOUT (R569). -/
  | dirStatTimeout (dir : Nat)
  /-- HEARTBEAT_TIMER (R430). -/
  | heartbeatTimer
  /-- HEARTBEAT_RECEIVED (R430). -/
  | heartbeatReceived (p : Nat) (pkt : Pkt)
  /-- LOSS_OF_CONTACT (R430). -/
  | lossOfContact
  /-- ARBITRATION_TEST (R432). -/
  | arbitrationTest
  /-- HOME_STATE_RECEIVED (R431). -/
  | homeStateReceived (p : Nat) (pkt : Pkt)
  /-- PAIR_AUTO_FORM (R420). -/
  | pairAutoForm
  /-- PAIR_FORMATION_COMPLETE (R420). -/
  | pairFormationComplete (info : PairInfo)
  /-- RESYNC_COPY_COMPLETE (R435). -/
  | resyncCopyComplete (failed : Nat)
  /-- BAR4_READ (R545): address within the window and length in bytes. -/
  | bar4Read (addr : Nat) (len : Nat)
  /-- BAR4_WRITE (R545): address within the window, bytes, the TLP was poisoned. -/
  | bar4Write (addr : Nat) (bytes : List Byte) (poisoned : Bool)
  /-- BAR4_BASE_WRITE (R544). -/
  | bar4BaseWrite (v : Nat)
  /-- BUS_MASTER_READ_TIMEOUT (R546). -/
  | busMasterReadTimeout (id : Nat)
  /-- MSIX_UNMASK (R547). -/
  | msixUnmask (v : Nat)
  /-- L0P_IDLE_TIMER (R542). -/
  | l0pIdleTimer
  /-- I3C_DYNAMIC_ADDRESS_ASSIGN (R550). -/
  | i3cDynamicAddressAssign (a : Nat)
  /-- SET_ENDPOINT_ID (R550). -/
  | setEndpointId (eid : Nat)
  /-- SET_EVENT_RECEIVER (R552). -/
  | setEventReceiver (eid : Nat)
  /-- GET_SENSOR_READING (R551). -/
  | getSensorReading (sensor : Nat) (den : Nat)
  /-- PLDM_FIRMWARE_UPDATE (R553): the images for Owl and Keeper. -/
  | pldmFirmwareUpdate (owl : List Byte) (keeper : List Byte)
  /-- ACTIVATE_FIRMWARE (R553). -/
  | activateFirmware
  /-- GET_VERSION (R474). -/
  | getVersion (path : Nat)
  /-- GET_CAPABILITIES (R474). -/
  | getCapabilities (path : Nat)
  /-- NEGOTIATE_ALGORITHMS (R474). -/
  | negotiateAlgorithms (path : Nat)
  /-- GET_DIGESTS (R474). -/
  | getDigests (path : Nat)
  /-- GET_CERTIFICATE (R474): offset and length asked. -/
  | getCertificate (path : Nat) (off : Nat) (len : Nat)
  /-- CHALLENGE (R474). -/
  | challenge (path : Nat) (nonce : List Byte)
  /-- GET_MEASUREMENTS (R476). -/
  | getMeasurements (path : Nat) (idx : Nat) (nonce : List Byte)
  /-- LINK_ENABLE (R74). -/
  | linkEnable (p : Nat)
  /-- LINK_DISABLE (R588). -/
  | linkDisable (p : Nat)
  /-- RETRAIN (R588). -/
  | retrain (p : Nat)
  /-- LOOPBACK (R97). -/
  | loopback (p : Nat) (v : Nat)
  /-- REGISTER_WRITE (R562): offset, size in bytes, value. -/
  | registerWrite (off : Nat) (size : Nat) (v : Nat)
  /-- RC_READ (R564). -/
  | rcRead (off : Nat) (size : Nat)
  /-- SPLIT_LOW_READ (R561). -/
  | splitLowRead (off : Nat)
  /-- SPLIT_HIGH_WRITE (R561). -/
  | splitHighWrite (off : Nat) (v : Nat)
  /-- BAR0_ILLEGAL_ACCESS (R559): the refused access was a write. -/
  | bar0IllegalAccess (off : Nat) (size : Nat) (wr : Bool)
  /-- UNMAPPED_ACCESS (R560): the access was a write. -/
  | unmappedAccess (off : Nat) (wr : Bool)
  /-- DEN_JUNCTION_TEMPERATURE (R494): den, its hottest junction, temperatures by Sett island. -/
  | denJunctionTemperature (den : Nat) (temp : Nat) (isl : List (Nat × Nat))
  /-- OWL_WATCHDOG_EXPIRY (R441). -/
  | owlWatchdogExpiry
  /-- OPEN_REPEAT_TIMER (R114). -/
  | openRepeatTimer (dst : Nat) (tc : Nat)
  /-- RESPONSE_TIMEOUT (R122): the open request. -/
  | responseTimeout (i : Nat)
  /-- PCIE_LINK_UP (R565): rate, width, FLIT mode. -/
  | pcieLinkUp (rate : Nat) (width : Nat) (flit : Bool)
  /-- CONFIG_SPACE_WRITE (R546): BME, D state, MSI-X enable and function mask, MPS, MRRS. -/
  | configSpaceWrite (bme : Bool) (dstate : Nat) (msixEn : Bool) (fmask : Bool) (mps : Nat) (mrrs : Nat)
  /-- DROWSE_WAKE_COMPLETE (R498). -/
  | drowseWakeComplete
  /-- PROG_IMAGE_VERIFY_COMPLETE (R311): the executing command. -/
  | progImageVerifyComplete (id : Nat)
  /-- BULK_XFER_COMPLETE (R392): the executing command and the bytes read from the host. -/
  | bulkXferComplete (id : Nat) (data : List Byte)
  deriving DecidableEq, Repr

end Sys2Proof
end

