-- ==== Sys2Proof/Machine/Bits.lean ====
section
/-! DEFINITION. The plainest arithmetic on numbers that stand for bits:
bit fields of a number (R6: a field W[hi:lo], bit 0 least significant), little-endian bytes (R6),
saturating addition of the 32-bit counters (R100, R10), and ceiling division. -/

namespace Sys2Proof

/-- The field of `n` bits whose lowest bit is bit `lo` of `x` (R6). -/
def bits (x lo n : Nat) : Nat := (x >>> lo) % 2 ^ n

/-- Bit `i` of `x`. -/
def bit (x i : Nat) : Bool := bits x i 1 == 1

/-- A Bool as the value of a one-bit field. -/
def b2n (b : Bool) : Nat := if b then 1 else 0

/-- `x` with the `n` bits from bit `lo` set to the low `n` bits of `v`. -/
def setBits (x lo n v : Nat) : Nat := x - (bits x lo n) * 2 ^ lo + (v % 2 ^ n) * 2 ^ lo

/-- A number as a word, its higher bits dropped. -/
def toWord (n : Nat) : Word := BitVec.ofNat 32 n

/-- Ceiling of `a ÷ b`. -/
def ceilDiv (a b : Nat) : Nat := (a + b - 1) / b

/-- Two's-complement reading of the low `n` bits of `x`. -/
def toSigned (n x : Nat) : Int :=
  let y := x % 2 ^ n
  if y < 2 ^ (n - 1) then (y : Int) else (y : Int) - (2 ^ n : Nat)

/-- The low `n` bits of the two's complement of `z`. -/
def ofSigned (n : Nat) (z : Int) : Nat := (z % ((2 ^ n : Nat) : Int)).toNat

/-- The little-endian number of a list of bytes (R6). -/
def leNat : List Byte → Nat
  | [] => 0
  | b :: t => b.toNat + 256 * leNat t

/-- `n` little-endian bytes of `x` (R6). -/
def leBytes : Nat → Nat → List Byte
  | 0, _ => []
  | n + 1, x => BitVec.ofNat 8 (x % 256) :: leBytes n (x / 256)

/-- Word `i` of a little-endian byte list, absent bytes read as 0 (R6). -/
def leWord (l : List Byte) (i : Nat) : Nat := leNat ((l.drop (4 * i)).take 4)

/-- `n` as a 32-bit saturating count (R100). -/
def sat32 (n : Nat) : Nat := min n 0xFFFFFFFF

/-- Difference of two 32-bit sequence numbers, modulo 2^32 (R116). -/
def seqDiff (a b : Nat) : Nat := (a + 2 ^ 32 - b % 2 ^ 32) % 2 ^ 32

/-- `a` lies below `b` modulo 2^32, by half range (R116). -/
def seqLt (a b : Nat) : Bool := a % 2 ^ 32 != b % 2 ^ 32 && seqDiff b a < 2 ^ 31

/-- Numbers below `n` that satisfy `f`, ascending. -/
def below (n : Nat) (f : Nat → Bool) : List Nat := (List.range n).filter f

/-- The mask whose bit `i` is set exactly when `f i`, for `i < n`. -/
def maskOf (n : Nat) (f : Nat → Bool) : Nat :=
  (List.range n).foldl (fun m i => if f i then m + 2 ^ i else m) 0

/-- The set bits of `m` below `n`, ascending. -/
def bitsOf (n m : Nat) : List Nat := below n (fun i => m.testBit i)

/-- Position of the highest set bit of a positive number: the floor of its base-2 logarithm. -/
def log2Floor (n : Nat) : Nat := Nat.log2 n

end Sys2Proof
end

