-- ==== Sys2Proof/Machine/Fec.lean ====
section
/-! DEFINITION. The code of a lane: GF(2^10) of x^10 + x^3 + 1, RS(576,528) with its 48 roots α^0–α^47 and up to 24
corrected symbols (R69), the scrambler of x^58 + x^39 + 1 (R68), blocks and sync headers (R67). -/

namespace Sys2Proof.Machine

/-- Multiplication by α in GF(2^10) (R69). -/
def gfAlpha (a : Nat) : Nat := if a < 512 then 2 * a else ((2 * a) ^^^ 0x409) % 1024

/-- Horner steps of a product in GF(2^10): the bits of `b` from bit `n - 1` down. -/
def gfMulFrom (a b : Nat) : Nat → Nat
  | 0 => 0
  | n + 1 =>
    -- the product of the higher bits, shifted once for each bit below them, is built from the lowest bit up
    let r := gfAlpha (gfMulFrom a (b / 2) n)
    if b % 2 = 1 then r ^^^ a else r

/-- Product in GF(2^10) (R69). -/
def gfMul (a b : Nat) : Nat := gfMulFrom a b 10

/-- `a` to the power `n`. -/
def gfPow (a : Nat) : Nat → Nat
  | 0 => 1
  | n + 1 => gfMul a (gfPow a n)

/-- The inverse of a nonzero element: its power 1,022, by ten squarings. -/
def gfInv (a : Nat) : Nat :=
  let sq := fun x => gfMul x x
  let a2 := sq a
  let a4 := sq a2
  let a8 := sq a4
  let a16 := sq a8
  let a32 := sq a16
  let a64 := sq a32
  let a128 := sq a64
  let a256 := sq a128
  let a512 := sq a256
  gfMul a2 (gfMul a4 (gfMul a8 (gfMul a16 (gfMul a32 (gfMul a64 (gfMul a128 (gfMul a256 a512)))))))

/-- Powers α^i. -/
def gfExp : Nat → Nat
  | 0 => 1
  | n + 1 => gfAlpha (gfExp n)

/-- Value of a polynomial, highest coefficient first, at `x`. -/
def gfEval (x : Nat) (l : List Nat) : Nat := l.foldl (fun acc c => gfMul acc x ^^^ c) 0

/-- The 48 syndromes of a received word, symbol 0 sent first (R69). -/
def syndromes (r : List Nat) : List Nat := (List.range 48).map (fun i => gfEval (gfExp i) r)

/-- Polynomials lowest coefficient first: `p + c x^m q`. -/
def polyAddShift (p q : List Nat) (c m : Nat) : List Nat :=
  (List.range (max p.length (q.length + m))).map (fun i =>
    p.getD i 0 ^^^ (if i < m then 0 else gfMul c (q.getD (i - m) 0)))

/-- One Berlekamp–Massey state: connection polynomial, the earlier one, length, gap, earlier discrepancy. -/
structure BmState where
  c : List Nat := [1]
  b : List Nat := [1]
  l : Nat := 0
  m : Nat := 1
  d : Nat := 1

/-- One Berlekamp–Massey step on syndrome number `n`. -/
def bmStep (syn : List Nat) (st : BmState) (n : Nat) : BmState :=
  let disc := (List.range (st.l + 1)).foldl (fun acc i => acc ^^^ gfMul (st.c.getD i 0) (syn.getD (n - i) 0)) 0
  if disc = 0 then { st with m := st.m + 1 }
  else
    let c' := polyAddShift st.c st.b (gfMul disc (gfInv st.d)) st.m
    if 2 * st.l ≤ n then { c := c', b := st.c, l := n + 1 - st.l, m := 1, d := disc }
    else { st with c := c', m := st.m + 1 }

/-- Value at `x` of a polynomial, lowest coefficient first. -/
def polyEval (p : List Nat) (x : Nat) : Nat := gfEval x p.reverse

/-- Decodes a received word of 576 symbols: the corrected word and the number of corrected symbols, or none when it is
uncorrectable (R69: at most 24 symbol errors). -/
def rsDecode (r : List Nat) : Option (List Nat × Nat) :=
  let syn := syndromes r
  if syn.all (· == 0) then some (r, 0)
  else
    let st := (List.range 48).foldl (bmStep syn) {}
    if 24 < st.l then none
    else
      -- symbol j (0 sent first) has locator α^(575 - j); its inverse is a root of the connection polynomial
      let pos := below 576 (fun j => polyEval st.c (gfExp (1023 - (575 - j))) == 0)
      if pos.length ≠ st.l then none
      else
        -- Forney: error evaluator is S(x) C(x) mod x^48
        let ev := (List.range 48).map (fun k => (List.range (k + 1)).foldl
          (fun acc i => acc ^^^ gfMul (st.c.getD i 0) (syn.getD (k - i) 0)) 0)
        let der := (List.range (st.c.length - 1)).map (fun i => if i % 2 = 0 then st.c.getD (i + 1) 0 else 0)
        let fix := fun j v =>
          if j ∈ pos then
            let x := gfExp (575 - j)
            let xi := gfInv x
            v ^^^ gfMul x (gfMul (polyEval ev xi) (gfInv (polyEval der xi)))
          else v
        let c := r.mapIdx fix
        if (syndromes c).all (· == 0) then some (c, pos.length) else none

/-- The 5,760 or 5,280 bits of a list of symbols, first-sent bit first (R69). -/
def symbolBits (l : List Nat) : List Bool := l.flatMap (fun s => (List.range 10).map (fun i => s.testBit i))

/-- Blocks of 66 bits, `n` of them. -/
def blocksOf : Nat → List Bool → List (List Bool)
  | 0, _ => []
  | n + 1, l => l.take 66 :: blocksOf n (l.drop 66)

/-- The 80 blocks of a codeword's message (R69). -/
def messageBlocks (syms : List Nat) : List (List Bool) := blocksOf 80 (symbolBits (syms.take 528))

/-- A sync header is valid: its two bits differ (R67). -/
def headerValid (b : List Bool) : Bool := b.getD 0 false != b.getD 1 false

/-- A control block: sync header 10 (R67). -/
def isControl (b : List Bool) : Bool := b.getD 0 false && !b.getD 1 false

/-- Valid raw sync headers of a codeword (R73). -/
def validHeaders (syms : List Nat) : Nat := ((messageBlocks syms).filter headerValid).length

/-- The codeword with its polarity inverted: PAM4 inversion changes the first bit of each pair (R62). -/
def flipPolarity (syms : List Nat) : List Nat := syms.map (fun s => s ^^^ 0x155)

/-- Descrambles payload bits, `hist` holding the last 58 received bits, newest in bit 0; the bits come out as a number,
first-sent bit least significant (R67, R68). -/
def descramble : List Bool → Nat → Nat → Nat → Nat × Nat
  | [], hist, _, acc => (acc, hist)
  | r :: t, hist, w, acc =>
    let d := (r != hist.testBit 38) != hist.testBit 57
    descramble t ((2 * hist + b2n r) % 2 ^ 58) (2 * w) (if d then acc + w else acc)

/-- The blocks of a codeword descrambled in order: whether control, and the payload as a 64-bit number. -/
def descrambleBlocks : List (List Bool) → Nat → List (Bool × Nat) × Nat
  | [], hist => ([], hist)
  | b :: t, hist =>
    let r := descramble (b.drop 2) hist 1 0
    let rest := descrambleBlocks t r.2
    ((isControl b, r.1) :: rest.1, rest.2)

/-- The control block types of R70. -/
def knownTypes : List Nat := [0x1E, 0x78, 0x87, 0x99, 0x4B, 0x2D, 0x55]

/-- The link-management codes of R80. -/
def knownLm : List Nat := [0x01, 0x10, 0x11, 0x12, 0x20, 0x21, 0x22, 0x40]

end Sys2Proof.Machine
end

