-- ==== Sys2Proof/Config.lean ====
section
/-! DEFINITION. What the spec leaves open, as constants without a body: nothing in Lean can evaluate them, so a
statement about the model holds for every value of them. Each is named in a log entry. -/

namespace Sys2Proof.Config

/-- A free value: the next use reads the state's counter `freeCtr` and advances it (log 6). -/
opaque freeNat : Nat → Nat

/-- Whether transmitter tap `t` (0 pre2, 1 pre1, 2 main, 3 post1) stands at its limit at `steps` from the preset:
R76 names the reply `at limit` and gives no limit (log 10). -/
opaque tapAtLimit : Nat → Int → Bool

/-- The firmware release booted from an image, by flash slot: R3 fixes no release number (log 5). -/
opaque fwRelease : Nat → Nat

/-- Ed25519 verification of RFC 8032 of a signature over a message under a key (R404, R467): the algorithm stands
outside the spec's text (log 11). -/
opaque ed25519Verify : (key msg sig : List Byte) → Bool

/-- Ed25519 signing by the module's own key number `k` (R474): the key is a secret of the part (log 11). -/
opaque ed25519Sign : (k : Nat) → List Byte → List Byte

/-- SHA-512 (R404, R475): the algorithm stands outside the spec's text (log 11). -/
opaque sha512 : List Byte → List Byte

/-- Module index of the leaf at rack (x, y) of a plane: no image names the modules that are not neighbours (log 14). -/
opaque moduleAt (plane x y : Nat) : Nat

/-- Rack of a module that is neither a leaf of the plane's torus nor a neighbour: a spine or a pair member (log 14). -/
opaque moduleRackX : Nat → Nat
/-- The y coordinate of that rack (log 14). -/
opaque moduleRackY : Nat → Nat

/-- Neighbour offset, in ps, that the leaf at rack (x, y) measures toward the next rack of the route to rack (0, 0): the spec
gives no message by which Keeper learns the offsets of hops beyond its own (log 17). -/
opaque hopOffset (x y : Nat) : Int

/-- One-way delay in ns of the link from module `a` to endpoint `b`, where this module does not measure it: at most 2,000 between up
ports (R39). The spec gives no message that carries it to the admitting leaf (log 23). -/
opaque linkDelay (a b : Nat) : Nat

/-- Result of an approximate vector operation `op` on the FP32 code `a` (R293 gives error bounds, not results; log 18). For
RECIP and RSQRT it only chooses among the neighbours of the correctly rounded result. -/
opaque vecApprox (op a : Nat) : Nat

/-- Lichavo's public key `k`, 0–3, in the boot ROM (R464): the spec gives no key (log 11). -/
opaque lichavoKey : Nat → List Byte

/-- Measurement of the boot ROM (R475): the spec does not give the ROM (log 11). -/
opaque bootRomMeasure : List Byte

/-- Measurement of the firmware image in a slot that no update has written: slot, 0 for Owl's and 1 for Keeper's (R465; log 11). -/
opaque fwMeasure : (slot image : Nat) → List Byte

/-- The certificate chain of slot 0 (R474) of a module that runs the firmware of a slot: the spec gives no certificate (log 11). -/
opaque certChain : (slot : Nat) → List Byte

/-- Voltage in mV of an island at a frequency in MHz by its fused V–f table (R486: the tables are the part's; log 25). -/
opaque vfTable (island mhz : Nat) : Nat

/-- Measured power in W of a den's rail, 0 VSETT or 1 VFAB, at a clock (R502; log 25). -/
opaque railWatts (clock den rail : Nat) : Nat

/-- Frequency in MHz at which a memory controller group, a Lynx die or the PCI Express endpoint runs, by island (R27: set by interfaces and
PLLs whose rates the spec does not give in MHz; log 25). -/
opaque fixedMhz (island : Nat) : Nat

/-- The input power in W below which a cap would take the slices under an f_floor in MHz (R415, R191: the spec names this floor and gives no
figure; log 26). -/
opaque capFloor (floorMhz : Nat) : Nat

/-- Thresholds in the PDR of numeric sensor `n` of den `d` (R551, R552: the spec gives no threshold; log 86). -/
opaque pdrThresholds (n d : Nat) : List Nat

end Sys2Proof.Config
end

