-- ==== Sys2Proof/Machine/Wire.lean ====
section
/-! DEFINITION. How command packets and packet headers stand in words and bytes (R101, R106, R366). -/

namespace Sys2Proof

/-- LEN of the command (R366). -/
def Cmd.len (c : Cmd) : Nat := 16 + c.params.length

/-- Parameter word Pn (R366). -/
def Cmd.p (c : Cmd) (n : Nat) : Nat := leWord c.params n

/-- Parameter words Pn and Pn+1 as one 64-bit value (R6). -/
def Cmd.p64 (c : Cmd) (n : Nat) : Nat := 2 ^ 32 * c.p (n + 1) + c.p n

/-- The eight header words of R101. -/
def Hdr.words (h : Hdr) : List Nat :=
  [h.ver * 2 ^ 28 + h.type * 2 ^ 22 + h.tc * 2 ^ 20 + b2n h.dl * 2 ^ 19 + h.color * 2 ^ 17 + b2n h.ce * 2 ^ 16
     + b2n h.ece * 2 ^ 15 + b2n h.late * 2 ^ 14 + h.hops * 2 ^ 8 + h.rsv0,
   h.dst * 2 ^ 18 + h.src * 2 ^ 4 + h.rsv1,
   h.job * 2 ^ 20 + h.rsv2 * 2 ^ 13 + h.len,
   h.seq,
   h.offset % 2 ^ 32,
   h.offset / 2 ^ 32 + h.ctx * 2 ^ 16 + h.rsv5 * 2 ^ 28,
   h.msg + h.chunk * 2 ^ 16,
   h.deadline]

/-- A header read from its eight words (R101). -/
def Hdr.ofWords (w : List Nat) : Hdr :=
  let g := fun i => w.getD i 0
  { ver := bits (g 0) 28 4, type := bits (g 0) 22 6, tc := bits (g 0) 20 2, dl := bit (g 0) 19, color := bits (g 0) 17 2,
    ce := bit (g 0) 16, ece := bit (g 0) 15, late := bit (g 0) 14, hops := bits (g 0) 8 6, rsv0 := bits (g 0) 0 8,
    dst := bits (g 1) 18 14, src := bits (g 1) 4 14, rsv1 := bits (g 1) 0 4,
    job := bits (g 2) 20 12, rsv2 := bits (g 2) 13 7, len := bits (g 2) 0 13,
    seq := bits (g 3) 0 32, offset := bits (g 4) 0 32 + bits (g 5) 0 16 * 2 ^ 32, ctx := bits (g 5) 16 12, rsv5 := bits (g 5) 28 4,
    msg := bits (g 6) 0 16, chunk := bits (g 6) 16 16, deadline := bits (g 7) 0 32 }

/-- The header's 32 bytes (R101, R6). -/
def Hdr.bytes (h : Hdr) : List Byte := h.words.flatMap (leBytes 4)

/-- The header with the mutable fields taken as zero, as the trailer takes it (R106). -/
def Hdr.frozen (h : Hdr) : Hdr := { h with dl := false, ce := false, ece := false, late := false, hops := 0 }

/-- Every field within the bits R101 gives it. -/
def Hdr.ok (h : Hdr) : Bool :=
  h.ver < 16 && h.type < 64 && h.tc < 4 && h.color < 4 && h.hops < 64 && h.rsv0 < 256 && h.dst < 2 ^ 14 && h.src < 2 ^ 14
    && h.rsv1 < 16 && h.job < 4096 && h.rsv2 < 128 && h.len < 8192 && h.seq < 2 ^ 32 && h.offset < 2 ^ 48 && h.ctx < 4096
    && h.rsv5 < 16 && h.msg < 2 ^ 16 && h.chunk < 2 ^ 16 && h.deadline < 2 ^ 32

/-- A packet as a consumer gets it: header fields in range and LEN equal to the payload (R107 check 2). -/
def Pkt.ok (p : Pkt) : Bool := p.hdr.ok && p.hdr.len == p.payload.length && p.hdr.len ≤ 4096

/-- Bytes of the packet, header and trailer included (R101). -/
def Hdr.bytesTotal (h : Hdr) : Nat := 36 + h.len

/-- Cells the packet takes (R135). -/
def Hdr.cells (h : Hdr) : Nat := ceilDiv h.bytesTotal 256

/-- The virtual channel 2 TC + B (R109). -/
def Hdr.vc (h : Hdr) : Nat := 2 * h.tc + b2n h.dl

end Sys2Proof
end

