-- ==== Sys2Proof/Machine/Crc.lean ====
section
/-! DEFINITION. CRC-32C of packet trailers and command headers (R106, R366). -/

namespace Sys2Proof.Machine

/-- One bit of the reflected CRC-32C division by 0x82F6_3B78 (R106). -/
def crcBit (c : Nat) : Nat := if c % 2 = 1 then (c / 2) ^^^ 0x82F63B78 else c / 2

/-- One byte taken into the running CRC (R106). -/
def crcByte (c : Nat) (b : Byte) : Nat :=
  crcBit (crcBit (crcBit (crcBit (crcBit (crcBit (crcBit (crcBit (c ^^^ b.toNat))))))))

/-- The running CRC over a list of bytes (R106). -/
def crcUpdate (c : Nat) : List Byte → Nat
  | [] => c
  | b :: t => crcUpdate (crcByte c b) t

/-- CRC-32C of a list of bytes: initial value and final exclusive-or 0xFFFF_FFFF (R106). -/
def crc32c (l : List Byte) : Nat := crcUpdate 0xFFFFFFFF l ^^^ 0xFFFFFFFF

/-- The trailer of a packet: over the header with its mutable fields zero, then the payload (R106). -/
def trailerOf (h : Hdr) (payload : List Byte) : Nat := crc32c (h.frozen.bytes ++ payload)

end Sys2Proof.Machine
end

