-- ==== Sys2Proof/Machine/RegMap.lean ====
section
/-! DEFINITION. The BAR0 map (R558, R573): block bases and strides (R7), the reset values of the fields that software
writes, and the fault sources with their types, default classes and floors (R440, R441). -/

namespace Sys2Proof.Machine

/-- Bases of the blocks (R558). -/
def baseIdent : Nat := 0
def baseFault : Nat := 0x10000
def baseCmd : Nat := 0x20000
def baseTime : Nat := 0x30000
def basePower : Nat := 0x40000
def basePair : Nat := 0x50000
def baseSec : Nat := 0x60000
def baseLink : Nat := 0x80000
def baseSwitch : Nat := 0x100000
def baseColl : Nat := 0x200000
def baseMarten : Nat := 0x300000
def baseSett : Nat := 0x400000
def baseMem : Nat := 0x500000
def baseFox : Nat := 0x600000
def baseDet : Nat := 0x700000

/-- Register `o` of port `p` (R7). -/
def linkReg (p o : Nat) : Nat := baseLink + 0x200 * p + o
/-- Register `o` of den `d`'s switch block (R7). -/
def swReg (d o : Nat) : Nat := baseSwitch + 0x40000 * d + o
/-- Register `o` of physical core `c` (R7). -/
def settReg (c o : Nat) : Nat := baseSett + 0x1000 * c + o
/-- Register `o` of Marten group `g` = 4 den + group (R558). -/
def martenReg (g o : Nat) : Nat := baseMarten + 0x100 * g + o
/-- Register `o` of a memory channel: fast from 0x1000, slow from 0x4000 (R364). -/
def memReg (slow : Bool) (ch o : Nat) : Nat := baseMem + (if slow then 0x4000 else 0x1000) + 0x20 * ch + o
/-- Register `o` of slot `n` (R401). -/
def slotReg (n o : Nat) : Nat := baseCmd + 0x1000 + 0x20 * n + o
/-- Offset `o` within word `w` of the fault collector: dens 0–3, module 4 (R462). -/
def faultReg (w o : Nat) : Nat := baseFault + (if w < 4 then 0x400 * w else 0x1000) + o

/-- Codes of the reaction classes (R444). -/
def clsLog : Nat := 0
def clsDegrade : Nat := 1
def clsFence : Nat := 2
def clsHalt : Nat := 3
def clsReset : Nat := 4

/-- One fault source: type L, default class, floor (5 means locked) (R440, R441). -/
structure SourceInfo where
  level : Bool
  cls : Nat
  floor : Nat
  deriving DecidableEq, Repr

/-- An E source of class LOG and floor LOG, the commonest row. -/
def srcLog : SourceInfo := ⟨false, 0, 0⟩
/-- An L source of class LOG and floor LOG. -/
def srcLevel : SourceInfo := ⟨true, 0, 0⟩

/-- The den word's sources 0–20 (R440). -/
def denSourcesA : List SourceInfo :=
  [srcLog, srcLog, srcLog, srcLog, srcLog, srcLevel, srcLog, srcLevel, srcLog, srcLog, srcLog, ⟨false, 1, 0⟩, srcLog, srcLog,
   srcLog, srcLog, srcLog, ⟨false, 1, 0⟩, ⟨false, 1, 0⟩, srcLog, srcLog]
/-- The den word's sources 21–40 (R440). -/
def denSourcesB : List SourceInfo :=
  [⟨false, 2, 2⟩, srcLog, ⟨false, 1, 1⟩, ⟨false, 1, 1⟩, ⟨true, 2, 2⟩, srcLog, srcLog, srcLog, srcLog, srcLog, srcLog, srcLevel,
   srcLog, ⟨true, 2, 2⟩, ⟨true, 2, 2⟩, ⟨true, 4, 5⟩, srcLevel, ⟨true, 4, 5⟩, ⟨false, 1, 1⟩, ⟨true, 4, 5⟩]
/-- The module word's sources (R441). -/
def moduleSources : List SourceInfo :=
  [⟨false, 4, 5⟩, ⟨false, 4, 5⟩, srcLog, ⟨false, 4, 5⟩, srcLog, srcLevel, srcLog, srcLog, srcLog, srcLog, srcLog, srcLog, srcLog,
   srcLog, srcLog, srcLog, srcLog, srcLog, ⟨true, 2, 2⟩, srcLog, ⟨true, 4, 5⟩, ⟨false, 4, 5⟩, srcLog, srcLog]

/-- Source `s` of word `w`, where it exists (R439). -/
def sourceInfo (w s : Nat) : Option SourceInfo :=
  if w < 4 then (denSourcesA ++ denSourcesB)[s]? else if w = 4 then moduleSources[s]? else none

/-- A source exists (R439). -/
def sourceExists (w s : Nat) : Bool := (sourceInfo w s).isSome

/-- A source is locked (R440, R441). -/
def sourceLocked (w s : Nat) : Bool := match sourceInfo w s with | some i => i.floor == 5 | none => false

/-- Source numbers of the den word (R440). -/
def fLinkDown : Nat := 0
def fLinkFlap : Nat := 1
def fTrainFail : Nat := 2
def fRefOffset : Nat := 3
def fCableMismatch : Nat := 4
def fWidthDegraded : Nat := 5
def fVerLower : Nat := 6
def fXoffStuck : Nat := 7
def fHeadroomOvf : Nat := 8
def fPartition : Nat := 9
def fTc1Residence : Nat := 10
def fTc1NoBuffer : Nat := 11
def fTc1Nonconform : Nat := 12
def fTc1Late : Nat := 13
def fPoolLevel : Nat := 14
def fBpmRange : Nat := 15
def fBpmAlign : Nat := 16
def fBpmUnalloc : Nat := 17
def fBpmRefcnt : Nat := 18
def fCellUe : Nat := 19
def fAccUe : Nat := 20
def fSliceErr : Nat := 21
def fBridgeErr : Nat := 22
def fSettArray : Nat := 23
def fSettVec : Nat := 24
def fSettFenced : Nat := 25
def fSettRepaired : Nat := 26
def fSettProg : Nat := 27
def fMemAccess : Nat := 28
def fMemUe : Nat := 29
def fMemCeRate : Nat := 30
def fMemWcbLost : Nat := 31
def fMemHot : Nat := 32
def fMemRetrain : Nat := 33
def fChannelFenced : Nat := 34
def fTierFenced : Nat := 35
def fMemOvertemp : Nat := 36
def fDenHot : Nat := 37
def fDenOvertemp : Nat := 38
def fPhase : Nat := 39
def fRail : Nat := 40

/-- Source numbers of the module word (R441). -/
def mKeeperWdog : Nat := 0
def mKeeperUe : Nat := 1
def mKeeperCe : Nat := 2
def mOwlErr : Nat := 3
def mEpochSlip : Nat := 4
def mEpochMissing : Nat := 5
def mPathLost : Nat := 6
def mCollFailed : Nat := 7
def mCtxDeadline : Nat := 8
def mTc1Revoked : Nat := 9
def mTc1AtRisk : Nat := 10
def mSettCapacity : Nat := 11
def mCmdReplyFail : Nat := 12
def mConfigApply : Nat := 13
def mConfigFallback : Nat := 14
def mFlashErr : Nat := 15
def mPairRefused : Nat := 16
def mPairLost : Nat := 17
def mPairFence : Nat := 18
def mPairTakeover : Nat := 19
def mInputFault : Nat := 20
def mPfWarn : Nat := 21
def mPcieErr : Nat := 22
def mSecFail : Nat := 23

/-- Reset values within a LINK block (R96, R98, R131). -/
def resetLink (o : Nat) : Nat :=
  if o = 0x000 then 2 * 2 + 2 * 16 + 64 + 128
  else if o = 0x010 then 78 + 72 * 2 ^ 7 + 3 * 2 ^ 14 + 16 * 2 ^ 18
  else if o = 0x014 then 8 + 10 * 2 ^ 8
  else if o = 0x040 then 64 + 48 * 2 ^ 12 + 50 * 2 ^ 24
  else if o = 0x048 then 2048
  else 0

/-- The profiles of R155, in the order class 2 green, yellow, red, class 3 green, yellow, red: MIN_TH, MAX_TH, MAX_P. -/
def resetProfiles : List (Nat × Nat × Nat) :=
  [(64, 256, 64), (32, 128, 128), (16, 64, 255), (256, 1024, 26), (128, 512, 64), (32, 128, 128)]

/-- Reset values within den `d`'s SWITCH block (R133, R155, R166–R168, R197, R200). -/
def resetSwitch (d o : Nat) : Nat :=
  if o < 0x80 then (if o % 0x20 = 4 then 70 + 85 * 2 ^ 8 + 95 * 2 ^ 16 else 0)
  else if o = 0x200 then (if d = 0 then 20 + 8 * 2 ^ 10 + 127 * 2 ^ 16 + 15 * 2 ^ 24 else 0)
  else if o = 0x240 then (if d = 0 then 1 + 32 * 2 ^ 8 else 0)
  else if o = 0x300 then 3
  else if 0x400 ≤ o && o < 0x460 then
    let p := resetProfiles.getD ((o - 0x400) / 0x10) (0, 0, 0)
    if o % 0x10 = 0 then p.1 else if o % 0x10 = 4 then p.2.1 else if o % 0x10 = 8 then p.2.2 else 0
  else if o = 0x500 then 1 + 60 * 2 ^ 2 + 256 * 2 ^ 8 + 64 * 2 ^ 20
  else if 0x800 ≤ o && o < 0xB00 then
    if o % 0x10 = 0 then 2 + 128 * 2 ^ 16 else if o % 0x10 = 4 then 50 + 16 * 2 ^ 8 else 0
  else if o = 0xB00 then 156 * 2 ^ 16
  else 0

/-- Reset values within the FAULT block (R462, R463). -/
def resetFault (o : Nat) : Nat :=
  if o = 0x2004 then 1 * 2 ^ 8 + 10 * 2 ^ 16
  else if o = 0x2008 then 1
  else
    let w := if o < 0x1000 then o / 0x400 else 4
    let r := if o < 0x1000 then o % 0x400 else o - 0x1000
    if 0x40 ≤ r && r < 0x140 && o < 0x1400 then
      match sourceInfo w ((r - 0x40) / 4) with | some i => i.cls | none => 0
    else 0

/-- The reset value of the RW word at a BAR0 offset (R8, R558). The mask bits of the MSI-X table are 1, as the PCI Express
specification that R543 names has them (PRESUMED, log 12). -/
def resetWord (a : Nat) : Nat :=
  if a < baseFault then 0
  else if a < baseCmd then resetFault (a - baseFault)
  else if a < baseTime then (if a = baseCmd then 10 + 1 * 2 ^ 8 else 0)
  else if a < basePower then 0
  else if a < basePair then (if a = basePower + 0x00C then 1750 else 0)
  else if a < baseSec then (if a = basePair then 3 else 0)
  else if a < baseLink then 0
  else if a < 0x98000 then resetLink ((a - baseLink) % 0x200)
  else if a < baseSwitch then 0
  else if a < baseColl then resetSwitch ((a - baseSwitch) / 0x40000) ((a - baseSwitch) % 0x40000)
  else if a < baseMarten then (if a = baseColl then 10 else 0)
  else if a < baseMem then 0
  else if a < baseFox then (if a = baseMem then 20 + 2 ^ 8 + 1000 * 2 ^ 16 else 0)
  else if a < baseDet then
    let o := (a - baseFox) % 0x8000
    if a < 0x6C0000 && 0x40 ≤ o && o < 0x60 then 3 * 2 ^ 20 else 0
  else if 0x800000 ≤ a && a < 0x800400 then (if a % 16 = 12 then 1 else 0)
  else 0

/-- The DET summary counter that also counts the unit counter at offset `a`, as its index in R572. -/
def sumIndex (a : Nat) : Option Nat :=
  if baseLink ≤ a && a < 0x98000 then
    let o := (a - baseLink) % 0x200
    if o = 0x0C0 then some 0 else if o = 0x0C8 then some 1 else if o = 0x0D0 then some 2 else if o = 0x0D8 then some 3
    else if o = 0x110 then some 4
    else if (0x060 ≤ o && o ≤ 0x07C) || o = 0x0B8 || o = 0x0BC then some 5
    else if o = 0x080 then some 6 else if o = 0x084 || o = 0x088 then some 7 else if o = 0x090 then some 8
    else if o = 0x08C then some 13 else none
  else if baseSwitch ≤ a && a < baseColl then
    let o := (a - baseSwitch) % 0x40000
    if o = 0x210 then some 9 else if o = 0x214 then some 10 else none
  else if baseMarten ≤ a && a < baseMarten + 0x1000 then
    let o := (a - baseMarten) % 0x100
    if o = 0x08 then some 11 else if o = 0x10 then some 12 else none
  else if baseMem + 0x1000 ≤ a && a < baseMem + 0x5000 then
    let o := a % 0x20
    if o = 0x04 then some 14 else if o = 0x08 then some 15 else none
  else if baseFault ≤ a && a < baseFault + 0x1400 then
    let r := if a < baseFault + 0x1000 then (a - baseFault) % 0x400 else a - baseFault - 0x1000
    if 0x200 ≤ r && r < 0x300 then some 16 else none
  else if baseCmd + 0x100 ≤ a && a ≤ baseCmd + 0x134 && a ≠ baseCmd + 0x104 then some 17
  else none

end Sys2Proof.Machine
end

