-- ==== Sys2Proof/Machine/Table.lean ====
section
/-! DEFINITION. Sparse tables keyed by numbers, in ONE canonical form: keys strictly rising and no entry
equal to the table's default, so that equal contents are equal data. Module memory, the BAR0 registers,
the counters and every array of like units (ports, lanes, streams, contexts, cores, regions) are held so. -/

namespace Sys2Proof.Machine

/-- A sparse table: the listed keys hold the listed values, every other key holds the table's default. -/
abbrev Tbl (α : Type) := List (Nat × α)

namespace Tbl

variable {α : Type}

/-- What key `i` holds, `d` being the table's default. -/
def get (d : α) : Tbl α → Nat → α
  | [], _ => d
  | (k, v) :: t, i => if k = i then v else get d t i

/-- The table without an entry for key `i`. -/
def erase (t : Tbl α) (i : Nat) : Tbl α := t.filter (fun e => e.1 != i)

/-- An entry put at its place in rising key order. -/
def insert (i : Nat) (v : α) : Tbl α → Tbl α
  | [] => [(i, v)]
  | (k, w) :: t => if i < k then (i, v) :: (k, w) :: t else (k, w) :: insert i v t

/-- Key `i` now holds `v`; a value equal to the default removes the entry, which keeps the form canonical. -/
def put [DecidableEq α] (d : α) (t : Tbl α) (i : Nat) (v : α) : Tbl α :=
  if v = d then erase t i else insert i v (erase t i)

/-- Keys strictly rising, each above `lo`, and no entry equal to the default. -/
def wfFrom [DecidableEq α] (d : α) : Option Nat → Tbl α → Bool
  | _, [] => true
  | lo, (k, v) :: t => (match lo with | none => true | some l => decide (l < k)) && decide (v ≠ d) && wfFrom d (some k) t

/-- The canonical form. -/
def wf [DecidableEq α] (d : α) (t : Tbl α) : Bool := wfFrom d none t

/-- Keys whose value satisfies `f`, ascending, among the listed ones. -/
def keysWhere (t : Tbl α) (f : Nat → α → Bool) : List Nat := (t.filter (fun e => f e.1 e.2)).map (·.1)

/-- `n` consecutive values from key `i`. -/
def range (d : α) (t : Tbl α) (i : Nat) : Nat → List α
  | 0 => []
  | n + 1 => get d t i :: range d t (i + 1) n

/-- A list of values put at consecutive keys from `i`. -/
def putMany [DecidableEq α] (d : α) (t : Tbl α) (i : Nat) : List α → Tbl α
  | [] => t
  | v :: l => putMany d (put d t i v) (i + 1) l

/-- The table without the entries whose keys satisfy `f`: those keys hold the default again. -/
def clearWhere (t : Tbl α) (f : Nat → Bool) : Tbl α := t.filter (fun e => !f e.1)

end Tbl

end Sys2Proof.Machine
end

