-- ==== Sys2Proof/Machine/StCfg.lean ====
section
/-! DEFINITION. State of the configuration (R403–R417), of identity and life cycle (R464–R479) and of power, clocks, resets and
start-up (R480–R521). -/

namespace Sys2Proof.Machine

/-- A configuration image and the flash slot it was read from; 0 for host memory (R403, R408). -/
structure CfgImage where
  bytes : List Byte := []
  slot : Nat := 0
  deriving DecidableEq, Repr

/-- An overlay change that waits for its boundary (R413, R416): kinds by bit, activation time in domain ns, the command. -/
structure OverlayPend where
  kinds : Nat := 0
  time : Nat := 0
  owner : Option Nat := none
  deriving DecidableEq, Repr

/-- Configuration images (R408–R413). `staged` and `active` are keyed by KIND 1–4. Flash and the boot record survive resets. -/
structure CfgSt where
  base : Option CfgImage := none
  staged : Tbl (Option CfgImage) := []
  active : Tbl (Option CfgImage) := []
  pend : Option OverlayPend := none
  /-- Recorded overlays wait for the first EPOCH boundary after READY (R409). -/
  restore : Bool := false
  flash : Tbl (List Byte) := []
  /-- Boot record: slot of the base, 0 for none, and slots of the overlays by KIND. -/
  bootBase : Nat := 0
  bootOver : Tbl Nat := []
  /-- POOLS words in effect, one 64-bit value a den (R406). -/
  pools : List Nat := []
  deriving DecidableEq, Repr

/-- Negotiated state of one SPDM path (R554). -/
structure SpdmPath where
  version : Bool := false
  caps : Bool := false
  algs : Bool := false
  deriving DecidableEq, Repr

/-- Fuses, keys and firmware (R464–R479). All but `spdm`, `keeperUp` and `meas` survives every reset. -/
structure SecSt where
  /-- Life-cycle code: 0 BLANK, 1 PROVISIONED, 2 DEPLOYED, 3 SERVICE, 4 RETIRED. -/
  lc : Nat := 0
  lcCtr : Nat := 0
  ctr0 : Nat := 0
  ctr1 : Nat := 0
  revoke : Nat := 0
  owner : Option (List Byte) := none
  ownerSeq : Nat := 0
  /-- BOOT_STAT: slot, fallback, Lichavo key, and CTR_VAL of the firmware that runs. -/
  slot : Nat := 0
  fallback : Bool := false
  key : Nat := 0
  fwCtr : Nat := 0
  owlRelease : Nat := 0
  /-- Images written by PLDM to slots A and B: Owl's and Keeper's (R465, R553); the slot armed for the next reset. -/
  fw : Tbl (List Byte × List Byte) := []
  armed : Option Nat := none
  keeperUp : Bool := false
  spdm : Tbl SpdmPath := []
  /-- The copy of the measurement blocks that Owl reports (R476). -/
  meas : List (List Byte) := []
  deriving DecidableEq, Repr

/-- A clock island (R503): frequency, the frequency it moves to, 10 mV adjustments, temperature, gated, stopped. -/
structure Island where
  mhz : Nat := 0
  target : Nat := 0
  avs : Nat := 0
  temp : Nat := 0
  gated : Bool := false
  stopped : Bool := false
  deriving DecidableEq, Repr

/-- Power, clocks and resets. -/
structure PowerSt where
  /-- 0 RUN, 1 TRIM, 2 DROWSE, 3 HIBERNATE; the target and whether a transition runs (R495, R496). -/
  pstate : Nat := 0
  target : Nat := 0
  busy : Bool := false
  /-- The POWER_STATE command that waits, and a wake request that came during an entry (R496). -/
  owner : Option Nat := none
  wakeReq : Bool := false
  cap : Nat := 3800
  islands : Tbl Island := []
  /-- Entries of R492 lowered for the cap, newest first: 0 Sett, 1 Marten, 2 slices; loops below 97 % of the cap. -/
  capSteps : List Nat := []
  lowLoops : Nat := 0
  unmet : Bool := false
  /-- Thermal steps by den, newest first (R494), and dens at or above 97 °C since they reached 100 °C. -/
  thermal : Tbl (List Nat) := []
  hotDens : List Nat := []
  /-- Dens whose Sett islands are throttled by the 22 °C rule (R490). -/
  skew : List Nat := []
  /-- Phases stopped since start-up (R484), and steps taken for a limited rail, key 2 × den + 0 VSETT or 1 VFAB. -/
  stopped : List Nat := []
  railSteps : Tbl Nat := []
  refLost : Bool := false
  pfWarn : Bool := false
  vin : Nat := 0
  iin : Nat := 0
  pin : Nat := 0
  pload : Nat := 0
  stage1 : Nat := 0
  v12 : Nat := 0
  /-- Input power of the last hundred readings in mW, newest first (R481, R501 PIN). -/
  samples : List Nat := []
  /-- Hottest junction by den, °C. -/
  tj : Tbl Nat := []
  /-- Clocks of recent array starts after idling, by den (R485), one more than the clock at which a core's array last
  finished, and cores held back. -/
  starts : Tbl (List Nat) := []
  idleAt : Tbl Nat := []
  held : List Nat := []
  /-- Reset registers (R520). -/
  cause : Nat := 0
  source : Nat := 0
  den : Nat := 0
  module : Bool := false
  bb : Bool := false
  phase : Nat := 0
  prog : Nat := 0
  tKeeper : Nat := 0
  tWipe : Nat := 0
  tReady : Nat := 0
  resets : Nat := 0
  /-- Clock at the Start condition or reset release, and at entry to WIPE. -/
  startAt : Nat := 0
  wipeAt : Nat := 0
  /-- RESET_N is low while the sequence of R460 ends (R508). -/
  pinLow : Bool := false
  /-- Held in reset by RESET_N (R507). -/
  inReset : Bool := false
  /-- Stage one has stopped (R480), and Owl holds the module until the Start condition (R505, R517). -/
  locked : Bool := false
  waitStart : Bool := false
  /-- Measurement recorded at entry to HIBERNATE (R499). -/
  hibMeas : List Byte := []
  deriving DecidableEq, Repr

end Sys2Proof.Machine
end

