-- ==== Sys2Proof/Machine/StCmd.lean ====
section
/-! DEFINITION. State of the command interpreter (R366–R402): aperture slots, commands that execute, repeats from the
fabric, image stagings. -/

namespace Sys2Proof.Machine

/-- States of a slot (R371), in the order of SSTAT.STATE. -/
inductive SlotSt where
  | idle
  | filling
  | exec
  deriving DecidableEq, Repr

/-- One aperture slot (R370–R373, R401). Its SCFG and REPLY_BASE stand in `regs`, OVWR in `ctrs`. -/
structure CmdSlot where
  st : SlotSt := .idle
  /-- Bytes written since the slot began to fill, and the words written. -/
  bytes : Tbl Byte := []
  words : List Nat := []
  tag : Nat := 0
  rseq : Nat := 0
  deriving DecidableEq, Repr

/-- What a LONG or relayed command waits for. -/
inductive Work where
  /-- The step named by the command's opcode and parameters. -/
  | plain
  /-- Replies of the named modules to relayed commands; those that have acted (R207, R385). -/
  | relay (left acted : List Nat)
  deriving DecidableEq, Repr

/-- A command that executes (R382–R384). -/
structure Exec where
  id : Nat := 0
  src : Src := .slot 0
  tag : Nat := 0
  op : Nat := 0
  job : Nat := 0
  quiet : Bool := false
  long : Bool := false
  /-- PROGRESS last sent (R382). -/
  progress : Nat := 0
  at_ : Nat := 0
  params : List Byte := []
  work : Work := .plain
  /-- Numbers the work carries along: handles made, ports pinned, bounds. -/
  data : List Nat := []
  deriving DecidableEq, Repr

/-- One of the last 64 commands of a fabric source (R375): its TAG, the last reply sent, whether that was final. -/
structure DupEntry where
  tag : Nat := 0
  reply : List Byte := []
  final : Bool := false
  deriving DecidableEq, Repr

/-- A program staging (R394). -/
structure Staging where
  src : Src := .slot 0
  len : Nat := 0
  bytes : List Byte := []
  deriving DecidableEq, Repr

/-- The command interpreter. -/
structure CmdSt where
  slots : Tbl CmdSlot := []
  execs : List Exec := []
  nextExec : Nat := 1
  dups : Tbl (List DupEntry) := []
  /-- RSEQ by fabric source (R375). -/
  frseq : Tbl Nat := []
  /-- TAG of the next peer command. -/
  tagNext : Nat := 0
  staging : List Staging := []
  deriving DecidableEq, Repr

end Sys2Proof.Machine
end

