-- ==== Sys2Proof/Machine/Arith.lean ====
section
/-! DEFINITION. Exact arithmetic of the reductions (R233–R253): formats and their decoding, rounding to a format,
stochastic bits, the exact accumulator entry, FP32 addition and multiplication, MX blocks and FP32 pairs. -/

namespace Sys2Proof.Machine

/-- An exactly decoded code (R235): NaN, an infinity, a signed zero, or (−1)^s × m × 2^e with m positive. -/
inductive Dec where
  | nan
  | inf (s : Bool)
  | zero (s : Bool)
  | fin (s : Bool) (m : Nat) (e : Int)
  deriving DecidableEq, Repr

/-- A binary format (R233): exponent and mantissa bits, whether it has infinities, whether it has NaN. -/
structure Fmt where
  eb : Nat
  mb : Nat
  hasInf : Bool
  hasNan : Bool
  deriving DecidableEq, Repr

/-- FP32, BF16, FP16, E4M3, E5M2, E3M2, E2M3, E2M1 by format code 0–7 (R233, R234). -/
def fmtOf : Nat → Fmt
  | 0 => ⟨8, 23, true, true⟩
  | 1 => ⟨8, 7, true, true⟩
  | 2 => ⟨5, 10, true, true⟩
  | 3 => ⟨4, 3, false, true⟩
  | 4 => ⟨5, 2, true, true⟩
  | 5 => ⟨3, 2, false, false⟩
  | 6 => ⟨2, 3, false, false⟩
  | _ => ⟨2, 1, false, false⟩

/-- Bits of one element of format code `f` (R233; ARG is two words). -/
def fmtBits : Nat → Nat
  | 0 => 32
  | 1 => 16
  | 2 => 16
  | 3 => 8
  | 4 => 8
  | 5 => 6
  | 6 => 6
  | 7 => 4
  | 8 => 8
  | 9 => 8
  | 10 => 32
  | _ => 64

/-- The format has block scales: 3–8 (R234). -/
def isMx (f : Nat) : Bool := 3 ≤ f && f ≤ 8

/-- Significand bits with the hidden bit (R233). -/
def Fmt.p (f : Fmt) : Nat := f.mb + 1
/-- Exponent bias. -/
def Fmt.bias (f : Fmt) : Nat := 2 ^ (f.eb - 1) - 1
/-- Exponent of the smallest normal value (R233). -/
def Fmt.emin (f : Fmt) : Int := 1 - (f.bias : Int)
/-- All-ones exponent field. -/
def Fmt.eTop (f : Fmt) : Nat := 2 ^ f.eb - 1
/-- Code without sign of the largest finite value (R233). -/
def Fmt.maxCode (f : Fmt) : Nat :=
  if f.hasInf then f.eTop * 2 ^ f.mb - 1
  else if f.hasNan then 2 ^ (f.eb + f.mb) - 2
  else 2 ^ (f.eb + f.mb) - 1
/-- Exponent of the largest normal value (R233). -/
def Fmt.emax (f : Fmt) : Int := ((f.maxCode / 2 ^ f.mb : Nat) : Int) - (f.bias : Int)
/-- Code of the produced NaN (R233). -/
def Fmt.nanCode (f : Fmt) : Nat :=
  if f.hasInf then f.eTop * 2 ^ f.mb + 2 ^ (f.mb - 1) else 2 ^ (f.eb + f.mb) - 1
/-- Code with sign bit. -/
def Fmt.signed (f : Fmt) (s : Bool) (c : Nat) : Nat := c + b2n s * 2 ^ (f.eb + f.mb)

/-- Decodes an element code (R235): subnormals kept, NaN payloads ignored. -/
def Fmt.decode (f : Fmt) (code : Nat) : Dec :=
  let s := code.testBit (f.eb + f.mb)
  let ex := bits code f.mb f.eb
  let mn := code % 2 ^ f.mb
  if f.hasInf && ex = f.eTop then (if mn = 0 then .inf s else .nan)
  else if f.hasNan && !f.hasInf && ex = f.eTop && mn = 2 ^ f.mb - 1 then .nan
  else if ex = 0 then (if mn = 0 then .zero s else .fin s mn (f.emin - f.mb))
  else .fin s (2 ^ f.mb + mn) (f.emin - f.mb + (ex : Int) - 1)

/-- How a rounding rounds: to nearest even, or stochastically with 32 bits (R242). -/
inductive Rnd where
  | rne
  | sr (u : Nat)
  deriving DecidableEq, Repr

/-- Weight of the highest set bit of m × 2^e (m positive). -/
def topExp (m : Nat) (e : Int) : Int := (Nat.log2 m : Int) + e

/-- Rounds m × 2^e to a multiple of 2^q: the multiple (R242). -/
def roundAt (r : Rnd) (m : Nat) (e q : Int) : Nat :=
  if q ≤ e then m * 2 ^ (e - q).toNat
  else
    let d := (q - e).toNat
    let n := m / 2 ^ d
    let rem := m % 2 ^ d
    match r with
    | .rne => if 2 ^ d < 2 * rem || (2 * rem == 2 ^ d && n % 2 == 1) then n + 1 else n
    | .sr u => if u < rem * 2 ^ 32 / 2 ^ d then n + 1 else n

/-- Rounds m × 2^e to the precision of a format: significand and weight of its lowest bit (R242). -/
def Fmt.round (f : Fmt) (r : Rnd) (m : Nat) (e : Int) : Nat × Int :=
  let q := max (topExp m e) f.emin - (f.mb : Int)
  (roundAt r m e q, q)

/-- The code without sign of n × 2^q that is a value of the format or overflows it: none on overflow (R242). -/
def Fmt.encodeMag (f : Fmt) (n : Nat) (q : Int) : Option Nat :=
  if n = 0 then some 0
  else
    -- a carry out of the significand moves the exponent up
    let n' := if n = 2 ^ f.p then 2 ^ f.mb else n
    let q' := if n = 2 ^ f.p then q + 1 else q
    let c := if n' < 2 ^ f.mb then n' else ((q' + (f.mb : Int) - f.emin + 1).toNat) * 2 ^ f.mb + (n' - 2 ^ f.mb)
    if c ≤ f.maxCode then some c else none

/-- Rounds a finite nonzero value to a code with infinities: overflow becomes ±∞ (R242). The Bool says it overflowed. -/
def Fmt.roundCode (f : Fmt) (r : Rnd) (s : Bool) (m : Nat) (e : Int) : Nat × Bool :=
  let x := f.round r m e
  match f.encodeMag x.1 x.2 with
  | some c => (f.signed s c, false)
  | none => (f.signed s (f.eTop * 2 ^ f.mb), true)

/-- Encodes an exact value in a format with infinities and NaN, rounding (R241, R242). -/
def Fmt.encode (f : Fmt) (r : Rnd) : Dec → Nat
  | .nan => f.nanCode
  | .inf s => f.signed s (f.eTop * 2 ^ f.mb)
  | .zero s => f.signed s 0
  | .fin s m e => (f.roundCode r s m e).1

/-- FP32. -/
def fp32 : Fmt := fmtOf 0

/-- Value of a Dec as an integer count of 2^w, for w at or below its lowest weight. -/
def Dec.units (w : Int) : Dec → Int
  | .fin s m e => (if s then -1 else 1) * ((m : Int) * (2 ^ (e - w).toNat : Nat))
  | _ => 0

/-- A nonzero integer count of 2^w as a Dec; zero as +0. -/
def decOfUnits (v : Int) (w : Int) : Dec :=
  if v = 0 then .zero false else .fin (decide (v < 0)) v.natAbs w

/-- Exact sum of two finite values, at the lower of their weights; a zero sum is +0. -/
def Dec.addFin (a b : Dec) : Dec :=
  match a, b with
  | .fin _ _ e1, .fin _ _ e2 => let w := min e1 e2; decOfUnits (a.units w + b.units w) w
  | .fin .., _ => a
  | _, .fin .. => b
  | _, _ => .zero false

/-- IEEE 754 addition of exact values before rounding: NaN, infinities and signs of zero (R252). -/
def Dec.add (a b : Dec) : Dec :=
  match a, b with
  | .nan, _ => .nan
  | _, .nan => .nan
  | .inf s, .inf t => if s = t then .inf s else .nan
  | .inf s, _ => .inf s
  | _, .inf t => .inf t
  | .zero s, .zero t => .zero (s && t)
  | _, _ => a.addFin b

/-- Exact product of two values (R248). -/
def Dec.mul (a b : Dec) : Dec :=
  match a, b with
  | .nan, _ => .nan
  | _, .nan => .nan
  | .inf _, .zero _ => .nan
  | .zero _, .inf _ => .nan
  | .inf s, .inf t => .inf (s != t)
  | .inf s, .fin t _ _ => .inf (s != t)
  | .fin s _ _, .inf t => .inf (s != t)
  | .zero s, .zero t => .zero (s != t)
  | .zero s, .fin t _ _ => .zero (s != t)
  | .fin s _ _, .zero t => .zero (s != t)
  | .fin s m e, .fin t n f => .fin (s != t) (m * n) (e + f)

/-- Sign changed. -/
def Dec.neg : Dec → Dec
  | .nan => .nan
  | .inf s => .inf (!s)
  | .zero s => .zero (!s)
  | .fin s m e => .fin (!s) m e

/-- FP32 addition of codes, rounded to nearest even (R252). -/
def fp32Add (a b : Nat) : Nat := fp32.encode .rne ((fp32.decode a).add (fp32.decode b))
/-- FP32 multiplication of codes, rounded to nearest even (R248). -/
def fp32Mul (a b : Nat) : Nat := fp32.encode .rne ((fp32.decode a).mul (fp32.decode b))

/-- Order of exact values for MAX and MIN: −0 below +0 (R249); NaN is handled apart. -/
def Dec.lt (a b : Dec) : Bool :=
  match a, b with
  | .nan, _ => false
  | _, .nan => false
  | .inf s, .inf t => s && !t
  | .inf s, _ => s
  | _, .inf t => !t
  | .zero s, .zero t => s && !t
  | .zero _, .fin t _ _ => !t
  | .fin s _ _, .zero _ => s
  | .fin _ _ e, .fin _ _ f => let w := min e f; decide (a.units w < b.units w)

/-! ## Stochastic bits -/

/-- The 64-bit mixer of R243. -/
def mix64 (z : Nat) : Nat :=
  let z := ((z ^^^ (z >>> 30)) * 0xB4F13C6A8D29E55B) % 2 ^ 64
  let z := ((z ^^^ (z >>> 27)) * 0xE7A305D16F8B2C93) % 2 ^ 64
  z ^^^ (z >>> 31)

/-- The stochastic bits of an element (R243). -/
def srBits (seed ctx chunk i : Nat) : Nat :=
  let c := (ctx * 2 ^ 52 % 2 ^ 64) ||| (chunk * 2 ^ 20 % 2 ^ 64) ||| i
  mix64 (c ^^^ mix64 (seed % 2 ^ 64)) / 2 ^ 32

/-! ## Element codes of a chunk image -/

/-- The code of element `i` packed in a byte string of `w`-bit elements, lowest bits first (R234). -/
def elemCode (w : Nat) (l : List Byte) (i : Nat) : Nat :=
  bits (leNat ((l.drop (w * i / 8)).take ((w + 7) / 8 + 1))) (w * i % 8) w

/-- Decodes an element code of format `f` under a block scale byte `x` (R234, R235). -/
def decodeElem (f code x : Nat) : Dec :=
  let d : Dec :=
    if f < 8 then (fmtOf f).decode code
    else
      let n := if f = 8 || f = 9 then 8 else 32
      let v := toSigned n code
      decOfUnits v (if f = 8 then -6 else 0)
  if isMx f then
    if x = 0xFF then .nan
    else match d with
      | .fin s m e => .fin s m (e + (x : Int) - 127)
      | d => d
  else d

/-! ## The exact accumulator -/

/-- An accumulator entry of any reduction (R237–R239, R247–R252). For an exact SUM, `acc` counts units of 2^-149 and the
window form's SIG and EXP follow from it (R239); `esc` says that the entry is in long form. -/
structure Entry where
  acc : Int := 0
  nan : Bool := false
  pinf : Bool := false
  ninf : Bool := false
  pres : Bool := false
  neg0 : Bool := false
  esc : Bool := false
  /-- FP32 value of FAST SUM, or the FP32 code W0 of ARG. -/
  fp : Nat := 0
  /-- Index W1 of ARG. -/
  idx : Nat := 0
  /-- Chosen value of MAX and MIN. -/
  best : Dec := .zero false
  /-- Contributions combined in this element (R253). -/
  n : Nat := 0
  /-- FP32 values by local member of a float PROD (R248). -/
  prods : List (Nat × Nat) := []
  deriving DecidableEq, Repr

/-- Lowest set bit of a positive number, searched from bit 0 with fuel. -/
def lowBitFrom (n : Nat) : Nat → Nat → Nat
  | 0, k => k
  | fuel + 1, k => if n.testBit k then k else lowBitFrom n fuel (k + 1)

/-- Position of the lowest set bit of a positive number. -/
def lowBit (n : Nat) : Nat := lowBitFrom n (Nat.log2 n + 1) 0

/-- The window's base in units of 2^-149: highest bit less 93, at least 0 (R239). -/
def windowBase (acc : Int) : Nat := Nat.log2 acc.natAbs - 93

/-- A sum fits the window form: its set bits span at most 94 places (R239). -/
def fitsWindow (acc : Int) : Bool := acc == 0 || decide (windowBase acc ≤ lowBit acc.natAbs)

/-- Adds a present addend to an entry (R239). -/
def Entry.add (e : Entry) (x : Dec) : Entry :=
  match x with
  | .nan => { e with nan := true, pres := true, neg0 := false }
  | .inf true => { e with ninf := true, pres := true, neg0 := false }
  | .inf false => { e with pinf := true, pres := true, neg0 := false }
  | .zero s => { e with neg0 := if e.pres then e.neg0 && s else s, pres := true }
  | .fin .. =>
    let v := e.acc + x.units (-149)
    { e with pres := true, neg0 := false, acc := v, esc := e.esc || !fitsWindow v }

/-- SIG and EXP of an entry in window form (R238, R239). -/
def Entry.sig (e : Entry) : Int := if e.acc = 0 then 0 else e.acc / (2 ^ windowBase e.acc : Nat)
/-- EXP of an entry in window form. -/
def Entry.exp (e : Entry) : Nat := if e.acc = 0 then 0 else windowBase e.acc

/-- The 128-bit layout of an entry (R238). -/
def Entry.layout (e : Entry) : Nat :=
  let flags := b2n e.nan * 2 ^ 105 + b2n e.pinf * 2 ^ 106 + b2n e.ninf * 2 ^ 107 + b2n e.pres * 2 ^ 108 + b2n e.neg0 * 2 ^ 109
    + b2n e.esc * 2 ^ 110
  if e.esc then bits (ofSigned 304 e.acc) 0 96 + flags + bits (ofSigned 304 e.acc) 288 16 * 2 ^ 112
  else ofSigned 96 e.sig + e.exp * 2 ^ 96 + flags

/-- ACC[287:96] of a long-form entry, which the escape extension holds (R240). -/
def Entry.extension (e : Entry) : Nat := if e.esc then bits (ofSigned 304 e.acc) 96 192 else 0

/-- The finished exact value of a SUM entry before its rounding (R241); an entry never present is +0 (R237). -/
def Entry.value (e : Entry) : Dec :=
  if !e.pres then .zero false
  else if e.nan || (e.pinf && e.ninf) then .nan
  else if e.pinf then .inf false
  else if e.ninf then .inf true
  else if e.acc = 0 then .zero e.neg0
  else decOfUnits e.acc (-149)

/-- FP32 pair of an exact value (R246): hi and lo. -/
def pairOf (d : Dec) : Nat × Nat :=
  match d with
  | .zero s => (fp32.signed s 0, fp32.signed s 0)
  | .fin .. =>
    let hi := fp32.encode .rne d
    match fp32.decode hi with
    | .inf _ => (hi, 0)
    | h => (hi, match h.neg.addFin d with | .zero _ => 0 | r => fp32.encode .rne r)
  | d => (fp32.encode .rne d, 0)

/-- Scale byte of an MX block of finished values, for element format `f` 3–7 (R245), and whether it was clamped to 254. -/
def mxScale (f : Nat) (l : List Dec) : Nat × Bool :=
  let fm := fmtOf f
  if l.any (· == .nan) && !fm.hasNan then (0xFF, false)
  else if l.any (fun d => match d with | .inf _ => true | _ => false) && f ≠ 4 then (254, false)
  else
    let top := l.foldl (fun (m : Option Int) d => match d with
      | .fin _ n e => let t := topExp n e; some (match m with | none => t | some u => max t u)
      | _ => m) none
    match top with
    | none => (0, false)
    | some t =>
      let x := t - fm.emax + 127
      if x < 0 then (0, false) else if 254 < x then (254, true) else (x.toNat, false)

/-- The code of one finished value of an MX block under scale `x`, and whether `OVF_OUT` counts it (R245). -/
def mxCode (f x : Nat) (clamped : Bool) (r : Rnd) (d : Dec) : Nat × Bool :=
  let fm := fmtOf f
  if x = 0xFF then (0, false)
  else match d with
    | .nan => (fm.nanCode, false)
    | .inf s => if f = 4 then (fm.signed s (fm.eTop * 2 ^ fm.mb), false) else (fm.signed s fm.maxCode, true)
    | .zero s => (fm.signed s 0, false)
    | .fin s m e =>
      let y := fm.round r m (e - (x : Int) + 127)
      match fm.encodeMag y.1 y.2 with
      | some c => (fm.signed s c, false)
      | none => (fm.signed s fm.maxCode, clamped)

end Sys2Proof.Machine
end

