-- ==== Sys2Proof/Machine/StColl.lean ====
section
/-! DEFINITION. State of collective contexts (R202–R232), their chunk slots with accumulator entries (R219, R238),
mixture-of-experts batches (R320–R331), placement tables (R322) and embedding tables (R332). -/

namespace Sys2Proof.Machine

/-- States of a context (R208), in the order of their codes. -/
inductive CtxState where
  | free
  | reserving
  | armed
  | running
  | done
  | failed
  deriving DecidableEq, Repr

/-- Causes of a failure (R231), in the order of their codes. -/
inductive Cause where
  | none_
  | deadline
  | step
  | path
  | data
  | epilogue
  | abort
  | remote
  deriving DecidableEq, Repr

/-- One element of a partial or finished segment: presence and its code (a pair is hi + 2^32 lo). -/
structure PartVal where
  pres : Bool := true
  v : Nat := 0
  deriving DecidableEq, Repr

/-- Bytes of a ring phase's image as received: phase, ring, byte offset (R217). -/
structure RingPkt where
  phase : Nat := 0
  rdir : Nat := 0
  off : Nat := 0
  bytes : List Byte := []
  deriving DecidableEq, Repr

/-- An interval handed to an epilogue core and not yet returned (R224): first element, FP32 values, the output image that the
core has written so far. -/
structure EpiSeg where
  lo : Nat := 0
  vals : List PartVal := []
  out : Tbl Byte := []
  deriving DecidableEq, Repr

/-- An open chunk slot (R219, R222). -/
structure Slot where
  chunk : Nat := 0
  /-- Marten unit, 4 × den + group (R206). -/
  unit : Nat := 0
  /-- Bitmap: (local member, MSG) accepted. -/
  bits : List (Nat × Nat) := []
  /-- Bitmap: (8 × phase + ring, byte offset) of partials accepted. -/
  ringBits : List (Nat × Nat) := []
  /-- Image bytes of members whose scales or mask have not all arrived: member, offset, bytes. -/
  images : List (Nat × Nat × List Byte) := []
  entries : Tbl Entry := []
  leafDone : Bool := false
  /-- Ring traffic received, segments formed here, finished intervals. -/
  ring : List RingPkt := []
  ownVals : List PartVal := []
  /-- Bytes of the result image finished so far: offset and bytes. -/
  fins : List (Nat × List Byte) := []
  /-- Segments already sent: phase, ring, segment. -/
  sent : List (Nat × Nat × Nat) := []
  /-- Rings whose owned interval has been finished or handed to the epilogue; 2 more for an x ring's before a y ring. -/
  owned : List Nat := []
  epi : List EpiSeg := []
  /-- Blocks on die and in backing; the order of last use; a read-back is under way with packets that wait (R257). -/
  onDie : Nat := 0
  spilled : Nat := 0
  lastUse : Nat := 0
  reading : Bool := false
  waiting : List Pkt := []
  deriving DecidableEq, Repr

/-- One token of an MoE batch at the leaf (R323–R330). -/
structure Token where
  t : Nat := 0
  /-- Packets of the image received: offset and bytes. -/
  parts : List (Nat × List Byte) := []
  whole : Bool := false
  gated : Bool := false
  /-- Selected experts in descending order of selection, with their FP32 gates (R325). -/
  sel : List (Nat × Nat) := []
  /-- Experts accepted, rejected, and still held (R326). -/
  accepted : List Nat := []
  rejected : List Nat := []
  held : List Nat := []
  /-- Return packets accepted: (expert, offset). -/
  rets : List (Nat × Nat) := []
  /-- Return image bytes: expert, offset, bytes. -/
  retBytes : List (Nat × Nat × List Byte) := []
  entries : Tbl Entry := []
  finished : Bool := false
  deriving DecidableEq, Repr

/-- A batch slot of an MoE context (R323). -/
structure Batch where
  b : Nat := 0
  tokens : List Token := []
  deriving DecidableEq, Repr

/-- One context at this leaf (R204–R231). -/
structure Ctx where
  state : CtxState := .free
  /-- The sixteen descriptor words (R204). -/
  desc : List Nat := []
  deadline : Nat := 0
  seed : Nat := 0
  /-- Local member endpoints in rank order, and their ranks (R202). -/
  locals : List Nat := []
  ranks : List Nat := []
  /-- The group's member count (R50). -/
  m : Nat := 0
  /-- Ring lengths, this leaf's positions, and the module identifiers of the ring on each axis (R215). -/
  nx : Nat := 1
  ny : Nat := 1
  px : Nat := 0
  py : Nat := 0
  ringX : List Nat := []
  ringY : List Nat := []
  /-- Every leaf of the group, by module identifier. -/
  leaves : List Nat := []
  /-- D: dens that hold the local members' down ports (R206). -/
  dens : List Nat := []
  /-- Attached visible cores in ascending order, and their binding (R206, R224). -/
  cores : List Nat := []
  binding : Nat := 0
  /-- H + 1: chunks below which every slot has been freed (R219), and chunks freed above. -/
  h : Nat := 0
  freedAbove : List Nat := []
  slots : List Slot := []
  batches : List Batch := []
  /-- Result images held for RESEND_REQ: chunk and image bytes (R123). -/
  results : List (Nat × List Byte) := []
  status : Nat := 0
  cause : Cause := .none_
  failChunk : Nat := 0
  failCount : Nat := 0
  failRank : Option Nat := none
  /-- EMPTY and SAT of CSTAT (R231). -/
  empty : Bool := false
  sat : Bool := false
  /-- Failure notices still to repeat (R229). -/
  noticesLeft : Nat := 0
  /-- Released but not given out again (R209). -/
  busyHold : Bool := false
  /-- Some packet of the context ended in PATH_LOST (R228). -/
  pathLost : Bool := false
  /-- Created at this leaf, which coordinates it (R207). -/
  coord : Bool := false
  /-- One more than the highest boundary that other modules have reported, by endpoint (R429). -/
  peerG : Tbl Nat := []
  /-- One more than the boundary G that the serving member of the pair has recorded here (R427, R433). -/
  takeG : Nat := 0
  /-- Held on standby for the partner (R422). -/
  standby : Bool := false
  /-- In a formed pair: one more than the boundary G, slots kept until every leaf has reported their chunk, and ranges of protected
  memory that epilogues wrote, as (chunk, offset, length) (R427, R429). -/
  g : Nat := 0
  kept : List Slot := []
  ranges : List (Nat × Nat × Nat) := []
  deriving DecidableEq, Repr

/-- A placement table (R322): owner, entries written, usable with so many experts. -/
structure PlaceTable where
  job : Nat := 0
  entries : Tbl Nat := []
  /-- Entries written, by index. -/
  written : List Nat := []
  experts : Option Nat := none
  deriving DecidableEq, Repr

/-- An embedding table (R332). -/
structure EmbTable where
  job : Nat := 0
  binding : Nat := 0
  region : Nat := 0
  base : Nat := 0
  rows : Nat := 0
  dim : Nat := 0
  fmt : Nat := 0
  stride : Nat := 0
  cores : List Nat := []
  deriving DecidableEq, Repr

/-- All collective state. -/
structure CollSt where
  ctxs : Tbl Ctx := []
  tables : Tbl PlaceTable := []
  embs : Tbl EmbTable := []
  /-- Counts slot uses, for the least recently updated block (R145). -/
  useCtr : Nat := 0
  /-- DET.TDC by job (R253). -/
  tdc : Tbl Nat := []
  deriving DecidableEq, Repr

end Sys2Proof.Machine
end

