-- ==== Sys2Proof/Machine/StFault.lean ====
section
/-! DEFINITION. State of the fault collector and the black box (R439–R463), and what the block has put on its pins,
links, host link and sideband. -/

namespace Sys2Proof.Machine

/-- Unit kinds of a fault record (R453, W5). -/
inductive UnitKind where
  | none_
  | port
  | core
  | fastCh
  | slowCh
  | buffer
  | pool
  | bridge
  | phase
  | marten
  | module
  | tier
  | slice
  deriving DecidableEq, Repr

/-- One fault record (R453). -/
structure Record where
  source : Nat := 0
  den : Nat := 0
  module : Bool := false
  cls : Nat := 0
  masked : Bool := false
  forced : Bool := false
  accepted : Bool := false
  job : Option Nat := none
  ctx : Option Nat := none
  fseq : Nat := 0
  /-- Rack time of the event in ns. -/
  time : Nat := 0
  unit : Nat := 0
  kind : UnitKind := .none_
  status : Nat := 0
  cause : Nat := 0
  addr : Nat := 0
  detail : List Nat := []
  deriving DecidableEq, Repr

/-- What an event brings to the collector (R442, R453, R454). Word 0–3 is a den's, word 4 the module's. -/
structure Event where
  word : Nat := 4
  source : Nat := 0
  forced : Bool := false
  accepted : Bool := false
  job : Option Nat := none
  ctx : Option Nat := none
  unit : Nat := 0
  kind : UnitKind := .none_
  status : Nat := 0
  cause : Nat := 0
  addr : Nat := 0
  detail : List Nat := []
  deriving DecidableEq, Repr

/-- A reaction that a class calls for and that the current command still owes (R444, R445). -/
structure Reaction where
  cls : Nat := 0
  unit : Nat := 0
  kind : UnitKind := .none_
  job : Option Nat := none
  word : Nat := 4
  source : Nat := 0
  addr : Nat := 0
  deriving DecidableEq, Repr

/-- Stages of the black-box sequence (R460). -/
inductive BoxStage where
  | idle
  | waitCapture
  | writing
  deriving DecidableEq, Repr

/-- The fault collector (R439–R458). -/
structure FaultSt where
  /-- FSW[0–3] and MFSW, key = word. -/
  fsw : Tbl Nat := []
  /-- Conditions of L sources that persist, key = 64 × word + source: the units in that condition. -/
  conds : Tbl (List Nat) := []
  /-- FIRST registers: source and valid (R462), key = word; the value holds SOURCE + 64. -/
  first : Tbl Nat := []
  /-- Time of the last record of a source and unit, in ps of the clock plus 1 (R442). Key 4096 × (64 × word + source) + unit. -/
  lastRec : Tbl Nat := []
  /-- The newest 256 records, newest first (R455). -/
  ring : List Record := []
  fseq : Nat := 0
  /-- Jobs halted (R444), ascending. -/
  halted : List Nat := []
  /-- Reactions owed by the current command. -/
  owed : List Reaction := []
  /-- A hold-off of R456 runs, and a signal waits for its end. -/
  holdoff : Bool := false
  irqWait : Bool := false
  /-- Dens that admit no new TC1 flow after a pool DEGRADE, with 64 × word + source of the bit that ends it (R444). -/
  degraded : List (Nat × Nat) := []
  /-- FATAL_N is low (R457). -/
  fatal : Bool := false
  deriving DecidableEq, Repr

/-- Owl's ring and the black box (R459–R461). It survives every reset. -/
structure BoxSt where
  owl : List Record := []
  frozen : Bool := false
  stage : BoxStage := .idle
  /-- REASON of R461: PF_WARN, RESET_FAULT, and the first MODULE_RESET source. -/
  pfWarn : Bool := false
  resetFault : Bool := false
  reason : Option (Nat × Nat) := none
  /-- The snapshot captured and being written, 128 words. -/
  snap : List Nat := []
  /-- Contents written last: records and snapshot; the bank, UNREAD, count of writes. -/
  records : List Record := []
  snapshot : List Nat := []
  /-- Contents of the bank not written last. -/
  oldRecords : List Record := []
  oldSnapshot : List Nat := []
  valid : Bool := false
  unread : Bool := false
  bank : Nat := 0
  seq : Nat := 0
  deriving DecidableEq, Repr

/-- What the block puts out. -/
inductive Out where
  /-- A link-management block on a port: code and argument (R80). -/
  | lm (port code arg : Nat)
  /-- A training block answering on a lane: STAT, and the index of the lane (R76). -/
  | ts (lane stat : Nat)
  /-- A packet leaving a port with its trailer (R71, R106). -/
  | packet (port : Nat) (p : Pkt) (trailer : Nat)
  /-- A packet leaving a port, ended by ABORT in place of TERM (R71, R108). -/
  | abort (port : Nat) (p : Pkt)
  /-- A posted write to host memory (R373, R546). -/
  | hostWrite (addr : Nat) (bytes : List Byte)
  /-- A read of host memory requested (R546). -/
  | hostRead (addr len : Nat)
  /-- An MSI-X message (R547). -/
  | msix (vec : Nat)
  /-- A completion of a host read with data, or with an error status: 1 Unsupported Request, 4 Completer Abort (R545, R559). -/
  | completion (data : List Byte)
  | completionErr (status : Nat)
  /-- A completion with the poisoned bit (R545). -/
  | poisoned (data : List Byte)
  /-- A message on the sideband: MCTP message type and body (R551–R554). -/
  | sideband (mtype : Nat) (body : List Byte)
  /-- An answer of Owl's SPDM responder on a path, 0 MCTP or 1 DOE: the answer's kind as the rows number it, and its contents (R474). -/
  | spdm (path kind : Nat) (data : List Byte)
  /-- An answer or event message of Owl's PLDM terminus: kind and values (R551–R553). -/
  | pldm (kind : Nat) (values : List Nat)
  /-- A record, relayed command or copy for the partner, whose layout the spec does not define (R421): kind and contents. -/
  | mirror (kind : Nat) (words : List Nat) (bytes : List Byte)
  /-- A pin's new level: 0 FAULT_N, 1 FATAL_N, 2 PF_WARN_N, 3 INT or wake pins as numbered where used. -/
  | pin (pin : Nat) (high : Bool)
  /-- A request on the PCI Express link: L0p narrowing (R542). -/
  | pcie (request : Nat)
  deriving DecidableEq, Repr

end Sys2Proof.Machine
end

