-- ==== Sys2Proof/Machine/StSwitch.lean ====
section
/-! DEFINITION. State of the switch slices (R135–R170), of queue service and TC1 admission (R171–R201) and of the
end-to-end streams (R114–R127, R592). Byte counts that the spec divides exactly (virtual time, tokens, rates)
are rational numbers. -/

namespace Sys2Proof.Machine

/-- One buffer pool of a den (R138–R145). Buffers named by handle stand in `alloc` with their reference counts (R142);
cells of packet chains and pages of deep segments are counted, their indices not named. -/
structure Pool where
  size : Nat := 0
  /-- TC1 reserve (R144, R190) and how much of it is in use. -/
  tc1Rsv : Nat := 0
  tc1Used : Nat := 0
  alloc : Tbl Nat := []
  quar : List Nat := []
  /-- Buffers in use from the shared part without a named index. -/
  used : Nat := 0
  level : Nat := 0
  /-- WARN_EV, BP_EV, CRIT_EV, EMPTY_EV of POOL_STAT in bits 4–7 (R166). -/
  events : Nat := 0
  /-- Indices freed at clock `freedAt`, which no ALLOC of the same cycle may hand out (R141). -/
  freed : List Nat := []
  freedAt : Nat := 0
  deriving DecidableEq, Repr

/-- One chain of P0 cells (R135, R142). -/
structure Chain where
  den : Nat := 0
  /-- Cells drawn from the shared part, from the port's headroom and from the TC1 reserve (R146). -/
  shared : Nat := 0
  head : Nat := 0
  headPort : Nat := 0
  tc1 : Nat := 0
  refs : Nat := 0
  /-- The multicast whose copies share it, 0 for none (R151). -/
  mc : Nat := 0
  deriving DecidableEq, Repr

/-- What originated a packet that the module sends (R591), for its return of cells and of acknowledgement. -/
inductive Origin where
  | port (p : Nat)
  | marten (den group : Nat)
  | sett (den : Nat)
  | mirror (den : Nat)
  | keeper
  | fox (u : Nat)
  | memory (den : Nat)
  deriving DecidableEq, Repr

/-- A copy of a multicast that the receiving den of a bridge makes (R151): its packet, its final port, the start of its residence. -/
structure Rider where
  pkt : Pkt := {}
  port : Nat := 0
  since : Nat := 0
  deriving DecidableEq, Repr

/-- A packet held in a den (R135–R137, R146, R150, R156). -/
structure Held where
  id : Nat := 0
  den : Nat := 0
  pkt : Pkt := {}
  chain : Nat := 0
  origin : Origin := .keeper
  /-- Input attachment of the den's crossbar (R147). -/
  inAtt : Nat := 57
  /-- Colour at this hop: 0 green, 1 yellow, 2 red (R104). -/
  colour : Nat := 0
  /-- Candidate final ports while none is chosen (R125). -/
  cands : List Nat := []
  /-- The final port chosen, for a packet that leaves the module. -/
  port : Option Nat := none
  /-- The final consumer attachment, for a packet consumed in the module: den and attachment. -/
  cons : Option (Nat × Nat) := none
  /-- Egress attachment in this den (a port's, a bridge's or a consumer's) and queue there. -/
  att : Option Nat := none
  queue : Nat := 0
  tagS : Rat := 0
  tagF : Rat := 0
  /-- Order of enqueue, and the clock then, in ps. -/
  order : Nat := 0
  enqAt : Nat := 0
  /-- Start of the residence of R105, in ps. -/
  since : Nat := 0
  /-- Cells that have arrived and cells that the crossbar has moved. -/
  arrived : Nat := 0
  moved : Nat := 0
  complete : Bool := false
  released : Bool := false
  /-- The outgoing copy ends with ABORT (R108). -/
  abort : Bool := false
  /-- Held by a regulating policer, by number (R180). -/
  policer : Option Nat := none
  /-- In the deep segment of its queue (R157). -/
  deep : Bool := false
  /-- The trailer that arrived with it; none for a packet whose trailer the module computes (R106). -/
  trailer : Option Nat := none
  /-- The first cell has left (R184). -/
  started : Bool := false
  /-- Mirror sessions matched at stage 6 (R160). -/
  mirrors : List Nat := []
  /-- Ring direction of a COLL_PARTIAL that starts here (R37), and the port a copy is bound to (R161). -/
  ring : Option Nat := none
  fixed : Option Nat := none
  /-- The multicast that it is a copy of, 0 for none, and, while it is the one copy that crosses a bridge, the others made from it (R151). -/
  mc : Nat := 0
  riders : List Rider := []
  deriving DecidableEq, Repr

/-- One egress queue of an attachment (R171–R183, R198). Key: 64 × (64 × den + attachment) + queue. -/
structure Queue where
  job : Nat := 0
  tc : Nat := 0
  transit : Bool := false
  valid : Bool := false
  weight : Nat := 0
  shapeEn : Bool := false
  atRisk : Bool := false
  revoked : Bool := false
  rate : Nat := 0
  burst : Nat := 0
  /-- Share φ in units of 2^-32 (R175). -/
  phi : Nat := 0
  fLast : Rat := 0
  tok : Rat := 0
  tokAt : Nat := 0
  /-- The open tail page: clock at which it opened (R157). -/
  pageOpen : Option Nat := none
  /-- Pages written to the fast tier, oldest first, as cell counts still to read back (R157). -/
  pages : List Nat := []
  /-- Cells of the oldest packet of the deep segment already read back. -/
  deepRead : Nat := 0
  /-- Being released once its packets are served (R390, QUEUE_RELEASE). -/
  releasing : Bool := false
  /-- Waits for its EPOCH boundary (R172), and a weight that waits for it (R175). -/
  pending : Bool := false
  newWeight : Option Nat := none
  deriving DecidableEq, Repr

/-- One policer (R178–R181, R199). Key: 32 × port + index. -/
structure Policer where
  job : Nat := 0
  tc : Nat := 0
  en : Bool := false
  regulate : Bool := false
  cir : Nat := 0
  pir : Nat := 0
  cbs : Nat := 0
  pbs : Nat := 0
  tcTok : Rat := 0
  tpTok : Rat := 0
  at_ : Nat := 0
  /-- Start of the 1 ms window in which a hold has raised TC1_NONCONFORM (R180). -/
  windowAt : Option Nat := none
  deriving DecidableEq, Repr

/-- One mirror session (R159–R162, R169). Key: 8 × den + session. -/
structure Mirror where
  en : Bool := false
  dir : Nat := 0
  flow : Bool := false
  port : Nat := 0
  job : Nat := 0
  /-- Set by job 0 for packets of all jobs (R159). -/
  all : Bool := false
  bad : Bool := false
  endpt : Nat := 0
  endptDst : Bool := false
  endptEn : Bool := false
  type : Nat := 0
  typeEn : Bool := false
  ctxEn : Bool := false
  ctx : Nat := 0
  aport : Nat := 0
  snap16 : Nat := 0
  adst : Nat := 0
  seq : Nat := 0
  /-- DROPPED of the metadata: copies dropped since the last one sent (R161). -/
  droppedSince : Nat := 0
  deriving DecidableEq, Repr

/-- One entry of a sampling ring (R185, R200). -/
structure Sample where
  depth : Nat := 0
  seq : Nat := 0
  delay : Nat := 0
  deriving DecidableEq, Repr

/-- The sampling engine of a den (R185, R200). -/
structure Sampler where
  ring : Tbl Sample := []
  wptr : Nat := 0
  wraps : Nat := 0
  count : Nat := 0
  deriving DecidableEq, Repr

/-- Everything the four slices hold. -/
structure SwitchSt where
  /-- Key 4 × den + pool. -/
  pools : Tbl Pool := []
  chains : Tbl Chain := []
  held : List Held := []
  nextId : Nat := 1
  nextOrder : Nat := 0
  queues : Tbl Queue := []
  /-- Virtual time of each attachment, key 64 × den + attachment (R176). -/
  vtime : Tbl Rat := []
  /-- The packet each output serves (R148). Key 64 × den + attachment; 0 none. -/
  serving : Tbl Nat := []
  /-- gptr, key 64 × (64 × den + output) + queue; aptr, key 64 × den + input (R148). -/
  gptr : Tbl Nat := []
  aptr : Tbl Nat := []
  /-- Rotating pointers of R125, key 4 × den + direction and 2 × den + axis. -/
  dirPtr : Tbl Nat := []
  axisPtr : Tbl Nat := []
  /-- Drop and mark LFSR of each den (R153). -/
  lfsr : Tbl Nat := []
  /-- Packets in a bridge FIFO, oldest first: (from den, to den, packet) (R150). -/
  bridge : List (Nat × Nat × Held) := []
  policers : Tbl Policer := []
  mirrors : Tbl Mirror := []
  samplers : Tbl Sampler := []
  /-- Packets the module originates that wait for a cell (R146): den and packet. -/
  waiting : List (Nat × Held) := []
  /-- Packets handed to a consumer inside the module and not yet taken: arrival port and packet. -/
  delivered : List (Nat × Pkt) := []
  /-- Dens whose slice is held in reset (R30, R444). -/
  sliceReset : List Nat := []
  /-- Queue changes of R172, R175 wait for the next boundary. -/
  sharesPend : Bool := false
  deriving DecidableEq, Repr

/-- Source state of one tracked packet (R116, R120). -/
structure OutPkt where
  pkt : Pkt := {}
  origin : Origin := .keeper
  sentAt : Nat := 0
  resends : Nat := 0
  port : Option Nat := none
  /-- Held since, in ps of the clock (R120). -/
  heldAt : Option Nat := none
  noRoute : Bool := false
  /-- Deadline of its operation in domain ns, where it has one. -/
  deadline : Option Nat := none
  /-- Ring direction of a COLL_PARTIAL (R37). -/
  ring : Option Nat := none
  /-- Refused with RESOURCE_BUSY: the next resend does not count toward RESEND_MAX (R221). -/
  busy : Bool := false
  /-- A write sent to the partner: the arrival port and header of the packet that is acknowledged once this one has been (R426). -/
  onAck : Option (Nat × Hdr) := none
  /-- The multicast that it is a copy of, 0 for none (R151). -/
  mc : Nat := 0
  deriving DecidableEq, Repr

/-- Phases of a transmit stream (R114). -/
inductive TxPhase where
  | closed
  | opening
  | busy
  | open
  deriving DecidableEq, Repr

/-- A transmit stream, key 4 × destination + class (R114–R127). -/
structure TxStream where
  phase : TxPhase := .closed
  /-- INCARNATION of the destination last seen in OPEN_ACK (R114). -/
  inc : Option Nat := none
  next : Nat := 0
  first : Nat := 0
  ack : Nat := 0
  win : Nat := 32
  openAt : Nat := 0
  out : List OutPkt := []
  /-- Packets not yet numbered, which wait for OPEN_ACK or for the window. -/
  wait : List OutPkt := []
  /-- Rate in bytes per second, or none while at the port rate; α (R127). -/
  rate : Option Rat := none
  alpha : Rat := 0
  lastCut : Option Nat := none
  lastEce : Nat := 0
  deriving DecidableEq, Repr

/-- A receive stream, key 4 × source + class (R114, R117, R118). -/
structure RxStream where
  open_ : Bool := false
  inc : Nat := 0
  first : Nat := 0
  ack : Nat := 0
  /-- SEQs at or above ACK_SEQ that have arrived. -/
  got : List Nat := []
  /-- Arrivals since the last ACK, those that carried CE, and the clock of the first unacknowledged one. -/
  unacked : Nat := 0
  ce : Nat := 0
  firstAt : Option Nat := none
  /-- Header of the newest arrival (what a COMPLETION copies, R103), and the den it came in. -/
  last : Hdr := {}
  den : Nat := 0
  deriving DecidableEq, Repr

/-- What the module itself has asked of another endpoint and awaits (R122, R375, R592). -/
inductive AskKind where
  | read
  | lookup
  | command
  | resend
  deriving DecidableEq, Repr

/-- One outstanding request of the module. -/
structure Ask where
  kind : AskKind := .read
  dst : Nat := 0
  ctx : Nat := 0
  chunk : Nat := 0
  msg : Nat := 0
  /-- TAG of a peer command. -/
  tag : Nat := 0
  pkt : Pkt := {}
  sentAt : Nat := 0
  /-- The Sett core whose mover issued it, where one did. -/
  core : Option Nat := none
  /-- The command whose work waits on it: issuer's key in the executing list. -/
  owner : Option Nat := none
  long : Bool := false
  deriving DecidableEq, Repr

/-- Delivery state of the module as an endpoint. -/
structure StreamSt where
  tx : Tbl TxStream := []
  rx : Tbl RxStream := []
  incarnation : Nat := 0
  asks : List Ask := []
  deriving DecidableEq, Repr

/-- An armed injection of a port (R537, R538): its kind, 0 for none, and its arguments. -/
structure Inject where
  kind : Nat := 0
  mask : Nat := 0
  symbols : Nat := 0
  job : Option Nat := none
  type : Option Nat := none
  /-- Codewords or packets left, or the time in µs. -/
  count : Nat := 0
  delayNs : Nat := 0
  /-- Packets that a DELAY holds (R537). -/
  delayed : List (Pkt × Nat) := []
  deriving DecidableEq, Repr

/-- States of a TC1 reservation at this hop (R187). -/
inductive HopPhase where
  | held
  | committing
  | committed
  | releasing
  deriving DecidableEq, Repr

/-- A TC1 flow or hop reservation at this module (R186–R193), by handle. -/
structure Flow where
  handle : Nat := 0
  job : Nat := 0
  /-- The source; at a further hop, the module that admits the flow. -/
  src : Nat := 0
  dst : Nat := 0
  rate : Nat := 0
  burst : Nat := 0
  maxLen : Nat := 0
  dReq : Nat := 0
  /-- The bound D of the flow at its admitting leaf, or D_h at a transit hop, in ns. -/
  bound : Nat := 0
  hopBound : Nat := 0
  hops : Nat := 0
  ingress : Nat := 0
  port : Nat := 0
  queue : Nat := 0
  next : Nat := 0
  /-- P0 reserve cells taken, or P3 pages when the reserve could not grow (R190). -/
  cells : Nat := 0
  pages : Nat := 0
  bridge : Option (Nat × Nat) := none
  atRisk : Bool := false
  revoked : Bool := false
  phase : HopPhase := .held
  /-- Boundary at or after which a commit or release applies, domain ns. -/
  time : Nat := 0
  /-- This module is the admitting leaf. -/
  admits : Bool := false
  /-- Order of admission. -/
  order : Nat := 0
  /-- At the admitting leaf, the modules of the further hops (R187). -/
  path : List Nat := []
  deriving DecidableEq, Repr

end Sys2Proof.Machine
end

