-- ==== Sys2Proof/Machine/StInst.lean ====
section
/-! DEFINITION. State of mirrored pairs (R418–R438) and of the instrument functions: Fox units and the golden end point
(R522–R541). -/

namespace Sys2Proof.Machine

/-- A pair's state at this member. -/
structure PairSt where
  /-- Code of R421. -/
  st : Nat := 0
  reason : Nat := 0
  /-- Clock of the newest heartbeat; clock at which loss of contact was declared (R430, R432). -/
  lastHb : Option Nat := none
  lostAt : Option Nat := none
  hbSeq : Nat := 0
  /-- PSTATE of the partner's newest heartbeat. -/
  partnerSt : Nat := 0
  alias_ : Bool := false
  eventTime : Nat := 0
  /-- HOME_STATE by down port: clock of the newest and OTHER_UP (R431). -/
  homes : Tbl (Option (Nat × Bool)) := []
  /-- PAIR_FORM or PAIR_RESYNC that waits. -/
  owner : Option Nat := none
  /-- A break or a handback waits for the next boundary (R435, R436). -/
  breakPend : Bool := false
  backPend : Bool := false
  /-- Contexts that could not be reserved at the returning member (R435). -/
  unmirrored : Nat := 0
  /-- INCARNATION under which the partner's identifier is answered (R433). -/
  aliasInc : Nat := 0
  deriving DecidableEq, Repr

/-- One generator stream (R523–R527). -/
structure FoxStream where
  en : Bool := false
  port : Nat := 0
  switched : Bool := false
  tc : Nat := 0
  job : Nat := 0
  pattern : Nat := 0
  shape : Bool := false
  weight : Nat := 0
  dst : Nat := 0
  dstCnt : Nat := 1
  lenMin : Nat := 24
  lenMax : Nat := 24
  lenMode : Nat := 0
  rate : Nat := 0
  burst : Nat := 0
  seed : Nat := 0
  count : Nat := 0
  const_ : Nat := 0
  pM1 : Nat := 0
  /-- Packets emitted since the start, shaper tokens and their clock, and whether it still runs. -/
  n : Nat := 0
  tok : Rat := 0
  tokAt : Nat := 0
  running : Bool := false
  deriving DecidableEq, Repr

/-- One checker flow (R528, R529). -/
structure FoxFlow where
  en : Bool := false
  ports : Nat := 0
  any : Bool := false
  sid : Nat := 0
  payEn : Bool := false
  protoEn : Bool := false
  hist : Nat := 0
  histEn : Bool := false
  job : Nat := 0
  base : Nat := 0
  /-- Sequence numbers of the window that arrived. -/
  seen : List Nat := []
  highest : Option Nat := none
  firstBad : Nat := 0
  bad : Bool := false
  lat : Bool := false
  running : Bool := false
  deriving DecidableEq, Repr

/-- One Fox unit (R522, R539). -/
structure FoxUnit where
  streams : Tbl FoxStream := []
  flows : Tbl FoxFlow := []
  running : Bool := false
  /-- Start time in rack ns of an armed unit (R527). -/
  start : Option Nat := none
  /-- FOX_STOP has been taken and the checkers drain. -/
  settling : Bool := false
  claimed : Option Nat := none
  deriving DecidableEq, Repr

/-- A TEST packet that a port's tap has passed to its Fox unit (R522): the port, the packet, rack time and, where it is valid, domain time
at which its first symbol passed the connector. -/
structure Tap where
  port : Nat := 0
  pkt : Pkt := {}
  now : Nat := 0
  domain : Option Nat := none
  deriving DecidableEq, Repr

/-- An emulated member of the golden session (R532, R533): where it stands, its stream toward the DUT, the receive stream of the DUT's
results, the next chunk and packet to send, one more than H of the newest notice, and the results received. -/
structure Member where
  port : Nat := 0
  rank : Nat := 0
  ep : Nat := 0
  dutPort : Nat := 0
  inc : Nat := 0
  tx : TxStream := {}
  rx : RxStream := {}
  chunk : Nat := 0
  packet : Nat := 0
  h : Nat := 0
  /-- Result bytes received: chunk, offset, bytes. -/
  got : List (Nat × Nat × List Byte) := []
  /-- Chunks whose piece has been judged. -/
  judged : List Nat := []
  deriving DecidableEq, Repr

/-- The golden session (R532–R536). -/
structure GoldenSt where
  en : Bool := false
  stopped : Bool := false
  /-- The parameter words of GOLDEN_SET. -/
  words : List Nat := []
  /-- Rack time in ns at which the session began, and the slot window and class that R532 does not give (free values). -/
  startAt : Nat := 0
  win : Nat := 1
  tc : Nat := 1
  members : List Member := []
  /-- Packets that have arrived on emulated members' ports, with the port. -/
  inbox : List (Nat × Pkt) := []
  /-- Blocks of P1 that the reference claim holds, and their den (R535). -/
  claim : Nat := 0
  claimDen : Nat := 0
  /-- One more than the context number that the reference uses; 0 for none (R535). -/
  ctxNo : Nat := 0
  badChunk : Nat := 0
  badElem : Nat := 0
  expected : Nat := 0
  observed : Nat := 0
  bad : Bool := false
  deriving DecidableEq, Repr

/-- Instrument state. -/
structure InstSt where
  fox : Tbl FoxUnit := []
  taps : List Tap := []
  golden : GoldenSt := {}
  deriving DecidableEq, Repr

end Sys2Proof.Machine
end

