-- ==== Sys2Proof/Machine/StLink.lean ====
section
/-! DEFINITION. State of rack time (R54–R59), lanes and Azain links (R62–R100), the flow control of a link
(R109–R113) and the fabric placement and partition table (R32–R51). -/

namespace Sys2Proof.Machine

/-- Lock states of a lane (R73). -/
inductive LaneLock where
  | hunt
  | test
  | locked
  deriving DecidableEq, Repr

/-- One receive lane with its transmitter's taps (R73, R76, R87, R88). Default: just after entry to HUNT. -/
structure Lane where
  lock : LaneLock := .hunt
  /-- Candidate bit position under test, 0–5,759 (R73). -/
  pos : Nat := 0
  /-- Consecutive valid codewords in TEST (R73). -/
  good : Nat := 0
  /-- Bad flags of the last 64 codewords in LOCKED, newest first (R73). -/
  win : List Bool := []
  /-- The last 58 received scrambled bits, newest in bit 0 (R68). -/
  hist : Nat := 0
  /-- Polarity found inverted in HUNT (R62). -/
  inverted : Bool := false
  /-- Own transmitter taps: pre2, pre1, main, post1, in steps from the preset (R76). -/
  taps : List Int := [0, 0, 0, 0]
  preset : Nat := 0
  /-- STAT this lane last answered (R76, R77). -/
  stat : Nat := 0
  /-- REQ last acted on (R77). -/
  lastReq : Nat := 0
  /-- RX_READY, WIDTH, LANE and GROUP last received (R76). -/
  farReady : Bool := false
  farWidth : Option Nat := none
  farLane : Option Nat := none
  farGroup : Nat := 0
  /-- The lane trains alone, out of the stripe (R87, R88). -/
  solo : Bool := false
  /-- A lane trained alone has passed and soaks (R87). -/
  soaking : Bool := false
  /-- Within the in-service error limit of R63. -/
  errOk : Bool := true
  deriving DecidableEq, Repr

/-- Link states (R74), in the order of LINK.STATUS.STATE (R98). -/
inductive LinkState where
  | disabled
  | hunt
  | eq
  | deskew
  | ident
  | active
  | quarantine
  | down
  deriving DecidableEq, Repr

/-- The identity message of R90 as received. -/
structure Identity where
  versions : Nat := 0
  features : Nat := 0
  serial : Nat := 0
  endpoint : Nat := 0
  port : Nat := 0
  plane : Nat := 0
  role : Nat := 0
  expEndpoint : Nat := 0
  expPort : Nat := 0
  fwLine : Nat := 0
  fwRelease : Nat := 0
  deriving DecidableEq, Repr

/-- A width change in progress (R82–R84). -/
structure WidthChange where
  /-- The mask this side has proposed. -/
  mask : Nat := 0
  /-- A widening of R87 rather than a reduction of R82. -/
  widen : Bool := false
  /-- The agreed mask, once WIDTH_ACK fixes it (R83). -/
  agreed : Option Nat := none
  deriving DecidableEq, Repr

/-- An open timestamp exchange (R58, R81), times modulo 2^48. -/
structure TsExchange where
  t1 : Nat := 0
  t2 : Option Nat := none
  t4 : Nat := 0
  deriving DecidableEq, Repr

/-- A packet arriving on a port (R107, R108): its header as received, the failed header check if one discarded it,
and the held copy it feeds. -/
structure Arrival where
  hdr : Hdr := {}
  discarded : Bool := false
  /-- The counter of R107 (checks 2 to 6) or R589 that the packet counts in once check 1 has passed (log 28). -/
  fail : Option Nat := none
  held : Option Nat := none
  deriving DecidableEq, Repr

/-- One port (R74–R99, R109–R113). Default: as after reset. -/
structure Port where
  st : LinkState := .disabled
  /-- WIDTH, REFMODE, MAX_VER, HEADROOM in effect since the last entry to HUNT (R97, R131). -/
  width : Nat := 2
  refmode : Bool := false
  maxVer : Nat := 2
  headroom : Nat := 2048
  /-- Lanes of the trained width (R78), and the lanes that carry the stripe. -/
  trained : Nat := 0
  active : Nat := 0
  farWidth : Option Nat := none
  ver : Nat := 0
  /-- In routing (R74, R129). -/
  routed : Bool := false
  /-- The newest ROUTING received on the link has ACCEPT = 1 (R129). -/
  accept : Bool := false
  drained : Bool := false
  drainTx : Bool := false
  drainRx : Bool := false
  /-- The 100 ms and 1 s waits of R75. -/
  retryHold : Bool := false
  holdDown : Bool := false
  /-- Times of entry to DOWN that may count toward a hold-down, in ps, newest first (R75). -/
  downs : List Nat := []
  change : Option WidthChange := none
  lastWiden : Option Nat := none
  /-- Egress held by a loss of a lane (R82) or of the link (R89). -/
  egressHeld : Bool := false
  /-- A loss of link not yet recovered; every active lane had lost lock; the identity check of R89 runs. -/
  loss : Bool := false
  allLost : Bool := false
  idCheck : Bool := false
  /-- The far end's identity last received, and whether this side has sent its own after it (R90). -/
  peer : Option Identity := none
  sentAfter : Bool := false
  /-- The matched or accepted far end's identifier (R93), and whether it was accepted. -/
  bound : Option Nat := none
  accepted : Bool := false
  /-- PEER_ID, EXP_ID, PEER_SERIAL, PEER_FEAT (R99). -/
  peerId : Nat := 0
  expId : Nat := 0
  peerSerial : Nat := 0
  peerFeat : Nat := 0
  /-- AUTO_ACCEPT of LINK.CTRL (R93, R96). -/
  autoAccept : Bool := false
  ts : Option TsExchange := none
  /-- The packet being received (R108). -/
  rx : Option Arrival := none
  /-- A codeword of the packet being received was uncorrectable, or an invalid control block fell inside it (R70, R107). -/
  rxBad : Bool := false
  xoffTx : Nat := 0
  xoffRx : Nat := 0
  /-- Bytes of each lossless VC held in the den (R110). -/
  vcBytes : Tbl Nat := []
  /-- Cells of the headroom reserve in use (R112). -/
  headUsed : Nat := 0
  deriving DecidableEq, Repr

/-- Offset, delay and rate last measured on a port (R58), in ps and parts per 10^9. -/
structure PortTime where
  offset : Int := 0
  delay : Int := 0
  rate : Int := 0
  at_ : Nat := 0
  valid : Bool := false
  deriving DecidableEq, Repr

/-- Per direction of R58, R59, R568. -/
structure DirTime where
  offset : Int := 0
  delay : Int := 0
  rate : Int := 0
  good : Nat := 0
  deriving DecidableEq, Repr

/-- Rack time and the TIME block (R54–R61, R568, R569). -/
structure TimeSt where
  /-- Time since the model began, in ps; never stepped. -/
  clock : Nat := 0
  /-- Rack time in ps (R54). -/
  rackPs : Nat := 0
  seen : Bool := false
  missing : Bool := false
  period : Nat := 156250
  /-- The period that governed up to the next pulse (R569: a write governs the following pulse). -/
  load : Nat := 0
  loadPend : Bool := false
  err : Int := 0
  last : Nat := 0
  /-- Rack time in ps that the last pulse set or checked. -/
  lastPs : Nat := 0
  count : Nat := 0
  domainOff : Int := 0
  domainValid : Bool := false
  dirs : Tbl DirTime := []
  ports : Tbl PortTime := []
  deriving DecidableEq, Repr

/-- One entry of PORT_MAP (R406): use 0 down, 1 up, 2 pair or Clos, 3 unused. -/
structure PortUse where
  use : Nat := 3
  dir : Nat := 0
  index : Nat := 0
  expEp : Nat := 0
  expPort : Nat := 0
  deriving DecidableEq, Repr

/-- Identity, torus and port map of the base in effect (R32, R33, R406). -/
structure Place where
  index : Nat := 0
  plane : Nat := 0
  planes : Nat := 1
  /-- 0 leaf, 1 spine (R406). -/
  spine : Bool := false
  paired : Bool := false
  member : Nat := 0
  partner : Nat := 0
  x : Nat := 1
  y : Nat := 1
  rx : Nat := 0
  ry : Nat := 0
  map : List PortUse := []
  peers : Option Nat := none
  deriving DecidableEq, Repr

/-- An entry of the partition table (R45). -/
structure Part where
  w0 : Nat := 0
  w1 : Nat := 0
  w2 : Nat := 0
  w3 : Nat := 0
  deriving DecidableEq, Repr

/-- A partition write that waits for its boundary (R48). -/
structure PartPend where
  entry : Part := {}
  time : Nat := 0
  deriving DecidableEq, Repr

/-- A broken hop named by a ROUTE_NOTICE (R130, R389): axis, direction, the coordinate before the hop, the other coordinate. -/
structure BrokenHop where
  axis : Nat := 0
  dir : Nat := 0
  coord : Nat := 0
  other : Nat := 0
  deriving DecidableEq, Repr

end Sys2Proof.Machine
end

