-- ==== Sys2Proof/Machine/StMem.lean ====
section
/-! DEFINITION. State of the memory tiers (R338–R365): bytes by module offset, write-combining buffers, regions,
channels, interleave sets and temperatures. -/

namespace Sys2Proof.Machine

/-- States of a region (R346), in the order of their codes. -/
inductive RegionState where
  | free
  | wiping
  | ready
  | lost
  deriving DecidableEq, Repr

/-- One region (R345, R365). -/
structure Region where
  state : RegionState := .free
  /-- 0 ACT, 1 WGT, 2 STATE. -/
  type : Nat := 0
  slow : Bool := false
  /-- 0–3 den-local on that den, 4 spread. -/
  place : Nat := 0
  prot : Bool := false
  fabWr : Bool := false
  fabRd : Bool := false
  settWr : Bool := false
  job : Nat := 0
  gen : Nat := 0
  /-- First logical frame of its tier, and the number of frames. -/
  frame : Nat := 0
  frames : Nat := 0
  /-- Physical frames: one per frame, or four per group when spread (R341). -/
  phys : List Nat := []
  /-- The wipe in progress ends in FREE (release) rather than READY (creation, reload). -/
  releasing : Bool := false
  deriving DecidableEq, Repr

/-- One entry of a write-combining buffer (R353): its line (module offset ÷ 64) and the bytes written. -/
structure WcbEntry where
  line : Nat := 0
  bytes : Tbl (Option Byte) := []
  openedAt : Nat := 0
  deriving DecidableEq, Repr

/-- A channel's condition (R364 CHSTAT, R357, R358). Key: 1024 × slow + channel. -/
structure Channel where
  /-- 0 ACTIVE, 1 CALIBRATING, 2 SHORT_RETRAIN, 3 FULL_RETRAIN, 4 FENCED. -/
  st : Nat := 0
  /-- A full retrain forced by the module, rather than commanded. -/
  forced : Bool := false
  /-- Start of the full retrain that holds the queue, in ps. -/
  heldAt : Nat := 0
  /-- Corrected errors in the present second (R352). -/
  ceWindow : Nat := 0
  ueLine : Nat := 0
  /-- Refreshes issued since reset, modulo 2^32 (R357; the model's own count). -/
  refreshes : Nat := 0
  deriving DecidableEq, Repr

/-- A den's tier (R343, R356, R360). Key: 2 × den + slow. -/
structure Tier where
  /-- Channels fenced, as a mask of local channels. -/
  fenced : Nat := 0
  /-- Interleave set size in effect; 0 none. -/
  setN : Nat := 0
  step : Nat := 0
  temp : Nat := 0
  rebuild : Bool := false
  tierFenced : Bool := false
  deriving DecidableEq, Repr

/-- All memory state. -/
structure MemSt where
  /-- Bytes of the two tiers by module offset, write-combining entries apart. -/
  bytes : Tbl Byte := []
  /-- Uncorrectable lines, as module offset ÷ 64 (R350). -/
  ue : List Nat := []
  /-- Entries of all controllers, oldest first. -/
  wcb : List WcbEntry := []
  regions : Tbl Region := []
  chans : Tbl Channel := []
  tiers : Tbl Tier := []
  /-- Lowest logical fast frame of each den's reserved run, and its length (R344). -/
  rsvFrom : Tbl Nat := []
  rsvLen : Tbl Nat := []
  /-- Blocks, pages and spill units that the reserved areas hold, by den (R344, R406). -/
  p1Backing : Tbl Nat := []
  spillUnits : Tbl Nat := []
  /-- Unclean physical frames: 2 × den + slow, frame (R512). -/
  unclean : List (Nat × Nat) := []
  deriving DecidableEq, Repr

end Sys2Proof.Machine
end

