-- ==== Sys2Proof/Machine/StSett.lean ====
section
/-! DEFINITION. State of the Sett cores (R260–R316): local memories, engine queues, completion records, work items, repairs,
the visible-core map, the program store and the bindings. -/

namespace Sys2Proof.Machine

/-- A tensor operand as the vector engine read it when the command was written to its queue (R288, R301): its sixteen words. -/
abbrev Desc := List Nat

/-- A command in an engine's queue with its issue number (R301): its words and, for the vector engine, the five operands'
descriptors, empty where the operand is unused. -/
structure QCmd where
  issue : Nat := 0
  words : List Nat := []
  descs : List Desc := []
  deriving DecidableEq, Repr

/-- A command that an engine executes: its outcome and what it writes in local SRAM when it completes (R266, R301). -/
structure Running where
  cmd : QCmd := {}
  status : Nat := 0
  /-- EMPTY_K, EMPTY_MN, SAT, NAN, OVF of ARRAY_DONE, in bits 0–4 (R284). -/
  flags : Nat := 0
  writes : List (Nat × List Byte) := []
  /-- Vector engine: words W1–W7 of the summary (R298), and the predicate that SETP sets (R298). -/
  summary : List Nat := []
  setp : Option (Nat × Bool) := none
  /-- Bytes moved (R305, MCOMP). -/
  bytes : Nat := 0
  /-- Detected error: the failing row or column (R275, R300). -/
  err : Option Nat := none
  /-- Vectors entered or groups processed (R285, R316). -/
  work : Nat := 0
  /-- Weight panels loaded (R269). -/
  loads : Nat := 0
  deriving DecidableEq, Repr

/-- A work item (R312): open from its posting to its release. -/
structure Item where
  num : Nat := 0
  /-- 1 SEGMENT, 2 TOKEN, 3 LOOKUP, 15 STOP. -/
  kind : Nat := 0
  ctx : Nat := 0
  chunk : Nat := 0
  first : Nat := 0
  count : Nat := 0
  src : Nat := 0
  handle : Nat := 0
  /-- The cells of the request payload that SPACE 3 addresses. -/
  cells : List Byte := []
  deriving DecidableEq, Repr

/-- The weights in the active bank (R269): address, format, mode, K-rows, image. -/
structure Panel where
  addr : Nat := 0
  fmt : Nat := 0
  mode : Nat := 0
  rows : Nat := 0
  bytes : List Byte := []
  deriving DecidableEq, Repr

/-- One spare row (R276, R284). -/
structure Spare where
  row : Nat := 0
  used : Bool := false
  borrowed : Bool := false
  bad : Bool := false
  field : Bool := false
  deriving DecidableEq, Repr

/-- States of a core's program (R315), in the order of PSTAT.STATE. -/
inductive ProgSt where
  | idle
  | loading
  | running
  | waiting
  | exited
  | halted
  deriving DecidableEq, Repr

/-- One physical core. -/
structure SettCore where
  st : ProgSt := .idle
  kind : Nat := 0
  /-- Binding that holds the core and the core's index in it (R312). -/
  binding : Nat := 0
  index : Nat := 0
  /-- Context or table served, where one is. -/
  user : Option Nat := none
  exitCode : Nat := 0
  faultPc : Nat := 0
  faultCause : Nat := 0
  faultTval : Nat := 0
  sram : Tbl Byte := []
  itcm : Tbl Byte := []
  dtcm : Tbl Byte := []
  spill : Tbl Byte := []
  spillMib : Nat := 0
  /-- Program counter, sp and a0–a4 as launched (R312). -/
  pc : Nat := 0
  sp : Nat := 0
  args : List Nat := []
  /-- Stage areas of the engine ports (R305). -/
  aqStage : List Nat := []
  vqStage : List Nat := []
  mqStage : List Nat := []
  outbox : List Nat := []
  arrayQ : List QCmd := []
  vecQ : List QCmd := []
  movQ : List QCmd := []
  array : Option Running := none
  vec : Option Running := none
  mov : Option Running := none
  issue : Nat := 0
  panel : Option Panel := none
  bank : Nat := 0
  pred : Nat := 0
  /-- Completion FIFOs of 16 records (R302), oldest first, and the record areas (R305). -/
  acompQ : List (List Nat) := []
  vsumQ : List (List Nat) := []
  mcompQ : List (List Nat) := []
  acomp : List Nat := []
  vsum : List Nat := []
  mcomp : List Nat := []
  inbox : List Nat := []
  inboxQ : List (List Nat) := []
  /-- Value a POP read last returned: 1, or 0 when its FIFO was empty (R305). -/
  popped : Nat := 0
  items : List Item := []
  nextItem : Nat := 1
  timer : Nat := 0
  timerEv : Bool := false
  /-- EVENT_EN, and one more than the clock at launch, from which CYCLE counts (R305); no row writes EVENT_EN or TIMER, which only the
  control core's program does. -/
  eventEn : Nat := 0
  launchAt : Nat := 0
  /-- STOP has been sent (R313). -/
  stopping : Bool := false
  lastTag : Nat := 0
  lastDone : Nat := 0
  vlast : Nat := 0
  mlast : Nat := 0
  /-- Fenced at the last repair load; waiting for one; takes no binding until it passes R280 (R275, R278, R279). -/
  fenced : Bool := false
  repairPend : Bool := false
  needTest : Bool := false
  lat : Nat := 11
  spares : List Spare := [{}, {}, {}, {}]
  /-- Powered off in TRIM (R497). -/
  gated : Bool := false
  deriving DecidableEq, Repr

/-- One repair (R279): a core's row with the spare that replaces it. -/
structure Repair where
  core : Nat := 0
  row : Nat := 0
  spare : Nat := 0
  deriving DecidableEq, Repr

/-- A loaded program (R311). -/
structure Program where
  job : Nat := 0
  gen : Nat := 0
  present : Bool := false
  image : List Byte := []
  measurement : List Byte := []
  deriving DecidableEq, Repr

/-- States of a PROGRAM binding. -/
inductive BindSt where
  | idle
  | running
  | done
  deriving DecidableEq, Repr

/-- A binding (R312). -/
structure Binding where
  job : Nat := 0
  gen : Nat := 0
  present : Bool := false
  program : Nat := 0
  kind : Nat := 0
  params : List Byte := []
  /-- Visible cores of a PROGRAM, ascending. -/
  cores : List Nat := []
  st : BindSt := .idle
  /-- State and exit code of each core of a PROGRAM after it ended. -/
  ended : List (Nat × ProgSt × Nat) := []
  deriving DecidableEq, Repr

/-- All Sett state. -/
structure SettSt where
  cores : Tbl SettCore := []
  /-- Physical core of visible core v, plus 1; 0 where v does not exist (R281, R286). -/
  vmap : Tbl Nat := []
  visible : Nat := 120
  charAll : Bool := false
  /-- CHAR_ALL as last written in SERVICE, while it waits for its repair load (R283). -/
  charNew : Option Bool := none
  /-- Job that owns visible core v (R393); 0 none. -/
  owner : Tbl Nat := []
  programs : Tbl Program := []
  bindings : Tbl Binding := []
  /-- Factory repairs (fuses) and field repairs (flash record) (R279). -/
  fuse : List Repair := []
  field : List Repair := []
  /-- Spares found bad, as (core, spare), and cores found beyond repair (R277, R278); applied at repair loads. -/
  badSpares : List (Nat × Nat) := []
  fences : List Nat := []
  deriving DecidableEq, Repr

end Sys2Proof.Machine
end

