-- ==== Sys2Proof/Machine/State.lean ====
section
/-! DEFINITION. The state of the block: every register, buffer, queue, counter, mode and pin that the spec gives it,
and the queue of waiting commands. -/

namespace Sys2Proof.Machine

/-- Device states (R377), in the order of their codes. -/
inductive DevState where
  | off
  | boot
  | wipe
  | config
  | ready
  | active
  deriving DecidableEq, Repr

/-- The PCI Express endpoint (R542–R549, R557). Its registers with RW fields and the MSI-X table stand in `regs`. -/
structure HostSt where
  linkUp : Bool := false
  rate : Nat := 0
  width : Nat := 0
  flit : Bool := false
  l0p : Bool := false
  bme : Bool := false
  dstate : Nat := 0
  msixEn : Bool := false
  fmask : Bool := false
  mps : Nat := 128
  mrrs : Nat := 512
  /-- MSI-X pending bits (R547). -/
  pba : Nat := 0
  /-- A 64-bit register read by halves: offset, captured high half, clock of the capture (R561). -/
  capture : Option (Nat × Nat × Nat) := none
  /-- A high half held for the next low-half write: offset and value (R561). -/
  highHeld : Option (Nat × Nat) := none
  /-- I3C address, MCTP endpoint ID, PLDM event receiver (R550, R552). -/
  dynAddr : Option Nat := none
  eid : Nat := 0
  receiver : Option Nat := none
  deriving DecidableEq, Repr

/-- Why the machine stops. -/
inductive Fault where
  /-- Raised by no command of this model: every command has an effect, or none, in every state. Safe. -/
  | none_
  deriving DecidableEq, Repr

/-- Why a command has no meaning. -/
inductive Refusal where
  /-- Raised by exec's arm of a command whose meaning is not written yet. Safe: the machine stops. -/
  | notModelled (mnemonic : String)
  deriving DecidableEq, Repr

structure State where
  /-- The commands that wait, first in, first out. -/
  pending : List Instr := []
  /-- BAR0 words that software writes (RW, W1C), by offset; an unlisted one holds its reset value (R558). -/
  regs : Tbl Nat := []
  /-- Counters by BAR0 offset (R8 RC, and the 64-bit RO counters). -/
  ctrs : Tbl Nat := []
  dev : DevState := .boot
  /-- Variant CK2L rather than CK2F (R1). -/
  ck2l : Bool := false
  time : TimeSt := {}
  lanes : Tbl Lane := []
  ports : Tbl Port := []
  place : Option Place := none
  parts : Tbl Part := []
  partPend : Tbl (Option PartPend) := []
  broken : List BrokenHop := []
  sw : SwitchSt := {}
  st : StreamSt := {}
  flows : List Flow := []
  /-- f_floor of R191 in MHz, as DL_CFG shows it (R200). -/
  floorMhz : Nat := 1000
  inject : Tbl Inject := []
  coll : CollSt := {}
  mem : MemSt := {}
  cmd : CmdSt := {}
  sett : SettSt := {}
  /-- ACCEPT of the ROUTING message (R129, R498). -/
  accepting : Bool := false
  /-- Broken hops for which this leaf has sent a notice (R130): directions. -/
  noticed : List Nat := []
  /-- Serial number of the fuse block and firmware release running (R90, R386). -/
  serial : Nat := 0
  fwRelease : Nat := 0
  faults : FaultSt := {}
  box : BoxSt := {}
  cfg : CfgSt := {}
  sec : SecSt := {}
  power : PowerSt := {}
  pair : PairSt := {}
  inst : InstSt := {}
  host : HostSt := {}
  /-- What has been put out, oldest first. -/
  outs : List Out := []
  /-- Counts the uses of free values (the model's own). -/
  freeCtr : Nat := 0
  deriving DecidableEq, Repr

/-- The pools of the four dens as POOL_SIZE shows them at reset, with the defaults of R406 (R138, R166). -/
def resetPools : Tbl Pool :=
  (List.range 16).map (fun k => (k, { size := [262144, 147456, 4096, 65536].getD (k % 4) 0 }))

/-- VMAP at reset: visible core v on physical core 32 × (v ÷ 30) + v mod 30, plus 1 (R281, R286). -/
def startMap : Tbl Nat := (List.range 120).map (fun v => (v, 32 * (v / 30) + v % 30 + 1))

/-- The machine right after power-on (R505, R520): in BOOT, every register at its reset value (`regs` and `ctrs` list nothing). -/
def State.reset : State := { sw := { pools := resetPools }, sett := { vmap := startMap } }

end Sys2Proof.Machine
end

