-- ==== Sys2Proof/Machine/Ops.lean ====
section
/-! DEFINITION. Named operations over the whole state: registers, counters with their summary counters (R10, R100,
R572), free values, outputs, time (R54), MSI-X and host writes (R546–R548), and an event of a fault source (R442–R447). -/

namespace Sys2Proof.Machine

/-- The word software last set at BAR0 offset `a`, or its reset value (R8, R562). -/
def State.reg (s : State) (a : Nat) : Nat := Tbl.get (resetWord a) s.regs a

/-- The word at `a` becomes `v`. -/
def State.setReg (s : State) (a v : Nat) : State := { s with regs := Tbl.put (resetWord a) s.regs a v }

/-- Field of `n` bits from bit `lo` of the word at `a`. -/
def State.fld (s : State) (a lo n : Nat) : Nat := bits (s.reg a) lo n

/-- The field of `n` bits from bit `lo` of the word at `a` becomes `v`. -/
def State.setFld (s : State) (a lo n v : Nat) : State := s.setReg a (setBits (s.reg a) lo n v)

/-- Counter at BAR0 offset `a`. -/
def State.ctr (s : State) (a : Nat) : Nat := Tbl.get 0 s.ctrs a

/-- The counter at `a` becomes `v`. -/
def State.setCtr (s : State) (a v : Nat) : State := { s with ctrs := Tbl.put 0 s.ctrs a v }

/-- A summary counter of DET counts `n` more, modulo 2^64 (R572). -/
def State.bumpSum (s : State) (i n : Nat) : State :=
  s.setCtr (baseDet + 0x10000 + 8 * i) ((s.ctr (baseDet + 0x10000 + 8 * i) + n) % 2 ^ 64)

/-- The summary counter of unit counter `a` counts `n` more, where it has one (R572). -/
def State.bumpSumOf (s : State) (a n : Nat) : State :=
  match sumIndex a with
  | some i => s.bumpSum i n
  | none => s

/-- A 32-bit saturating counter counts `n` more (R10, R100), and so does its summary counter. -/
def State.bumpBy (s : State) (a n : Nat) : State := (s.setCtr a (sat32 (s.ctr a + n))).bumpSumOf a n

/-- A 32-bit saturating counter counts one more. -/
def State.bump (s : State) (a : Nat) : State := s.bumpBy a 1

/-- A 64-bit free-running counter counts `n` more (R100). -/
def State.bump64 (s : State) (a n : Nat) : State := (s.setCtr a ((s.ctr a + n) % 2 ^ 64)).bumpSumOf a n

/-- A counter that holds a maximum (R184, R166) takes `v`. -/
def State.maxCtr (s : State) (a v : Nat) : State := s.setCtr a (max (s.ctr a) v)

/-- A link counter of port `p` counts one more (R100, R132, R170, R201). -/
def State.bumpLink (s : State) (p o : Nat) : State := s.bump (linkReg p o)

/-- The transmitter of port `p` sends nothing that the far end can decode: an injection of invalid sync headers or of silence (R537). -/
def State.mute (s : State) (p : Nat) : Bool := let k := (Tbl.get ({} : Inject) s.inject p).kind; k == 2 || k == 8

/-- Something is put out. -/
def State.emit (s : State) (o : Out) : State :=
  let silent := match o with
    | .lm p _ _ => s.mute p
    | .ts l _ => s.mute (l / 4)
    | .abort p _ => s.mute p
    | _ => false
  if silent then s else { s with outs := s.outs ++ [o] }

/-- The next free value (log 6). -/
def State.free (s : State) : Nat := Config.freeNat s.freeCtr

/-- A free value has been used. -/
def State.used (s : State) : State := { s with freeCtr := s.freeCtr + 1 }

/-- Rack time in ns, as TIME.NOW shows it (R54). -/
def State.now (s : State) : Nat := s.time.rackPs / 1000 % 2 ^ 64

/-- Domain time in ns: rack time plus DOMAIN_OFFSET, rounded to the nearest ns (R59, R568). -/
def State.domainNow (s : State) : Nat := ((((s.time.rackPs : Int) + s.time.domainOff + 500) / 1000) % (2 ^ 64 : Nat)).toNat

/-- Clock of the model in ps. -/
def State.clk (s : State) : Nat := s.time.clock

/-- 1 µs in ps. -/
def us : Nat := 1000000
/-- 1 ms in ps. -/
def ms : Nat := 1000000000

/-! ## Host interface -/

/-- The module may master the host bus (R546). -/
def State.canMaster (s : State) : Bool := s.host.linkUp && s.host.bme && s.host.dstate == 0

/-- Vector `v` is masked, by the function mask or by its own (R547). -/
def State.vecMasked (s : State) (v : Nat) : Bool := s.host.fmask || bit (s.reg (0x800000 + 16 * v + 12)) 0

/-- An MSI-X message is raised on vector `v`: sent, or its pending bit set while masked (R547). -/
def State.signal (s : State) (v : Nat) : State :=
  if !s.host.msixEn then s
  else if s.vecMasked v then { s with host := { s.host with pba := s.host.pba ||| 2 ^ v } }
  else if s.canMaster then s.emit (.msix v)
  else s

/-- A posted write to host memory, or its discard counted in REPLY_DROP (R546, R548). -/
def State.hostWrite (s : State) (addr : Nat) (l : List Byte) : State :=
  if s.canMaster then (s.emit (.hostWrite addr l)).bump64 (baseCmd + 0x418) l.length
  else s.bump (baseCmd + 0x428)

/-! ## Fault events -/

/-- FSW of word `w` (R439). -/
def State.fsw (s : State) (w : Nat) : Nat := Tbl.get 0 s.faults.fsw w

/-- MASK of word `w` (R447, R462). -/
def State.maskW (s : State) (w : Nat) : Nat := s.reg (faultReg w 8) + s.reg (faultReg w 12) * 2 ^ 32

/-- Source `i` of word `w` is masked (R447). -/
def State.masked (s : State) (w i : Nat) : Bool := (s.maskW w).testBit i && !sourceLocked w i

/-- CLASS of a source in effect (R446). -/
def State.classOf (s : State) (w i : Nat) : Nat := s.fld (faultReg w (0x40 + 4 * i)) 0 3

/-- Unmasked set bits of word `w`. -/
def State.unmaskedSet (s : State) (w : Nat) : List Nat := below 64 (fun i => (s.fsw w).testBit i && !s.masked w i)

/-- Highest class among unmasked set bits (SUMMARY.TOP, R463). -/
def State.topClass (s : State) : Nat :=
  (List.range 5).foldl (fun m w => (s.unmaskedSet w).foldl (fun m i => max m (s.classOf w i)) m) 0

/-- FAULT_N is low: some unmasked set bit has a class of at least PIN_MIN (R457). -/
def State.faultLow (s : State) : Bool :=
  (List.range 5).any (fun w => (s.unmaskedSet w).any (fun i => s.fld (baseFault + 0x2008) 0 3 ≤ s.classOf w i))

/-- A change of FAULT_N against the state before is put on the pin (R457). -/
def State.pinFrom (s' s : State) : State := if s'.faultLow = s.faultLow then s' else s'.emit (.pin 0 (!s'.faultLow))

/-- DEGRADE acts on units of this kind (R445). -/
def degradeKind : UnitKind → Bool
  | .core => true
  | .buffer => true
  | .pool => true
  | .phase => true
  | _ => false

/-- FENCE acts on units of this kind (R445). -/
def fenceKind : UnitKind → Bool
  | .core => true
  | .fastCh => true
  | .slowCh => true
  | .module => true
  | .tier => true
  | .slice => true
  | _ => false

/-- The class that an event's record carries: the highest one not above its source's class that finds something to act
on (R444, R445, R447). -/
def appliedClass (cls : Nat) (masked : Bool) (paired : Bool) (e : Event) : Nat :=
  let c := if masked then 0 else cls
  let job := match e.job with | some j => decide (j ≠ 0) | none => false
  if c = clsReset then clsReset
  else if c = clsHalt && job && !e.forced then clsHalt
  else if clsFence ≤ c && fenceKind e.kind && !e.forced && (e.kind != .module || paired) then clsFence
  else if clsDegrade ≤ c && degradeKind e.kind && !e.forced then clsDegrade
  else clsLog

/-- Key of the record limit of R442. -/
def lastKey (e : Event) : Nat := 2 ^ 20 * (64 * e.word + e.source) + 2 ^ 16 * (match e.kind with | .none_ => 0 | _ => 1) + e.unit % 2 ^ 16

/-- The record of an event (R453). -/
def recordOf (s : State) (e : Event) (cls : Nat) : Record :=
  { source := e.source, den := if e.word < 4 then e.word else 0, module := e.word == 4, cls := cls, masked := s.masked e.word e.source,
    forced := e.forced, accepted := e.accepted, job := e.job, ctx := e.ctx, fseq := s.faults.fseq, time := s.now, unit := e.unit,
    kind := e.kind, status := e.status, cause := e.cause, addr := e.addr, detail := e.detail }

/-- The record is written to the log and, unless frozen, to Owl's ring (R455, R459, R460). -/
def State.writeRecord (s : State) (r : Record) : State :=
  { s with faults := { s.faults with ring := (r :: s.faults.ring).take 256, fseq := (s.faults.fseq + 1) % 2 ^ 32 },
           box := if s.box.frozen then s.box else { s.box with owl := (r :: s.box.owl).take 64 } }

/-- The interrupt of R456 for a record of class `cls`. -/
def State.recordIrq (s : State) (cls : Nat) (masked : Bool) : State :=
  let a := baseFault + 0x2004
  if s.fld a 0 1 = 1 && !masked && s.fld a 8 3 ≤ cls then
    if s.faults.holdoff then { s with faults := { s.faults with irqWait := true } }
    else { (s.signal (s.fld a 1 6)) with faults := { s.faults with holdoff := true } }
  else s

/-- The start of a black-box event: FATAL_N low, Owl's ring frozen, the reason noted (R460, R457). -/
def State.boxEvent (s : State) (pf : Bool) (src : Option (Nat × Nat)) : State :=
  let b := s.box
  match b.stage with
  | .idle =>
    let s := if s.faults.fatal then s else { (s.emit (.pin 1 false)) with faults := { s.faults with fatal := true } }
    { s with box := { b with frozen := true, stage := .waitCapture, pfWarn := pf, resetFault := src.isSome, reason := src } }
  | .waitCapture =>
    { s with box := { b with pfWarn := b.pfWarn || pf, resetFault := b.resetFault || src.isSome,
                             reason := if b.reason.isSome then b.reason else src } }
  | .writing => s

/-- An event of an existing source: bit, FIRST, count, record or SUPPRESSED, interrupt, pin, and the reaction owed
(R442–R447, R456, R457). A MODULE_RESET reaction starts the sequence of R460 at once. -/
def State.event (s : State) (e : Event) : State :=
  if !sourceExists e.word e.source then s
  else
    let s0 := s
    let paired := match s.place with | some p => p.paired | none => false
    let msk := s.masked e.word e.source
    let cls := appliedClass (s.classOf e.word e.source) msk paired e
    let old := s.fsw e.word
    let s := { s with faults := { s.faults with
                fsw := Tbl.put 0 s.faults.fsw e.word (old ||| 2 ^ e.source),
                first := if old = 0 then Tbl.put 0 s.faults.first e.word (e.source + 64) else s.faults.first } }
    let s := s.bump (faultReg e.word (0x200 + 4 * e.source))
    let k := lastKey e
    let last := Tbl.get 0 s.faults.lastRec k
    let s :=
      if last ≠ 0 && s.clk < last - 1 + 10 * us then s.bump (baseFault + 0x2014)
      else
        let s := { s with faults := { s.faults with lastRec := Tbl.put 0 s.faults.lastRec k (s.clk + 1) } }
        (s.writeRecord (recordOf s e cls)).recordIrq cls msk
    let s := s.pinFrom s0
    if cls = clsReset then s.boxEvent (e.word = 4 && e.source = mPfWarn && !e.forced) (some (e.word, e.source))
    else if cls = clsLog then s
    else { s with faults := { s.faults with
            owed := s.faults.owed ++ [{ cls := cls, unit := e.unit, kind := e.kind, job := e.job, word := e.word, source := e.source, addr := e.addr }] } }

/-- An E source of a den has an event. -/
def State.raiseDen (s : State) (d src : Nat) : State := s.event { word := d, source := src }

/-- An E source of a den has an event that names a port (R453). -/
def State.raisePort (s : State) (p src : Nat) : State := s.event { word := p / 48, source := src, unit := p, kind := .port }

/-- An E source of the module has an event. -/
def State.raiseMod (s : State) (src : Nat) : State := s.event { word := 4, source := src }

/-- Units in the condition of an L source. -/
def State.condUnits (s : State) (w src : Nat) : List Nat := Tbl.get [] s.faults.conds (64 * w + src)

/-- The condition of an L source begins on a unit; while it lasts no further event is counted (R442). -/
def State.condBegin (s : State) (e : Event) : State :=
  let u := s.condUnits e.word e.source
  if e.unit ∈ u then s
  else
    let s := { s with faults := { s.faults with conds := Tbl.put [] s.faults.conds (64 * e.word + e.source) (e.unit :: u) } }
    s.event e

/-- The condition of an L source ends on a unit. The bit stays until software clears it (R443). -/
def State.condEnd (s : State) (w src unit : Nat) : State :=
  { s with faults := { s.faults with
      conds := Tbl.put [] s.faults.conds (64 * w + src) ((s.condUnits w src).filter (· != unit)) } }

/-- Software clears bits of FSW of word `w` (R443, R10): an L source whose condition persists is set again in the next
cycle, counting nothing; FIRST is invalid once the word reads 0. -/
def State.fswClear (s : State) (w m : Nat) : State :=
  let s0 := s
  let keep := maskOf 64 (fun i => (s.fsw w).testBit i && (!m.testBit i || !(s.condUnits w i).isEmpty))
  let s := { s with faults := { s.faults with
      fsw := Tbl.put 0 s.faults.fsw w keep,
      first := if keep = 0 then Tbl.put 0 s.faults.first w 0 else s.faults.first,
      degraded := s.faults.degraded.filter (fun x => x.2 / 64 != w || keep.testBit (x.2 % 64)) } }
  s.pinFrom s0

end Sys2Proof.Machine
end

