-- ==== Sys2Proof/Machine/Pools.lean ====
section
/-! DEFINITION. Ports and lanes by number (R11, R12), flow control toward the neighbour (R110–R113), and the buffer
pool manager: sizes, levels and their actions, ALLOC, FREE and reference counts, chains of P0 cells (R138–R146). -/

namespace Sys2Proof.Machine

/-- Lane `l` (R62). -/
def State.lane (s : State) (l : Nat) : Lane := Tbl.get {} s.lanes l
/-- Lane `l` becomes `x`. -/
def State.setLane (s : State) (l : Nat) (x : Lane) : State := { s with lanes := Tbl.put {} s.lanes l x }
/-- Port `p` (R74). -/
def State.port (s : State) (p : Nat) : Port := Tbl.get {} s.ports p
/-- Port `p` becomes `x`. -/
def State.setPort (s : State) (p : Nat) (x : Port) : State := { s with ports := Tbl.put {} s.ports p x }

/-- The den of a port (R11). -/
def denOf (p : Nat) : Nat := p / 48

/-- Ports of den `d`. -/
def portsOf (d : Nat) : List Nat := (List.range 48).map (fun i => 48 * d + i)

/-- All ports. -/
def allPorts : List Nat := List.range 192

/-! ## Pool levels -/

/-- Pool `p` of den `d` (R138). -/
def State.pool (s : State) (d p : Nat) : Pool := Tbl.get {} s.sw.pools (4 * d + p)
/-- The pool becomes `x`. -/
def State.setPool (s : State) (d p : Nat) (x : Pool) : State :=
  { s with sw := { s.sw with pools := Tbl.put {} s.sw.pools (4 * d + p) x } }

/-- Reserved buffers counted out of the shared size: headroom cells of the den's ports and the TC1 reserve (R144). -/
def State.poolRsv (s : State) (d p : Nat) : Nat :=
  (s.pool d p).tc1Rsv + (if p = 0 then (portsOf d).foldl (fun n q => n + (s.port q).headroom) 0 else 0)

/-- The shared size S (R144). -/
def State.poolS (s : State) (d p : Nat) : Nat := (s.pool d p).size - (s.pool d p).quar.length - s.poolRsv d p

/-- The occupancy: buffers allocated outside the reserves (R144). -/
def State.poolOcc (s : State) (d p : Nat) : Nat := (s.pool d p).used + (s.pool d p).alloc.length

/-- The three thresholds in percent: WARN, BACKPRESSURE, CRITICAL (R144, R166). -/
def State.poolTh (s : State) (d p : Nat) : List Nat :=
  let a := swReg d (0x20 * p + 4)
  [s.fld a 0 7, s.fld a 8 7, s.fld a 16 7]

/-- A level holds: entered at floor(S × th ÷ 100), left below floor(S × (th − 2) ÷ 100) (R144). -/
def levelHolds (sz occ th cur l : Nat) : Bool :=
  decide (sz * th / 100 ≤ occ) || (decide (l ≤ cur) && decide (sz * (th - 2) / 100 ≤ occ))

/-- The level for shared size `sz`, occupancy, thresholds, size less quarantined buffers, and the level before (R144). -/
def levelFor (sz occ : Nat) (th : List Nat) (live cur : Nat) : Nat :=
  if live = 0 then 0
  else if sz = 0 then 3
  else if levelHolds sz occ (th.getD 2 95) cur 3 then 3
  else if levelHolds sz occ (th.getD 1 85) cur 2 then 2
  else if levelHolds sz occ (th.getD 0 70) cur 1 then 1
  else 0

/-- The FC_STATE mask that a port sends: its XOFF state and what an injection ORs into it (R110, R537). -/
def State.fcMask (s : State) (p : Nat) : Nat :=
  let i := Tbl.get {} s.inject p
  (s.port p).xoffTx ||| (if i.kind = 7 then i.mask else 0)

/-- Bytes that regulating policers hold at port `p` (R180). -/
def State.heldBytes (s : State) (p : Nat) : Nat :=
  s.sw.held.foldl (fun n h => if h.policer.isSome && h.origin == .port p then n + h.pkt.hdr.bytesTotal else n) 0

/-- VC `v` of port `p` is to be stopped (R110, R180): its bytes at XOFF_TH, or not yet below XON_TH; P0 or P3 at
BACKPRESSURE; or the bytes held by a regulating policer beyond XOFF_TH on VC2 and VC3. -/
def State.vcStop (s : State) (p v : Nat) : Bool :=
  let x := s.port p
  let a := linkReg p 0x40
  let b := Tbl.get 0 x.vcBytes v
  let th := s.fld a 0 12 * 65536
  let on := s.fld a 12 12 * 65536
  let bp := decide (2 ≤ (s.pool (denOf p) 0).level) || decide (2 ≤ (s.pool (denOf p) 3).level)
  let reg := (v == 2 || v == 3) && decide (th < s.heldBytes p)
  bp || reg || decide (th ≤ b) || (x.xoffTx.testBit v && decide (on ≤ b))

/-- The mask of port `p` is judged again; a change is signalled in each of the next two codeword groups (R110, R111). -/
def State.updXoff (s : State) (p : Nat) : State :=
  let x := s.port p
  let m := maskOf 6 (s.vcStop p)
  if m = x.xoffTx then s
  else
    let s := s.setPort p { x with xoffTx := m }
    if x.st = .active then (s.emit (.lm p 0x01 (s.fcMask p))).emit (.lm p 0x01 (s.fcMask p)) else s

/-- The masks of a den's ports are judged again. -/
def State.updXoffDen (s : State) (d : Nat) : State := (portsOf d).foldl (fun s p => s.updXoff p) s

/-- One level of a pool is entered: its event bit and POOL_LEVEL (R145, R454). -/
def State.enterLevel (s : State) (d p l : Nat) : State :=
  let x := s.pool d p
  (s.setPool d p { x with events := x.events ||| 2 ^ (3 + l) }).event
    { word := d, source := fPoolLevel, unit := 4 * d + p, kind := .pool, detail := [l] }

/-- The level of a pool is judged again, with the events of the levels entered and the XOFF of R110 (R144, R145). -/
def State.relevel (s : State) (d p : Nat) : State :=
  let x := s.pool d p
  let occ := s.poolOcc d p
  let s := s.maxCtr (swReg d (0x20 * p + 0x0C)) occ
  let l := levelFor (s.poolS d p) occ (s.poolTh d p) (x.size - x.quar.length) x.level
  if l = x.level then s
  else
    let s := s.setPool d p { x with level := l }
    let s := (below 4 (fun k => decide (x.level < k) && decide (k ≤ l))).foldl (fun s k => s.enterLevel d p k) s
    if p = 0 || p = 3 then s.updXoffDen d else s

/-- Buffers free in the pool, outside the reserves. -/
def State.poolFree (s : State) (d p : Nat) : Nat := s.poolS d p - s.poolOcc d p

/-- An allocation found no free buffer: EMPTY_EV (R166). -/
def State.poolEmpty (s : State) (d p : Nat) : State := s.setPool d p { s.pool d p with events := (s.pool d p).events ||| 2 ^ 7 }

/-! ## The four operations on a named buffer -/

/-- Size of a buffer of each pool in bytes (R138). -/
def bufSize (p : Nat) : Nat := if p = 0 then 256 else if p = 3 then 65536 else 4096

/-- A handle: [31:28] POOL, [27:26] DEN, [25:0] INDEX (R138). -/
def handleOf (p d i : Nat) : Nat := p * 2 ^ 28 + d * 2 ^ 26 + i

/-- A refused operation: BPM_ERR, BPM_ERR_INFO and the fault of the failed check (R139, R140, R167). -/
def State.bpmRefuse (s : State) (d check op h : Nat) (acts : Bool) : State :=
  let info := check + op * 8
  let s := (s.setReg (swReg d 0x80) h).setReg (swReg d 0x84) info
  let src := if check = 1 || check = 2 then fBpmRange else if check = 3 then fBpmAlign else if check = 4 then fBpmUnalloc else fBpmRefcnt
  s.event { word := d, source := src, unit := bits h 0 8, kind := if acts then .buffer else .none_, addr := h, detail := [info] }

/-- The handle that a name denotes in the manager of den `d`, and whether an address is aligned (R139 check 3). An address
names a byte of the pool's area, counted from the area's first byte. -/
def bufHandle (d : Nat) : BufName → Nat × Bool
  | .handle h => (h, true)
  | .address p a => (handleOf p d (a / bufSize p), a % bufSize p == 0)

/-- The first failing check of R139 for FREE (1), REF_INC (2) or REF_DEC (3) of a named buffer. -/
def State.bpmCheck (s : State) (d op : Nat) (b : BufName) : Option Nat :=
  let h := (bufHandle d b).1
  let p := h / 2 ^ 28
  let i := h % 2 ^ 26
  if 4 ≤ p || bits h 26 2 ≠ d then some 1
  else if (s.pool d p).size ≤ i then some 2
  else if !(bufHandle d b).2 then some 3
  else if Tbl.get 0 (s.pool d p).alloc i = 0 then some 4
  else if op = 2 && Tbl.get 0 (s.pool d p).alloc i = 255 then some 5
  else none

/-- A buffer leaves the pool's allocated set and may be handed out from the next cycle on (R141). -/
def State.bufFree (s : State) (d p i : Nat) : State :=
  let x := s.pool d p
  let old := if x.freedAt = s.clk then x.freed else []
  (s.setPool d p { x with alloc := Tbl.put 0 x.alloc i 0, freed := i :: old, freedAt := s.clk }).relevel d p

/-- ALLOC (R139, R141, R144): which free buffer is handed out is a free value; at P3 CRITICAL no page is allocated (R145). -/
def State.bpmAlloc (s : State) (d p reqDen : Nat) : State :=
  if 4 ≤ p || reqDen ≠ d then s.bpmRefuse d 1 0 (handleOf p reqDen 0) true
  else
    let x := s.pool d p
    let gone := x.quar.length + x.alloc.length + (if x.freedAt = s.clk then x.freed.length else 0)
    if (p = 3 && x.level = 3) || s.poolFree d p = 0 || x.size ≤ gone then
      s.poolEmpty d p
    else
      -- the free value is moved on past buffers that may not be handed out
      let bad := fun i => Tbl.get 0 x.alloc i != 0 || x.quar.contains i || (x.freedAt == s.clk && x.freed.contains i)
      let start := s.free % x.size
      let i := (List.range (gone + 1)).foldl (fun i _ => if bad i then (i + 1) % x.size else i) start
      (s.used.setPool d p { x with alloc := Tbl.put 0 x.alloc i 1 }).relevel d p

/-- FREE, REF_INC, REF_DEC of a named buffer (R139–R143): op 1, 2, 3. FREE of a P0 chain is a decrement of its count (R142). -/
def State.bpmOp (s : State) (d op : Nat) (b : BufName) : State :=
  let h := (bufHandle d b).1
  match s.bpmCheck d op b with
  | some c => s.bpmRefuse d c op h true
  | none =>
    let p := h / 2 ^ 28
    let i := h % 2 ^ 26
    let x := s.pool d p
    let n := Tbl.get 0 x.alloc i
    if op = 2 then s.setPool d p { x with alloc := Tbl.put 0 x.alloc i (n + 1) }
    else if op = 3 && 1 < n then s.setPool d p { x with alloc := Tbl.put 0 x.alloc i (n - 1) }
    else s.bufFree d p i

/-- A DEGRADE of the manager quarantines the buffer (R140). -/
def State.quarantine (s : State) (h : Nat) : State :=
  let p := h / 2 ^ 28
  let d := bits h 26 2
  let i := h % 2 ^ 26
  let x := s.pool d p
  if x.quar.contains i || 4 ≤ p || x.size ≤ i then s
  else (s.setPool d p { x with quar := i :: x.quar }).relevel d p

/-! ## Chains of P0 cells -/

/-- Chain `c` of P0 cells. -/
def State.chain (s : State) (c : Nat) : Chain := Tbl.get {} s.sw.chains c
/-- The chain becomes `x`. -/
def State.setChain (s : State) (c : Nat) (x : Chain) : State :=
  { s with sw := { s.sw with chains := Tbl.put {} s.sw.chains c x } }

/-- Cells of the pool's shared part taken or given back. -/
def State.poolUse (s : State) (d p : Nat) (n : Nat) : State :=
  let x := s.pool d p
  (s.setPool d p { x with used := x.used + n }).relevel d p
/-- Cells given back to the shared part. -/
def State.poolGive (s : State) (d p : Nat) (n : Nat) : State :=
  let x := s.pool d p
  (s.setPool d p { x with used := x.used - n }).relevel d p

/-- How `n` more cells of a chain are drawn, each from the first of its sources that has a free cell (R146): from the TC1
reserve (TC1 only), from the shared part, then from the headroom of port `hp` (received TC0, TC2 and TC3 only). -/
def State.cellSplit (s : State) (d n tc : Nat) (hp : Option Nat) : Option (Nat × Nat × Nat) :=
  let x := s.pool d 0
  let t := if tc = 1 then min n (x.tc1Rsv - x.tc1Used) else 0
  let sh := min (n - t) (s.poolFree d 0)
  let rest := n - t - sh
  match hp with
  | some p =>
    if tc = 1 then (if rest = 0 then some (t, sh, 0) else none)
    else if rest ≤ (s.port p).headroom - (s.port p).headUsed then some (t, sh, rest) else none
  | none => if rest = 0 then some (t, sh, 0) else none

/-- Chain `c` takes `n` more cells, or none when a cell finds no source (R146). -/
def State.chainTake (s : State) (c d n tc : Nat) (hp : Option Nat) : Option State :=
  match s.cellSplit d n tc hp with
  | none => none
  | some (t, sh, h) =>
    let ch := s.chain c
    let x := s.pool d 0
    let s := s.setPool d 0 { x with tc1Used := x.tc1Used + t, used := x.used + sh }
    let s := match hp with
      | some p => if h = 0 then s else s.setPort p { s.port p with headUsed := (s.port p).headUsed + h }
      | none => s
    let s := s.setChain c { ch with den := d, tc1 := ch.tc1 + t, shared := ch.shared + sh, head := ch.head + h,
                                    headPort := hp.getD ch.headPort, refs := max ch.refs 1 }
    some (s.relevel d 0)

/-- Every cell of a chain returns to where it came from (R142). -/
def State.chainFree (s : State) (c : Nat) : State :=
  let ch := s.chain c
  let x := s.pool ch.den 0
  let s := s.setPool ch.den 0 { x with tc1Used := x.tc1Used - ch.tc1, used := x.used - ch.shared }
  let s := if ch.head = 0 then s
           else s.setPort ch.headPort { s.port ch.headPort with headUsed := (s.port ch.headPort).headUsed - ch.head }
  (s.setChain c {}).relevel ch.den 0

/-- A copy is made: the chain's count rises by one (R142). -/
def State.chainRef (s : State) (c : Nat) : State := s.setChain c { s.chain c with refs := (s.chain c).refs + 1 }

/-- The chain of den `d` that copies of multicast `m` share there (R151), where it holds one and its count can rise. -/
def State.mcChain (s : State) (d m : Nat) : Option Nat :=
  if m = 0 then none
  else (s.sw.chains.find? (fun e => e.2.mc == m && e.2.den == d && decide (0 < e.2.refs) && decide (e.2.refs < 255))).map (·.1)

/-- A chain becomes the one that copies of multicast `m` share. -/
def State.mcMark (s : State) (c m : Nat) : State := if m = 0 then s else s.setChain c { s.chain c with mc := m }

/-- A copy is sent or dropped: the count falls by one, and the chain is freed when it reaches zero (R142, R143). -/
def State.chainUnref (s : State) (c : Nat) : State :=
  let ch := s.chain c
  if ch.refs ≤ 1 then s.chainFree c else s.setChain c { ch with refs := ch.refs - 1 }

end Sys2Proof.Machine
end

