-- ==== Sys2Proof/Machine/Mem.lean ====
section
/-! DEFINITION. Module memory: the address map and interleave (R340–R343), regions and the check of an access (R345–R347),
uncorrectable lines (R349–R351) and the write-combining buffers (R353, R354). -/

namespace Sys2Proof.Machine

/-- First offset of the slow tier (R340). -/
def slowBase : Nat := 0x010000000000
/-- First offset of the Sett windows (R340). -/
def settBase : Nat := 0x080000000000
/-- A frame of 64 MiB (R341). -/
def frameSize : Nat := 2 ^ 26

/-- Logical frames of a tier (R340). -/
def State.tierFrames (s : State) (slow : Bool) : Nat := if slow then (if s.ck2l then 8192 else 32768) else 4096
/-- Channels of a den's tier (R338). -/
def State.tierChans (s : State) (slow : Bool) : Nat := if slow then (if s.ck2l then 8 else 32) else 64
/-- Frames of one channel: 1 GiB fast, 16 GiB slow (R338). -/
def chanFrames (slow : Bool) : Nat := if slow then 256 else 16
/-- Allowed set sizes (R343). -/
def State.setSizes (s : State) (slow : Bool) : List Nat :=
  if slow then (if s.ck2l then [8, 6, 4] else [32, 30, 28, 24, 16]) else [64, 60, 56, 48, 32]

/-- The tier and offset within it of a module offset, where a tier holds it (R340). -/
def State.tierOf (s : State) (o : Nat) : Option (Bool × Nat) :=
  if o < s.tierFrames false * frameSize then some (false, o)
  else if slowBase ≤ o && o < slowBase + s.tierFrames true * frameSize then some (true, o - slowBase)
  else none

/-- Key of a den's tier. -/
def tierKey (d : Nat) (slow : Bool) : Nat := 2 * d + b2n slow
/-- A den's tier. -/
def State.tier (s : State) (d : Nat) (slow : Bool) : Tier := Tbl.get {} s.mem.tiers (tierKey d slow)
/-- The tier becomes `x`. -/
def State.setTier (s : State) (d : Nat) (slow : Bool) (x : Tier) : State :=
  { s with mem := { s.mem with tiers := Tbl.put {} s.mem.tiers (tierKey d slow) x } }
/-- Channel `c` of a tier, module-wide number. -/
def State.chan (s : State) (slow : Bool) (c : Nat) : Channel := Tbl.get {} s.mem.chans (1024 * b2n slow + c)
/-- The channel becomes `x`. -/
def State.setChan (s : State) (slow : Bool) (c : Nat) (x : Channel) : State :=
  { s with mem := { s.mem with chans := Tbl.put {} s.mem.chans (1024 * b2n slow + c) x } }
/-- Region `i`. -/
def State.region (s : State) (i : Nat) : Region := Tbl.get {} s.mem.regions i
/-- Region `i` becomes `x`. -/
def State.setRegion (s : State) (i : Nat) (x : Region) : State :=
  { s with mem := { s.mem with regions := Tbl.put {} s.mem.regions i x } }

/-- The interleave set of a den's tier: its lowest-numbered n healthy local channels (R343). -/
def State.chanSet (s : State) (d : Nat) (slow : Bool) : List Nat :=
  let t := s.tier d slow
  (below (s.tierChans slow) (fun c => !t.fenced.testBit c)).take t.setN

/-- The set size for a number of healthy channels: the largest allowed one not above it, 0 when none is (R343, R361). -/
def State.setFor (s : State) (slow : Bool) (healthy : Nat) : Nat := ((s.setSizes slow).find? (· ≤ healthy)).getD 0

/-- Physical frames of a den's tier (R343). -/
def State.physFrames (s : State) (d : Nat) (slow : Bool) : Nat := (s.tier d slow).setN * chanFrames slow

/-- First module offset of a region (R365 RBASE). -/
def Region.base (r : Region) : Nat := (if r.slow then slowBase else 0) + r.frame * frameSize
/-- Bytes of a region. -/
def Region.size (r : Region) : Nat := r.frames * frameSize

/-- The region that holds offset `o`, by index. -/
def State.regionAt (s : State) (o : Nat) : Option Nat :=
  (s.mem.regions.find? (fun e => e.2.state ≠ .free && e.2.base ≤ o && o < e.2.base + e.2.size)).map (·.1)

/-- The handle of region `i` (R345). -/
def State.regionHandle (s : State) (i : Nat) : Nat := i + (s.region i).job * 2 ^ 12 + (s.region i).gen * 2 ^ 24

/-- The live region that a handle names; a stale handle names none (R345). -/
def State.regionOf (s : State) (h : Nat) : Option Nat :=
  let i := h % 4096
  if (s.region i).state ≠ .free && s.regionHandle i = h then some i else none

/-- The den whose reserved run holds logical fast frame `f` (R344). -/
def State.rsvDen (s : State) (f : Nat) : Option Nat :=
  [0, 1, 2, 3].find? (fun d => Tbl.get 0 s.mem.rsvFrom d ≤ f && f < Tbl.get 0 s.mem.rsvFrom d + Tbl.get 0 s.mem.rsvLen d)

/-- Den and den-relative address of tier offset `x` (R341, R342): through the region that maps it, or, in a reserved run, through the den's
lowest physical frames in order (log 50). -/
def State.denAddr (s : State) (slow : Bool) (x o : Nat) : Option (Nat × Nat) :=
  match s.regionAt o with
  | some i =>
    let r := s.region i
    let f := x / frameSize - r.frame
    let within := x % frameSize
    if r.phys.isEmpty then none
    else if r.place < 4 then some (r.place, r.phys.getD f 0 * frameSize + within)
    else
      let g := f / 4
      let y := (f % 4) * frameSize + within
      let d := bits y 12 2
      some (d, r.phys.getD (4 * g + d) 0 * frameSize + (y / 2 ^ 14) * 2 ^ 12 + y % 2 ^ 12)
  | none => if slow then none else (s.rsvDen (x / frameSize)).map (fun d => (d, x - Tbl.get 0 s.mem.rsvFrom d * frameSize))

/-- Den, local channel and byte in channel of a module offset that the frame tables map (R342). -/
def State.locate (s : State) (o : Nat) : Option (Nat × Nat × Nat) :=
  match s.tierOf o with
  | some (slow, x) =>
    match s.denAddr slow x o with
    | some (d, a) =>
      let set := s.chanSet d slow
      let n := set.length
      let u := a / 256
      if n = 0 then none
      else
        let q := u / n
        let rr := u % n
        let fold := (q ^^^ (q / 2 ^ 7) ^^^ (q / 2 ^ 14) ^^^ (q / 2 ^ 21)) % 128
        some (d, set.getD ((rr + fold) % n) 0, q * 256 + a % 256)
    | none => none
  | none => none

/-- Module-wide channel number of an offset, with its tier. -/
def State.chanOf (s : State) (o : Nat) : Option (Bool × Nat × Nat) :=
  match s.tierOf o, s.locate o with
  | some (slow, _), some (d, c, b) => some (slow, s.tierChans slow * d + c, b)
  | _, _ => none

/-! ## Bytes -/

/-- The line of an offset (R349). -/
def lineOf (o : Nat) : Nat := o / 64

/-- The write-combining entry of a line. -/
def State.wcbOf (s : State) (l : Nat) : Option WcbEntry := s.mem.wcb.find? (fun e => e.line == l)

/-- A byte as every reader sees it: the buffer's byte where an entry holds one, else DRAM's (R353). A byte that nothing
has written reads 0 (R345, R511; log 13). -/
def State.memByte (s : State) (o : Nat) : Byte :=
  match s.wcbOf (lineOf o) with
  | some e => match Tbl.get none e.bytes (o % 64) with
    | some b => b
    | none => Tbl.get 0 s.mem.bytes o
  | none => Tbl.get 0 s.mem.bytes o

/-- `n` bytes from offset `o`. -/
def State.memRead (s : State) (o n : Nat) : List Byte := (List.range n).map (fun i => s.memByte (o + i))

/-- The lowest uncorrectable line among `n` bytes from `o`. -/
def State.ueIn (s : State) (o n : Nat) : Option Nat :=
  if n = 0 then none
  else (s.mem.ue.filter (fun l => lineOf o ≤ l && l ≤ lineOf (o + n - 1))).foldl
    (fun a l => match a with | none => some l | some m => some (min m l)) none

/-- Index of the reserved area of R344 that holds byte `b` of a den's run, areas starting at 64 KiB boundaries. -/
def State.areaIndex (s : State) (d b : Nat) : Nat :=
  let p1 := Tbl.get 0 s.mem.p1Backing d
  let sizes := [2 ^ 24, 2 ^ 26, 4096 * p1, 6144 * (16384 + p1), 65536 * (s.pool d 3).size, 2 ^ 26 * Tbl.get 0 s.mem.spillUnits d]
  let ends := (List.range 6).map (fun i => (sizes.take (i + 1)).foldl (fun n z => ceilDiv (n + z) 65536 * 65536) 0)
  (ends.findIdx (fun e => decide (b < e))) % 6

/-- W8 of a MEM record (R454): the region's handle, or 0xFFFF_FF00 plus the index of the reserved area. -/
def State.areaOf (s : State) (o : Nat) : Nat :=
  match s.regionAt o with
  | some i => s.regionHandle i
  | none =>
    let f := o / 2 ^ 26
    match s.rsvDen f with
    | some d => 0xFFFFFF00 + s.areaIndex d (o - Tbl.get 0 s.mem.rsvFrom d * 2 ^ 26)
    | none => 0xFFFFFF00

/-- A MEM event of the channel that holds line `l` (R351, R354, R454). -/
def State.memEvent (s : State) (src l : Nat) : State :=
  let o := 64 * l
  let job := (s.regionAt o).map (fun i => (s.region i).job)
  match s.chanOf o with
  | some (slow, c, _) =>
    s.event { word := c / s.tierChans slow, source := src, unit := c, kind := if slow then .slowCh else .fastCh, job := job, addr := o,
              detail := [s.areaOf o] }
  | none => s.event { word := 0, source := src, job := job, addr := o, detail := [s.areaOf o] }

/-- An uncorrectable line is met: CH_UE, UE_LINE, R_UE and MEM_UE (R351, R364, R365). -/
def State.meetUe (s : State) (l : Nat) : State :=
  let o := 64 * l
  let s := match s.chanOf o with
    | some (slow, c, b) =>
      (s.bump (memReg slow c 0x08)).setChan slow c { s.chan slow c with ueLine := b / 64 }
    | none => s
  let s := match s.regionAt o with | some i => s.bump (baseMem + 0x10000 + 0x20 * i + 0x18) | none => s
  s.memEvent fMemUe l

/-- A channel counter at the channel of offset `o` counts one more (R364). -/
def State.bumpChan (s : State) (o reg : Nat) : State :=
  match s.chanOf o with
  | some (slow, c, _) => s.bump (memReg slow c reg)
  | none => s

/-- DRAM takes a whole line, which also ends its uncorrectable mark (R350). -/
def State.dramLine (s : State) (l : Nat) (bs : List Byte) : State :=
  { s with mem := { s.mem with bytes := Tbl.putMany 0 s.mem.bytes (64 * l) bs, ue := s.mem.ue.filter (· != l) } }

/-- The entry of line `l` leaves the buffer. -/
def State.wcbDrop (s : State) (l : Nat) : State := { s with mem := { s.mem with wcb := s.mem.wcb.filter (fun e => e.line != l) } }

/-- Flush of an entry by read, merge and write (R353), or its loss when the line is uncorrectable (R354). -/
def State.wcbFlush (s : State) (e : WcbEntry) : State :=
  let o := 64 * e.line
  if s.mem.ue.contains e.line then
    let s := (s.meetUe e.line).wcbDrop e.line
    (s.bump (baseMem + 0x14)).memEvent fMemWcbLost e.line
  else
    let merged := (List.range 64).map (fun i => (Tbl.get none e.bytes i).getD (Tbl.get 0 s.mem.bytes (o + i)))
    ((s.bumpChan o 0x0C).wcbDrop e.line).dramLine e.line merged

/-- Channel of a line as a key, for the 64 entries of each controller's buffer. -/
def State.lineChan (s : State) (l : Nat) : Nat := match s.chanOf (64 * l) with | some (slow, c, _) => 1024 * b2n slow + c | none => 4096

/-- Entries of the controller that serves line `l`. -/
def State.wcbPeers (s : State) (l : Nat) : List WcbEntry := s.mem.wcb.filter (fun e => s.lineChan e.line == s.lineChan l)

/-- Part of a line written: merged into the line's entry, or a new one opened, the oldest flushed when the controller's
64 places are taken; an entry whose mask becomes full is written without a read (R353). -/
def State.wcbWrite (s : State) (l from_ : Nat) (bs : List Byte) : State :=
  let old := s.wcbOf l
  let s := match old with
    | some _ => s
    | none => if 64 ≤ (s.wcbPeers l).length then (match (s.wcbPeers l).head? with | some e => s.wcbFlush e | none => s) else s
  let e := old.getD { line := l, openedAt := s.clk }
  let e := { e with bytes := Tbl.putMany none e.bytes from_ (bs.map some) }
  if e.bytes.length = 64 then
    ((s.bumpChan (64 * l) 0x10).wcbDrop l).dramLine l ((List.range 64).map (fun i => (Tbl.get none e.bytes i).getD 0))
  else match old with
    | some _ => { s with mem := { s.mem with wcb := s.mem.wcb.map (fun x => if x.line = l then e else x) } }
    | none => { s with mem := { s.mem with wcb := s.mem.wcb ++ [e] } }

/-- A write of bytes from offset `o`, line by line, with fuel for the lines (R353): a whole line goes straight to DRAM and
discards its entry. -/
def State.memWriteFuel : Nat → State → Nat → List Byte → State
  | 0, s, _, _ => s
  | n + 1, s, o, bs =>
    if bs.isEmpty then s
    else
      let room := 64 - o % 64
      let part := bs.take room
      let s := if part.length = 64 then (s.wcbDrop (lineOf o)).dramLine (lineOf o) part else s.wcbWrite (lineOf o) (o % 64) part
      State.memWriteFuel n s (o + room) (bs.drop room)

/-- A write of bytes from offset `o` (R353). -/
def State.memWrite (s : State) (o : Nat) (bs : List Byte) : State := State.memWriteFuel (bs.length / 64 + 2) s o bs

/-- Every entry that satisfies `f` is flushed, oldest first. -/
def State.flushWhere (s : State) (f : WcbEntry → Bool) : State := (s.mem.wcb.filter f).foldl (fun s e => s.wcbFlush e) s

/-- Entries of a channel are flushed (R353, R392). -/
def State.flushChan (s : State) (slow : Bool) (c : Nat) : State := s.flushWhere (fun e => s.lineChan e.line == 1024 * b2n slow + c)

/-- The bytes of a region are set to zero, its entries flushed first and its uncorrectable lines replaced (R346). -/
def State.wipeRegion (s : State) (i : Nat) : State :=
  let r := s.region i
  let inside := fun o => decide (r.base ≤ o) && decide (o < r.base + r.size)
  let s := s.flushWhere (fun e => inside (64 * e.line))
  { s with mem := { s.mem with bytes := Tbl.clearWhere s.mem.bytes inside, ue := s.mem.ue.filter (fun l => !inside (64 * l)) } }

/-! ## The check of an access -/

/-- Outcome of a check. -/
inductive Access where
  | ok
  | badParam
  | notOwner
  | stateReject
  deriving DecidableEq, Repr

/-- Visible cores' windows: v below `n` (R340). -/
def settWindow (n o : Nat) : Option (Nat × Nat) :=
  if settBase ≤ o && o < settBase + n * 2 ^ 23 then some ((o - settBase) / 2 ^ 23, (o - settBase) % 2 ^ 23) else none

/-- All of `n` bytes from `o` lie in one region. -/
def State.regionSpan (s : State) (o n : Nat) : Option Nat :=
  match s.regionAt o with
  | some i => if o + n ≤ (s.region i).base + (s.region i).size then some i else none
  | none => none

/-- The range is reserved, wholly or in part (R340): neither all in a tier nor all in one window. -/
def State.reservedRange (s : State) (visible o n : Nat) : Bool :=
  let e := o + (n - 1)
  !(((s.tierOf o).isSome && (s.tierOf e).map (·.1) == (s.tierOf o).map (·.1))
    || ((settWindow visible o).isSome && (settWindow visible e).map (·.1) == (settWindow visible o).map (·.1)))

/-- Access of a chip's job j ≠ 0 to region memory (R347): BAD_PARAM, then NOT_OWNER, then STATE_REJECT. -/
def State.checkJob (s : State) (visible job : Nat) (wr : Bool) (o n : Nat) : Access :=
  if s.reservedRange visible o n then .badParam
  else match s.regionSpan o n with
    | none => .notOwner
    | some i =>
      let r := s.region i
      if r.job ≠ job then .notOwner
      else if !(if wr then r.fabWr else r.fabRd) then .notOwner
      else if r.state ≠ .ready then .stateReject
      else .ok

/-- Access of job 0 or of the host to region memory (R347); windows are judged apart (R348). -/
def State.checkAny (s : State) (visible o n : Nat) : Access :=
  if s.reservedRange visible o n then .badParam
  else match s.regionSpan o n with
    | none => .notOwner
    | some i => if (s.region i).state = .ready then .ok else .stateReject

/-- A refused access is counted in ACC_VIOL and raises MEM_ACCESS, which names the channel and the line (R347, R454). -/
def State.accViol (s : State) (o job : Nat) : State :=
  let s := s.bump (baseMem + 0x10)
  match s.chanOf o with
  | some (slow, c, _) =>
    s.event { word := c / s.tierChans slow, source := fMemAccess, unit := c, kind := if slow then .slowCh else .fastCh, job := some job,
              addr := 64 * lineOf o, detail := [s.areaOf o] }
  | none => s.event { word := 0, source := fMemAccess, job := some job, addr := 64 * lineOf o, detail := [s.areaOf o] }

/-- Status code of a refused access (R347, R368). -/
def Access.status : Access → Nat
  | .ok => 0
  | .badParam => 0x11
  | .notOwner => 0x22
  | .stateReject => 0x20

end Sys2Proof.Machine
end

