-- ==== Sys2Proof/Machine/Place.lean ====
section
/-! DEFINITION. Places, port map and routes (R31–R38, R52, R91, R130, R590), slices and groups (R44–R51) and the partition
table in effect (R45–R49). -/

namespace Sys2Proof.Machine

/-- Placement in effect; before a base is applied, the defaults of the structure. -/
def State.pl (s : State) : Place := s.place.getD {}

/-- The module's endpoint identifier, 8,192 plus its index (R19). -/
def State.ownId (s : State) : Nat := 8192 + s.pl.index

/-- Rack coordinates of a chip identifier (R31). -/
def chipRack (e : Nat) : Nat × Nat := (bits e 7 3, bits e 10 3)

/-- The identifier of the chip at local coordinate `c` of rack (x, y) (R31). -/
def chipAt (x y c : Nat) : Nat := y * 1024 + x * 128 + c

/-- The opposite direction: +x and −x, +y and −y (R33). -/
def oppDir (d : Nat) : Nat := if d % 2 = 0 then d + 1 else d - 1

/-- The rack one hop from (x, y) in direction `d` on a torus of size X × Y (R36). -/
def hopRack (x y X Y d : Nat) : Nat × Nat :=
  if d = 0 then ((x + 1) % X, y) else if d = 1 then ((x + X - 1) % X, y)
  else if d = 2 then (x, (y + 1) % Y) else (x, (y + Y - 1) % Y)

/-- Use of port `p` when the base gives no PORT_MAP: the map of R33, with the mirror ports of R34. The expected far
ends are not in it (see `expectOf`). -/
def defaultUse (pl : Place) (p : Nat) : PortUse :=
  let d := p / 48
  let n := p % 48
  if n < 32 then { use := 0, index := 32 * d + n }
  else
    let dir := (n - 32) / 4
    let j := 4 * d + n % 4
    let single := (dir < 2 && pl.x ≤ 1) || (2 ≤ dir && pl.y ≤ 1)
    if pl.paired && j = 15 then { use := 2, dir := dir, index := 15 }
    else if single then { use := 3, dir := dir, index := j }
    else { use := 1, dir := dir, index := j }

/-- The emulated member of the golden session that port `p` presents, where it presents one (R532). -/
def State.emulated (s : State) (p : Nat) : Option Member := if s.inst.golden.en then s.inst.golden.members.find? (·.port == p) else none

/-- Use of port `p` (R33, R406); a port of the golden session stands in no route (R532). -/
def State.useOf (s : State) (p : Nat) : PortUse :=
  if (s.emulated p).isSome then {} else if s.pl.map.isEmpty then defaultUse s.pl p else s.pl.map.getD p {}

/-- The port of the default map in direction `dir` with index `j` (R33). -/
def upPort (dir j : Nat) : Nat := 48 * (j / 4) + 32 + 4 * dir + j % 4

/-- Ports of use 1 in a direction, ascending. -/
def State.dirPorts (s : State) (dir : Nat) : List Nat :=
  allPorts.filter (fun p => (s.useOf p).use == 1 && (s.useOf p).dir == dir)

/-- The leaf's identifier at rack (x, y) of the plane: this module, a neighbour that the port map names, or what the
deployment has there, which no image names (log 14). -/
def State.leafAt (s : State) (x y : Nat) : Nat :=
  let pl := s.pl
  if x = pl.rx && y = pl.ry then s.ownId
  else
    let named := allPorts.find? (fun p => !pl.map.isEmpty && (s.useOf p).use == 1 && hopRack pl.rx pl.ry pl.x pl.y (s.useOf p).dir == (x, y))
    match named with
    | some p => (s.useOf p).expEp
    | none => 8192 + Config.moduleAt pl.plane x y % 1024

/-- The rack of an endpoint: a chip's by its coordinate, a module's by the leaves of the torus (log 14). -/
def State.rackOf (s : State) (e : Nat) : Nat × Nat :=
  if e < 8192 then chipRack e
  else if e = s.ownId then (s.pl.rx, s.pl.ry)
  else
    let all := (List.range s.pl.y).flatMap (fun y => (List.range s.pl.x).map (fun x => (x, y)))
    match all.find? (fun r => s.leafAt r.1 r.2 == e) with
    | some r => r
    | none => (Config.moduleRackX (e - 8192) % max s.pl.x 1, Config.moduleRackY (e - 8192) % max s.pl.y 1)

/-- What the module expects at the far end of a port: endpoint, port or chip plane, role (R91). Nothing on an unused port. -/
def State.expectOf (s : State) (p : Nat) : Option (Nat × Nat × Nat) :=
  let pl := s.pl
  let u := s.useOf p
  if let some m := s.emulated p then some (bits (s.inst.golden.words.getD 2 0) 0 14, m.dutPort, 1)
  else if u.use = 3 || s.place.isNone then none
  else if !pl.map.isEmpty then
    some (u.expEp, u.expPort, if u.expEp < 8192 then 0 else if u.use = 2 && !pl.paired && !pl.spine then 2 else 1)
  else if u.use = 0 then some (chipAt pl.rx pl.ry u.index, pl.plane, 0)
  else if u.use = 1 then
    let r := hopRack pl.rx pl.ry pl.x pl.y u.dir
    some (s.leafAt r.1 r.2, upPort (oppDir u.dir) u.index, 1)
  else some (8192 + pl.partner, p, 1)

/-! ## Slices, groups, the partition table -/

/-- Values of a 9-bit descriptor in a field of 2^w values, taken modulo `md` on a rack axis (R44). -/
def descVals (d : Nat) (md : Option Nat) : List Nat :=
  (List.range (bits d 3 3 + 1)).map (fun i =>
    let v := bits d 0 3 + i * (bits d 6 3 + 1)
    match md with | some n => v % max n 1 | none => v)

/-- The form of a descriptor (R44): on an axis of size n, or in a field of n values. -/
def descOk (d n : Nat) (axis : Bool) : Bool :=
  let span := bits d 3 3 * (bits d 6 3 + 1)
  if axis then bits d 0 3 < n && span < n else bits d 0 3 + span < n

/-- The five descriptors of a slice or group: CHIP, PKG, TRAY, RACK_X, RACK_Y. -/
structure Slice where
  chip : Nat := 0
  pkg : Nat := 0
  tray : Nat := 0
  x : Nat := 0
  y : Nat := 0
  deriving DecidableEq, Repr

/-- The slice in words laid out as W1 and W2 of R45. -/
def sliceOf (w1 w2 : Nat) : Slice :=
  { chip := bits w1 0 9, pkg := bits w1 9 9, tray := bits w1 18 9, x := bits w2 0 9, y := bits w2 9 9 }

/-- The form of all five descriptors (R44). -/
def State.sliceOk (s : State) (g : Slice) : Bool :=
  descOk g.chip 4 false && descOk g.pkg 4 false && descOk g.tray 8 false && descOk g.x s.pl.x true && descOk g.y s.pl.y true

/-- The five value sets. -/
def State.sliceVals (s : State) (g : Slice) : List (List Nat) :=
  [descVals g.chip none, descVals g.pkg none, descVals g.tray none, descVals g.x (some s.pl.x), descVals g.y (some s.pl.y)]

/-- The five coordinate fields of a chip identifier (R31). -/
def chipFields (e : Nat) : List Nat := [bits e 0 2, bits e 2 2, bits e 4 3, bits e 7 3, bits e 10 3]

/-- A chip lies in a slice. -/
def State.inSlice (s : State) (g : Slice) (e : Nat) : Bool :=
  e < 8192 && (List.zip (s.sliceVals g) (chipFields e)).all (fun x => x.1.contains x.2)

/-- Two slices share a chip: in every field they share a value. -/
def State.slicesMeet (s : State) (a b : Slice) : Bool :=
  (List.zip (s.sliceVals a) (s.sliceVals b)).all (fun x => x.1.any x.2.contains)

/-- Slice `a` lies inside `b`. -/
def State.sliceIn (s : State) (a b : Slice) : Bool :=
  (List.zip (s.sliceVals a) (s.sliceVals b)).all (fun x => x.1.all x.2.contains)

/-- The members of a group in rank order, CHIP fastest (R50). -/
def State.groupMembers (s : State) (g : Slice) : List Nat :=
  (descVals g.y (some s.pl.y)).flatMap fun y => (descVals g.x (some s.pl.x)).flatMap fun x =>
    (descVals g.tray none).flatMap fun t => (descVals g.pkg none).flatMap fun k =>
      (descVals g.chip none).map fun c => chipAt x y (t * 16 + k * 4 + c)

/-- Entry 0 of the partition table (R45). -/
def part0 (pl : Place) : Part :=
  { w0 := (2 ^ pl.planes - 1) * 2 ^ 16, w1 := (3 * 8) + (3 * 8) * 2 ^ 9 + (7 * 8) * 2 ^ 18,
    w2 := ((pl.x - 1) * 8) + ((pl.y - 1) * 8) * 2 ^ 9 + 255 * 2 ^ 24, w3 := 1 }

/-- Entry `j` of the partition table in effect (R45). -/
def State.part (s : State) (j : Nat) : Part := if j = 0 then part0 s.pl else Tbl.get {} s.parts j

/-- The entry is VALID. -/
def Part.valid (p : Part) : Bool := bit p.w3 0
/-- PLANES of the entry. -/
def Part.planes (p : Part) : Nat := bits p.w0 16 16
/-- TWEIGHT of the entry. -/
def Part.tweight (p : Part) : Nat := bits p.w2 24 8
/-- The slice of the entry. -/
def Part.slice (p : Part) : Slice := sliceOf p.w1 p.w2

/-- Job `j` is VALID (R45). -/
def State.jobValid (s : State) (j : Nat) : Bool := (s.part j).valid

/-- The chip lies in the job's slice. -/
def State.inJob (s : State) (j e : Nat) : Bool := s.inSlice (s.part j).slice e

/-- The module's rack holds chips of the job's slice (R159, R172). -/
def State.jobHere (s : State) (j : Nat) : Bool :=
  let g := (s.part j).slice
  (descVals g.x (some s.pl.x)).contains s.pl.rx && (descVals g.y (some s.pl.y)).contains s.pl.ry

/-! ## Routes -/

/-- The module carries a folded Clos rather than a torus or a pair: it has ports of use 2 and is not paired (R52). -/
def State.isClos (s : State) : Bool := !s.pl.paired && allPorts.any (fun p => (s.useOf p).use == 2)

/-- The down port of a chip: the ACTIVE port it is bound to, else the port that expects it unless another chip is bound
there (R33, R93). -/
def State.downPort (s : State) (e : Nat) : Option Nat :=
  match allPorts.find? (fun p => (s.useOf p).use == 0 && (s.port p).st == .active && (s.port p).bound == some e) with
  | some p => some p
  | none =>
    match allPorts.find? (fun p => (s.useOf p).use == 0 && (s.expectOf p).map (·.1) == some e) with
    | some p => if (s.port p).st = .active && (s.port p).bound.isSome then none else some p
    | none => none

/-- A broken hop lies on the way of `n` hops from coordinate `c` in direction `dir` along an axis of size `size` (R130). -/
def State.wayBroken (s : State) (axis dir c other size : Nat) : Nat → Bool
  | 0 => false
  | n + 1 =>
    s.broken.contains { axis := axis, dir := dir, coord := c, other := other }
      || State.wayBroken s axis dir (if dir % 2 = 0 then (c + 1) % max size 1 else (c + size - 1) % max size 1) other size n

/-- Directions of the minimal route along one axis from `c` to `t`, broken hops avoided (R37, R130). -/
def State.axisDirs (s : State) (axis c t size other : Nat) : List Nat :=
  let f := (t + size - c) % max size 1
  let b := (c + size - t) % max size 1
  let p := 2 * axis
  let min := if f < b then [p] else if b < f then [p + 1] else [p, p + 1]
  let open_ := [p, p + 1].filter (fun d => !s.wayBroken axis d c other size (if d = p then f else b))
  let ok := min.filter open_.contains
  if !ok.isEmpty then ok else if !open_.isEmpty then open_ else min

/-- Where a packet goes from this module (R37, R52). -/
inductive Way where
  /-- No route at all (R590). -/
  | noRoute
  /-- Consumed here. -/
  | here
  /-- One of these ports. -/
  | ports (l : List Nat)
  deriving DecidableEq, Repr

/-- A list of ports as a way. -/
def wayOf (l : List Nat) : Way := if l.isEmpty then .noRoute else .ports l

/-- The direction in which a COLL_PARTIAL goes on: that of its ring, the one its arrival port faces away from (R37). -/
def State.ringOn (s : State) (h : Hdr) (inPort : Option Nat) (r : Nat × Nat) : Option Nat :=
  match inPort with
  | some p =>
    let u := s.useOf p
    if h.type = 0x0A && u.use = 1 && ((u.dir < 2 && r.1 ≠ s.pl.rx) || (2 ≤ u.dir && r.2 ≠ s.pl.ry)) then some (oppDir u.dir) else none
  | none => none

/-- The route of R37, R423 and R424 for a packet that arrived on `inPort`, or originates here on ring direction `ring` (R37, R125, R590). -/
def State.routeBase (s : State) (h : Hdr) (inPort : Option Nat) (ring : Option Nat) : Way :=
  let pl := s.pl
  if h.dst = s.ownId || (s.pair.alias_ && h.dst = 8192 + pl.partner) then .here
  else
    let r := s.rackOf h.dst
    let direct := allPorts.filter (fun p => (s.useOf p).use == 2 && (s.expectOf p).map (·.1) == some h.dst)
    if 8192 ≤ h.dst && !direct.isEmpty then .ports direct
    else if h.dst < 8192 && (pl.x ≤ r.1 || pl.y ≤ r.2) then .noRoute
    else if pl.spine then
      wayOf (allPorts.filter (fun p => (s.useOf p).use == 2 && (s.expectOf p).any (fun e => 8192 ≤ e.1 && s.rackOf e.1 == r)))
    else if r = (pl.rx, pl.ry) then
      if h.dst < 8192 then (match s.downPort h.dst with | some p => .ports [p] | none => .noRoute)
      else .noRoute
    else if s.isClos then wayOf (allPorts.filter (fun p => (s.useOf p).use == 2))
    else
      let dirs := match ring, s.ringOn h inPort r with
        | some d, _ => [d]
        | none, some d => [d]
        | none, none =>
          if r.1 ≠ pl.rx then s.axisDirs 0 pl.rx r.1 pl.x pl.ry else s.axisDirs 1 pl.ry r.2 pl.y pl.rx
      -- R424: both ways of the axis broken, a pair member goes across the mirror link, never back across it
      let cut := fun axis c t size other =>
        s.wayBroken axis (2 * axis) c other size ((t + size - c) % max size 1) && s.wayBroken axis (2 * axis + 1) c other size ((c + size - t) % max size 1)
      let fromMirror := match inPort with | some p => (s.useOf p).use == 2 | none => false
      if pl.paired && !fromMirror && (if r.1 ≠ pl.rx then cut 0 pl.rx r.1 pl.x pl.ry else cut 1 pl.ry r.2 pl.y pl.rx) then
        wayOf (allPorts.filter (fun p => (s.useOf p).use == 2))
      else wayOf (dirs.flatMap s.dirPorts)

/-- A TC1 packet belongs to a committed flow that is pinned to one of these ports (R125, R187): at the admitting leaf by
source and destination, at a further hop by job and arrival port (log 16). -/
def State.pinOf (s : State) (h : Hdr) (inPort : Option Nat) (l : List Nat) : Option Nat :=
  (s.flows.find? (fun f => f.phase == .committed && f.job == h.job && l.contains f.port
      && (if f.admits then f.src == h.src && f.dst == h.dst else some f.ingress == inPort))).map (·.port)

/-- The route of a packet, with a TC1 packet's choice limited to the port its admission assigns (R125). -/
def State.route (s : State) (h : Hdr) (inPort : Option Nat) (ring : Option Nat) : Way :=
  match s.routeBase h inPort ring with
  | .ports l => if h.tc = 1 then (match s.pinOf h inPort l with | some p => .ports [p] | none => .ports l) else .ports l
  | w => w

/-- DL of the outgoing packet (R38): 0 on every port but an up port; kept along one axis, 0 at a turn or at entry, 1 across
a dateline. -/
def State.outDl (s : State) (h : Hdr) (inPort : Option Nat) (out : Nat) : Bool :=
  let u := s.useOf out
  if u.use ≠ 1 || s.isClos then false
  else
    let same := match inPort with
      | some p => (s.useOf p).use == 1 && (s.useOf p).dir / 2 == u.dir / 2
      | none => false
    let cross := (u.dir = 0 && s.pl.rx + 1 = s.pl.x) || (u.dir = 1 && s.pl.rx = 0) || (u.dir = 2 && s.pl.ry + 1 = s.pl.y)
      || (u.dir = 3 && s.pl.ry = 0)
    cross || (same && h.dl)

/-! ## Port rates and choice -/

/-- Payload rate of one lane in bytes per second: 226.625 Gb/s × 8 ÷ 9, less one block in 4,000 in separate-reference
mode (R62, R65). -/
def laneRate (sep : Bool) : Rat := if sep then 226625000000 / 9 * 3999 / 4000 else 226625000000 / 9

/-- Active lanes of port `p`. -/
def State.lanesOf (s : State) (p : Nat) : Nat := (bitsOf 8 (s.port p).active).length

/-- Current payload rate of port `p` in bytes per second. -/
def State.payloadRate (s : State) (p : Nat) : Rat := laneRate (s.port p).refmode * (s.lanesOf p : Rat)

/-- A port is draining (R41, R80): its own drain or the far end's DRAIN. -/
def Port.draining (x : Port) : Bool := x.drainTx || x.drainRx

/-- A port is eligible for a virtual channel (R125): ROUTED, not draining, not stopped by the far end, and not held by a
loss of lock (R82, R89). -/
def State.eligible (s : State) (p vc : Nat) : Bool :=
  let x := s.port p
  x.routed && !x.draining && !(decide (vc < 6) && x.xoffRx.testBit vc) && !x.egressHeld && !x.loss && !x.idCheck && !s.sw.sliceReset.contains (denOf p)

/-- Bytes queued for a final port in a class, wherever in the module they lie (R125). -/
def State.queuedBytes (s : State) (p tc : Nat) : Nat :=
  s.sw.held.foldl (fun n h => if h.port == some p && h.pkt.hdr.tc == tc && h.policer.isNone then n + h.pkt.hdr.bytesTotal else n) 0

/-- The estimate of R125. -/
def State.estimate (s : State) (p tc : Nat) : Rat := (s.queuedBytes p tc : Rat) / s.payloadRate p

/-- The smallest of a list of rationals, with the elements that have it. -/
def leastBy {α : Type} (f : α → Rat) : List α → List α
  | [] => []
  | a :: l =>
    match leastBy f l with
    | [] => [a]
    | b :: r => if f a < f b then [a] else if f a = f b then a :: b :: r else b :: r

/-- The element of an ascending list of numbers at or after the pointer, cyclically. -/
def cyclicFrom (l : List Nat) (ptr : Nat) : Option Nat :=
  match l.find? (fun p => ptr ≤ p) with
  | some p => some p
  | none => l.head?

/-- The port chosen among candidates by R125 in den `d`, with the pointers moved on. -/
def State.choosePort (s : State) (d : Nat) (cands : List Nat) (h : Hdr) (inPort : Option Nat) : Option (Nat × State) :=
  let vcOf := fun p => 2 * h.tc + b2n (s.outDl h inPort p)
  let el := cands.filter (fun p => s.eligible p (vcOf p))
  let dirs := [0, 1, 2, 3].filter (fun k => el.any (fun p => (s.useOf p).dir == k))
  let inDir := fun k => el.filter (fun p => (s.useOf p).dir == k)
  -- the estimate of a direction: the minimum over its eligible ports
  let dirEst := fun k => match leastBy (fun p => s.estimate p h.tc) (inDir k) with | p :: _ => s.estimate p h.tc | [] => 0
  match leastBy dirEst dirs with
  | [] => none
  | k0 :: more =>
    let axis := k0 / 2
    let k := if more.isEmpty then k0 else 2 * axis + Tbl.get 0 s.sw.axisPtr (2 * d + axis) % 2
    let s := if more.isEmpty then s
      else { s with sw := { s.sw with axisPtr := Tbl.put 0 s.sw.axisPtr (2 * d + axis) ((Tbl.get 0 s.sw.axisPtr (2 * d + axis) + 1) % 2) } }
    let best := leastBy (fun p => s.estimate p h.tc) (inDir k)
    match cyclicFrom best (Tbl.get 0 s.sw.dirPtr (4 * d + k)) with
    | none => none
    | some p =>
      if best.length ≤ 1 then some (p, s)
      else some (p, { s with sw := { s.sw with dirPtr := Tbl.put 0 s.sw.dirPtr (4 * d + k) (p + 1) } })

end Sys2Proof.Machine
end

