-- ==== Sys2Proof/Machine/Queues.lean ====
section
/-! DEFINITION. Egress queues of a den's attachments: which queue a packet joins (R171–R173), tags and virtual time
(R175, R176), shapers (R177, R182), the choice of the next packet (R174), deep segments (R156, R157) and the drop and
mark judgement (R153, R154). -/

namespace Sys2Proof.Machine

/-- Key of an attachment. -/
def attKey (d att : Nat) : Nat := 64 * d + att
/-- Key of a queue. -/
def qKey (d att q : Nat) : Nat := 64 * attKey d att + q

/-- A queue by its key. -/
def State.queue (s : State) (k : Nat) : Queue := Tbl.get {} s.sw.queues k
/-- The queue becomes `x`. -/
def State.setQueue (s : State) (k : Nat) (x : Queue) : State := { s with sw := { s.sw with queues := Tbl.put {} s.sw.queues k x } }

/-- Register offset of queue `q` of local port `n` (R198). -/
def qReg (n q : Nat) : Nat := 0x10000 + 0x10 * (64 * n + q)

/-- The attachment of the bridge from den `d` to den `t` (R147). -/
def bridgeAtt (d t : Nat) : Nat := 48 + (if t < d then t else t - 1)

/-- The den that a bridge attachment of den `d` leads to. -/
def bridgeTo (d att : Nat) : Nat := let i := att - 48; if i < d then i else i + 1

/-- The input attachment of a packet's origin in its den (R147, R591). -/
def Origin.att : Origin → Nat
  | .port p => p % 48
  | .marten _ g => 51 + g
  | .sett _ => 55
  | .memory _ => 55
  | .mirror _ => 56
  | .keeper => 57
  | .fox u => 58 + u % 6

/-- The port a packet came in on. -/
def Held.inPort (h : Held) : Option Nat := match h.origin with | .port p => some p | _ => none

/-- DL with which a held packet leaves on its final port (R38). -/
def State.heldDl (s : State) (h : Held) : Bool :=
  match h.port with | some p => s.outDl h.pkt.hdr h.inPort p | none => h.pkt.hdr.dl

/-- The queue of an attachment that a packet joins (R171, R172): queue 0 for TC0, the queue of its job and class once that
carries the traffic, else 62 or 63. At a bridge or a consumer, TC1 has queue 1, served directly after TC0 (R188, log 15). -/
def State.queueFor (s : State) (d att : Nat) (h : Hdr) : Nat :=
  if h.tc = 0 then 0
  else
    match ((List.range 61).map (· + 1)).find? (fun q =>
        let x := s.queue (qKey d att q)
        x.valid && !x.pending && !x.releasing && x.job == h.job && x.tc == h.tc) with
    | some q => q
    | none => if h.tc = 3 then 63 else if h.tc = 2 || att < 48 then 62 else 1

/-- Packets queued at an attachment. -/
def State.atAtt (s : State) (d att : Nat) : List Held := s.sw.held.filter (fun h => h.den == d && h.att == some att && h.policer.isNone)

/-- Packets of one queue. -/
def State.inQueue (s : State) (d att q : Nat) : List Held := (s.atAtt d att).filter (·.queue == q)

/-- Cells of a held packet that have not left yet. -/
def Held.cellsLeft (h : Held) : Nat := h.arrived - h.moved

/-- Depth of a queue in cells, deep segment included (R153, R184). -/
def State.queueCells (s : State) (d att q : Nat) : Nat := (s.inQueue d att q).foldl (fun n h => n + h.cellsLeft) 0

/-- Depth of a queue on die, in cells. -/
def State.queueDie (s : State) (d att q : Nat) : Nat := (s.inQueue d att q).foldl (fun n h => if h.deep then n else n + h.cellsLeft) 0

/-- Share of a queue in units of 2^-32 (R175): queues 62 and 63 that no share was computed for have half each. -/
def State.queuePhi (s : State) (k : Nat) : Rat :=
  let n := (s.queue k).phi
  ((if n = 0 then (if 62 ≤ k % 64 then 2 ^ 31 else 1) else n : Nat) : Rat) / (2 ^ 32 : Nat)

/-- Virtual time of an attachment (R176). -/
def State.vt (s : State) (d att : Nat) : Rat := Tbl.get 0 s.sw.vtime (attKey d att)

/-! ## Shapers -/

/-- TC0 rate of a port in bytes per second and its burst in bytes (R177, R197). -/
def State.tc0Rate (s : State) (p : Nat) : Rat := s.payloadRate p * (s.fld (swReg (denOf p) (0x800 + 0x10 * (p % 48))) 0 7 : Nat) / 100
/-- Burst b_tc0 of a port in bytes (R177, R197). -/
def State.tc0Burst (s : State) (p : Nat) : Nat := 256 * s.fld (swReg (denOf p) (0x800 + 0x10 * (p % 48))) 16 16

/-- Rate in bytes per second of a count of 10 Mb/s units (R198). -/
def rateOf (u : Nat) : Rat := (u * 1250000 : Nat)

/-- Enabled shaper of a queue: rate and burst, none where the queue is not shaped (R177, R182, R183). -/
def State.shaperOf (s : State) (d att q : Nat) : Option (Rat × Nat) :=
  if att < 48 && q = 0 then some (s.tc0Rate (48 * d + att), s.tc0Burst (48 * d + att))
  else
    let x := s.queue (qKey d att q)
    if att < 48 && x.shapeEn then some (rateOf x.rate, 256 * x.burst) else none

/-- Tokens of a queue now (R182). A queue 0 whose bucket was never touched holds its burst. -/
def State.tokens (s : State) (d att q : Nat) (r : Rat) (b : Nat) : Rat :=
  let x := s.queue (qKey d att q)
  if q = 0 && x.tokAt = 0 then (b : Rat)
  else
    let t := x.tok + r * ((s.clk - x.tokAt : Nat) : Rat) / 1000000000000
    if (b : Rat) < t then (b : Rat) else t

/-- The shaper lets the queue be chosen (R182, R183). -/
def State.shaperOpen (s : State) (d att q : Nat) : Bool :=
  match s.shaperOf d att q with
  | some (r, b) => 0 < s.tokens d att q r b
  | none => true

/-- A packet of `len` bytes has been sent: its tokens are taken (R182). -/
def State.spend (s : State) (d att q len : Nat) : State :=
  match s.shaperOf d att q with
  | some (r, b) =>
    let k := qKey d att q
    s.setQueue k { s.queue k with tok := s.tokens d att q r b - (len : Rat), tokAt := max s.clk 1 }
  | none => s

/-! ## The choice of the next packet -/

/-- The best element of a list by a strict order. -/
def bestBy {α : Type} (lt : α → α → Bool) : List α → Option α
  | [] => none
  | a :: l => match bestBy lt l with
    | none => some a
    | some b => if lt b a then some b else some a

/-- The packet enqueued first. -/
def firstOf (l : List Held) : Option Held := bestBy (fun a b => a.order < b.order) l

/-- Marten opens no new chunk while P1 of the den is at BACKPRESSURE (R145). -/
def State.martenHolds (s : State) (d att : Nat) (h : Hdr) : Bool :=
  51 ≤ att && att ≤ 54 && 2 ≤ (s.pool d 1).level && (h.type == 0x08 || h.type == 0x0A)
    && !(Tbl.get {} s.coll.ctxs h.ctx).slots.any (fun x => x.chunk % 65536 == h.chunk)

/-- A virtual channel of an attachment is stopped (R111, R145). -/
def State.stopped (s : State) (d att : Nat) (h : Held) : Bool :=
  if att < 48 then
    let x := s.port (48 * d + att)
    let vc := 2 * h.pkt.hdr.tc + b2n (s.heldDl h)
    (decide (vc < 6) && x.xoffRx.testBit vc) || x.egressHeld || x.loss || x.idCheck || !x.routed
  else s.martenHolds d att h.pkt.hdr

/-- The candidates of a queue: the heads of its two sub-queues, where they may leave (R173, R163). -/
def State.candidates (s : State) (d att q : Nat) : List Held :=
  let l := s.inQueue d att q
  let head := fun b => firstOf (l.filter (fun h => s.heldDl h == b))
  ([head false, head true].filterMap id).filter (fun h => h.released && !h.deep && 0 < h.cellsLeft && !s.stopped d att h)

/-- Order of R176 among candidates by finish tag, queue and virtual channel. -/
def State.tagLt (s : State) (key : Held → Rat) (a b : Held) : Bool :=
  if key a ≠ key b then key a < key b
  else if a.tagF ≠ b.tagF then a.tagF < b.tagF
  else if a.queue ≠ b.queue then a.queue < b.queue
  else !s.heldDl a && s.heldDl b

/-- Weighted queues with something queued at an attachment. -/
def State.busyQueues (s : State) (d att : Nat) : List Nat :=
  let l := s.atAtt d att
  (List.range 63).map (· + 1) |>.filter (fun q => l.any (·.queue == q))

/-- The packet that an attachment serves next (R174, R176). -/
def State.chooseNext (s : State) (d att : Nat) : Option Held :=
  let c0 := if s.shaperOpen d att 0 then s.candidates d att 0 else []
  match bestBy (fun a b => if a.enqAt ≠ b.enqAt then a.enqAt < b.enqAt else !s.heldDl a && s.heldDl b) c0 with
  | some h => some h
  | none =>
    match (if 48 ≤ att then firstOf (s.candidates d att 1) else none) with
    | some h => some h
    | none =>
      let c := ((s.busyQueues d att).filter (s.shaperOpen d att)).flatMap (s.candidates d att)
      let v := s.vt d att
      match bestBy (s.tagLt (·.tagF)) (c.filter (fun h => h.tagS ≤ v)) with
      | some h => some h
      | none => bestBy (s.tagLt (·.tagS)) c

/-- Virtual time after a packet was sent (R176): the least start tag is taken over the packets still queued. -/
def State.advanceVt (s : State) (d att len : Nat) : State :=
  let tags := ((s.atAtt d att).filter (fun h => 1 ≤ h.queue)).map (·.tagS)
  let v := s.vt d att + (len : Rat)
  let v := match bestBy (fun a b => a < b) tags with | some m => if v < m then m else v | none => v
  { s with sw := { s.sw with vtime := Tbl.put 0 s.sw.vtime (attKey d att) v } }

/-! ## Drop and mark -/

/-- The den's LFSR (R153): den + 1 at reset. -/
def State.lfsr (s : State) (d : Nat) : Nat := Tbl.get (d + 1) s.sw.lfsr d

/-- One advance of the LFSR of R153. -/
def lfsrNext (x : Nat) : Nat :=
  let fb := (bits x 31 1 + bits x 21 1 + bits x 1 1 + bits x 0 1) % 2
  (x * 2 + fb) % 2 ^ 32

/-- The act of R153 for a depth in 4 KiB units: MIN_TH, MAX_TH, MAX_P and the LFSR value; the quotient is taken exactly. -/
def hitOf (d mn mx p rnd : Nat) : Bool :=
  if d < mn then false else if mx ≤ d then true else rnd % 256 * (mx - mn) < p * (d - mn)

/-- Profile base of a class and colour (R168): colour 3 counts as red (R104). -/
def profReg (d tc colour : Nat) : Nat := swReg d (0x400 + 0x10 * (3 * (tc - 2) + min colour 2))

/-- What becomes of a packet at stage 7. -/
inductive Verdict where
  | pass
  | mark
  | drop
  deriving DecidableEq, Repr

/-- The judgement of R153 and R154 in den `d` for depth `cells` of a queue that has or has not spilled. -/
def State.judge (s : State) (d : Nat) (h : Hdr) (colour cells : Nat) (spilled : Bool) : State × Verdict :=
  if h.tc < 2 then (s, .pass)
  else
    let rnd := lfsrNext (s.lfsr d)
    let s := { s with sw := { s.sw with lfsr := Tbl.put (d + 1) s.sw.lfsr d rnd } }
    let a := profReg d h.tc colour
    let hit := hitOf (cells / 16) (s.fld a 0 20) (s.fld (a + 4) 0 20) (s.fld (a + 8) 0 8) rnd
    if h.tc = 2 then (s, if hit then .mark else .pass)
    else if (s.pool d 0).level = 3 || (spilled && (s.pool d 3).level = 3) then (s, .drop)
    else if !hit then (s, .pass)
    else (s, if s.fld (a + 8) 8 1 = 1 then .mark else .drop)

/-! ## Deep segments -/

/-- The deep segment of a queue, oldest first. -/
def State.deepOf (s : State) (d att q : Nat) : List Held :=
  let l := (s.inQueue d att q).filter (·.deep)
  l.foldr (fun h acc => (acc.takeWhile (·.order < h.order)) ++ h :: acc.dropWhile (·.order < h.order)) []

/-- A queue has a deep segment (R157). -/
def State.hasDeep (s : State) (d att q : Nat) : Bool := (s.inQueue d att q).any (·.deep)

/-- A packet is to join the deep segment of its queue (R156, R157). -/
def State.wantsSpill (s : State) (d att q tc : Nat) : Bool :=
  let c := swReg d 0x500
  tc ≠ 0 && (s.hasDeep d att q
    || (s.fld c 0 1 = 1 && 1 ≤ (s.pool d 0).level && (tc < 3 || s.fld c 1 1 = 1) && s.fld c 8 12 ≤ s.queueDie d att q / 16
        && (s.pool d 3).quar.length < (s.pool d 3).size))

/-- Cells of the deep segment that stand in the on-die staging chain (R157). -/
def State.stagedCells (s : State) (d att q : Nat) : Nat :=
  let x := s.queue (qKey d att q)
  (s.deepOf d att q).foldl (fun n h => n + h.pkt.hdr.cells) 0 - x.deepRead - x.pages.foldl (· + ·) 0

/-- A page of P3 is taken for a queue: from the TC1 reserve for TC1, else from the shared part, which gives none at
CRITICAL (R145, R156). -/
def State.takePage (s : State) (d tc : Nat) : Option State :=
  let x := s.pool d 3
  if tc = 1 && x.tc1Used < x.tc1Rsv then some ((s.setPool d 3 { x with tc1Used := x.tc1Used + 1 }).relevel d 3)
  else if x.level = 3 || s.poolFree d 3 = 0 then none
  else some (s.poolUse d 3 1)

/-- A page returns to P3. -/
def State.givePage (s : State) (d tc : Nat) : State :=
  let x := s.pool d 3
  if tc = 1 && 0 < x.tc1Used then (s.setPool d 3 { x with tc1Used := x.tc1Used - 1 }).relevel d 3 else s.poolGive d 3 1

/-- Packets wholly within written pages give back their cells on die (R157). -/
def State.unstage (s : State) (d att q : Nat) : State :=
  let x := s.queue (qKey d att q)
  let inPages := x.deepRead + x.pages.foldl (· + ·) 0
  ((s.deepOf d att q).foldl (fun (acc : State × Nat) h =>
      let n := acc.2 + h.pkt.hdr.cells
      if n ≤ inPages && h.chain ≠ 0 && h.complete then
        let s := acc.1.chainUnref h.chain
        ({ s with sw := { s.sw with held := s.sw.held.map (fun y => if y.id = h.id then { y with chain := 0 } else y) } }, n)
      else (acc.1, n)) (s, 0)).1

/-- The open tail page of a queue is written with what is staged, at most 256 cells (R157). -/
def State.writePage (s : State) (d att q : Nat) : State :=
  let k := qKey d att q
  let x := s.queue k
  let n := min 256 (s.stagedCells d att q)
  if x.pageOpen.isNone || n = 0 then s
  else (s.setQueue k { x with pageOpen := none, pages := x.pages ++ [n] }).unstage d att q

/-- The tail page opens for staged cells, and full pages are written, with fuel (R157). -/
def State.pageWork : Nat → State → Nat → Nat → Nat → Nat → State
  | 0, s, _, _, _, _ => s
  | n + 1, s, d, att, q, tc =>
    if s.stagedCells d att q = 0 then s
    else
      let k := qKey d att q
      let opened := if (s.queue k).pageOpen.isSome then some s
        else (s.takePage d tc).map (fun s => s.setQueue k { s.queue k with pageOpen := some s.clk })
      match opened with
      | none => s.poolEmpty d 3
      | some s => if 256 ≤ s.stagedCells d att q then State.pageWork n (s.writePage d att q) d att q tc else s

/-- Packets of the deep segment whose cells are all back return to the die, oldest first, each with a chain; none when a
cell finds no place (R157). -/
def State.unDeep (s : State) (k d : Nat) : List Held → Option State
  | [] => some s
  | h :: l =>
    let x := s.queue k
    let c := h.pkt.hdr.cells
    if x.deepRead < c then some s
    else
      let id := s.sw.nextId
      let s := { s.setQueue k { x with deepRead := x.deepRead - c } with sw := { (s.setQueue k { x with deepRead := x.deepRead - c }).sw with nextId := id + 1 } }
      match (if h.chain ≠ 0 then some s else s.chainTake id d c h.pkt.hdr.tc none) with
      | none => none
      | some s =>
        let ch := if h.chain ≠ 0 then h.chain else id
        State.unDeep { s with sw := { s.sw with held := s.sw.held.map (fun y => if y.id = h.id then { y with deep := false, chain := ch } else y) } } k d l

/-- The oldest page of a queue has been read back (R157): it is freed, and the packets whose cells are all back return to
the die. With no cell free on die the page waits. -/
def State.readPage (s : State) (d att q : Nat) : State :=
  let k := qKey d att q
  let x := s.queue k
  match x.pages, (s.deepOf d att q) with
  | n :: rest, h0 :: l =>
    let s1 := (s.setQueue k { x with pages := rest, deepRead := x.deepRead + n }).givePage d h0.pkt.hdr.tc
    (s1.unDeep k d (h0 :: l)).getD (s.poolEmpty d 0)
  | _, _ => s

end Sys2Proof.Machine
end

