-- ==== Sys2Proof/Machine/Packet.lean ====
section
/-! DEFINITION. A packet's way through the slices: steering and stage 7 (R136, R137, R150, R153), mirroring (R159–R162),
packets that the module originates (R591, R146), packets lost (R89, R105, R588), policers (R178–R181), the crossbar slot
(R148) and what leaves a port (R71, R105, R537). -/

namespace Sys2Proof.Machine

/-- A held packet by its number. -/
def State.heldById (s : State) (i : Nat) : Option Held := s.sw.held.find? (·.id == i)
/-- The held packet with `h`'s number becomes `h`. -/
def State.updHeld (s : State) (h : Held) : State := { s with sw := { s.sw with held := s.sw.held.map (fun y => if y.id = h.id then h else y) } }
/-- A fresh number for a packet or chain. -/
def State.newId (s : State) : Nat × State := (s.sw.nextId, { s with sw := { s.sw with nextId := s.sw.nextId + 1 } })

/-- Bytes of a virtual channel counted in, or out, for the flow control of a port (R110). -/
def State.vcAdd (s : State) (p v n : Nat) : State :=
  (s.setPort p { s.port p with vcBytes := Tbl.put 0 (s.port p).vcBytes v (Tbl.get 0 (s.port p).vcBytes v + n) }).updXoff p
/-- Bytes of a virtual channel counted out (R110). -/
def State.vcSub (s : State) (p v n : Nat) : State :=
  (s.setPort p { s.port p with vcBytes := Tbl.put 0 (s.port p).vcBytes v (Tbl.get 0 (s.port p).vcBytes v - n) }).updXoff p

/-- A deep segment without packets gives back its pages (R157). -/
def State.closeDeep (s : State) (d att q tc : Nat) : State :=
  let k := qKey d att q
  let x := s.queue k
  if s.hasDeep d att q || (x.pages.isEmpty && x.pageOpen.isNone && x.deepRead = 0) then s
  else
    let n := x.pages.length + b2n x.pageOpen.isSome
    (List.range n).foldl (fun s _ => s.givePage d tc) (s.setQueue k { x with pages := [], pageOpen := none, deepRead := 0 })

/-- A packet leaves the den that holds it: its reference to the chain ends (R142), its bytes no longer count for its
arrival port (R110), and its output serves another. -/
def State.takeHeld (s : State) (h : Held) : State :=
  let s := { s with sw := { s.sw with held := s.sw.held.filter (·.id != h.id) } }
  let s := if h.chain = 0 then s else s.chainUnref h.chain
  let s := match h.inPort with
    | some p => if denOf p = h.den && h.pkt.hdr.vc < 6 then s.vcSub p h.pkt.hdr.vc h.pkt.hdr.bytesTotal else s
    | none => s
  match h.att with
  | some a =>
    let k := attKey h.den a
    let s := if Tbl.get 0 s.sw.serving k = h.id then { s with sw := { s.sw with serving := Tbl.put 0 s.sw.serving k 0 } } else s
    if h.deep then s.closeDeep h.den a h.queue h.pkt.hdr.tc else s
  | none => s

/-- A packet is discarded and counted in register `o` of a port, where there is one. -/
def State.lose (s : State) (h : Held) (p : Option Nat) (o : Nat) : State :=
  let s := s.takeHeld h
  match p with | some p => s.bumpLink p o | none => s

/-! ## Stage 7 -/

/-- The egress attachment in the packet's den toward den `t` and attachment `a` there (R150). -/
def attToward (d t a : Nat) : Nat := if d = t then a else bridgeAtt d t

/-- The final port is chosen, where the packet has none and one is eligible, and with it the egress attachment (R125). -/
def State.steer (s : State) (h : Held) : State × Held :=
  match h.cons, h.port, h.fixed with
  | some (cd, ca), _, _ => (s, { h with att := some (attToward h.den cd ca) })
  | none, some p, _ => (s, { h with att := some (attToward h.den (denOf p) (p % 48)) })
  | none, none, some p => (s, { h with port := some p, att := some (attToward h.den (denOf p) (p % 48)) })
  | none, none, none =>
    match s.choosePort h.den h.cands h.pkt.hdr h.inPort with
    | some (p, s) => (s, { h with port := some p, att := some (attToward h.den (denOf p) (p % 48)) })
    | none => (s, { h with att := none })

/-- Depth at which stage 7 judges a packet, in cells, and whether its queue has spilled (R153). -/
def State.judgeDepth (s : State) (h : Held) : Nat × Bool :=
  match h.att with
  | some a => let q := s.queueFor h.den a h.pkt.hdr
              (s.queueCells h.den a q, s.hasDeep h.den a q)
  | none =>
    (h.cands.foldl (fun m p => let d := denOf p
                               max m (s.queueCells d (p % 48) (s.queueFor d (p % 48) h.pkt.hdr))) 0, false)

/-- A packet joins its queue with its tags (R173, R176), or its deep segment (R157). -/
def State.enqueue (s : State) (h : Held) (att : Nat) : State :=
  let d := h.den
  let hd := h.pkt.hdr
  let q := s.queueFor d att hd
  let k := qKey d att q
  let x := s.queue k
  let v := s.vt d att
  let ts := if v < x.fLast then x.fLast else v
  let tf := ts + (hd.bytesTotal : Rat) / s.queuePhi k
  let spill := s.wantsSpill d att q hd.tc
  let h := { h with att := some att, queue := q, tagS := ts, tagF := tf, order := s.sw.nextOrder, enqAt := s.clk, deep := spill }
  let s := if q = 0 then s else s.setQueue k { x with fLast := tf }
  let s := { s with sw := { s.sw with held := s.sw.held ++ [h], nextOrder := s.sw.nextOrder + 1 } }
  let n := s.queueCells d att q
  let s := if att < 48 then s.maxCtr (swReg d (qReg att q + 12)) n else s
  if spill then
    let s := if att < 48 then s.bumpLink (48 * d + att) 0x08C else s
    s.pageWork 20 d att q hd.tc
  else s

/-- Stage 7 once the packet's cells are taken (R136, R137): steering, the drop or mark decision where the packet is judged
in this den, and the queue. `fresh` is false for a packet already judged here. -/
def State.stage7 (s : State) (h : Held) (fresh : Bool) : State :=
  let (s, h) := s.steer h
  let bridging := match h.att with | some a => 48 ≤ a && a < 51 | none => false
  let (dep, spl) := s.judgeDepth h
  let (s, v) := if fresh && !bridging then s.judge h.den h.pkt.hdr h.colour dep spl else (s, .pass)
  match v with
  | .drop =>
    let s := s.takeHeld h
    match h.port, h.cons with
    | some p, _ => s.bumpLink p 0x080
    | none, some _ => s.bump (swReg h.den 0x508)
    | none, none => match h.inPort with | some p => s.bumpLink p 0x080 | none => s
  | v =>
    let marked := v == .mark
    let s := if !marked then s
      else match h.port, h.cons with
        | some p, _ => s.bumpLink p (if h.pkt.hdr.tc = 2 then 0x084 else 0x088)
        | none, some _ => s.bump (swReg h.den 0x50C)
        | none, none => s
    let h := if marked then { h with pkt := { h.pkt with hdr := { h.pkt.hdr with ce := true } } } else h
    -- cut-through only to a port whose payload rate does not exceed the arrival port's (R163)
    let cut := match h.inPort, h.port with
      | some i, some p => !(s.payloadRate i < s.payloadRate p)
      | _, _ => false
    let h := { h with released := h.complete || cut }
    match h.att with
    | some a => s.enqueue h a
    | none => { s with sw := { s.sw with held := s.sw.held ++ [h] } }

/-! ## Mirroring -/

/-- Session `i` of the module. -/
def State.mirror (s : State) (i : Nat) : Mirror := Tbl.get {} s.sw.mirrors i
/-- The session becomes `x`. -/
def State.setMirror (s : State) (i : Nat) (x : Mirror) : State := { s with sw := { s.sw with mirrors := Tbl.put {} s.sw.mirrors i x } }

/-- A session may copy packets of this job (R159). -/
def Mirror.jobOk (x : Mirror) (job : Nat) : Bool := x.en && (x.all || x.job == job)

/-- A flow session matches a header (R160). -/
def Mirror.flowOk (x : Mirror) (h : Hdr) : Bool :=
  (!x.endptEn || (if x.endptDst then h.dst == x.endpt else h.src == x.endpt)) && (!x.typeEn || h.type == x.type) && (!x.ctxEn || h.ctx == x.ctx)

/-- Sessions that copy a packet at stage 6 on port `p` (R160). -/
def State.mirrorsIn (s : State) (p : Nat) (h : Hdr) : List Nat :=
  ((List.range 8).map (fun i => 8 * denOf p + i)).filter (fun i =>
    let x := s.mirror i
    x.jobOk h.job && (if x.flow then x.flowOk h else x.port == p % 48 && x.dir ≠ 1))

/-- Sessions that copy a packet as it is sent on port `p` (R160). -/
def State.mirrorsOut (s : State) (p : Nat) (h : Hdr) : List Nat :=
  ((List.range 8).map (fun i => 8 * denOf p + i)).filter (fun i =>
    let x := s.mirror i
    x.jobOk h.job && !x.flow && x.port == p % 48 && 1 ≤ x.dir)

/-- The copy that session `i` builds of a packet (R161). -/
def State.mirrorPkt (s : State) (i : Nat) (egress bad : Bool) (p : Nat) (orig : Pkt) : Pkt :=
  let x := s.mirror i
  let all := orig.hdr.bytes ++ orig.payload ++ leBytes 4 (trailerOf orig.hdr orig.payload)
  let cap := if bad then orig.hdr.bytes.take (16 * x.snap16) else all.take (16 * x.snap16)
  let w0 := i + b2n egress * 2 ^ 5 + b2n (decide (cap.length < orig.hdr.bytesTotal)) * 2 ^ 6 + b2n bad * 2 ^ 7 + p * 2 ^ 8
    + orig.hdr.bytesTotal * 2 ^ 16
  let meta_ := leBytes 4 w0 ++ leBytes 4 x.droppedSince ++ leBytes 8 s.now
  { hdr := { type := 0x3F, tc := 3, dst := x.adst, src := s.ownId, job := x.job, seq := x.seq, offset := 0xF * 2 ^ 44 + i,
             len := 16 + cap.length },
    payload := meta_ ++ cap }

/-- Counters of a session's dropped copy (R162, R169). -/
def State.mirrorDrop (s : State) (i : Nat) : State :=
  let x := s.mirror i
  ((s.setMirror i { x with droppedSince := sat32 (x.droppedSince + 1) }).bump (swReg (i / 8) (0x614 + 0x20 * (i % 8)))).bump (swReg (i / 8) 0x504)

/-- Session `i` copies a packet (R161, R162): the copy shares chain `c` of den `i ÷ 8`, or takes a cell when `c` is 0. It
is dropped at P0 WARN or where TC3 is dropped on the analysis port. -/
def State.mirrorCopy (s : State) (i : Nat) (egress bad : Bool) (p : Nat) (orig : Pkt) (c : Nat) : State :=
  let d := i / 8
  let x := s.mirror i
  let pkt := s.mirrorPkt i egress bad p orig
  let cd := denOf x.aport
  let q := s.queueFor cd (x.aport % 48) pkt.hdr
  let (s, v) := if cd = d then s.judge d pkt.hdr 0 (s.queueCells cd (x.aport % 48) q) (s.hasDeep cd (x.aport % 48) q) else (s, .pass)
  let pkt := if v = .mark then { pkt with hdr := { pkt.hdr with ce := true } } else pkt
  if v = .drop || 1 ≤ (s.pool d 0).level then s.mirrorDrop i
  else
    let (id, s) := s.newId
    match (if c = 0 then (s.chainTake id d pkt.hdr.cells 3 none) else some (s.chainRef c)) with
    | none => (s.poolEmpty d 0).mirrorDrop i
    | some s =>
      let x := s.mirror i
      let s := if v = .mark then s.bumpLink x.aport 0x088 else s
      let s := (s.setMirror i { x with droppedSince := 0, seq := (x.seq + 1) % 2 ^ 32 }).bump (swReg d (0x610 + 0x20 * (i % 8)))
      s.stage7 { id := id, den := d, pkt := pkt, chain := if c = 0 then id else c, origin := .mirror d, inAtt := 56, fixed := some x.aport,
                 since := s.clk, arrived := pkt.hdr.cells, complete := true } false

/-- A packet that R107 discards is copied by sessions with BAD, header only (R160). -/
def State.mirrorBad (s : State) (p : Nat) (h : Hdr) : State :=
  ((s.mirrorsIn p h).filter (fun i => (s.mirror i).bad)).foldl (fun s i => s.mirrorCopy i false true p { hdr := h } 0) s

/-! ## Packets that the module originates -/

/-- Ports of a way. -/
def Way.list : Way → List Nat
  | .ports l => l
  | _ => []

/-- The den that holds a packet of this origin (R591). -/
def State.originDen (s : State) (o : Origin) (h : Hdr) (ring : Option Nat) : Nat :=
  match o with
  | .port p => denOf p
  | .marten d _ => d
  | .sett d => d
  | .memory d => d
  | .mirror d => d
  | .fox u => u / 6
  | .keeper =>
    let l := (s.route h none ring).list
    match l with
    | [] => 0
    | p0 :: _ =>
      let first := l.filter (fun p => (s.useOf p).dir == (s.useOf p0).dir)
      if (s.useOf p0).use = 0 then denOf p0
      else match first.find? (fun p => s.eligible p (2 * h.tc + b2n (s.outDl h none p))) with
        | some p => denOf p
        | none => 0

/-- A deadline in domain ns as W7 holds it, rounded up to 8 ns (R61, R194). -/
def stampOf (t : Nat) : Nat := ceilDiv t 8 % 2 ^ 32

/-- A packet of the module's own, ready to be offered: its cells are not taken yet. `mc` is the multicast it is a copy of, 0 for none. -/
def State.ownHeld (s : State) (pkt : Pkt) (o : Origin) (ring fixed : Option Nat) (mc : Nat) : Held :=
  { mc := mc, den := s.originDen o pkt.hdr ring, pkt := pkt, origin := o, inAtt := o.att, cands := (s.route pkt.hdr none ring).list,
    since := s.clk, arrived := pkt.hdr.cells, complete := true, ring := ring, fixed := fixed, colour := pkt.hdr.color }

/-- The copy of the same multicast that waits for the same bridge, where there is one (R151). -/
def State.hostOf (s : State) (h : Held) : Option Held :=
  if h.mc = 0 then none
  else s.sw.held.find? (fun y => y.mc == h.mc && y.den == h.den && y.att == h.att && !y.started && (match y.att with | some a => 48 ≤ a && a < 51 | none => false))

/-- The slice takes a packet of the module's own, or it waits for a cell (R146). A copy of a multicast rides on the one copy that crosses its
bridge, or shares the chain of those made in its den (R151). -/
def State.offer (s : State) (h : Held) : State :=
  let (s', h') := if h.mc = 0 then (s, h) else s.steer h
  match s'.hostOf h', h'.port with
  | some y, some p => s'.updHeld { y with riders := y.riders ++ [{ pkt := h'.pkt, port := p, since := s.clk }] }
  | _, _ =>
    let (id, s') := s'.newId
    match s'.mcChain h.den h.mc with
    | some c => (s'.chainRef c).stage7 { h' with id := id, chain := c, since := s.clk } true
    | none =>
      match s'.chainTake id h.den h.pkt.hdr.cells h.pkt.hdr.tc none with
      | some s' => (s'.mcMark id h.mc).stage7 { h' with id := id, chain := id, since := s.clk } true
      | none =>
        let s := s.poolEmpty h.den 0
        { s with sw := { s.sw with waiting := s.sw.waiting ++ [(h.den, h)] } }

/-- A packet the module originates is handed to the slice (R591). One addressed to the module itself reaches its consumer;
one without a route is given up here, its stream holding it where it is tracked (R120, R590). -/
def State.originateMc (s : State) (pkt : Pkt) (o : Origin) (ring fixed : Option Nat) (mc : Nat) : State :=
  match fixed, s.route pkt.hdr none ring with
  | none, .here => { s with sw := { s.sw with delivered := s.sw.delivered ++ [(48 * s.originDen o pkt.hdr ring, pkt)] } }
  | none, .noRoute => s
  | _, _ => s.offer (s.ownHeld pkt o ring fixed mc)

/-- A packet that is no copy of a multicast. -/
def State.originate (s : State) (pkt : Pkt) (o : Origin) (ring fixed : Option Nat) : State := s.originateMc pkt o ring fixed 0

/-- Blocks that hold packets offer them again when cells have been freed (R146). -/
def State.offerWaiting (s : State) : State :=
  let l := s.sw.waiting
  l.foldl (fun s x => s.offer x.2) { s with sw := { s.sw with waiting := [] } }

/-- Packets without a port are released where one of their route has become eligible (R125). -/
def State.releaseWaiting (s : State) (d : Nat) : State :=
  (s.sw.held.filter (fun h => h.den == d && h.att.isNone && h.policer.isNone)).foldl (fun s h =>
    let h := { h with cands := (s.route h.pkt.hdr h.inPort h.ring).list }
    match s.choosePort d h.cands h.pkt.hdr h.inPort with
    | none => s
    | some _ => ({ s with sw := { s.sw with held := s.sw.held.filter (·.id != h.id) } }).stage7 h false) s

/-! ## The crossbar slot -/

/-- Cells per slot of an attachment (R147). -/
def attCap (a : Nat) : Nat := if a < 48 then 1 else if a < 51 then 8 else if a < 56 then 4 else 1

/-- One grant of a slot: output, packet, cells. -/
structure Grant where
  out : Nat := 0
  id : Nat := 0
  inp : Nat := 0
  queue : Nat := 0
  n : Nat := 0
  deriving DecidableEq, Repr

/-- Cells granted to or by something so far. -/
def grantSum (l : List Grant) (f : Grant → Bool) : Nat := (l.filter f).foldl (fun n g => n + g.n) 0

/-- An ascending list of numbers, each once, rotated to begin at or after `ptr`. -/
def rotateFrom (l : List Nat) (ptr : Nat) : List Nat := l.filter (ptr ≤ ·) ++ l.filter (· < ptr)

/-- What output `o` of den `d` grants in one iteration, `acc` having been accepted before (R148). -/
def State.grantsOf (s : State) (d o : Nat) (acc : List Grant) : List Grant :=
  let used := grantSum acc (·.out == o)
  let room := fun i => attCap i - grantSum acc (·.inp == i)
  let left := fun (h : Held) => h.cellsLeft - grantSum acc (·.id == h.id)
  let pick := match s.heldById (Tbl.get 0 s.sw.serving (attKey d o)) with
    | some h => if h.released && h.att == some o then some h else s.chooseNext d o
    | none => s.chooseNext d o
  match pick with
  | none => []
  | some h =>
    if o < 48 then
      let n := min (attCap o - used) (min (room h.inAtt) (left h))
      if n = 0 then [] else [{ out := o, id := h.id, inp := h.inAtt, queue := h.queue, n := n }]
    else
      let q := h.queue
      let l := (s.inQueue d o q).filter (fun x => x.released && !x.deep && !s.stopped d o x && 0 < left x)
      let inputs := rotateFrom (below 64 (fun i => l.any (·.inAtt == i))) (Tbl.get 0 s.sw.gptr (qKey d o q))
      (inputs.foldl (fun (st : Nat × List Grant) i =>
        match firstOf (l.filter (·.inAtt == i)) with
        | some x =>
          let n := min (attCap o - st.1) (min (room i) (left x))
          if n = 0 then st else (st.1 + n, st.2 ++ [{ out := o, id := x.id, inp := i, queue := q, n := n }])
        | none => st) (used, [])).2

/-- What input `i` accepts of the grants to it, starting at its pointer (R148). -/
def State.acceptsOf (s : State) (d i : Nat) (acc grants : List Grant) : List Grant :=
  let mine := grants.filter (·.inp == i)
  let outs := rotateFrom (below 64 (fun o => mine.any (·.out == o))) (Tbl.get 0 s.sw.aptr (attKey d i))
  (outs.foldl (fun (st : Nat × List Grant) o =>
    match mine.find? (·.out == o) with
    | some g => let n := min g.n (attCap i - st.1)
                if n = 0 then st else (st.1 + n, st.2 ++ [{ g with n := n }])
    | none => st) (grantSum acc (·.inp == i), [])).2

/-- Pointers move past each partner accepted in iteration 0 (R148). -/
def State.movePtrs (s : State) (d : Nat) (l : List Grant) : State :=
  l.foldl (fun s g => { s with sw := { s.sw with
    gptr := Tbl.put 0 s.sw.gptr (qKey d g.out g.queue) ((g.inp + 1) % 64), aptr := Tbl.put 0 s.sw.aptr (attKey d g.inp) ((g.out + 1) % 64) } }) s

/-- The iterations of a slot: what has been accepted (R148). -/
def State.matchSlot (s : State) (d : Nat) : Nat → Bool → List Grant → State × List Grant
  | 0, _, acc => (s, acc)
  | n + 1, first, acc =>
    let outs := below 64 (fun o => s.sw.held.any (fun h => h.den == d && h.att == some o))
    let grants := outs.flatMap (fun o => s.grantsOf d o acc)
    let ins := below 64 (fun i => grants.any (·.inp == i))
    let new := ins.flatMap (fun i => s.acceptsOf d i acc grants)
    let s := if first then s.movePtrs d new else s
    State.matchSlot s d n false (acc ++ new)

/-- One accepted cell movement: the first cell of a packet ends its wait (R184), and its port serves it (R148). -/
def State.moveCells (s : State) (d : Nat) (g : Grant) : State :=
  match s.heldById g.id with
  | none => s
  | some h =>
    let s := if h.started || 48 ≤ g.out then s
      else (s.maxCtr (linkReg (48 * d + g.out) (0x0A8 + 4 * h.pkt.hdr.tc)) ((s.clk - h.enqAt) / 1000))
    let s := s.updHeld { h with moved := h.moved + g.n, started := true }
    if g.out < 48 then { s with sw := { s.sw with serving := Tbl.put 0 s.sw.serving (attKey d g.out) g.id } } else s

/-- One slot of den `d` (R148). A den held in reset moves nothing (R30). -/
def State.schedSlot (s : State) (d : Nat) : State :=
  if s.sw.sliceReset.contains d then s
  else
    let s := (s.offerWaiting).releaseWaiting d
    let (s, l) := s.matchSlot d (s.fld (swReg d 0x300) 0 3) true []
    l.foldl (fun s g => s.moveCells d g) s

/-! ## Leaving a port -/

/-- The time stamp of a TEST packet's payload as its first symbol passes the connector: TX_TIME, and DOMAIN where domain time is valid (R524). -/
def State.stampTest (s : State) (l : List Byte) : List Byte :=
  let dom := s.time.domainValid
  leBytes 4 (setBits (leWord l 0) 19 1 (b2n dom)) ++ (l.drop 4).take 8 ++ leBytes 8 (if dom then s.domainNow else s.now) ++ l.drop 20

/-- The header and trailer with which a held packet leaves on port `p` (R35, R38, R105, R106). -/
def State.outgoing (s : State) (h : Held) (p : Nat) : Pkt × Nat :=
  let hd := { h.pkt.hdr with dl := s.outDl h.pkt.hdr h.inPort p }
  match h.inPort, h.trailer with
  | some _, some t => ({ h.pkt with hdr := { hd with hops := (hd.hops + 1) % 64 } }, t)
  | some _, none => ({ h.pkt with hdr := { hd with hops := (hd.hops + 1) % 64 } }, trailerOf hd h.pkt.payload)
  | none, _ =>
    let v := (s.port p).ver
    let hd := { hd with ver := if v = 0 then 2 else v }
    let l := match h.origin with | .fox _ => s.stampTest h.pkt.payload | _ => h.pkt.payload
    ({ hdr := hd, payload := l }, trailerOf hd l)

/-- Registers of port `p`'s injection (R541). -/
def injReg (p o : Nat) : Nat := baseFox + 0xC1000 + 0x10 * p + o

/-- The injection armed on port `p` (R538). -/
def State.inj (s : State) (p : Nat) : Inject := Tbl.get {} s.inject p
/-- The injection becomes `x`. -/
def State.setInj (s : State) (p : Nat) (x : Inject) : State := { s with inject := Tbl.put {} s.inject p x }

/-- A packet injection has struck once: IDONE counts, and the injection ends when its count is spent (R538). -/
def State.struck (s : State) (p : Nat) : State :=
  let x := s.inj p
  (s.setInj p { x with count := x.count - 1, kind := if x.count ≤ 1 then 0 else x.kind }).bump (injReg p 4)

/-- The armed injection matches a packet (R537). -/
def Inject.hits (x : Inject) (h : Hdr) : Bool :=
  3 ≤ x.kind && x.kind ≤ 6 && 0 < x.count && (match x.job with | some j => h.job == j | none => true)
    && (match x.type with | some t => h.type == t | none => true)

/-- A packet goes out on a port's lanes: counted, and subject to the armed injection (R100, R537). -/
def State.sendOut (s : State) (p : Nat) (pkt : Pkt) (trailer : Nat) : State :=
  let count := fun (s : State) => (s.bump64 (linkReg p 0x0C8) 1).bump64 (linkReg p 0x0D8) pkt.hdr.bytesTotal
  let x := s.inj p
  if x.kind = 2 || x.kind = 8 then count s
  else if !x.hits pkt.hdr then count (s.emit (.packet p pkt trailer))
  else
    let s := s.struck p
    if x.kind = 3 then count (s.emit (.packet p pkt (if trailer % 2 = 0 then trailer + 1 else trailer - 1)))
    else if x.kind = 4 then s
    else if x.kind = 5 then count (count ((s.emit (.packet p pkt trailer)).emit (.packet p pkt trailer)))
    else s.setInj p { s.inj p with delayed := (s.inj p).delayed ++ [(pkt, s.clk + 1000 * x.delayNs)] }

/-- Delayed packets whose time has come, or all of them, are sent (R537). -/
def State.sendDelayed (s : State) (p : Nat) (all : Bool) : State :=
  let x := s.inj p
  let due := x.delayed.filter (fun e => all || e.2 ≤ s.clk)
  let s := if due.isEmpty then s else s.setInj p { x with delayed := x.delayed.filter (fun e => !(all || e.2 ≤ s.clk)) }
  due.foldl (fun s e => ((s.emit (.packet p e.1 (trailerOf e.1.hdr e.1.payload))).bump64 (linkReg p 0x0C8) 1).bump64 (linkReg p 0x0D8) e.1.hdr.bytesTotal) s

/-- A packet of the link manager goes out on a port at once, on TC0 (R90, R129). -/
def State.sendMgmt (s : State) (p : Nat) (ver dst : Nat) (payload : List Byte) : State :=
  let h : Hdr := { ver := ver, type := 0x30, dst := dst, src := s.ownId, len := payload.length }
  s.sendOut p { hdr := h, payload := payload } (trailerOf h payload)

/-- A packet has left port `p`: virtual time and tokens move on, its copies are made, its reference ends (R142, R176, R182). -/
def State.leavePort (s : State) (h : Held) (p : Nat) : State :=
  let d := h.den
  let att := p % 48
  let (pkt, tr) := s.outgoing h p
  let s := if h.abort then s.emit (.abort p pkt) else s.sendOut p pkt tr
  let s := if h.abort then s else (s.mirrorsOut p pkt.hdr).foldl (fun s i => s.mirrorCopy i true false p pkt h.chain) s
  let s := if s.pl.paired && (s.useOf p).use = 2 && h.inPort.isSome then s.bump (basePair + 0x38) else s
  let len := h.pkt.hdr.bytesTotal
  let s := s.spend d att h.queue len
  let s := s.takeHeld h
  if h.queue = 0 then s else s.advanceVt d att len

/-- A packet has left for another den: it stands in the bridge (R150). -/
def State.leaveBridge (s : State) (h : Held) (att : Nat) : State :=
  let s := s.takeHeld h
  let s := if h.queue ≤ 1 then s else s.advanceVt h.den att h.pkt.hdr.bytesTotal
  { s with sw := { s.sw with bridge := s.sw.bridge ++ [(h.den, bridgeTo h.den att, h)] } }

/-- A packet that has crossed a bridge passes stages 7 and 8, and with it the copies that its den makes of it, which share its chain (R150, R151). -/
def State.copiesIn (s : State) (l : List Rider) (h : Held) : State :=
  let s := (l.foldl (fun s _ => s.chainRef h.chain) s).stage7 h true
  l.foldl (fun s r =>
    let (id, s) := s.newId
    s.stage7 { h with id := id, pkt := r.pkt, port := some r.port, since := r.since, colour := r.pkt.hdr.color } true) s

/-- The oldest packet of a bridge arrives in its den and passes stages 7 and 8 again (R150). With no cell free there it
stays in the bridge, which is lossless. -/
def State.bridgeIn (s : State) (f t : Nat) : State :=
  match s.sw.bridge.find? (fun x => x.1 == f && x.2.1 == t) with
  | none => s
  | some x =>
    let h := x.2.2
    let (id, s') := s.newId
    match s'.chainTake id t h.pkt.hdr.cells h.pkt.hdr.tc none with
    | none => s.poolEmpty t 0
    | some s' =>
      let s' := { s' with sw := { s'.sw with bridge := s'.sw.bridge.erase x } }
      s'.copiesIn h.riders { h with id := id, den := t, chain := id, att := none, queue := 0, inAtt := bridgeAtt t f, moved := 0, started := false,
                                    deep := false, arrived := h.pkt.hdr.cells, riders := [] }

/-- What is left of a packet, and of the copies that ride on it, when those for port `p` are lost: with their number. -/
def Held.without (h : Held) (p : Nat) : Option Held × Nat :=
  let keep := h.riders.filter (fun r => r.port != p)
  let n := h.riders.length - keep.length
  if h.port ≠ some p then (some { h with riders := keep }, n)
  else match keep with
    | [] => (none, n + 1)
    | r :: l => (some { h with pkt := r.pkt, port := some r.port, since := r.since, colour := r.pkt.hdr.color, riders := l }, n + 1)

/-- Every packet queued for a port or in flight on it is lost (R89, R588). -/
def State.flushPort (s : State) (p : Nat) : State :=
  let s := (s.sw.held.filter (fun h => h.port == some p || h.riders.any (·.port == p))).foldl (fun s h =>
    match h.without p with
    | (none, n) => (s.takeHeld h).bumpBy (linkReg p 0x078) n
    | (some y, n) => (s.updHeld y).bumpBy (linkReg p 0x078) n) s
  let n := s.sw.bridge.foldl (fun n x => n + (x.2.2.without p).2) 0
  let s := { s with sw := { s.sw with bridge := s.sw.bridge.filterMap (fun x => (x.2.2.without p).1.map (fun h => (x.1, x.2.1, h))) } }
  if n = 0 then s else s.bumpBy (linkReg p 0x078) n

/-- A packet held for more than 1 ms is discarded (R105, R132). -/
def State.residenceOut (s : State) (id : Nat) : State :=
  match s.heldById id with
  | none => s
  | some h =>
    let s := h.riders.foldl (fun s r => s.bumpLink r.port 0x07C) (s.lose h (match h.port with | some p => some p | none => h.inPort) 0x07C)
    if h.pkt.hdr.tc = 1 then s.event { word := h.den, source := fTc1Residence, job := some h.pkt.hdr.job } else s

/-! ## Policers -/

/-- Policer `i` of port `p`. -/
def State.policer (s : State) (k : Nat) : Policer := Tbl.get {} s.sw.policers k
/-- The policer becomes `x`. -/
def State.setPolicer (s : State) (k : Nat) (x : Policer) : State := { s with sw := { s.sw with policers := Tbl.put {} s.sw.policers k x } }

/-- The enabled policer that a packet of a down port meets, by its key (R178). -/
def State.policerFor (s : State) (p : Nat) (h : Hdr) : Option Nat :=
  ((List.range 32).map (fun i => 32 * p + i)).find? (fun k => let x := s.policer k; x.en && x.job == h.job && x.tc == h.tc)

/-- Token counts of a policer now (R179). -/
def State.policerNow (s : State) (x : Policer) : Rat × Rat :=
  let dt : Rat := ((s.clk - x.at_ : Nat) : Rat) / 1000000000000
  let f := fun (t : Rat) (r b : Nat) => let y := t + rateOf r * dt
                                       if ((256 * b : Nat) : Rat) < y then ((256 * b : Nat) : Rat) else y
  (f x.tcTok x.cir x.cbs, f x.tpTok x.pir x.pbs)

/-- The marker of R179: the colour out and the token counts after. -/
def marker (tc tp : Rat) (n colour : Nat) : Nat × Rat × Rat :=
  if 2 ≤ colour || tp < (n : Rat) then (2, tc, tp)
  else if colour = 1 || tc < (n : Rat) then (1, tc, tp - n)
  else (0, tc - n, tp - n)

/-- A policer colours a packet: the colour at this hop (R179). -/
def State.colourBy (s : State) (p k : Nat) (h : Hdr) : Nat × State :=
  let x := s.policer k
  let (tc, tp) := s.policerNow x
  let (c, tc, tp) := marker tc tp h.bytesTotal h.color
  let s := s.setPolicer k { x with tcTok := tc, tpTok := tp, at_ := s.clk }
  (c, if c = 1 then s.bumpLink p 0x0A0 else if c = 2 then s.bumpLink p 0x0A4 else s)

/-- A regulating policer passes a packet now: enough tokens, and none held before it (R180). -/
def State.wouldPass (s : State) (k : Nat) (h : Hdr) : Bool :=
  let (tc, tp) := s.policerNow (s.policer k)
  !s.sw.held.any (fun y => y.policer == some k) && (h.bytesTotal : Rat) ≤ tc && (h.bytesTotal : Rat) ≤ tp

/-- A packet takes its tokens from a regulating policer (R180). -/
def State.regTake (s : State) (k n : Nat) : State :=
  let x := s.policer k
  let (tc, tp) := s.policerNow x
  let f := fun (t : Rat) => if t < (n : Rat) then 0 else t - (n : Rat)
  s.setPolicer k { x with tcTok := f tc, tpTok := f tp, at_ := s.clk }

/-- A regulating policer holds a packet: TC1_HELD, and TC1_NONCONFORM at the first hold of each 1 ms window (R180). -/
def State.regHold (s : State) (p k : Nat) : State :=
  let x := s.policer k
  let s := s.bumpLink p 0x09C
  let newWindow := match x.windowAt with | some t => decide (t + ms ≤ s.clk) | none => true
  if newWindow then
    (s.setPolicer k { x with windowAt := some s.clk }).event { word := denOf p, source := fTc1Nonconform, unit := p, kind := .port, job := some x.job }
  else s

/-- The oldest packet that a regulating policer holds is green and goes on to stages 6 to 8 (R180). -/
def State.policerRelease (s : State) (p i : Nat) : State :=
  let k := 32 * p + i
  match s.sw.held.find? (fun h => h.policer == some k) with
  | none => s
  | some h =>
    let s := s.regTake k h.pkt.hdr.bytesTotal
    let s := { s with sw := { s.sw with held := s.sw.held.filter (·.id != h.id) } }
    (s.stage7 { h with policer := none, colour := 0, mirrors := s.mirrorsIn p h.pkt.hdr } true).updXoff p

end Sys2Proof.Machine
end

