-- ==== Sys2Proof/Machine/FoxTap.lean ====
section
/-! DEFINITION. Fox checkers: the tap on arriving packets (R522), what a flow counts (R528–R531), the patterns (R525). -/

namespace Sys2Proof.Machine

/-- Offset `o` of Fox unit `u`'s window (R539). -/
def foxReg (u o : Nat) : Nat := baseFox + 0x8000 * u + o

/-- Fox unit `u`. -/
def State.foxUnit (s : State) (u : Nat) : FoxUnit := Tbl.get {} s.inst.fox u
/-- It becomes `x`. -/
def State.setFox (s : State) (u : Nat) (x : FoxUnit) : State := { s with inst := { s.inst with fox := Tbl.put {} s.inst.fox u x } }
/-- Flow `k` of unit `u`. -/
def State.flowK (s : State) (u k : Nat) : FoxFlow := Tbl.get {} (s.foxUnit u).flows k
/-- It becomes `x`. -/
def State.setFlowK (s : State) (u k : Nat) (x : FoxFlow) : State :=
  s.setFox u { s.foxUnit u with flows := Tbl.put {} (s.foxUnit u).flows k x }

/-- Counter `o` of flow `k` of unit `u` (R540). -/
def flowReg (u k o : Nat) : Nat := foxReg u (0x400 + 0x40 * k + o)

/-! ## Patterns (R525) -/

/-- The next state of the generator of x^31 + x^28 + 1. -/
def prbsNext (st : Nat) : Nat := st * 2 % 2 ^ 31 + (bits st 30 1 + bits st 27 1) % 2

/-- The next byte of that generator, its first bit in bit 0, and the state after it. -/
def prbsByte (st : Nat) : Nat × Nat :=
  (List.range 8).foldl (fun a i => let n := prbsNext a.2; (a.1 + n % 2 * 2 ^ i, n)) (0, st)

/-- `n` bytes of the generator. -/
def prbsBytes : Nat → Nat → List Byte
  | 0, _ => []
  | n + 1, st => let r := prbsByte st; BitVec.ofNat 8 r.1 :: prbsBytes n r.2

/-- `n` pattern bytes (R525). -/
def patternBytes (pat const_ seed seq n : Nat) : List Byte :=
  let each := fun (f : Nat → Nat) => (List.range n).map (fun k => BitVec.ofNat 8 (f k))
  if pat = 0 then each (fun _ => 0)
  else if pat = 1 then each (fun _ => const_)
  else if pat = 2 then each (fun k => seq + k)
  else if pat = 3 then (let st := (seed ^^^ seq) % 2 ^ 31; prbsBytes n (if st = 0 then 1 else st))
  else each (fun k => bits (mix64 (mix64 (seed % 2 ^ 64) ^^^ (seq * 2 ^ 20 % 2 ^ 64) ^^^ (k / 8))) (8 * (k % 8)) 8)

/-- The pattern bytes of a TEST packet are those that its header and SEQ call for (R525). -/
def patternOk (pkt : Pkt) : Bool :=
  let w := leWord pkt.payload
  pkt.payload.drop 24 == patternBytes (bits (w 0) 16 3) (bits (w 0) 20 8) (w 1 + w 2 * 2 ^ 32) pkt.hdr.seq (pkt.payload.length - 24)

/-! ## Header rules (R528) -/

/-- A packet breaks R101, R102 or R119 in a field that PROTO_EN checks; `chip` says that it comes straight from its source. -/
def protoBad (chip : Bool) (pkt : Pkt) : Bool :=
  let h := pkt.hdr
  let w := leWord pkt.payload 0
  let rsv := h.rsv0 != 0 || h.rsv1 != 0 || h.rsv2 != 0 || h.rsv5 != 0
    || (h.type == 0x04 && (bits w 10 6 != 0 || bits w 24 8 != 0 || bit (leWord pkt.payload 2) 0))
  let mut_ := (h.ece && h.type != 0x04) || (h.late && h.tc != 1) || (chip && (h.dl || h.ce || h.late || h.hops != 0))
  rsv || mut_ || (h.tc != 1 && !([0x08, 0x09, 0x0A, 0x10, 0x11].contains h.type) && h.deadline != 0)

/-! ## The tap (R522, R530) -/

/-- A flow counts packets of this header (R528). -/
def FoxFlow.takes (x : FoxFlow) (p : Nat) (h : Hdr) : Bool :=
  x.en && x.running && x.ports.testBit (p % 8) && h.type == 0x3F && h.job == x.job && h.offset / 2 ^ 44 == 0 && (x.any || h.offset % 2 ^ 9 == x.sid)

/-- Flows of the unit of port `p` that satisfy `f`. -/
def State.flowsAt (s : State) (p : Nat) (f : FoxFlow → Bool) : List Nat := below 16 (fun k => f (s.flowK (p / 8) k))

/-- A packet that failed check 7 counts CRC_BAD in the flows that would take it, and nothing else (R530). -/
def State.tapBad (s : State) (p : Nat) (h : Hdr) : State :=
  (s.flowsAt p (fun x => x.takes p h)).foldl (fun s k => s.bump (flowReg (p / 8) k 0x20)) s

/-- A packet that passed checks 1–7 passes the tap of its port: header rules are checked, and a TEST packet waits for its flows (R522, R528). -/
def State.tap (s : State) (p : Nat) (pkt : Pkt) : State :=
  let chip := match (s.port p).peer with | some i => i.role == 0 | none => false
  let s := if protoBad chip pkt then
      (s.flowsAt p (fun x => x.en && x.running && x.protoEn && x.ports.testBit (p % 8))).foldl (fun s k => s.bump (flowReg (p / 8) k 0x28)) s
    else s
  if (s.flowsAt p (fun x => x.takes p pkt.hdr)).isEmpty then s
  else
    let t : Tap := { port := p, pkt := pkt, now := s.now, domain := if s.time.domainValid then some s.domainNow else none }
    { s with inst := { s.inst with taps := s.inst.taps ++ [t] } }

/-! ## Counting (R529–R531) -/

/-- The window takes sequence number `q`: the flow after it, what LOST counts, and the case: 0 late, 1 duplicate, 2 new, 3 new and reordered. -/
def FoxFlow.arrive (x : FoxFlow) (q : Nat) : FoxFlow × Nat × Nat :=
  if seqLt q x.base then (x, 0, 0)
  else
    let far := 1024 ≤ seqDiff q x.base
    let b := if far then (q + 2 ^ 32 - 1023) % 2 ^ 32 else x.base
    let n := seqDiff b x.base
    let gone := fun (y : Nat) => seqLt y b
    let lost := if far then n - (x.seen.filter gone).length else 0
    let seen := if far then x.seen.filter (fun y => !gone y) else x.seen
    if seen.contains q then ({ x with base := b, seen := seen }, lost, 1)
    else
      let re := match x.highest with | some m => seqLt q m | none => false
      ({ x with base := b, seen := q :: seen, highest := if re then x.highest else some q }, lost, if re then 3 else 2)

/-- A latency in ns feeds LAT_MIN, LAT_MAX, LAT_SUM and the histogram (R531, R540). -/
def State.latency (s : State) (u k ns : Nat) : State :=
  let x := s.flowK u k
  let a := fun o => flowReg u k o
  let v := sat32 ns
  let s := s.setCtr (a 0x30) (if x.lat then min (s.ctr (a 0x30)) v else v)
  let s := ((s.maxCtr (a 0x34) v).bump64 (a 0x08) ns).setFlowK u k { x with lat := true }
  if !x.histEn then s
  else
    let c := s.reg (foxReg u (0x40 + 4 * x.hist))
    let base := bits c 0 20
    let b := if ns < base then 0 else min 63 (1 + (ns - base) / 2 ^ bits c 20 5)
    s.bump (foxReg u (0x800 + 0x100 * x.hist + 4 * b))

/-- A tapped packet's time in the base that its DOMAIN names; none where the receiver's domain time is not valid (R531). -/
def Tap.rxTime (t : Tap) : Option Nat := if bit (leWord t.pkt.payload 0) 19 then t.domain else some t.now

/-- Flow `k` of unit `u` counts a tapped packet (R529–R531). -/
def State.flowCount (s : State) (u : Nat) (t : Tap) (k : Nat) : State :=
  let a := fun o => flowReg u k o
  let x := s.flowK u k
  let q := t.pkt.hdr.seq
  let (y, lost, case_) := x.arrive q
  let s := (s.setFlowK u k y).bumpBy (a 0x14) lost
  let s := if case_ = 0 then s.bump (a 0x18) else if case_ = 1 then s.bump (a 0x10)
    else (let s := s.bump64 (a 0x00) 1; if case_ = 3 then s.bump (a 0x1C) else s)
  let s := if x.payEn && !patternOk t.pkt then
      (let s := s.bump (a 0x24)
       if x.bad then s else (s.setCtr (a 0x38) q).setFlowK u k { s.flowK u k with bad := true, firstBad := q })
    else s
  if case_ < 2 then s
  else match t.rxTime with
    | none => s.bump (a 0x2C)
    | some r => s.latency u k ((r + 2 ^ 64 - leNat ((t.pkt.payload.drop 12).take 8)) % 2 ^ 64)

/-- A TEST packet reaches its port's checker flows (R522, R529). -/
def State.testPkt (s : State) (p : Nat) (pkt : Pkt) : State :=
  match s.inst.taps.find? (fun t => t.port == p && t.pkt == pkt) with
  | none => s
  | some t =>
    let s := { s with inst := { s.inst with taps := s.inst.taps.erase t } }
    (s.flowsAt p (fun x => x.takes p pkt.hdr)).foldl (fun s k => s.flowCount (p / 8) t k) s

/-- A flow settles: every clear bit from BASE to the highest number received counts LOST (R529). -/
def State.settleFlow (s : State) (u k : Nat) : State :=
  let x := s.flowK u k
  let lost := match x.highest with
    | some m => if seqLt m x.base then 0 else seqDiff m x.base + 1 - x.seen.length
    | none => 0
  (s.bumpBy (flowReg u k 0x14) lost).setFlowK u k { x with running := false }

end Sys2Proof.Machine
end

