-- ==== Sys2Proof/Machine/Ingress.lean ====
section
/-! DEFINITION. The ingress pipeline: the deadline check (R195, R196), the checks of R107, the partition checks (R49), the
route (R20, R590), policing, mirror match and first cell (R136), and what follows at the trailer (R107, R108). -/

namespace Sys2Proof.Machine

/-- TYPE codes with the classes R103 allows, as a mask of classes. -/
def typeClasses : List (Nat × Nat) :=
  [(0x01, 0xE), (0x02, 0xF), (0x03, 0xF), (0x04, 0x1), (0x08, 0x6), (0x09, 0x6), (0x0A, 0x6), (0x10, 0x6), (0x11, 0x6), (0x14, 0xE), (0x15, 0xE),
   (0x20, 0x1), (0x21, 0x1), (0x28, 0x1), (0x30, 0x1), (0x3F, 0xF)]

/-- TYPE and TC are allowed by R103. -/
def typeOk (t tc : Nat) : Bool := typeClasses.any (fun e => e.1 == t && e.2.testBit tc)

/-- Tracked types of R103. -/
def tracked (t : Nat) : Bool := t ∈ [0x01, 0x02, 0x08, 0x09, 0x0A, 0x10, 0x11, 0x14, 0x20]

/-- Endpoint in the reserved range of R42. -/
def epReserved (e : Nat) : Bool := 9216 ≤ e

/-- Checks 2 (LEN), 3 and 4 of R107 and R49's on LINK_MGMT: the counter of the first that fails. Check 3 of LINK_MGMT, which excepts the identity
message, waits for the payload. -/
def State.headCheck (s : State) (p : Nat) (h : Hdr) : Option Nat :=
  let x := s.port p
  if 4096 < h.len then some 0x064
  else if h.type ≠ 0x30 && h.ver ≠ x.ver then some 0x068
  else if !typeOk h.type h.tc || epReserved h.dst || epReserved h.src then some 0x068
  else if h.type = 0x30 && h.job ≠ 0 then some 0x068
  else none

/-- The chip attached to a port (R49, R93): its matched or accepted far end, in QUARANTINE the one its last identity named. -/
def State.attached (s : State) (p : Nat) : Option Nat :=
  let x := s.port p
  if x.st = .quarantine then x.peer.map (·.endpoint) else x.bound

/-- The partition checks of R49 on a packet of port `p`. -/
def State.partCheck (s : State) (p : Nat) (h : Hdr) : Bool :=
  let e := s.part h.job
  if (s.useOf p).use = 0 then
    e.valid && e.planes.testBit s.pl.plane && s.attached p == some h.src
      && (if h.job = 0 then h.type = 0x20 && (h.dst = s.ownId || (s.pair.alias_ && h.dst = 8192 + s.pl.partner))
          else s.inJob h.job h.dst || 8192 ≤ h.dst)
  else e.valid

/-- Lateness in 8 ns units of a deadline against a time in ns, when it lies beyond the tolerance (R195). -/
def lateness (now w7 tol : Nat) : Option Nat :=
  let n8 := now / 8 % 2 ^ 32
  let d := toSigned 32 (seqDiff w7 n8)
  if d < -(tol : Int) then some (-d).toNat else none

/-- The deadline check of a TC1 packet (R195, R196): LATE set, counted and raised. -/
def State.deadlineCheck (s : State) (p : Nat) (h : Hdr) : State × Hdr :=
  if h.tc ≠ 1 then (s, h)
  else if h.late then (s.bumpLink p 0x094, h)
  else
    let up := (s.useOf p).use ≠ 0
    let cfg := swReg 0 0x240
    if up && (!s.time.domainValid || s.fld cfg 0 1 = 0) then (s.bumpLink p 0x098, h)
    else if !up && !s.time.seen then (s.bumpLink p 0x098, h)
    else
      match lateness (if up then s.domainNow else s.now) h.deadline (s.fld cfg 8 8) with
      | none => (s, h)
      | some n =>
        let e : Event := { word := denOf p, source := fTc1Late, unit := p, kind := .port, job := some h.job,
                           detail := [h.src + h.dst * 2 ^ 14, n] }
        ((s.bumpLink p 0x090).event e, { h with late := true })

/-- The Marten unit, 4 × den + group, that a packet of a context goes to (R206, R321), where the context is here. -/
def State.martenUnit (s : State) (ctx chunk tok : Nat) : Option Nat :=
  let c := Tbl.get {} s.coll.ctxs ctx
  if c.dens.isEmpty then none
  else
    let n := 4 * c.dens.length
    let b := c.locals.length * (bits (c.desc.getD 14 0) 0 16 + 1)
    let u := if bits (c.desc.getD 0 0) 0 4 = 5 then (chunk * b + tok) % n else chunk % n
    some (4 * c.dens.getD (u / 4) 0 + u % 4)

/-- The den of a module offset: of the channel that holds it, or of the visible core's window (R340); den `d0` elsewhere. -/
def State.denOfOffset (s : State) (o d0 : Nat) : Nat :=
  match s.chanOf o with
  | some (slow, c, _) => c / s.tierChans slow
  | none => d0

/-- The consumer of R20 for a packet addressed to the module: den and attachment (R147); none for a TYPE it does not take. -/
def State.consumerOf (s : State) (p : Nat) (h : Hdr) : Option (Nat × Nat) :=
  let d := denOf p
  let marten := match s.martenUnit h.ctx h.chunk h.msg with | some u => (u / 4, 51 + u % 4) | none => (d, 51)
  match h.type with
  | 0x01 => some (s.denOfOffset h.offset d, 55)
  | 0x02 => some (s.denOfOffset h.offset d, 55)
  | 0x03 => some (d, 55)
  | 0x04 => some (d, 57)
  | 0x08 => some marten
  | 0x0A => some marten
  | 0x10 => some (d, 55)
  | 0x11 => some marten
  | 0x14 => some (d, 55)
  | 0x20 => some (d, 57)
  | 0x21 => some (d, 57)
  | 0x28 => some (d, 57)
  | 0x3F => some (d, 58 + p % 48 / 8)
  | _ => none

/-- The arriving packet is discarded at its header. -/
def State.discardHead (s : State) (p : Nat) (h : Hdr) (o : Nat) : State :=
  let s := s.bumpLink p o
  s.setPort p { s.port p with rx := some { hdr := h, discarded := true } }

/-- A TC1 packet finds no cell (R146, R454): the record names the den's P0. -/
def State.noTc1Buffer (s : State) (d job : Nat) : State :=
  s.event { word := d, source := fTc1NoBuffer, unit := 4 * d, kind := .pool, job := some job, detail := [(s.pool d 0).level] }

/-- The header fails one of the checks 2 to 6, or R589's: the packet is discarded, and counted once the checks before have passed (log 28). -/
def State.failHead (s : State) (p : Nat) (h : Hdr) (o : Nat) : State :=
  s.setPort p { s.port p with rx := some { hdr := h, discarded := true, fail := some o } }

/-- Stages 5 to 8 of a packet whose route is known (R136). -/
def State.admits (s : State) (p : Nat) (h : Hdr) (cands : List Nat) (cons : Option (Nat × Nat)) : State :=
  let d := denOf p
  let pol := if (s.useOf p).use = 0 then s.policerFor p h else none
  let (colour, hold, s) := match pol with
    | none => (min h.color 2, none, s)
    | some k =>
      if (s.policer k).regulate then
        if s.wouldPass k h then (0, none, s.regTake k h.bytesTotal) else (0, some k, s.regHold p k)
      else let (c, s) := s.colourBy p k h; (c, none, s)
  let (id, s) := s.newId
  let held : Held := { id := id, den := d, pkt := { hdr := h }, chain := id, origin := .port p, inAtt := p % 48, colour := colour,
                       cands := cands, cons := cons, since := s.clk, arrived := 1, policer := hold,
                       mirrors := if hold.isSome then [] else s.mirrorsIn p h }
  -- a packet that a regulating policer holds occupies shared cells (R180)
  match (if hold.isSome then s.chainTake id d 1 0 none else s.chainTake id d 1 h.tc (some p)) with
  | none =>
    let s := (s.poolEmpty d 0).setPort p { s.port p with rx := some { hdr := h, discarded := true } }
    if h.tc = 1 then s.noTc1Buffer d h.job
    else (s.bumpLink p 0x074).raisePort p fHeadroomOvf
  | some s =>
    let s := s.setPort p { s.port p with rx := some { hdr := h, held := some id } }
    let s := if h.vc < 6 then s.vcAdd p h.vc h.bytesTotal else s
    if hold.isSome then { s with sw := { s.sw with held := s.sw.held ++ [held] } }.updXoff p
    else s.stage7 held true

/-- A packet header arrives (R136, stages 1 to 8). -/
def State.headerIn (s : State) (p : Nat) (h0 : Hdr) : State :=
  let x := s.port p
  -- R589: packets are decoded in IDENT, ACTIVE and QUARANTINE only
  if x.st ≠ .ident && x.st ≠ .active && x.st ≠ .quarantine then s
  else
    let s := s.setPort p { x with rxBad := false }
    let (s, h) := s.deadlineCheck p h0
    -- R498: in DROWSE every packet other than LINK_MGMT is discarded
    if s.power.pstate = 2 && h.type ≠ 0x30 then
      (s.setPort p { s.port p with rx := some { hdr := h, discarded := true } }).bump (basePower + 0x094)
    else
    match s.headCheck p h with
    | some o => s.failHead p h o
    | none =>
      if h.type = 0x30 then s.setPort p { s.port p with rx := some { hdr := h } }
      -- R421: a fenced pair member accepts no packet except LINK_MGMT
      else if s.pair.st = 4 then s.setPort p { s.port p with rx := some { hdr := h, discarded := true } }
      -- R89: until the far end's identity has matched, LINK_MGMT only
      else if x.idCheck then s.setPort p { s.port p with rx := some { hdr := h, discarded := true } }
      else if (s.emulated p).isSome && x.st = .active then s.setPort p { s.port p with rx := some { hdr := h } }
      else if !s.partCheck p h then s.failHead p h 0x06C
      else if s.fld (swReg 0 0x200) 24 4 ≤ h.hops then s.failHead p h 0x070
      else if x.st ≠ .active then s.failHead p h 0x0B8
      else
        match s.route h (some p) none with
        | .noRoute => s.discardHead p h 0x0BC
        | .ports l => s.admits p h l none
        | .here =>
          match s.consumerOf p h with
          | none => s.discardHead p h 0x068
          | some c => s.admits p h [] (some c)

/-- The rest of an arriving packet is bad (R107, R108): a copy already leaving is ended by ABORT, any other is discarded. -/
def State.abortHeld (s : State) (id : Nat) : State :=
  match s.heldById id with
  | none => s
  | some h =>
    if h.started && (match h.att with | some a => a < 48 | none => false) then
      s.updHeld { h with abort := true, complete := true, released := true, arrived := h.pkt.hdr.cells }
    else s.takeHeld h

/-- The packet's last cells are taken as they arrive (R137, R146): none when a cell finds no place. -/
def State.takeRest (s : State) (p : Nat) (h : Held) : Option State :=
  let n := h.pkt.hdr.cells - 1
  if n = 0 then some s else if h.policer.isSome then s.chainTake h.chain h.den n 0 none else s.chainTake h.chain h.den n h.pkt.hdr.tc (some p)

/-- The whole packet has arrived and passed every check: it is released, copied by the sessions that matched (R160, R163). -/
def State.completeHeld (s : State) (p id : Nat) (pkt : Pkt) (trailer : Nat) : State :=
  match s.heldById id with
  | none => s
  | some h =>
    -- the pages of a deep segment hold its cells, not the die
    match (if h.deep && h.chain = 0 then some s else s.takeRest p h) with
    | none =>
      let s := (s.poolEmpty h.den 0).abortHeld id
      if h.pkt.hdr.tc = 1 then s.noTc1Buffer h.den h.pkt.hdr.job
      else (s.bumpLink p 0x074).raisePort p fHeadroomOvf
    | some s =>
      let h := (s.heldById id).getD h
      -- the marks made at this hop stay (CE, LATE)
      let s := s.updHeld { h with pkt := { hdr := h.pkt.hdr, payload := pkt.payload }, trailer := some trailer, complete := true,
                                  released := true, arrived := h.pkt.hdr.cells }
      let s := h.mirrors.foldl (fun s i => s.mirrorCopy i false false p { hdr := h.pkt.hdr, payload := pkt.payload } h.chain) s
      match h.att with
      | some a =>
        let s := if a < 48 then s.maxCtr (swReg h.den (qReg a h.queue + 12)) (s.queueCells h.den a h.queue) else s
        if h.deep then s.pageWork 20 h.den a h.queue h.pkt.hdr.tc else s
      | none => s

/-- A packet that failed at its header is counted, in the order of R107: its length first, and R589's counter after check 7 (log 28). -/
def State.countFail (s : State) (p : Nat) (h : Hdr) (payload : List Byte) (trailer o : Nat) : State :=
  let o := if payload.length ≠ h.len then 0x064 else if o = 0x0B8 && trailerOf h payload ≠ trailer then 0x060 else o
  let s := s.bumpLink p o
  let s := if o = 0x06C then s.event { word := denOf p, source := fPartition, unit := p, kind := .port, job := some h.job } else s
  if o = 0x0B8 then s else s.mirrorBad p h

/-- A packet's last byte and trailer arrive (R107 checks 1, 2 and 7; R108). `cwOk` is false when a codeword that carried it
was uncorrectable, `aborted` when ABORT ended it. -/
def State.trailerIn (s : State) (p : Nat) (payload : List Byte) (trailer : Nat) (cwOk aborted : Bool) : State :=
  match (s.port p).rx with
  | none => s
  | some a =>
    let bad := !cwOk || aborted || (s.port p).rxBad
    let s := s.setPort p { s.port p with rx := none, rxBad := false }
    let dropIt := fun (s : State) => match a.held with | some id => s.abortHeld id | none => s
    if bad then
      let s := if aborted then s.bumpLink p 0x130 else s
      dropIt s
    else
      let s := (s.bump64 (linkReg p 0x0C0) 1).bump64 (linkReg p 0x0D0) (36 + payload.length)
      if a.discarded then (match a.fail with | some o => s.countFail p a.hdr payload trailer o | none => s)
      else if payload.length ≠ a.hdr.len then (dropIt (s.bumpLink p 0x064)).mirrorBad p a.hdr
      else if a.held.isNone && a.hdr.type = 0x30 && a.hdr.ver ≠ (s.port p).ver && bits (leWord payload 0) 0 8 ≠ 1 then (s.bumpLink p 0x068).mirrorBad p a.hdr
      else if trailerOf a.hdr payload ≠ trailer then ((dropIt (s.bumpLink p 0x060)).mirrorBad p a.hdr).tapBad p a.hdr
      else
        let s := s.tap p { hdr := a.hdr, payload := payload }
        match a.held with
        | some id => s.completeHeld p id { hdr := a.hdr, payload := payload } trailer
        | none =>
          if (s.emulated p).isSome && a.hdr.type ≠ 0x30 then
            { s with inst := { s.inst with golden := { s.inst.golden with inbox := s.inst.golden.inbox ++ [(p, { hdr := a.hdr, payload := payload })] } } }
          else { s with sw := { s.sw with delivered := s.sw.delivered ++ [(p, { hdr := a.hdr, payload := payload })] } }

/-- A packet being received is lost with the link: discarded, or ended by ABORT (R82, R89, R66). -/
def State.dropArrival (s : State) (p : Nat) : State :=
  match (s.port p).rx with
  | none => s
  | some a =>
    let s := s.setPort p { s.port p with rx := none, rxBad := false }
    match a.held with | some id => s.abortHeld id | none => s

/-- A packet handed to a consumer is taken from those delivered. -/
def State.taken (s : State) (p : Nat) (pkt : Pkt) : State := { s with sw := { s.sw with delivered := s.sw.delivered.erase (p, pkt) } }

end Sys2Proof.Machine
end

