-- ==== Sys2Proof/Machine/Streams.lean ====
section
/-! DEFINITION. End-to-end delivery (R114–R127, R592): transmit and receive streams, COMPLETION packets, resends and holds,
the rate response, and the arrival of a packet at a consumer inside the module. -/

namespace Sys2Proof.Machine

/-- Transmit stream to `dst` in class `tc`. -/
def State.txs (s : State) (dst tc : Nat) : TxStream := Tbl.get {} s.st.tx (4 * dst + tc)
/-- The stream becomes `x`. -/
def State.setTxs (s : State) (dst tc : Nat) (x : TxStream) : State := { s with st := { s.st with tx := Tbl.put {} s.st.tx (4 * dst + tc) x } }
/-- Receive stream from `src` in class `tc`. -/
def State.rxs (s : State) (src tc : Nat) : RxStream := Tbl.get {} s.st.rx (4 * src + tc)
/-- The stream becomes `x`. -/
def State.setRxs (s : State) (src tc : Nat) (x : RxStream) : State := { s with st := { s.st with rx := Tbl.put {} s.st.rx (4 * src + tc) x } }

/-- Fields of E2E_CFG (R133): RTO in µs. -/
def State.rtoUs (s : State) : Nat := s.fld (swReg 0 0x200) 0 10
/-- RESEND_MAX (R133). -/
def State.resendMax (s : State) : Nat := s.fld (swReg 0 0x200) 10 4

/-- The window that den `d` advertises (R116): by the higher of its P0 and P3 levels. -/
def State.winOf (s : State) (d : Nat) : Nat :=
  let l := max (s.pool d 0).level (s.pool d 3).level
  if l = 3 then 2 else if l = 2 then 16 else s.fld (swReg 0 0x200) 16 8 + 1

/-- Kinds of COMPLETION (R119). -/
def kAck : Nat := 1
def kOpen : Nat := 2
def kOpenAck : Nat := 3
def kResync : Nat := 4
def kStatus : Nat := 5

/-- A COMPLETION's payload as its fields (R119). -/
structure Compl where
  kind : Nat := 1
  stc : Nat := 0
  winM1 : Nat := 0
  ackSeq : Nat := 0
  sack : Nat := 0
  inc : Nat := 0
  ceCount : Nat := 0
  acked : Nat := 0
  deriving DecidableEq, Repr

/-- The 48 payload bytes (R119). -/
def Compl.bytes (c : Compl) : List Byte :=
  leBytes 4 (c.kind + c.stc * 2 ^ 8 + c.winM1 * 2 ^ 16) ++ leBytes 4 c.ackSeq ++ leBytes 32 c.sack ++ leBytes 4 c.inc
    ++ leBytes 4 (c.ceCount % 2 ^ 16 + c.acked % 2 ^ 16 * 2 ^ 16)

/-- The fields read from a payload (R119). -/
def complOf (l : List Byte) : Compl :=
  let w := leWord l
  { kind := bits (w 0) 0 8, stc := bits (w 0) 8 2, winM1 := bits (w 0) 16 8, ackSeq := w 1, sack := leNat ((l.drop 8).take 32), inc := w 10,
    ceCount := bits (w 11) 0 16, acked := bits (w 11) 16 16 }

/-- A COMPLETION goes to `dst` on TC0, copying CTX, CHUNK, MSG and JOB of header `like` (R103, R118). A destination of 16,384 or more is a
source that addressed the partner's identifier, which this member answers (R433). -/
def State.sendCompl (s : State) (dst : Nat) (like : Hdr) (c : Compl) (ece : Bool) : State :=
  let h : Hdr := { type := 0x04, dst := dst % 16384, src := if 16384 ≤ dst then 8192 + s.pl.partner else s.ownId, job := like.job, len := 48, ctx := like.ctx, chunk := like.chunk, msg := like.msg,
                   ece := ece }
  s.originate { hdr := h, payload := c.bytes } .keeper none none

/-- A receive stream's name: the packet's source, apart for packets to the partner's identifier that this member answers (R433). -/
def State.rxSrc (s : State) (h : Hdr) : Nat := if s.pair.alias_ && h.dst ≠ s.ownId then h.src + 16384 else h.src

/-- The INCARNATION that a receive stream's answers carry. -/
def State.incOf (s : State) (src : Nat) : Nat := if 16384 ≤ src then s.pair.aliasInc else s.st.incarnation

/-- A COMPLETION of kind STATUS answers the packet with header `h` (R119, R122, R221). -/
def State.sendStatus (s : State) (h : Hdr) (code : Nat) : State :=
  s.sendCompl (s.rxSrc h) h { kind := kStatus, stc := h.tc, winM1 := s.winOf 0 - 1, ackSeq := code, inc := s.incOf (s.rxSrc h) } false

/-! ## Sending -/

/-- PATH_LOST against a stream (R120): counted in the den that originates it. -/
def State.pathLost (s : State) (o : Origin) (pkt : Pkt) : State :=
  (s.bump (swReg (s.originDen o pkt.hdr none) 0x220)).event { word := 4, source := mPathLost, job := some pkt.hdr.job,
                                                                        detail := [pkt.hdr.src + pkt.hdr.dst * 2 ^ 14 + pkt.hdr.tc * 2 ^ 28] }

/-- The packet is offered on its route, another port than `not_` where another is eligible (R120). -/
def State.offerPkt (s : State) (o : OutPkt) : State :=
  let h := o.pkt.hdr
  match o.port, (s.route h none o.ring) with
  | some old, .ports l =>
    let rest := l.filter (fun p => p != old && s.eligible p (2 * h.tc + b2n (s.outDl h none p)))
    if rest.isEmpty then s.originateMc o.pkt o.origin o.ring none o.mc
    else s.offer { s.ownHeld o.pkt o.origin o.ring none o.mc with cands := rest }
  | _, _ => s.originateMc o.pkt o.origin o.ring none o.mc

/-- No route to the packet's DST (R120). -/
def State.unroutable (s : State) (o : OutPkt) : Bool := s.route o.pkt.hdr none o.ring == .noRoute

/-- A numbered packet is sent, or held where no route exists (R120): its state as outstanding. -/
def State.launchPkt (s : State) (o : OutPkt) : State × OutPkt :=
  if s.unroutable o then (s.pathLost o.origin o.pkt, { o with heldAt := some s.clk, noRoute := true, sentAt := s.clk })
  else (s.offerPkt o, { o with sentAt := s.clk, noRoute := false })

/-- Packets that wait are numbered and sent while the window allows (R116), with fuel for their number. -/
def State.pump : Nat → State → Nat → Nat → State
  | 0, s, _, _ => s
  | n + 1, s, dst, tc =>
    let x := s.txs dst tc
    match x.wait with
    | [] => s
    | o :: rest =>
      if x.phase ≠ .open || x.win ≤ seqDiff x.next x.ack then s
      else
        let o := { o with pkt := { o.pkt with hdr := { o.pkt.hdr with seq := x.next } } }
        let (s, o) := s.launchPkt o
        let x := s.txs dst tc
        State.pump n (s.setTxs dst tc { x with next := (x.next + 1) % 2 ^ 32, out := x.out ++ [o], wait := rest }) dst tc

/-- Everything that waits on a stream is tried. -/
def State.pumpAll (s : State) (dst tc : Nat) : State := s.pump (s.txs dst tc).wait.length dst tc

/-- A stream is opened at SEQ `q` (R114). -/
def State.openAtSeq (s : State) (dst tc q : Nat) : State :=
  let x := s.txs dst tc
  let job := match x.out ++ x.wait with | o :: _ => o.pkt.hdr.job | [] => 0
  let s := s.setTxs dst tc { x with phase := .opening, first := q, ack := q, openAt := s.clk }
  s.sendCompl dst { job := job } { kind := kOpen, stc := tc, ackSeq := q, inc := s.st.incarnation, winM1 := s.winOf 0 - 1 } false

/-- The SEQ at which a stream reopens: its lowest unacknowledged one (R114). -/
def TxStream.lowest (x : TxStream) : Nat :=
  match bestBy (fun (a b : OutPkt) => seqLt a.pkt.hdr.seq b.pkt.hdr.seq) x.out with
  | some o => o.pkt.hdr.seq
  | none => x.next

/-- A tracked packet is handed to its stream (R114, R116). -/
def State.enterStream (s : State) (o : OutPkt) : State :=
  let dst := o.pkt.hdr.dst
  let tc := o.pkt.hdr.tc
  let x := s.txs dst tc
  let s := s.setTxs dst tc { x with wait := x.wait ++ [o] }
  match x.phase with
  | .closed => s.openAtSeq dst tc x.next
  | _ => s.pumpAll dst tc

/-- A tracked packet is handed to its stream, with the packet that its acknowledgement lets be acknowledged (R426). -/
def State.sendTrackedThen (s : State) (pkt : Pkt) (o : Origin) (ring deadline : Option Nat) (onAck : Option (Nat × Hdr)) : State :=
  s.enterStream { pkt := pkt, origin := o, ring := ring, deadline := deadline, onAck := onAck }

/-- A tracked packet is handed to its stream. -/
def State.sendTracked (s : State) (pkt : Pkt) (o : Origin) (ring deadline : Option Nat) : State := s.sendTrackedThen pkt o ring deadline none

/-- A copy of multicast `mc` is sent as its TYPE says (R103, R151). -/
def State.sendCopy (s : State) (pkt : Pkt) (o : Origin) (deadline : Option Nat) (mc : Nat) : State :=
  if tracked pkt.hdr.type then s.enterStream { pkt := pkt, origin := o, deadline := deadline, mc := mc } else s.originateMc pkt o none none mc

/-- A packet is sent as its TYPE says: tracked types on a stream, others at once (R103). -/
def State.sendPkt (s : State) (pkt : Pkt) (o : Origin) (ring deadline : Option Nat) : State :=
  if tracked pkt.hdr.type then s.sendTracked pkt o ring deadline else s.originate pkt o ring none

/-- RESEND_TX of the den that originates a packet counts (R134). -/
def State.countResend (s : State) (o : OutPkt) : State := s.bump (swReg (s.originDen o.origin o.pkt.hdr o.ring) 0x210)

/-- The outstanding packet `q` of a stream becomes `f` of it. -/
def State.modOut (s : State) (dst tc q : Nat) (f : OutPkt → OutPkt) : State :=
  let x := s.txs dst tc
  s.setTxs dst tc { x with out := x.out.map (fun o => if o.pkt.hdr.seq = q then f o else o) }

/-- A tracked packet has been outstanding for RTO (R120): resent, or held after RESEND_MAX or without a route. -/
def State.resendTimeout (s : State) (dst tc q : Nat) : State :=
  match (s.txs dst tc).out.find? (fun o => o.pkt.hdr.seq == q) with
  | none => s
  | some o =>
    if s.unroutable o then
      if o.heldAt.isSome then s
      else (s.pathLost o.origin o.pkt).modOut dst tc q (fun o => { o with heldAt := some s.clk, noRoute := true })
    else if o.noRoute then
      -- a route has returned: a fresh count, and the hold ends
      let o' := { o with noRoute := false, heldAt := none, resends := 0, sentAt := s.clk }
      ((s.countResend o).offerPkt o').modOut dst tc q (fun _ => o')
    else if o.heldAt.isSome then
      ((s.countResend o).offerPkt o).modOut dst tc q (fun o => { o with sentAt := s.clk })
    else if o.resends < s.resendMax || o.busy then
      ((s.countResend o).offerPkt o).modOut dst tc q (fun o =>
        { o with resends := if o.busy then o.resends else o.resends + 1, busy := false, sentAt := s.clk })
    else
      (s.pathLost o.origin o.pkt).modOut dst tc q (fun o => { o with heldAt := some s.clk })

/-- Packets held for want of a route are sent when one returns (R120). -/
def State.routesBack (s : State) : State :=
  s.st.tx.foldl (fun s e =>
    (e.2.out.filter (fun o => o.noRoute && !s.unroutable o)).foldl (fun s o => s.resendTimeout (e.1 / 4) (e.1 % 4) o.pkt.hdr.seq) s) s

/-- The operation of a held packet has failed: every outstanding packet of the stream is given up, and the stream reopens
after the highest SEQ sent (R120). The packets given up are answered for by their operations. -/
def State.giveUp (s : State) (dst tc : Nat) : State × List OutPkt :=
  let x := s.txs dst tc
  let s := s.setTxs dst tc { x with out := [] }
  (s.openAtSeq dst tc x.next, x.out)

/-! ## COMPLETIONs received at a source -/

/-- The rate response of R127 to a COMPLETION. -/
def State.rateResponse (s : State) (dst tc : Nat) (c : Compl) (ece : Bool) : State :=
  let x := s.txs dst tc
  let pr := match (s.route { dst := dst, tc := tc } none none).list with | p :: _ => s.payloadRate p | [] => 0
  let frac : Rat := (c.ceCount : Rat) / (max c.acked 1 : Nat)
  let al := x.alpha * 15 / 16 + frac / 16
  let late := match x.lastCut with | some t => decide (t + 10 * us ≤ s.clk) | none => true
  if ece && late then
    let r := (x.rate.getD pr) * (1 - al / 2)
    let r := if r < pr / 100 then pr / 100 else r
    s.setTxs dst tc { x with alpha := al, rate := some r, lastCut := some s.clk, lastEce := s.clk }
  else s.setTxs dst tc { x with alpha := al, lastEce := if ece then s.clk else x.lastEce }

/-- 10 µs without an ECE COMPLETION: the rate rises (R127). -/
def State.rateUp (s : State) (dst tc : Nat) : State :=
  let x := s.txs dst tc
  let pr := match (s.route { dst := dst, tc := tc } none none).list with | p :: _ => s.payloadRate p | [] => 0
  match x.rate with
  | none => s
  | some r => s.setTxs dst tc { x with rate := if pr ≤ r + pr / 64 then none else some (r + pr / 64) }

/-- OPEN_ACK (R114): the stream is open, or reopens when the far end has a new incarnation. -/
def State.openAckIn (s : State) (src tc inc : Nat) : State :=
  let x := s.txs src tc
  if x.phase = .closed then s
  else
    let s := s.setTxs src tc { x with inc := some inc }
    match x.inc with
    | some i =>
      if i ≠ inc then s.openAtSeq src tc x.lowest
      else if x.phase = .open then s
      else
        let s := s.setTxs src tc { s.txs src tc with phase := .open }
        (x.out.foldl (fun s o => ((s.countResend o).offerPkt o).modOut src tc o.pkt.hdr.seq (fun o => { o with sentAt := s.clk })) s).pumpAll src tc
    | none => (s.setTxs src tc { s.txs src tc with phase := .open }).pumpAll src tc

/-- RESYNC (R114): the stream reopens at its lowest unacknowledged SEQ. -/
def State.resyncIn (s : State) (src tc : Nat) : State :=
  let x := s.txs src tc
  if x.phase = .closed then s else s.openAtSeq src tc x.lowest

/-- An OPEN is unanswered for RTO, or was refused as busy 100 µs before: it is sent again (R114, R128). -/
def State.openRepeat (s : State) (dst tc : Nat) : State :=
  let x := s.txs dst tc
  if x.phase = .opening || x.phase = .busy then s.openAtSeq dst tc x.first else s

/-! ## Receiving -/

/-- The SACK field of a receive stream (R119). -/
def RxStream.sack (x : RxStream) : Nat := maskOf 256 (fun i => 1 ≤ i && x.got.contains ((x.ack + i) % 2 ^ 32))

/-- An ACK is sent for a stream (R118): it covers what has arrived since the last one. -/
def State.sendAck (s : State) (src tc : Nat) : State :=
  let x := s.rxs src tc
  let c : Compl := { kind := kAck, stc := tc, winM1 := s.winOf x.den - 1, ackSeq := x.ack, sack := x.sack, inc := s.incOf src,
                     ceCount := x.ce, acked := x.unacked }
  (s.setRxs src tc { x with unacked := 0, ce := 0, firstAt := none }).sendCompl src x.last c (0 < x.ce)

/-- ACK_SEQ moves past what has arrived, with fuel. -/
def advanceAck : Nat → Nat → List Nat → Nat × List Nat
  | 0, a, g => (a, g)
  | n + 1, a, g => if g.contains a then advanceAck n ((a + 1) % 2 ^ 32) (g.filter (· != a)) else (a, g)

/-- A tracked packet arrives at its consumer's den on port `p` (R114, R117, R118): the new state and whether it is handed on. -/
def State.acceptTracked (s : State) (p : Nat) (h : Hdr) : State × Bool :=
  let src := s.rxSrc h
  let x := s.rxs src h.tc
  let d := denOf p
  if !x.open_ then
    ((s.bump (swReg d 0x218)).sendCompl src h { kind := kResync, stc := h.tc, inc := s.incOf src, winM1 := s.winOf d - 1 } false, false)
  else if seqLt h.seq x.ack || x.got.contains h.seq then
    (((s.setRxs src h.tc { x with last := h, den := d }).bump (swReg d 0x214)).sendAck src h.tc, false)
  else if 256 ≤ seqDiff h.seq x.ack then (s.bumpLink p 0x068, false)
  else
    let hole := h.seq = x.ack && !x.got.isEmpty
    let (a, g) := advanceAck 257 x.ack (h.seq :: x.got)
    let x := { x with ack := a, got := g, unacked := x.unacked + 1, ce := x.ce + b2n h.ce, last := h, den := d,
                      firstAt := if x.firstAt.isSome then x.firstAt else some s.clk }
    let s := s.setRxs src h.tc x
    (if 16 ≤ x.unacked || hole then s.sendAck src h.tc else s, true)

/-- 1 µs after the first unacknowledged arrival (R118). -/
def State.ackTimer (s : State) (src tc : Nat) : State :=
  let go := fun (s : State) (src : Nat) => let x := s.rxs src tc
                                           if x.open_ && x.firstAt.isSome then s.sendAck src tc else s
  go (go s src) (src + 16384)

/-- OPEN from `h.src` (R114): a repeat keeps the receive state. -/
def State.openIn (s : State) (p : Nat) (h : Hdr) (c : Compl) : State :=
  let src := s.rxSrc h
  let x := s.rxs src c.stc
  let d := denOf p
  let s := if x.open_ && x.inc = c.inc && x.first = c.ackSeq then s
    else (s.setRxs src c.stc { open_ := true, inc := c.inc, first := c.ackSeq, ack := c.ackSeq, last := h, den := d }).bump (swReg d 0x21C)
  s.sendCompl src h { kind := kOpenAck, stc := c.stc, winM1 := s.winOf d - 1, ackSeq := c.ackSeq, inc := s.incOf src } false

/-- A COMPLETION of kind ACK from `src` (R116, R120, R127): packets below ACK_SEQ or marked by SACK are released. -/
def State.ackIn (s : State) (src : Nat) (c : Compl) (ece : Bool) : State :=
  let tc := c.stc
  let x := s.txs src tc
  if x.phase ≠ .open then s
  else
    let newer := !seqLt c.ackSeq x.ack
    let ack := if newer then c.ackSeq else x.ack
    let gone := fun (o : OutPkt) =>
      let q := o.pkt.hdr.seq
      seqLt q ack || (let i := seqDiff q c.ackSeq
                      1 ≤ i && i < 256 && c.sack.testBit i)
    let s := s.setTxs src tc { x with ack := ack, win := if newer then c.winM1 + 1 else x.win, out := x.out.filter (fun o => !gone o) }
    -- R426: writes whose copy the partner has now acknowledged are acknowledged to their sources
    let s := ((x.out.filter gone).filterMap (·.onAck)).foldl (fun s a => (s.acceptTracked a.1 a.2).1) s
    (s.rateResponse src tc c ece).pumpAll src tc

/-- Types that Marten and the dispatch unit take: their stream accepts a packet only after the check of R221, at the packet's own
row. -/
def martenType (t : Nat) : Bool := t ∈ [0x08, 0x0A, 0x10, 0x11]

/-- A WRITE of another than the partner to a protected region in a formed pair (R426): its stream accepts it once the partner has
acknowledged its copy. -/
def State.mirroredWrite (s : State) (h : Hdr) : Bool :=
  h.type == 0x01 && s.pair.st == 2 && h.src != 8192 + s.pl.partner
    && (match s.regionAt h.offset with | some i => (s.region i).prot | none => false)

/-- A whole packet reaches its consumer inside the module (R20, R117); a TEST packet has passed its checker's tap (R522). A CMD of a job other than 0 is discarded
unacknowledged while P2 is at BACKPRESSURE (R145). -/
def State.arrive (s : State) (p : Nat) (pkt : Pkt) : State :=
  let h := pkt.hdr
  let put := fun (s : State) => { s with sw := { s.sw with delivered := s.sw.delivered ++ [(p, pkt)] } }
  if h.type = 0x3F then s
  else if !tracked h.type || martenType h.type || s.mirroredWrite h then put s
  else if h.type = 0x20 && h.job ≠ 0 && 2 ≤ (s.pool 0 2).level then s
  else
    let (s, ok) := s.acceptTracked p h
    if ok then put s else s

/-! ## A packet has finished leaving an attachment -/

/-- The packet that an attachment has moved whole. -/
def State.movedWhole (s : State) (d att : Nat) : Option Held :=
  let l := (s.atAtt d att).filter (fun h => h.complete && h.started && h.cellsLeft = 0)
  if att < 48 then l.find? (fun h => h.id == Tbl.get 0 s.sw.serving (attKey d att)) else firstOf l

/-- A packet finishes leaving an egress attachment (R148, R150, R176, R182). -/
def State.transmitDone (s : State) (d att : Nat) : State :=
  match s.movedWhole d att with
  | none => s
  | some h =>
    let s :=
      if att < 48 then
        let p := 48 * d + att
        let s := if h.inPort.isNone && tracked h.pkt.hdr.type then
            s.modOut h.pkt.hdr.dst h.pkt.hdr.tc h.pkt.hdr.seq (fun o => { o with port := some p }) else s
        s.leavePort h p
      else if att < 51 then s.leaveBridge h att
      else
        let s := s.takeHeld h
        let s := if h.queue ≤ 1 then s else s.advanceVt d att h.pkt.hdr.bytesTotal
        s.arrive (h.inPort.getD (48 * d)) h.pkt
    s.offerWaiting

/-- Bytes written to a protected region go to the partner as WRITE packets of job 0 to the same offset (R426), counted in MIRROR_BYTES; the
last one's acknowledgement lets the given packet be acknowledged. -/
def State.mirrorWrite (s : State) (o : Nat) (l : List Byte) (onAck : Option (Nat × Hdr)) : State :=
  let n := ceilDiv l.length 4096
  let s := (List.range n).foldl (fun s i =>
    let b := (l.drop (4096 * i)).take 4096
    let h : Hdr := { type := 0x01, tc := 2, dst := 8192 + s.pl.partner, src := s.ownId, len := b.length, offset := o + 4096 * i }
    s.sendTrackedThen { hdr := h, payload := b } (.mirror (s.denOfOffset o 0)) none none (if i + 1 = n then onAck else none)) s
  s.bump64 (basePair + 0x20) l.length

/-- The memory at an offset is mirrored: a protected region in a formed pair (R426). -/
def State.mirroredAt (s : State) (o : Nat) : Bool :=
  s.pair.st == 2 && (match s.regionAt o with | some i => (s.region i).prot | none => false)

end Sys2Proof.Machine
end

