-- ==== Sys2Proof/Machine/Tc1.lean ====
section
/-! DEFINITION. Shares of weighted queues (R175), admitted TC1 flows at one hop (R186–R191): checks, hop bound, reserve,
commit and release; and the re-checks of R192, R193. -/

namespace Sys2Proof.Machine

/-- Admission floor frequency in Hz (R191). -/
def State.floorHz (s : State) : Rat := ((s.floorMhz * 1000000 : Nat) : Rat)

/-- C_eff of a port in bytes per second (R188). -/
def State.cEff (s : State) (p : Nat) : Rat :=
  let c := s.payloadRate p
  let f := 256 * s.floorHz
  (if c < f then c else f) - s.tc0Rate p

/-- C_br of a bridge direction (R188). -/
def State.cBridge (s : State) : Rat := 2048 * s.floorHz

/-- Scheduler register of a port (R197). -/
def schedReg (p o : Nat) : Nat := swReg (denOf p) (0x800 + 0x10 * (p % 48) + o)

/-- The ceiling of a rational as a natural number. -/
def ceilNat (x : Rat) : Nat := x.ceil.toNat

/-! ## Shares -/

/-- A queue has a TC1 share (R175): a committed TC1 queue that is not revoked (R193). -/
def Queue.isTc1 (x : Queue) : Bool := x.valid && !x.pending && x.tc == 1 && !x.revoked

/-- Weight of a queue in the non-TC1 sum (R175, R193, R197): a revoked TC1 queue counts 1. -/
def State.weightOf (s : State) (p q : Nat) : Nat :=
  let x := s.queue (qKey (denOf p) (p % 48) q)
  if 62 ≤ q then s.fld (schedReg p 4) 8 8
  else if !x.valid || x.pending || x.isTc1 then 0
  else if x.tc = 1 then 1 else x.weight

/-- The shares of a port's weighted queues are computed again (R175): TC1 shares rounded up, the others down. -/
def State.reshare (s : State) (p : Nat) : State :=
  if 192 ≤ p then s else
  let d := denOf p
  let n := p % 48
  let ce := s.cEff p
  let qs := (List.range 63).map (· + 1)
  let t1 := qs.map (fun q => let x := s.queue (qKey d n q)
                            (q, if x.isTc1 && 0 < ce then ceilNat (rateOf x.rate / ce * (2 ^ 32 : Nat)) else 0))
  let sum1 := t1.foldl (fun a e => a + e.2) 0
  let sumW := qs.foldl (fun a q => a + s.weightOf p q) 0
  t1.foldl (fun s e =>
    let k := qKey d n e.1
    let phi := if 0 < e.2 then e.2 else if sumW = 0 then 0 else (2 ^ 32 - sum1) * s.weightOf p e.1 / sumW
    if (s.queue k).phi = phi || phi = 0 then s else s.setQueue k { s.queue k with phi := phi }) s

/-- A change of shares without a boundary of its own takes effect at the next one (R175). -/
def State.sharesLater (s : State) : State := { s with sw := { s.sw with sharesPend := true } }

/-- Ports that have a queue configured. -/
def State.queuedPorts (s : State) : List Nat :=
  allPorts.filter (fun p => s.sw.queues.any (fun e => e.1 / 4096 == denOf p && e.1 / 64 % 64 == p % 48 && e.2.valid))

/-! ## One hop -/

/-- Flows that hold a reservation on port `p`. -/
def State.flowsOn (s : State) (p : Nat) : List Flow := s.flows.filter (fun f => f.port == p && f.phase != .releasing && !f.revoked)

/-- Reserved TC1 rate of a port, 10 Mb/s units (R197). -/
def State.tc1Sum (s : State) (p : Nat) : Nat := (s.flowsOn p).foldl (fun n f => n + f.rate) 0

/-- The cap of R189 on an egress port with `r` more units. -/
def State.capOk (s : State) (p r : Nat) : Bool :=
  rateOf (s.tc1Sum p + r) * 100 ≤ (s.fld (schedReg p 4) 0 7 : Nat) * s.cEff p

/-- The cap of R189 on a bridge direction with `r` more units. -/
def State.bridgeOk (s : State) (f t r : Nat) : Bool :=
  f = t || rateOf ((s.flows.filter (fun x => x.bridge == some (f, t) && x.phase != .releasing)).foldl (fun n x => n + x.rate) r) * 4 ≤ s.cBridge

/-- Flows of one job on one port: an aggregate (R185). Sums of rate and burst with a further flow's, and the largest L. -/
def State.aggregate (s : State) (p job : Nat) (extra : Option (Nat × Nat × Nat)) : Nat × Nat × Nat :=
  let l := ((s.flowsOn p).filter (·.job == job)).map (fun f => (f.rate, f.burst, f.maxLen))
  (l ++ extra.toList).foldl (fun a e => (a.1 + e.1, a.2.1 + e.2.1, max a.2.2 e.2.2)) (0, 0, 0)

/-- Store-and-forward time of the largest packet where R163 asks for it, in seconds (R165, R188). -/
def State.stForward (s : State) (inp out : Nat) : Rat :=
  if s.payloadRate inp < s.payloadRate out && 0 < s.lanesOf inp then 4132 / s.payloadRate inp else 0

/-- The hop bound D_h in ns, rounded up (R188), for an aggregate (r, b, L) with t_mem in ns; `own` is the burst of a flow that is not yet among those
held here. -/
def State.hopBound (s : State) (inp out : Nat) (a : Nat × Nat × Nat) (own tmem : Nat) : Nat :=
  let r := rateOf a.1
  let b : Rat := ((256 * a.2.1 : Nat) : Rat)
  let across := denOf inp ≠ denOf out
  let tfix : Rat := (if across then 520 else 420) / 1000000000 + s.stForward inp out
  let bbr : Nat := (s.flows.filter (fun x => x.bridge == some (denOf inp, denOf out))).foldl (fun n x => n + 256 * x.burst) (256 * own)
  let tbr : Rat := if across then ((bbr + 8264 : Nat) : Rat) / s.cBridge else 0
  let x := (b + (a.2.2 : Nat)) / r + ((4132 + s.tc0Burst out : Nat) : Rat) / s.cEff out + tfix * (1750 / (s.floorMhz : Nat)) + tbr
  ceilNat (x * 1000000000) + tmem

/-- Q_h in cells (R190). -/
def State.backlog (s : State) (p : Nat) (r b l : Nat) : Nat :=
  let q := ((256 * b + l : Nat) : Rat) + rateOf r * ((4132 + s.tc0Burst p : Nat) : Rat) / s.cEff p
  ceilDiv (ceilNat q) 256

/-- The queue of job `job`'s TC1 on port `p`, or a free one (R172). -/
def State.tc1Queue (s : State) (p job : Nat) : Option Nat :=
  let held := fun q => s.flows.any (fun f => f.port == p && f.queue == q)
  match s.flows.find? (fun f => f.port == p && f.job == job) with
  | some f => some f.queue
  | none => ((List.range 61).map (· + 1)).find? (fun q => !(s.queue (qKey (denOf p) (p % 48) q)).valid && !held q)

/-- The hop runs version 2, with TC1 deadline checking where a module is at the far end (R95, R186). -/
def State.hopFeatures (s : State) (p : Nat) : Bool :=
  let x := s.port p
  x.ver = 2 && ((s.useOf p).use = 0 || (x.peerFeat).testBit 4)

/-- A port meets R186 and R189 for a flow of rate `r` of job `job` arriving on `inp`. -/
def State.hopOk (s : State) (inp p job r : Nat) : Bool :=
  s.hopFeatures p && (s.port p).routed && (s.tc1Queue p job).isSome && s.capOk p r && s.bridgeOk (denOf inp) (denOf p) r

/-- The port pinned among candidates: the preferred den, then the lowest reserved sum (R187). -/
def State.pinPort (s : State) (inp job r pref : Nat) (cands : List Nat) : Option Nat :=
  let ok := cands.filter (fun p => s.hopOk inp p job r)
  let l := if ok.any (fun p => denOf p == pref) then ok.filter (fun p => denOf p == pref) else ok
  bestBy (fun a b => s.tc1Sum a < s.tc1Sum b) l.reverse |>.map (fun p => (l.find? (fun q => s.tc1Sum q == s.tc1Sum p)).getD p)

/-- The reserve of R190 is taken in the den of port `p`: P0 cells where the TC1 reserve may grow, else P3 pages; the cells,
pages and t_mem in ns. -/
def State.takeReserve (s : State) (p cells : Nat) : State × Nat × Nat × Nat :=
  let d := denOf p
  let x := s.pool d 0
  if x.tc1Rsv + cells ≤ 65536 then ((s.setPool d 0 { x with tc1Rsv := x.tc1Rsv + cells }).relevel d 0, cells, 0, 0)
  else
    let n := ceilDiv cells 256
    let y := s.pool d 3
    ((s.setPool d 3 { y with tc1Rsv := y.tc1Rsv + n }).relevel d 3, 0, n, 2350)

/-- The den of a flow's egress: of its port, or of the consumer at which it ends inside the module (numbered 192 + den). -/
def Flow.outDen (f : Flow) : Nat := if 192 ≤ f.port then f.port - 192 else denOf f.port

/-- A reserve is given back. -/
def State.giveReserve (s : State) (f : Flow) : State :=
  let d := f.outDen
  let x := s.pool d 0
  let s := if f.cells = 0 then s else (s.setPool d 0 { x with tc1Rsv := x.tc1Rsv - f.cells }).relevel d 0
  let y := s.pool d 3
  if f.pages = 0 then s else (s.setPool d 3 { y with tc1Rsv := y.tc1Rsv - f.pages }).relevel d 3

/-- A reservation is held at this hop (R187, R190): `f` gives job, rate, burst, L, ingress; the port is chosen among
`cands`. Consumers at the last hop add t_mem (R190). None where the hop refuses. -/
def State.holdFlow (s : State) (f : Flow) (cands : List Nat) (pref : Nat) (order : Nat) : Option (State × Flow) :=
  match s.pinPort f.ingress f.job f.rate pref cands with
  | none => none
  | some p =>
    match s.tc1Queue p f.job with
    | none => none
    | some q =>
      let (s', c, g, tm) := s.takeReserve p (s.backlog p f.rate f.burst f.maxLen)
      let dh := s.hopBound f.ingress p (s.aggregate p f.job (some (f.rate, f.burst, f.maxLen))) f.burst tm
      let br := if denOf f.ingress = denOf p then none else some (denOf f.ingress, denOf p)
      let f := { f with port := p, queue := q, cells := c, pages := g, hopBound := dh, bridge := br, phase := .held, order := order }
      some ({ s' with flows := s'.flows ++ [f] }, f)

/-- The flow admitted here under a handle. -/
def State.flowOf (s : State) (h : Nat) : Option Flow := s.flows.find? (fun f => f.admits && f.handle == h)

/-- The reservation of a further hop: its handle and the module that admits the flow (R187). -/
def State.hopFlow (s : State) (h e : Nat) : Option Flow := s.flows.find? (fun f => !f.admits && f.handle == h && f.src == e)

/-- The order of the next flow. -/
def State.nextFlow (s : State) : Nat := s.flows.foldl (fun m f => max m f.order) 0 + 1
/-- The flow with `f`'s order of admission, which no two flows of a module share, becomes `f`. -/
def State.updFlow (s : State) (f : Flow) : State := { s with flows := s.flows.map (fun x => if x.order = f.order then f else x) }

/-- The TC1 queue of a port and job is set from its committed flows: rate, burst, shaper, and the regulating policer of the
source's down port at the admitting leaf (R181, R183, R193). -/
def State.setTc1Queue (s : State) (p q job : Nat) : State :=
  let k := qKey (denOf p) (p % 48) q
  let x := s.queue k
  let l := s.flows.filter (fun f => f.port == p && f.queue == q && f.phase == .committed)
  if 192 ≤ p then s
  else if l.isEmpty then s.setQueue k { x with valid := false, shapeEn := false, rate := 0, burst := 0, atRisk := false, revoked := false, weight := 0, job := 0, tc := 0, phi := 0 }
  else
    let r := l.foldl (fun n f => n + f.rate) 0
    let b := l.foldl (fun n f => n + f.burst) 0
    let y := { x with valid := true, job := job, tc := 1, transit := !s.jobHere job, rate := r, burst := b, shapeEn := true,
                      atRisk := l.any (·.atRisk), revoked := l.all (·.revoked) }
    -- tokens earned so far are kept, within the new burst (R182)
    let now := s.tokens (denOf p) (p % 48) q (rateOf x.rate) (256 * x.burst)
    s.setQueue k (if x.valid then { y with tok := if now < ((256 * b : Nat) : Rat) then now else ((256 * b : Nat) : Rat), tokAt := s.clk }
                  else { y with tok := ((256 * b : Nat) : Rat), tokAt := s.clk })

/-- The regulating policer of a source's down port follows its committed flows (R180, R181). -/
def State.setRegulator (s : State) (p job : Nat) : State :=
  let l := s.flows.filter (fun f => f.admits && f.ingress == p && f.job == job && f.phase == .committed)
  let r := l.foldl (fun n f => n + f.rate) 0
  let b := l.foldl (fun n f => n + f.burst) 0
  let ks := (List.range 32).map (fun i => 32 * p + i)
  let old := ks.find? (fun k => let x := s.policer k; x.en && x.regulate && x.job == job)
  if l.isEmpty then (match old with | some k => s.setPolicer k {} | none => s)
  else
    match (match old with | some k => some k | none => ks.find? (fun k => !(s.policer k).en)) with
    | none => s
    | some k =>
      let full : Rat := ((256 * b : Nat) : Rat)
      let x := s.policer k
      let y := { x with job := job, tc := 1, en := true, regulate := true, cir := r, pir := r, cbs := b, pbs := b }
      let (c, g) := s.policerNow x
      let cut := fun (t : Rat) => if t < full then t else full
      s.setPolicer k (if old.isSome then { y with tcTok := cut c, tpTok := cut g, at_ := s.clk } else { y with tcTok := full, tpTok := full, at_ := s.clk })

/-- Commits and releases of flows that are due at an EPOCH boundary of domain time `t` (R187, R390). -/
def State.flowBoundary (s : State) (t : Nat) : State :=
  let due := s.flows.filter (fun f => (f.phase == .committing && f.time ≤ t) || (f.phase == .releasing && f.time ≤ t))
  due.foldl (fun s f =>
    let s := if f.phase = .committing then s.updFlow { f with phase := .committed }
      else ({ s with flows := s.flows.filter (fun x => x.order != f.order) }).giveReserve f
    let s := ((s.setTc1Queue f.port f.queue f.job).reshare f.port)
    if f.admits then s.setRegulator f.ingress f.job else s) s

/-! ## Re-checks of R192 -/

/-- A flow is revoked (R192, R193). -/
def State.revokeFlow (s : State) (f : Flow) : State :=
  let s := s.updFlow { f with revoked := true }
  let s := (s.setTc1Queue f.port f.queue f.job).sharesLater
  s.event { word := 4, source := mTc1Revoked, unit := f.port, kind := .port, job := some f.job, detail := [f.handle] }

/-- A flow is marked AT_RISK (R192). -/
def State.riskFlow (s : State) (f : Flow) : State :=
  if f.atRisk then s
  else ((s.updFlow { f with atRisk := true }).setTc1Queue f.port f.queue f.job).event { word := 4, source := mTc1AtRisk, unit := f.port, kind := .port, job := some f.job, detail := [f.handle] }

/-- The bound of an admitting leaf's flow with its first hop computed again (R192). -/
def State.newBound (s : State) (f : Flow) : Nat :=
  if 192 ≤ f.port then f.bound else f.bound - f.hopBound + s.hopBound f.ingress f.port (s.aggregate f.port f.job none) 0 (if f.pages = 0 then 0 else 2350)

/-- Committed flows of a port, oldest first. -/
def State.committedOn (s : State) (p : Nat) : List Flow :=
  let l := s.flows.filter (fun f => f.port == p && f.phase == .committed && !f.revoked)
  l.foldr (fun f acc => acc.takeWhile (fun g => g.order < f.order) ++ f :: acc.dropWhile (fun g => g.order < f.order)) []

/-- Port width falls (R192): flows kept, oldest first, while the cap holds; the rest revoked; kept ones whose bound no
longer meets the request marked. -/
def State.tc1WidthFell (s : State) (p : Nat) : State :=
  let l := s.committedOn p
  let cap := (s.fld (schedReg p 4) 0 7 : Nat) * s.cEff p
  let sum := fun (n : Nat) => (l.take n).foldl (fun a f => a + f.rate) 0
  let n := (List.range (l.length + 1)).foldl (fun m n => if (List.range (n + 1)).all (fun i => rateOf (sum i) * 100 ≤ cap) then n else m) 0
  let s := (l.drop n).foldl (fun s f => s.revokeFlow f) s
  let s := (l.take n).foldl (fun s f => if f.admits && f.dReq < s.newBound f then s.riskFlow f else s) s
  if l.isEmpty then s else s.sharesLater

/-- Width restored (R192): AT_RISK is cleared where the bound meets the request again. -/
def State.tc1Restored (s : State) (p : Nat) : State :=
  let l := s.committedOn p
  let s := l.foldl (fun s f => if f.atRisk && s.newBound f ≤ f.dReq then (s.updFlow { f with atRisk := false }).setTc1Queue f.port f.queue f.job else s) s
  if l.isEmpty then s else s.sharesLater

/-- A pinned port enters DOWN or is drained (R192): each flow is pinned to another port of the direction that meets R189,
else revoked. -/
def State.tc1PortGone (s : State) (p : Nat) : State :=
  (s.committedOn p).foldl (fun s f =>
    let u := s.useOf p
    let cands := if u.use = 1 then (s.dirPorts u.dir).filter (· != p) else []
    match s.pinPort f.ingress f.job f.rate (denOf p) cands with
    | none => s.revokeFlow f
    | some n =>
      match s.tc1Queue n f.job with
      | none => s.revokeFlow f
      | some q =>
        let s := s.giveReserve f
        let (s, c, g, _) := s.takeReserve n (s.backlog n f.rate f.burst f.maxLen)
        let br := if denOf f.ingress = denOf n then none else some (denOf f.ingress, denOf n)
        let s := s.updFlow { f with port := n, queue := q, cells := c, pages := g, bridge := br }
        ((s.setTc1Queue p f.queue f.job).setTc1Queue n q f.job).sharesLater) s

/-- Flows of a den are marked AT_RISK for a retrain of one of its channels, or cleared after it (R192). -/
def State.tc1DenRisk (s : State) (d : Nat) (on : Bool) : State :=
  (s.flows.filter (fun f => f.outDen == d && f.phase == .committed && !f.revoked)).foldl (fun s f =>
    if on then s.riskFlow f
    else if f.atRisk && (!f.admits || s.newBound f ≤ f.dReq) then (s.updFlow { f with atRisk := false }).setTc1Queue f.port f.queue f.job else s) s

end Sys2Proof.Machine
end

