-- ==== Sys2Proof/Machine/Peer.lean ====
section
/-! DEFINITION. Command packets as bytes (R366, R374) and the commands that this module's Keeper sends to other modules
(R207, R187, R130, R375). -/

namespace Sys2Proof.Machine

/-- The bytes of a command (R366): OPCODE, TAG, JOB and parameter words, with LEN and CHECK. -/
def cmdBytes (op tag job : Nat) (params : List Byte) : List Byte :=
  let h := leBytes 4 op ++ leBytes 4 (tag % 2 ^ 16 + (16 + params.length) * 2 ^ 16) ++ leBytes 4 job
  h ++ leBytes 4 (crc32c h) ++ params

/-- A command goes to another module as a CMD packet of job 0 (R375), and its reply is awaited. `owner` is the command
whose work waits on it. -/
def State.sendPeer (s : State) (dst op : Nat) (words : List Nat) (owner : Option Nat) (long : Bool) : State :=
  let tag := s.cmd.tagNext
  let body := cmdBytes op tag 0 (words.flatMap (leBytes 4))
  let pkt : Pkt := { hdr := { type := 0x20, dst := dst, src := s.ownId, len := body.length }, payload := body }
  let ask : Ask := { kind := .command, dst := dst, tag := tag, pkt := pkt, sentAt := s.clk, owner := owner, long := long }
  let s := { s with cmd := { s.cmd with tagNext := (tag + 1) % 2 ^ 16 }, st := { s.st with asks := s.st.asks ++ [ask] } }
  s.sendTracked pkt .keeper none none

/-- Every leaf of the axis of direction `dir` but this one. -/
def State.axisLeaves (s : State) (dir : Nat) : List Nat :=
  let l := if dir < 2 then (List.range s.pl.x).map (fun x => s.leafAt x s.pl.ry) else (List.range s.pl.y).map (fun y => s.leafAt s.pl.rx y)
  l.filter (· != s.ownId)

/-- The hop of this leaf in direction `dir`. -/
def State.ownHop (s : State) (dir : Nat) : BrokenHop :=
  { axis := dir / 2, dir := dir, coord := if dir < 2 then s.pl.rx else s.pl.ry, other := if dir < 2 then s.pl.ry else s.pl.rx }

/-- A hop is broken or restored for this module's routes (R130). -/
def State.setHop (s : State) (b : BrokenHop) (restored : Bool) : State :=
  let l := s.broken.filter (· != b)
  { s with broken := if restored then l else b :: l }.routesBack

/-- A ROUTE_NOTICE goes to every leaf of the axis, and this module takes it itself (R130, R389). -/
def State.routeNotice (s : State) (dir : Nat) (restored : Bool) : State :=
  let b := s.ownHop dir
  let p0 := dir / 2 + dir % 2 * 2 + b.coord * 4 + b.other * 32 + b2n restored * 256
  let s := { s with noticed := if restored then s.noticed.filter (· != dir) else dir :: s.noticed }
  ((s.axisLeaves dir).foldl (fun s m => s.sendPeer m 0x0380 [p0] none false) s).setHop b restored

/-- Some port of a direction is ROUTED. -/
def State.dirAlive (s : State) (dir : Nat) : Bool := (s.dirPorts dir).any (fun p => (s.port p).routed)

/-- After a port's routing changed: notices of R130 for its direction. -/
def State.hopCheck (s : State) (p : Nat) : State :=
  let u := s.useOf p
  if u.use ≠ 1 || s.pl.spine || s.isClos then s
  else if s.dirAlive u.dir then (if s.noticed.contains u.dir then s.routeNotice u.dir true else s.routesBack)
  else if s.noticed.contains u.dir then s else s.routeNotice u.dir false

end Sys2Proof.Machine
end

