-- ==== Sys2Proof/Machine/Link.lean ====
section
/-! DEFINITION. The link state machine (R73–R100, R588, R589): lanes and lock, training, identity, width in service, loss of
link, routing messages (R129), timestamp exchanges (R58, R81), flow control received (R111, R113) and drains (R41, R80). -/

namespace Sys2Proof.Machine

/-- Bits of LINK.EVENTS (R98). -/
def evLockLost : Nat := 0
def evDown : Nat := 1
def evDegraded : Nat := 2
def evRestored : Nat := 3
def evMismatch : Nat := 4
def evRetrained : Nat := 5
def evVerLower : Nat := 6
def evTrainFail : Nat := 7
def evRefOffset : Nat := 8
def evFlap : Nat := 9

/-- An event bit of a port is set (R98). -/
def State.linkEv (s : State) (p b : Nat) : State := s.setReg (linkReg p 8) (s.reg (linkReg p 8) ||| 2 ^ b)

/-- LINK.CTRL of a port. -/
def State.ctrl (s : State) (p lo n : Nat) : Nat := s.fld (linkReg p 0) lo n
/-- DEGRADE_EN. -/
def State.degradeEn (s : State) (p : Nat) : Bool := s.ctrl p 6 1 == 1
/-- RESTORE_EN. -/
def State.restoreEn (s : State) (p : Nat) : Bool := s.ctrl p 7 1 == 1

/-- The port whose lanes hold lane `l` (R12): the even port below when that is ×8. -/
def State.portOfLane (s : State) (l : Nat) : Nat :=
  let q := l / 4
  if q % 2 = 1 && (s.port (q - 1)).width = 3 then q - 1 else q

/-- Index of lane `l` within port `p`. -/
def laneIdx (p l : Nat) : Nat := l - 4 * p

/-- Lanes of the configured width, as a mask. -/
def widthMask (w : Nat) : Nat := 2 ^ 2 ^ w - 1

/-- Lane `i` of port `p`. -/
def State.laneAt (s : State) (p i : Nat) : Lane := s.lane (4 * p + i)

/-- LOCKED lanes of a port as a mask (R98). -/
def State.lockMask (s : State) (p : Nat) : Nat := maskOf 8 (fun i => (s.laneAt p i).lock == .locked && i < 2 ^ (s.port p).width)

/-- Mask `a` lies within `b`. -/
def maskIn (a b : Nat) : Bool := a &&& b == a

/-- Number of lanes of a mask. -/
def lanesIn (m : Nat) : Nat := (bitsOf 8 m).length

/-- The widest set of R85 that a port of `n` lanes keeps, given its healthy lanes: 0 when no lane remains. -/
def keepMask (n healthy : Nat) : Nat :=
  let ok := fun m => maskIn m healthy
  let one := match bitsOf n healthy with | i :: _ => 2 ^ i | [] => 0
  if n = 8 then
    if ok 0xFF then 0xFF
    else if ok 0xF0 then 0xF0
    else if ok 0x0F then 0x0F
    else match [0x03, 0x0C, 0x30, 0xC0].find? ok with | some m => m | none => one
  else if n = 4 then
    if ok 0xF then 0xF else if ok 0xC then 0xC else if ok 0x3 then 0x3 else one
  else if n = 2 then (if ok 0x3 then 0x3 else one)
  else one

/-- Number of lanes of the port's trained width (R78): the smaller of the two ends' widths. -/
def State.fullLanes (s : State) (p : Nat) : Nat := 2 ^ min (s.port p).width ((s.port p).farWidth.getD (s.port p).width)

/-- The healthy mask of R83: lanes of the trained width of R78 that are LOCKED within the error limit. -/
def State.healthyMask (s : State) (p : Nat) : Nat :=
  maskOf 8 (fun i => decide (i < s.fullLanes p) && (s.laneAt p i).lock == .locked && (s.laneAt p i).errOk)

/-! ## Messages of the link manager -/

/-- Endpoint and port that a port's identity gives: the module's, or those of an emulated chip, whose port is its plane (R90, R91, R532). -/
def State.selfEp (s : State) (p : Nat) : Nat := match s.emulated p with | some m => m.ep | none => s.ownId
/-- The port of that identity. -/
def State.selfPort (s : State) (p : Nat) : Nat := if (s.emulated p).isSome then s.pl.plane else p

/-- The identity payload of R90. -/
def State.identityBytes (s : State) (p : Nat) : List Byte :=
  let e := (s.expectOf p).getD (0, 0, 0)
  let role := if (s.emulated p).isSome then 0 else if s.pl.spine then 2 else 1
  leBytes 4 (0x01 + 0x03 * 2 ^ 8 + 0x1F * 2 ^ 16) ++ leBytes 8 s.serial
    ++ leBytes 4 (s.selfEp p + s.selfPort p * 2 ^ 14 + s.pl.plane * 2 ^ 22 + role * 2 ^ 26) ++ leBytes 4 (e.1 + e.2.1 * 2 ^ 14)
    ++ leBytes 4 (s.fwRelease % 2 ^ 16 + 0x0002 * 2 ^ 16) ++ leBytes 40 0

/-- The identity message is sent on a port with VER 1 (R90). -/
def State.sendIdentity (s : State) (p : Nat) : State := s.sendMgmt p 1 ((s.expectOf p).getD (0, 0, 0)).1 (s.identityBytes p)

/-- ROUTING is sent on a port (R129). -/
def State.sendRouting (s : State) (p : Nat) : State :=
  let x := s.port p
  s.sendMgmt p x.ver (x.bound.getD 0) (leBytes 4 (0x02 + b2n s.accepting * 2 ^ 8) ++ leBytes 4 s.ownId ++ leBytes 8 0)

/-- ROUTING is sent on every ACTIVE port (R129). -/
def State.sendRoutings (s : State) : State :=
  (allPorts.filter (fun p => (s.port p).st == .active)).foldl (fun s p => s.sendRouting p) s

/-- ACCEPT takes a value; a change is sent at once (R129, R498). -/
def State.setAccept (s : State) (b : Bool) : State := if s.accepting = b then s else { s with accepting := b }.sendRoutings

/-! ## Entering states -/

/-- A port leaves routing (R74, R89, R588): routes, pins and notices follow. -/
def State.leaveRouting (s : State) (p : Nat) : State :=
  if !(s.port p).routed then s
  else ((s.setPort p { s.port p with routed := false }).tc1PortGone p).hopCheck p

/-- A port is in routing when it is ACTIVE, no loopback is set, its den's slice runs, and a module at its far end accepts
(R74, R97, R129, R30). -/
def State.mayRoute (s : State) (p : Nat) : Bool :=
  let x := s.port p
  let far := match x.peer with | some i => i.role != 0 | none => false
  x.st == .active && s.ctrl p 9 2 == 0 && !s.sw.sliceReset.contains (denOf p) && (!far || x.accept)

/-- Routing of a port is judged again. -/
def State.judgeRouting (s : State) (p : Nat) : State :=
  if s.mayRoute p then
    if (s.port p).routed then s else (s.setPort p { s.port p with routed := true }).hopCheck p
  else s.leaveRouting p

/-- Entry to HUNT (R74, R97, R131): the configured width, mode, version and headroom take effect and every lane hunts. -/
def State.enterHunt (s : State) (p : Nat) : State :=
  let x := s.port p
  let w := s.ctrl p 1 2
  let s := (List.range (max (2 ^ w) (2 ^ x.width))).foldl (fun s i => s.setLane (4 * p + i) {}) s
  let s := s.setPort p { st := .hunt, width := w, refmode := s.ctrl p 3 1 == 1, maxVer := s.ctrl p 4 2, headroom := s.fld (linkReg p 0x48) 0 16,
                         downs := x.downs, lastWiden := x.lastWiden, autoAccept := x.autoAccept, headUsed := x.headUsed, vcBytes := x.vcBytes,
                         peerId := x.peerId, expId := x.expId, peerSerial := x.peerSerial, peerFeat := x.peerFeat, xoffTx := x.xoffTx,
                         drainTx := x.drainTx }
  (s.condEnd (denOf p) fWidthDegraded p).condEnd (denOf p) fXoffStuck p |>.relevel (denOf p) 0

/-- A training failure (R74, R75): events, HUNT, and the 100 ms wait. -/
def State.trainFail (s : State) (p : Nat) (refOff : Bool) : State :=
  let s := s.linkEv p evTrainFail
  let s := if refOff then (s.linkEv p evRefOffset).raisePort p fRefOffset else s
  let s := (s.raisePort p fTrainFail).enterHunt p
  s.setPort p { s.port p with retryHold := true }

/-- Earlier entries to DOWN within the last second (R75). -/
def State.recentDowns (s : State) (p : Nat) : List Nat := (s.port p).downs.filter (fun t => s.clk ≤ t + 1000 * ms)

/-- Entry to DOWN (R74, R75, R89): queued packets lost, routes changed, LINK_DOWN raised, then HUNT at once or the hold-down. -/
def State.enterDown (s : State) (p : Nat) : State :=
  let s := s.dropArrival p
  let s := s.setPort p { s.port p with st := .down, egressHeld := false, loss := false, change := none, idCheck := false }
  let s := (s.flushPort p).leaveRouting p
  let s := ((s.linkEv p evDown).bumpLink p 0x124).raisePort p fLinkDown
  let old := s.recentDowns p
  if 4 ≤ old.length then
    let s := ((s.linkEv p evFlap).bumpLink p 0x124).raisePort p fLinkFlap
    s.setPort p { s.port p with holdDown := true, downs := [] }
  else (s.setPort p { s.port p with downs := s.clk :: old }).enterHunt p

/-- A port leaves routing at once without passing through DOWN (R588), its queued packets counted in LOST_DOWN. -/
def State.outOfService (s : State) (p : Nat) : State :=
  let s := s.dropArrival p
  (s.flushPort p).leaveRouting p

/-- ENABLE cleared (R588). -/
def State.disablePort (s : State) (p : Nat) : State :=
  let s := (s.setFld (linkReg p 0) 0 1 0).outOfService p
  let s := s.enterHunt p
  s.setPort p { s.port p with st := .disabled }

/-- ENABLE set (R74): a DISABLED port goes to HUNT. Port p + 1 of a ×8 port does not exist (R12). -/
def State.enablePort (s : State) (p : Nat) : State :=
  if p % 2 = 1 && (s.port (p - 1)).width = 3 && (s.port (p - 1)).st ≠ .disabled then s
  else
    let s := s.setFld (linkReg p 0) 0 1 1
    if (s.port p).st = .disabled then s.enterHunt p else s

/-- A full retrain from HUNT (R588). A DISABLED port has nothing to retrain. -/
def State.retrainPort (s : State) (p : Nat) : State :=
  if (s.port p).st = .disabled then s else ((s.outOfService p).linkEv p evRetrained).enterHunt p

/-- Entry to EQ over `mask` of the port's lanes (R74, R78, R85). -/
def State.enterEq (s : State) (p mask : Nat) : State := s.setPort p { s.port p with st := .eq, trained := mask }

/-- Entry to IDENT (R74, R90). -/
def State.enterIdent (s : State) (p : Nat) : State :=
  (s.setPort p { s.port p with st := .ident, active := (s.port p).trained, peer := none, sentAfter := false, rx := none, rxBad := false }).sendIdentity p

/-- W8–W11 of a CABLE_MISMATCH record (R454): EXP_ID, PEER_ID and PEER_SERIAL. -/
def State.mismatchWords (s : State) (p : Nat) : List Nat :=
  let x := s.port p
  [x.expId % 2 ^ 32, x.peerId % 2 ^ 32, x.peerSerial % 2 ^ 32, x.peerSerial / 2 ^ 32]

/-- Entry to QUARANTINE (R92). -/
def State.quarantinePort (s : State) (p : Nat) : State :=
  let s := ((s.linkEv p evMismatch).bumpLink p 0x12C).event
    { word := denOf p, source := fCableMismatch, unit := p, kind := .port, detail := s.mismatchWords p }
  (s.setPort p { s.port p with st := .quarantine, bound := none, idCheck := false, loss := false, egressHeld := false }).leaveRouting p

/-- Lanes put out of the stripe train alone where RESTORE_EN is set (R87). -/
def State.soloLanes (s : State) (p m : Nat) : State :=
  (bitsOf 8 m).foldl (fun s i => s.setLane (4 * p + i) { s.laneAt p i with solo := s.restoreEn p, soaking := false }) s

/-- Entry to ACTIVE with its far end (R74, R93, R111, R129): all VCs open. -/
def State.activatePort (s : State) (p : Nat) (i : Identity) (accepted : Bool) : State :=
  let x := s.port p
  let w := lanesIn x.trained
  let s := s.setPort p { x with st := .active, xoffRx := 0, bound := some i.endpoint, accepted := accepted, accept := false, idCheck := false }
  -- lanes left out by DEGRADE_EN train alone (R87); trained below the configured width: DEGRADED (R78, R86)
  let full := 2 ^ s.fullLanes p - 1
  let s := s.soloLanes p (full - (full &&& x.trained))
  let s := if w < 2 ^ x.width then
      (s.linkEv p evDegraded).condBegin { word := denOf p, source := fWidthDegraded, unit := p, kind := .port } else s
  (s.sendRouting p).judgeRouting p

/-! ## Lanes -/

/-- A reduction of the stripe begins (R82): partial packet discarded, egress held, WIDTH_REQ sent. -/
def State.beginReduce (s : State) (p : Nat) (hold : Bool) : State :=
  let x := s.port p
  let m := keepMask (s.fullLanes p) (s.healthyMask p &&& x.active)
  if m = 0 then s.enterDown p
  else
    let s := if hold then s.dropArrival p else s
    let s := s.setPort p { s.port p with change := some { mask := m }, egressHeld := (s.port p).egressHeld || hold }
    s.emit (.lm p 0x10 m)

/-- A lane outside the stripe fails: a widening proposal that holds it restarts with the new mask, or ends where nothing wider is left (R84). -/
def State.laneLostOutside (s : State) (p i : Nat) : State :=
  let x := s.port p
  match x.change with
  | some c =>
    if c.widen && c.mask.testBit i then
      let m := keepMask (s.fullLanes p) (s.healthyMask p)
      if lanesIn x.active < lanesIn m then
        (s.setPort p { x with change := some { mask := m, widen := true } }).emit (.lm p 0x10 m)
      else s.setPort p { x with change := none }
    else s
  | none => s

/-- A lane left LOCKED (R73, R82, R89, R92). -/
def State.laneLost (s : State) (p i : Nat) : State :=
  let s := (s.linkEv p evLockLost).bumpLink p 0x120
  let x := s.port p
  let left := s.lockMask p &&& x.active
  if !x.active.testBit i then s.laneLostOutside p i
  else match x.st with
    | .active =>
      if s.degradeEn p && x.ver = 2 && left ≠ 0 && !x.loss then s.beginReduce p true
      else
        let s := s.dropArrival p
        s.setPort p { s.port p with loss := true, allLost := (x.loss && x.allLost) || left = 0, change := none, egressHeld := false }
    | .quarantine => if left = 0 then s.enterHunt p else s
    | _ => s

/-- A lane has become LOCKED (R74, R89): HUNT ends when all configured lanes are, a loss of link when all active ones are. -/
def State.laneLocked (s : State) (p : Nat) : State :=
  let x := s.port p
  match x.st with
  | .hunt => if s.lockMask p = widthMask x.width then s.enterEq p (widthMask x.width) else s
  | .active =>
    if x.loss && maskIn x.active (s.lockMask p) then
      if x.allLost then
        (s.setPort p { x with loss := false, allLost := false, idCheck := true, peer := none, sentAfter := false }).sendIdentity p
      else s.setPort p { x with loss := false }
    else s
  | _ => s

/-- Counters of a received codeword on lane index `i` (R100): `n` corrected symbols, none when uncorrectable. -/
def State.countCodeword (s : State) (p i : Nat) (n : Option Nat) : State :=
  let s := s.bump64 (linkReg p 0x100) 1
  match n with
  | none => (s.bump64 (linkReg p 0x110) 1).bump (linkReg p (0x180 + 4 * 25))
  | some k =>
    let s := s.bump (linkReg p (0x180 + 4 * k))
    if k = 0 then s
    else ((s.bump64 (linkReg p 0x108) 1).bump64 (linkReg p 0x118) k).bumpBy (linkReg p (0x140 + 4 * i)) k

/-- Invalid control blocks and unknown LM codes among the descrambled blocks of a codeword (R70, R80). -/
def badBlocks (l : List (Bool × Nat)) : Nat × Nat :=
  l.foldl (fun n b =>
    if !b.1 then n
    else if !knownTypes.contains (b.2 % 256) then (n.1 + 1, n.2)
    else if b.2 % 256 = 0x4B && !knownLm.contains (b.2 / 256 % 256) then (n.1, n.2 + 1)
    else n) (0, 0)

/-- One codeword of 576 symbols on a LOCKED lane (R70, R73, R100). -/
def State.lockedCodeword (s : State) (p l : Nat) (syms : List Nat) : State :=
  let x := s.lane l
  let cfg := linkReg p 0x10
  let raw := if x.inverted then flipPolarity syms else syms
  let dec := rsDecode raw
  let s := s.countCodeword p (laneIdx p l) (dec.map (·.2))
  let bad := decide (validHeaders raw < s.fld cfg 7 7) || dec.isNone
  let (blocks, hist) := descrambleBlocks (messageBlocks (match dec with | some d => d.1 | none => raw)) x.hist
  let y := s.port p
  let packets := y.st = .ident || y.st = .active || y.st = .quarantine
  let (bt, bl) := if dec.isSome && packets then badBlocks blocks else (0, 0)
  let s := if bt + bl = 0 then s else s.bumpBy (linkReg p 0x134) (bt + bl)
  let s := if (dec.isNone || 0 < bt) && (s.port p).rx.isSome && y.active.testBit (laneIdx p l) then s.setPort p { s.port p with rxBad := true } else s
  let win := (bad :: x.win).take 64
  if s.fld cfg 18 7 ≤ (win.filter id).length then
    (s.setLane l { x with lock := .hunt, win := [], good := 0, pos := (x.pos + 1) % 5760, hist := hist, soaking := false }).laneLost p (laneIdx p l)
  else s.setLane l { x with win := win, hist := hist }

/-- A lane receives one codeword at its candidate position (R73, R62). `ovf`: the elastic buffer overflowed (R66). -/
def State.codeword (s : State) (l : Nat) (syms : List Nat) (ovf : Bool) : State :=
  let p := s.portOfLane l
  let y := s.port p
  if y.st = .disabled || y.st = .down || y.retryHold || y.holdDown || 2 ^ y.width ≤ laneIdx p l then s
  else
    let s := if ovf && y.refmode then (s.dropArrival p).bumpLink p 0x138 else s
    let x := s.lane l
    let th := s.fld (linkReg p 0x10) 0 7
    match x.lock with
    | .hunt =>
      if th ≤ validHeaders syms then s.setLane l { x with lock := .test, good := 0, inverted := false }
      else if th ≤ validHeaders (flipPolarity syms) then s.setLane l { x with lock := .test, good := 0, inverted := true }
      else s.setLane l { x with pos := (x.pos + 66) % 5760 }
    | .test =>
      let raw := if x.inverted then flipPolarity syms else syms
      if validHeaders raw < th then s.setLane l { x with lock := .hunt, good := 0, pos := (x.pos + 1) % 5760 }
      else if x.good + 1 < s.fld (linkReg p 0x10) 14 4 then s.setLane l { x with good := x.good + 1 }
      else (s.setLane l { x with lock := .locked, good := 0, win := [] }).laneLocked p
    | .locked => s.lockedCodeword p l syms

/-- 2 ms in HUNT with some lanes LOCKED (R74, R85). -/
def State.huntDegrade (s : State) (p : Nat) : State :=
  let x := s.port p
  let m := keepMask (2 ^ x.width) (s.lockMask p)
  if x.st = .hunt && !x.retryHold && s.degradeEn p && m ≠ 0 then s.enterEq p m else s

/-! ## Training -/

/-- One tap request: the new tap and the reply (R76): 1 updated, 2 at limit, 0 otherwise. -/
def tapStep (t : Nat) (v : Int) (req : Nat) : Int × Nat :=
  if req = 1 then (if Config.tapAtLimit t (v + 1) then (v, 2) else (v + 1, 1))
  else if req = 2 then (if Config.tapAtLimit t (v - 1) then (v, 2) else (v - 1, 1))
  else (v, 0)

/-- A training block is received (R76–R78). -/
def State.tsBlock (s : State) (l : Nat) (t : TsBlock) : State :=
  let p := s.portOfLane l
  let y := s.port p
  let x := s.lane l
  if !(y.st = .hunt || y.st = .eq || y.st = .deskew || x.solo) || y.st = .disabled || 2 ^ y.width ≤ laneIdx p l then s
  else
    let x := { x with farReady := t.rxReady, farWidth := some t.width, farLane := some t.lane, farGroup := t.group }
    let x := if t.preset then { x with preset := t.presetNum, taps := [0, 0, 0, 0] } else x
    let fields := [bits t.req 0 2, bits t.req 2 2, bits t.req 4 2, bits t.req 6 2]
    let res := (List.range 4).map (fun i => tapStep i (x.taps.getD i 0) (fields.getD i 0))
    let fresh := t.req ≠ x.lastReq
    let stat := (List.range 4).foldl (fun n i => n + (res.getD i (0, 0)).2 * 4 ^ i) 0
    let x := if fresh then { x with taps := res.map (·.1), stat := stat, lastReq := t.req } else x
    let s := s.setLane l x
    let s := if fresh then s.emit (.ts l stat) else s
    let s := s.setPort p { s.port p with farWidth := some t.width }
    if y.st = .hunt && !y.retryHold && x.lock = .locked && t.width < y.width then s.enterEq p (widthMask t.width) else s

/-- Equalisation and the error measurement are complete (R63, R66, R74): lanes that passed, and the largest offset in ppm. -/
def State.eqComplete (s : State) (p pass offset : Nat) : State :=
  let x := s.port p
  if x.st ≠ .eq then s
  else if !x.refmode && 20 < offset then s.trainFail p true
  else if maskIn x.trained pass && (bitsOf 8 x.trained).all (fun i => (s.laneAt p i).farReady) then s.setPort p { x with st := .deskew }
  else s

/-- Deskew ends (R77–R79): the LANE values received on the trained lanes, in ascending lane order. -/
def State.deskewDone (s : State) (p : Nat) (ids : List Nat) : State :=
  let x := s.port p
  if x.st ≠ .deskew then s
  else if ids.length = lanesIn x.trained && ids.all (· < s.fullLanes p) && ids.eraseDups.length = ids.length then s.enterIdent p
  else s.trainFail p false

/-! ## Identity -/

/-- An identity message's fields (R90). -/
def identityOf (l : List Byte) : Identity :=
  let w := leWord l
  { versions := bits (w 0) 8 8, features := bits (w 0) 16 8, serial := w 1 + w 2 * 2 ^ 32, endpoint := bits (w 3) 0 14, port := bits (w 3) 14 8,
    plane := bits (w 3) 22 4, role := bits (w 3) 26 2, expEndpoint := bits (w 4) 0 14, expPort := bits (w 4) 14 8, fwLine := bits (w 5) 16 16,
    fwRelease := bits (w 5) 0 16 }

/-- PEER_ID layout (R99). -/
def idWord (e p pl r : Nat) : Nat := e + p * 2 ^ 14 + pl * 2 ^ 22 + r * 2 ^ 26

/-- Versions this side offers under MAX_VER (R94). -/
def ownVersions (maxVer : Nat) : Nat := if maxVer = 1 then 1 else 3

/-- The version negotiated: the highest in both fields (R94). -/
def commonVersion (maxVer theirs : Nat) : Nat := (bitsOf 2 (ownVersions maxVer &&& theirs)).foldl (fun m b => max m (b + 1)) 0

/-- Identity matches (R91). -/
def State.identityMatches (s : State) (p : Nat) (i : Identity) : Bool :=
  match s.expectOf p with
  | none => false
  | some e => i.endpoint == e.1 && i.port == e.2.1 && i.plane == s.pl.plane && i.expEndpoint == s.selfEp p && i.expPort == s.selfPort p

/-- A chip is bound to another ACTIVE or QUARANTINE port (R93). -/
def State.boundElsewhere (s : State) (p e : Nat) : Bool :=
  allPorts.any (fun q => q != p && (((s.port q).st == .active && (s.port q).bound == some e)
    || ((s.port q).st == .quarantine && (s.port q).peer.any (fun i => i.endpoint == e))))

/-- A mismatch that AUTO_ACCEPT accepts (R93). -/
def State.mayAccept (s : State) (p : Nat) (i : Identity) : Bool :=
  let u := s.useOf p
  (s.port p).autoAccept && i.plane == s.pl.plane && i.expEndpoint == s.ownId
    && (if u.use = 0 then
          i.role == 0 && i.endpoint < 8192 && chipRack i.endpoint == (s.pl.rx, s.pl.ry) && i.port == s.pl.plane && !s.boundElsewhere p i.endpoint
        else
          u.use == 1 && i.role == 1 && (s.expectOf p).any (fun e => e.1 == i.endpoint) && 32 ≤ i.port % 48
            && (i.port % 48 - 32) / 4 == oppDir u.dir)

/-- The version is negotiated (R94): none in common fails IDENT. -/
def State.negotiate (s : State) (p : Nat) (i : Identity) : Option State :=
  let v := commonVersion (s.port p).maxVer i.versions
  if v = 0 then none
  else
    let s := s.setPort p { s.port p with ver := v }
    some (if v < 2 then (s.linkEv p evVerLower).raisePort p fVerLower else s)

/-- The verdict on a received identity (R91–R93), in IDENT or in the check of R89. -/
def State.judgeIdentity (s : State) (p : Nat) (i : Identity) : State :=
  let active := (s.port p).st == .active
  let ok := fun (s : State) (acc : Bool) =>
    if active then (s.setPort p { s.port p with idCheck := false, bound := some i.endpoint, accepted := acc }).judgeRouting p
    else s.activatePort p i acc
  if s.identityMatches p i then ok s false
  else if s.mayAccept p i then
    let e : Event := { word := denOf p, source := fCableMismatch, accepted := true, unit := p, kind := .port, detail := s.mismatchWords p }
    ok (((s.linkEv p evMismatch).bumpLink p 0x12C).event e) true
  else s.quarantinePort p

/-- An identity message is taken (R90–R94, R99). -/
def State.identityIn (s : State) (p : Nat) (pkt : Pkt) : State :=
  let s := s.taken p pkt
  let i := identityOf pkt.payload
  let x := s.port p
  if x.st ≠ .ident && x.st ≠ .quarantine && !(x.st = .active && x.idCheck) then s
  else
    let e := s.expectOf p
    let s := s.setPort p { x with peer := some i, peerId := idWord i.endpoint i.port i.plane i.role, peerSerial := i.serial,
                                  peerFeat := i.features + i.fwLine * 2 ^ 16,
                                  expId := match e with | some e => idWord e.1 e.2.1 s.pl.plane e.2.2 | none => 0 }
    let s := if (s.port p).sentAfter then s else (s.setPort p { s.port p with sentAfter := true }).sendIdentity p
    if x.st = .quarantine then s
    else if x.st = .active then s.judgeIdentity p i
    else match s.negotiate p i with
      | none => s.trainFail p false
      | some s => s.judgeIdentity p i

/-- A ROUTING message is taken (R129). -/
def State.routingIn (s : State) (p : Nat) (pkt : Pkt) : State :=
  let s := s.taken p pkt
  if (s.port p).st ≠ .active then s
  else (s.setPort p { s.port p with accept := bit (leWord pkt.payload 0) 8 }).judgeRouting p

/-- The re-check command: a quarantined port returns to IDENT (R92). -/
def State.recheckPort (s : State) (p : Nat) : State := if (s.port p).st = .quarantine then s.enterIdent p else s

/-! ## Width in service -/

/-- WIDTH_REQ is received (R83): answered with the AND of the masks, which is then agreed. -/
def State.widthReq (s : State) (p m : Nat) : State :=
  let x := s.port p
  if x.st ≠ .active || x.ver ≠ 2 then s
  else
    let own := match x.change with | some c => c.mask | none => s.healthyMask p
    let a := own &&& m
    let widen := match x.change with | some c => c.widen | none => lanesIn x.active < lanesIn a
    (s.setPort p { x with change := some { mask := own, widen := widen, agreed := some a } }).emit (.lm p 0x11 a)

/-- WIDTH_ACK is received (R83): an answer with a lane outside the mask now proposed belongs to an earlier proposal. -/
def State.widthAck (s : State) (p m : Nat) : State :=
  let x := s.port p
  match x.change with
  | some c => if x.st = .active && maskIn m c.mask then s.setPort p { x with change := some { c with agreed := some m } } else s
  | none => s

/-- Lanes back in the stripe. -/
def State.joinLanes (s : State) (p m : Nat) : State :=
  (bitsOf 8 m).foldl (fun s i => s.setLane (4 * p + i) { s.laneAt p i with solo := false, soaking := false }) s

/-- Both sides switch to the agreed mask (R83–R87). -/
def State.widthSwitch (s : State) (p : Nat) : State :=
  let x := s.port p
  match x.change with
  | none => s
  | some c =>
    match c.agreed with
    | none => s
    | some a =>
      if x.st ≠ .active then s
      else if a = 0 then s.enterDown p
      else if a = x.active then s.setPort p { x with change := none, egressHeld := false }
      else
        let wider := lanesIn x.active < lanesIn a
        let s := s.setPort p { x with active := a, change := none, egressHeld := false,
                                      lastWiden := if wider then some s.clk else x.lastWiden }
        let s := ((s.soloLanes p (x.active - (x.active &&& a))).joinLanes p a).bumpLink p 0x128
        if wider then
          let s := s.linkEv p evRestored
          let s := if lanesIn a = 2 ^ x.width then s.condEnd (denOf p) fWidthDegraded p else s
          s.tc1Restored p
        else
          ((s.linkEv p evDegraded).condBegin { word := denOf p, source := fWidthDegraded, unit := p, kind := .port }).tc1WidthFell p

/-- A reduction has not completed within DOWN_HOLD (R84). -/
def State.widthTimeout (s : State) (p : Nat) : State :=
  match (s.port p).change with
  | some c => if c.widen then s else s.enterDown p
  | none => s

/-- A widening proposal lapses (R84): the restored lanes soak again. -/
def State.widenLapse (s : State) (p : Nat) : State :=
  let x := s.port p
  match x.change with
  | some c =>
    if !c.widen then s
    else
      (bitsOf 8 (c.mask - (c.mask &&& x.active))).foldl (fun s i => s.setLane (4 * p + i) { s.laneAt p i with soaking := true })
        (s.setPort p { x with change := none })
  | none => s

/-- LANE_RETRAIN is received (R84, R88): the named lanes leave the stripe, and the block is answered with WIDTH_ACK. -/
def State.laneRetrainIn (s : State) (p m : Nat) : State :=
  let x := s.port p
  if x.st ≠ .active || x.ver ≠ 2 then s
  else
    let a := keepMask (s.fullLanes p) (s.healthyMask p &&& x.active - (s.healthyMask p &&& x.active &&& m))
    let s := (bitsOf 8 m).foldl (fun s i => s.setLane (4 * p + i) { s.laneAt p i with solo := true, soaking := false }) s
    (s.setPort p { s.port p with change := some { mask := a, agreed := some a } }).emit (.lm p 0x11 a)

/-- A restored lane has held LOCKED for SOAK (R87): the wider mask is proposed, at most once per 10 s. -/
def State.soakDone (s : State) (p i : Nat) : State :=
  let x := s.port p
  let ln := s.laneAt p i
  let m := keepMask (s.fullLanes p) (s.healthyMask p)
  let recent := match x.lastWiden with | some t => decide (s.clk < t + 10000 * ms) | none => false
  if x.st = .active && x.ver = 2 && s.restoreEn p && ln.soaking && ln.lock = .locked && x.change.isNone && !recent && lanesIn x.active < lanesIn m then
    (s.setPort p { x with change := some { mask := m, widen := true } }).emit (.lm p 0x10 m)
  else s

/-- A lane retrained alone passes (R87, R88). -/
def State.laneRetrained (s : State) (p i : Nat) : State :=
  let ln := s.laneAt p i
  if (s.port p).st = .active && ln.solo then
    (s.setLane (4 * p + i) { ln with lock := .locked, errOk := true, soaking := true, win := [] }).linkEv p evRetrained
  else s

/-- A lane's pre-FEC error ratio exceeds the in-service limit (R88). -/
def State.laneErrors (s : State) (p i : Nat) : State :=
  let x := s.port p
  if x.st ≠ .active || !x.active.testBit i then s
  else if lanesIn x.active ≤ 1 || x.ver ≠ 2 then s.enterDown p
  else
    let s := s.setLane (4 * p + i) { s.laneAt p i with errOk := false, solo := true, soaking := false }
    (s.emit (.lm p 0x12 (2 ^ i))).beginReduce p false

/-! ## Flow control and timestamps received -/

/-- FC_STATE is received (R111): its mask replaces the earlier one. -/
def State.fcIn (s : State) (p m : Nat) : State :=
  let x := s.port p
  if x.st ≠ .active then s
  else
    let s := s.setPort p { x with xoffRx := m % 256 }
    if m % 64 = 0 then s.condEnd (denOf p) fXoffStuck p else s

/-- The far end has held a lossless VC stopped longer than STUCK (R113). -/
def State.xoffStuck (s : State) (p : Nat) : State :=
  let x := s.port p
  if x.st = .active && x.xoffRx % 64 ≠ 0 then
    (s.setReg (linkReg p 0x44) (s.reg (linkReg p 0x44) ||| 2 ^ 16)).condBegin { word := denOf p, source := fXoffStuck, unit := p, kind := .port }
  else s

/-- The current mask is sent again (R111). -/
def State.fcRepeat (s : State) (p : Nat) : State := if (s.port p).st = .active then s.emit (.lm p 0x01 (s.fcMask p)) else s

/-- 48-bit time in ns for timestamps. -/
def State.stamp (s : State) : Nat := s.now % 2 ^ 48

/-- An exchange is opened on a connected up port (R58, R81, R94). -/
def State.tsSync (s : State) (p : Nat) : State :=
  let x := s.port p
  if x.st = .active && x.ver = 2 && (s.useOf p).use = 1 && x.ts.isNone then
    (s.setPort p { x with ts := some { t1 := s.stamp } }).emit (.lm p 0x20 s.stamp)
  else s

/-- TS_SYNC is answered (R81). -/
def State.tsSyncIn (s : State) (p : Nat) : State :=
  let x := s.port p
  if x.st = .active && x.ver = 2 then (s.emit (.lm p 0x21 s.stamp)).emit (.lm p 0x22 s.stamp) else s

/-- The neighbour's receive time arrives (R81). -/
def State.tsRxIn (s : State) (p t : Nat) : State :=
  let x := s.port p
  match x.ts with
  | some e => s.setPort p { x with ts := some { e with t2 := some (t % 2 ^ 48) } }
  | none => s

/-- An exchange is abandoned after 10 µs (R81). -/
def State.tsLost (s : State) (p : Nat) : State :=
  let x := s.port p
  if x.ts.isSome then (s.setPort p { x with ts := none }).bumpLink p 0x13C else s

/-- DRAIN is received (R80, R94). -/
def State.drainIn (s : State) (p : Nat) (b : Bool) : State :=
  let x := s.port p
  if x.st = .active && x.ver = 2 then s.setPort p { x with drainRx := b } else s

/-- A drain of a port begins or ends (R41, R80). -/
def State.setDrain (s : State) (p : Nat) (b : Bool) : State :=
  let x := s.port p
  let s := s.setPort p { x with drainTx := b, drained := if b then x.drained else false }
  let s := if x.st = .active && x.ver = 2 then s.emit (.lm p 0x40 (b2n b)) else s
  if b then s.tc1PortGone p else s

/-- Nothing is queued for a port. -/
def State.queuesEmpty (s : State) (p : Nat) : Bool :=
  !s.sw.held.any (fun h => h.port == some p) && !s.sw.bridge.any (fun x => x.2.2.port == some p)

end Sys2Proof.Machine
end

