-- ==== Sys2Proof/Machine/Clock.lean ====
section
/-! DEFINITION. Rack and domain time (R54–R60, R568, R569): timestamp results, medians by direction, the domain offset, and
the pulse's effect on rack time. -/

namespace Sys2Proof.Machine

/-- Insertion of a number in rising order. -/
def insSorted (a : Int) : List Int → List Int
  | [] => [a]
  | b :: l => if a ≤ b then a :: b :: l else b :: insSorted a l

/-- Median of a list: of an even number, the mean of the middle two, rounded down (R58). -/
def median (l : List Int) : Int :=
  let s := l.foldr insSorted []
  let n := s.length
  if n % 2 = 1 then s.getD (n / 2) 0 else (s.getD (n / 2 - 1) 0 + s.getD (n / 2) 0) / 2

/-- Direction entry `d` of TIME. -/
def State.dirT (s : State) (d : Nat) : DirTime := Tbl.get {} s.time.dirs d

/-- The direction's medians over its connected ports (R58). -/
def State.remedian (s : State) (d : Nat) : State :=
  let l := ((s.dirPorts d).filter (fun p => (s.port p).st == .active)).map (fun p => Tbl.get {} s.time.ports p) |>.filter (·.valid)
  let x := s.dirT d
  let y := if l.isEmpty then x else { x with offset := median (l.map (·.offset)), delay := median (l.map (·.delay)), rate := median (l.map (·.rate)) }
  { s with time := { s.time with dirs := Tbl.put {} s.time.dirs d y } }

/-- Racks of the route to rack (0, 0), each with the direction taken from it: along x, then along y (R37, R59). -/
def homeRoute (X Y : Nat) : Nat → Nat → Nat → List (Nat × Nat × Nat)
  | 0, _, _ => []
  | n + 1, x, y =>
    if x ≠ 0 then let d := if X - x < x then 0 else 1
                  (x, y, d) :: homeRoute X Y n (hopRack x y X Y d).1 y
    else if y ≠ 0 then let d := if Y - y < y then 2 else 3
                       (x, y, d) :: homeRoute X Y n x (hopRack x y X Y d).2
    else []

/-- DOMAIN_OFFSET and DOMAIN_VALID are computed again (R59). -/
def State.redomain (s : State) : State :=
  let pl := s.pl
  let r := homeRoute pl.x pl.y 16 pl.rx pl.ry
  let off := r.foldl (fun (n : Int) h => n + (if h.1 = pl.rx && h.2.1 = pl.ry then (s.dirT h.2.2).offset else Config.hopOffset h.1 h.2.1)) 0
  let ok := r.all (fun h => 8 ≤ (s.dirT h.2.2).good)
  { s with time := { s.time with domainOff := off, domainValid := ok && s.place.isSome } }

/-- Offset and delay of an exchange in ps (R58), differences modulo 2^48 (R81). -/
def exchangeOf (t1 t2 t3 t4 : Nat) : Int × Int :=
  let d := fun a b => toSigned 48 ((a + 2 ^ 48 - b % 2 ^ 48) % 2 ^ 48)
  (((d t2 t1) - (d t4 t3)) * 500, ((d t2 t1) + (d t4 t3)) * 500)

/-- The neighbour's send time completes an exchange (R58). -/
def State.tsTxIn (s : State) (p t3 : Nat) : State :=
  let x := s.port p
  match x.ts with
  | some { t1 := t1, t2 := some t2, t4 := _ } =>
    let (off, del) := exchangeOf t1 t2 (t3 % 2 ^ 48) s.stamp
    let old : PortTime := Tbl.get {} s.time.ports p
    let dt : Int := (s.clk : Int) - (old.at_ : Int)
    let rate : Int := if old.valid && 0 < dt then (off - old.offset) * 1000000000 / dt else 0
    let d := (s.useOf p).dir
    let y := s.dirT d
    let s := s.setPort p { x with ts := none }
    let s := { s with time := { s.time with
      ports := Tbl.put {} s.time.ports p { offset := off, delay := del, rate := rate, at_ := s.clk, valid := true },
      dirs := Tbl.put {} s.time.dirs d { y with good := min 255 (y.good + 1) } } }
    (s.remedian d).redomain
  | _ => s

/-- No exchange on a direction for 1 ms (R569). -/
def State.dirStale (s : State) (d : Nat) : State :=
  ({ s with time := { s.time with dirs := Tbl.put {} s.time.dirs d { s.dirT d with good := 0 } } }).redomain

/-- One reference cycle in ps (R54). -/
def cyclePs : Nat := 6400

/-- The rack time in ps that a pulse sets or is checked against (R55, R569): the value loaded for it, or one whole number of
periods past the last pulse's, nearest the present. -/
def State.pulseTime (s : State) : Nat :=
  let t := s.time
  if !t.seen || t.loadPend then t.load * 1000
  else
    let per := t.period * cyclePs
    let k := (t.rackPs - t.lastPs + per / 2) / per
    t.lastPs + per * max k 1

/-- The pulse's effect on rack time (R55, R569): set at the first pulse or a loaded one, checked at the others. -/
def State.pulseClock (s : State) : State :=
  let t := s.time
  let target := s.pulseTime
  let errCyc : Int := ((t.rackPs : Int) - (target : Int)) / (cyclePs : Int)
  let slip := t.seen && !t.loadPend && (target + cyclePs < t.rackPs || t.rackPs + cyclePs < target)
  let s := { s with time := { t with
    rackPs := if !t.seen || t.loadPend || slip then target else t.rackPs,
    err := if slip then errCyc else t.err, seen := true, missing := false, loadPend := false,
    last := target / 1000, lastPs := target, count := (t.count + 1) % 2 ^ 32 } }
  let s := s.condEnd 4 mEpochMissing 0
  if slip then s.raiseMod mEpochSlip else s

/-- Domain time in ns of an EPOCH boundary at rack time `t` ps. -/
def State.domainAt (s : State) (t : Nat) : Nat := ((((t : Int) + s.time.domainOff + 500) / 1000) % (2 ^ 64 : Nat)).toNat

/-- 1.5 periods without a pulse (R55). -/
def State.epochMissing (s : State) : State :=
  -- R55: before the first pulse the periods count from entry to READY
  if s.time.missing || (!s.time.seen && (s.dev = .off || s.dev = .boot || s.dev = .wipe || s.dev = .config)) then s
  else { s with time := { s.time with missing := true } }.condBegin { word := 4, source := mEpochMissing }

end Sys2Proof.Machine
end

