-- ==== Sys2Proof/Machine/SettNum.lean ====
section
/-! DEFINITION. Arithmetic of the Sett engines: packed operands in local SRAM (R234, R267, R289), the FP32 stages with their
overflow flag (R263, R264), and the operations of the vector engine on 32-bit temporaries (R292–R294). -/

namespace Sys2Proof.Machine

/-! ## Packed operands -/

/-- `n` bytes from address `a` as a little-endian number. -/
def rdNat (rd : Nat → Byte) (a n : Nat) : Nat := leNat ((List.range n).map (fun i => rd (a + i)))

/-- The code of element `i` of `w`-bit elements packed from address `a` (R234). -/
def codeAt (rd : Nat → Byte) (w a i : Nat) : Nat := bits (rdNat rd (a + w * i / 8) ((w + 14) / 8)) (w * i % 8) w

/-- Blocks of 32 elements that cover `n` (R234). -/
def blocks32 (n : Nat) : Nat := ceilDiv n 32

/-- Bytes of element data of a row of `n` elements: whole blocks for MX formats (R267, R289). -/
def rowData (f n : Nat) : Nat := if isMx f then blocks32 n * (4 * fmtBits f) else ceilDiv (n * fmtBits f) 8

/-- Bytes of a row, scales included. -/
def rowBytes (f n : Nat) : Nat := rowData f n + (if isMx f then blocks32 n else 0)

/-- Exact value of element `i` of a row of `n` elements at address `a` (R235, R267). -/
def rowElem (rd : Nat → Byte) (f n a i : Nat) : Dec :=
  decodeElem f (codeAt rd (fmtBits f) a i) (rd (a + rowData f n + i / 32)).toNat

/-! ## FP32 stages -/

/-- An FP32 code with the flag that some stage before it overflowed from finite values. -/
abbrev FVal := Nat × Bool

/-- The code is an infinity. -/
def fIsInf (c : Nat) : Bool := match fp32.decode c with | .inf _ => true | _ => false
/-- The code is NaN. -/
def fIsNan (c : Nat) : Bool := fp32.decode c == .nan
/-- The code is finite. -/
def fFin (c : Nat) : Bool := !fIsInf c && !fIsNan c

/-- Rounds an exact value to FP32, with its overflow flag. -/
def fRound (d : Dec) : FVal :=
  let c := fp32.encode .rne d
  (c, fIsInf c && (match d with | .fin .. => true | _ => false))

/-- FP32 addition of two stages (R263). -/
def fAddF (a b : FVal) : FVal :=
  let c := fRound ((fp32.decode a.1).add (fp32.decode b.1))
  (c.1, c.2 || a.2 || b.2)

/-- Two optional values joined: an absent one passes the other through unchanged (R264). -/
def joinOpt {α : Type} (f : α → α → α) : Option α → Option α → Option α
  | none, b => b
  | a, none => a
  | some a, some b => some (f a b)

/-- One level of a pairwise tree, lower-numbered input on the left (R260, R297). -/
def treeLevel {α : Type} (f : α → α → α) : List (Option α) → List (Option α)
  | a :: b :: l => joinOpt f a b :: treeLevel f l
  | [a] => [a]
  | [] => []

/-- `n` levels of a pairwise tree. -/
def treeLevels {α : Type} (f : α → α → α) : Nat → List (Option α) → List (Option α)
  | 0, l => l
  | n + 1, l => treeLevels f n (treeLevel f l)

/-- The whole tree of up to 2^n leaves. -/
def tree {α : Type} (f : α → α → α) (n : Nat) (l : List (Option α)) : Option α := (treeLevels f n l).headD none

/-! ## Division and square root, correctly rounded -/

/-- Exact enough quotient of two values: its low bit is a sticky bit far below any rounding place. -/
def Dec.div (a b : Dec) : Dec :=
  match a, b with
  | .nan, _ => .nan
  | _, .nan => .nan
  | .inf _, .inf _ => .nan
  | .zero _, .zero _ => .nan
  | .inf s, .zero t => .inf (s != t)
  | .inf s, .fin t _ _ => .inf (s != t)
  | .zero s, .inf t => .zero (s != t)
  | .zero s, .fin t _ _ => .zero (s != t)
  | .fin s _ _, .inf t => .zero (s != t)
  | .fin s _ _, .zero t => .inf (s != t)
  | .fin s m e, .fin t n f =>
    let k := 64 + Nat.log2 n
    let q := m * 2 ^ k / n
    .fin (s != t) (2 * q + b2n (m * 2 ^ k % n != 0)) (e - f - (k : Int) - 1)

/-- Integer square root by bits, with fuel for the bits. -/
def isqrtFrom (n : Nat) : Nat → Nat → Nat
  | 0, r => r
  | k + 1, r => let t := r + 2 ^ k
                isqrtFrom n k (if t * t ≤ n then t else r)

/-- Floor of the square root. -/
def isqrt (n : Nat) : Nat := isqrtFrom n (Nat.log2 n / 2 + 1) 0

/-- Exact enough square root, with a sticky bit (IEEE 754 for the special values). -/
def Dec.sqrt (a : Dec) : Dec :=
  match a with
  | .nan => .nan
  | .zero s => .zero s
  | .inf s => if s then .nan else .inf false
  | .fin true _ _ => .nan
  | .fin false m e =>
    let odd : Nat := (e % 2).toNat
    let x := m * 2 ^ (64 + odd)
    let r := isqrt x
    .fin false (2 * r + b2n (r * r != x)) ((e - (odd : Int)) / 2 - 33)

/-- The correctly rounded code with its magnitude moved by at most one place, as the free value chooses (log 18). -/
def nearCode (op a r : Nat) : Nat :=
  if fFin r && r % 2 ^ 31 ≠ 0 && r % 2 ^ 31 < fp32.maxCode then r + Config.vecApprox op a % 3 - 1 else r

/-! ## Operations of the vector engine -/

/-- FP32 1.0. -/
def fOne : Nat := 0x3F800000

/-- Numeric order with −0 = +0; NaN compares false (R293 CMPLT). -/
def fLess (a b : Nat) : Bool :=
  match fp32.decode a, fp32.decode b with
  | .zero _, .zero _ => false
  | x, y => x.lt y

/-- Numeric equality with −0 = +0; NaN compares false. -/
def fEqual (a b : Nat) : Bool :=
  match fp32.decode a, fp32.decode b with
  | .nan, _ => false
  | .zero _, .zero _ => true
  | _, _ => a == b

/-- The larger of two codes by R249. -/
def fMax (a b : Nat) : Nat := if fIsNan a || fIsNan b then fp32.nanCode else if (fp32.decode a).lt (fp32.decode b) then b else a
/-- The smaller of two codes by R249. -/
def fMin (a b : Nat) : Nat := if fIsNan a || fIsNan b then fp32.nanCode else if (fp32.decode b).lt (fp32.decode a) then b else a

/-- Rounds to format code `f`, 1–7, returned as FP32; element formats saturate (R293 RND, SRND). -/
def rndTo (f : Nat) (r : Rnd) (a : Nat) : Nat :=
  let fm := fmtOf f
  match fp32.decode a with
  | .nan => fp32.nanCode
  | .zero s => fp32.signed s 0
  | .inf s => if f ≤ 2 || f = 4 then fp32.signed s (255 * 2 ^ 23) else fp32.encode .rne (fm.decode (fm.signed s fm.maxCode))
  | .fin s m e =>
    let y := fm.round r m e
    match fm.encodeMag y.1 y.2 with
    | some c => fp32.encode .rne (fm.decode (fm.signed s c))
    | none => if f ≤ 2 then fp32.signed s (255 * 2 ^ 23) else fp32.encode .rne (fm.decode (fm.signed s fm.maxCode))

/-- FP32 code of an integer (R293 I2F). -/
def i2f (v : Int) : Nat := fp32.encode .rne (decOfUnits v 0)

/-- FP32 to INT32, rounded to nearest even and saturating; whether it saturated (R293 F2I). -/
def f2i (a : Nat) : Nat × Bool :=
  match fp32.decode a with
  | .nan => (0, false)
  | .zero _ => (0, false)
  | .inf s => (if s then 2 ^ 31 else 2 ^ 31 - 1, true)
  | .fin s m e =>
    let n := roundAt .rne m e 0
    if s then (if 2 ^ 31 < n then (2 ^ 31, true) else (ofSigned 32 (-(n : Int)), false))
    else (if 2 ^ 31 ≤ n then (2 ^ 31 - 1, true) else (n, false))

/-- The approximate operations (R293 0x11–0x16): IEEE 754 at NaN, at poles and at infinities, free elsewhere (log 18). -/
def vecFree (op a : Nat) : Nat :=
  let v := Config.vecApprox op a % 2 ^ 32
  let neg := a.testBit 31
  match fp32.decode a with
  | .nan => fp32.nanCode
  | .inf _ =>
    if op = 0x11 then (if neg then 0 else 255 * 2 ^ 23)
    else if op = 0x12 then (if neg then fp32.nanCode else 255 * 2 ^ 23)
    else if op = 0x13 then fp32.signed neg fOne
    else if op = 0x14 then (if neg then 0 else fOne)
    else if neg then v else 255 * 2 ^ 23
  | .zero _ => if op = 0x12 then fp32.signed true (255 * 2 ^ 23) else v
  | .fin .. => if op = 0x12 && neg then fp32.nanCode else v

/-- Result of operation `op` on the sources, with immediate and stochastic bits, and whether F2I saturated (R293). -/
def vecOp (op a b c imm u : Nat) : Nat × Bool :=
  let dec := fp32.decode
  let enc := fp32.encode .rne
  let m32 := 2 ^ 32
  if op = 0x01 then (a, false)
  else if op = 0x02 then (enc ((dec a).add (dec b)), false)
  else if op = 0x03 then (enc ((dec a).add (dec b).neg), false)
  else if op = 0x04 then (enc ((dec a).mul (dec b)), false)
  else if op = 0x05 then (enc (((dec a).mul (dec b)).add (dec c)), false)
  else if op = 0x06 then (fMax a b, false)
  else if op = 0x07 then (fMin a b, false)
  else if op = 0x08 then (if fIsNan a then fp32.nanCode else a % 2 ^ 31, false)
  else if op = 0x09 then (if fIsNan a then fp32.nanCode else a ^^^ 2 ^ 31, false)
  else if op = 0x0A then (if fLess a b then fOne else 0, false)
  else if op = 0x0B then (if fEqual a b then fOne else 0, false)
  else if op = 0x0C then (if c % 2 ^ 31 ≠ 0 then a else b, false)
  else if op = 0x0D then (nearCode op a (enc ((dec fOne).div (dec a))), false)
  else if op = 0x0E then (nearCode op a (enc ((dec fOne).div (dec a).sqrt)), false)
  else if op = 0x0F then (enc ((dec a).div (dec b)), false)
  else if op = 0x10 then (enc (dec a).sqrt, false)
  else if op ≤ 0x16 then (vecFree op a, false)
  else if op = 0x17 then (rndTo imm .rne a, false)
  else if op = 0x18 then (rndTo imm (.sr u) a, false)
  else if op = 0x20 then ((a + b) % m32, false)
  else if op = 0x21 then ((a + m32 - b) % m32, false)
  else if op = 0x22 then (a * b % m32, false)
  else if op = 0x23 then (a &&& b, false)
  else if op = 0x24 then (a ||| b, false)
  else if op = 0x25 then (a ^^^ b, false)
  else if op = 0x26 then (a * 2 ^ (imm % 32) % m32, false)
  else if op = 0x27 then (ofSigned 32 (toSigned 32 a / (2 ^ (imm % 32) : Nat)), false)
  else if op = 0x28 then (i2f (toSigned 32 a), false)
  else f2i a

/-- The operation codes of R293. -/
def vecOpOk (op imm : Nat) : Bool :=
  (1 ≤ op && op ≤ 0x16) || ((op = 0x17 || op = 0x18) && 1 ≤ imm && imm ≤ 7) || (0x20 ≤ op && op ≤ 0x29)

end Sys2Proof.Machine
end

