-- ==== Sys2Proof/Machine/CollBase.lean ====
section
/-! DEFINITION. Shapes and arithmetic of collective contexts: the descriptor's fields (R204), chunks and their images (R212, R213,
R236), ring segments and steps (R215–R217), combination of contributions and partials (R211, R214, R246–R252) and final
results (R241, R245, R247–R250). -/

namespace Sys2Proof.Machine

/-! ## Descriptor -/

/-- Word `i` of the descriptor. -/
def Ctx.w (c : Ctx) (i : Nat) : Nat := c.desc.getD i 0
/-- OP of R204. -/
def Ctx.op (c : Ctx) : Nat := bits (c.w 0) 0 4
/-- RED. -/
def Ctx.red (c : Ctx) : Nat := bits (c.w 0) 4 4
/-- IN_FMT. -/
def Ctx.inF (c : Ctx) : Nat := bits (c.w 0) 8 4
/-- OUT_FMT. -/
def Ctx.outF (c : Ctx) : Nat := bits (c.w 0) 12 4
/-- ROUND: stochastic final rounding. -/
def Ctx.stoch (c : Ctx) : Bool := bit (c.w 0) 16
/-- FAST. -/
def Ctx.fast (c : Ctx) : Bool := bit (c.w 0) 17
/-- TC. -/
def Ctx.tc (c : Ctx) : Nat := bits (c.w 0) 18 2
/-- CHUNK_LOG2. -/
def Ctx.clog (c : Ctx) : Nat := bits (c.w 0) 20 5
/-- PKG_INTERNAL (R203). -/
def Ctx.pkg (c : Ctx) : Bool := bit (c.w 0) 25
/-- MASK_EN (R236). -/
def Ctx.mask (c : Ctx) : Bool := bit (c.w 0) 26
/-- JOB. -/
def Ctx.job (c : Ctx) : Nat := bits (c.w 1) 0 12
/-- WINDOW. -/
def Ctx.win (c : Ctx) : Nat := bits (c.w 1) 12 7
/-- EPI_CORES. -/
def Ctx.epiCores (c : Ctx) : Nat := bits (c.w 1) 19 5
/-- STEP_US. -/
def Ctx.stepUs (c : Ctx) : Nat := bits (c.w 1) 24 8
/-- ROOT. -/
def Ctx.root (c : Ctx) : Nat := bits (c.w 3) 18 13
/-- ELEMS. -/
def Ctx.elems (c : Ctx) : Nat := c.w 4 + bits (c.w 5) 0 8 * 2 ^ 32
/-- STATE region handle. -/
def Ctx.stateH (c : Ctx) : Nat := c.w 11

/-- The combination that RED and IN_FMT name (R211): 0 float SUM, 1 INT SUM, 2 float PROD, 3 INT32 PROD, 4 MAX, 5 MIN,
6 ARGMAX, 7 ARGMIN. -/
def Ctx.kind (c : Ctx) : Nat :=
  if c.red = 0 then (if c.inF ≤ 8 then 0 else 1)
  else if c.red = 1 then (if c.inF ≤ 2 then 2 else 3)
  else c.red + 2

/-- The operation reduces in Marten (R210). -/
def Ctx.reduces (c : Ctx) : Bool := c.op ≤ 1

/-- Elements of a full chunk (R212). -/
def chunkElems (f clog : Nat) : Nat :=
  if f = 0 || f = 10 || f = 11 then 2 ^ clog / 4 else if f = 1 || f = 2 then 2 ^ clog / 2 else 2 ^ clog

/-- E of the context. -/
def Ctx.e (c : Ctx) : Nat := chunkElems c.inF c.clog

/-- Elements of one unit of numbering: a member's data, or a piece of ALL_TO_ALL (R213). -/
def Ctx.unitElems (c : Ctx) : Nat := if c.op = 4 then c.elems / max c.m 1 else c.elems

/-- Chunks of one unit. -/
def Ctx.unitChunks (c : Ctx) : Nat := ceilDiv c.unitElems c.e

/-- Chunks of the context (R213); batches of an MOE context are not bounded. -/
def Ctx.chunks (c : Ctx) : Nat :=
  c.unitChunks * (if c.op = 2 then c.m else if c.op = 4 then c.m * c.m else 1)

/-- Elements of chunk `k`: the last chunk of a unit holds the remainder (R212). -/
def Ctx.elemsOf (c : Ctx) (k : Nat) : Nat := min c.e (c.unitElems - k % max c.unitChunks 1 * c.e)

/-- The one member that sends chunk `k`, by rank; none where every member does (R210, R213). -/
def Ctx.sender (c : Ctx) (k : Nat) : Option Nat :=
  let u := k / max c.unitChunks 1
  if c.op = 2 then some u else if c.op = 3 then some c.root else if c.op = 4 then some (u / max c.m 1) else none

/-! ## Images -/

/-- Bytes of an image of `n` elements of format `f`, scales and mask included (R212, R236). -/
def imageBytes (f n : Nat) (mask : Bool) : Nat := rowBytes f n + (if mask then ceilDiv n 8 else 0)

/-- Contribution packets of chunk `k` (R212). -/
def Ctx.packets (c : Ctx) (k : Nat) : Nat := ceilDiv (imageBytes c.inF (c.elemsOf k) c.mask) 4096

/-- Length of packet `i` of an image of `n` bytes (R212). -/
def packetLen (n i : Nat) : Nat := min 4096 (n - 4096 * i)

/-- An interval of bytes cut into packets: offsets and lengths (R217). -/
def cutPackets (off len : Nat) : List (Nat × Nat) := (List.range (ceilDiv len 4096)).map (fun i => (off + 4096 * i, packetLen len i))

/-- Byte intervals that elements [lo, lo + len) take in an image of `n` elements of format `f` (R217, R236). -/
def imageSpans (f n : Nat) (mask : Bool) (lo len : Nat) : List (Nat × Nat) :=
  if len = 0 then []
  else
    let data := if isMx f then blocks32 len * (4 * fmtBits f) else ceilDiv (len * fmtBits f) 8
    [(lo * fmtBits f / 8, data)]
      ++ (if isMx f then [(rowData f n + lo / 32, blocks32 len)] else [])
      ++ (if mask then [(rowBytes f n + lo / 8, ceilDiv len 8)] else [])

/-- B_p of R211. -/
def Ctx.bp (c : Ctx) : Nat :=
  match c.kind with | 0 => 8 | 1 => 8 | 6 => 8 | 7 => 8 | _ => 4

/-- Byte intervals of elements [lo, lo + len) in a partial image of `n` elements (R217, R236). -/
def Ctx.partSpans (c : Ctx) (n lo len : Nat) : List (Nat × Nat) :=
  if len = 0 then []
  else (lo * c.bp, len * c.bp) :: (if c.mask then [(n * c.bp + lo / 8, ceilDiv len 8)] else [])

/-- The byte at `o` among received intervals of bytes. -/
def byteIn (l : List (Nat × List Byte)) (o : Nat) : Option Byte :=
  match l.find? (fun x => x.1 ≤ o && o < x.1 + x.2.length) with
  | some x => some (x.2.getD (o - x.1) 0)
  | none => none

/-- The interval is covered by received bytes. -/
def covered (l : List (Nat × List Byte)) (o n : Nat) : Bool := (List.range n).all (fun i => (byteIn l (o + i)).isSome)

/-- `n` bytes from offset `o` among received intervals. -/
def bytesIn (l : List (Nat × List Byte)) (o n : Nat) : List Byte := (List.range n).map (fun i => (byteIn l (o + i)).getD 0)

/-! ## Rings -/

/-- The + range and the − range of `n` elements (R215): first element and length. -/
def ringRange (n rdir : Nat) : Nat × Nat :=
  let h := min n (32 * ceilDiv (blocks32 n) 2)
  if rdir = 0 then (0, h) else (h, n - h)

/-- Segment `s` of a range split over `n` positions (R215). -/
def segOf (r : Nat × Nat) (n s : Nat) : Nat × Nat :=
  let blocks := blocks32 r.2
  let a := min r.2 (32 * (s * blocks / max n 1))
  let b := min r.2 (32 * ((s + 1) * blocks / max n 1))
  (r.1 + a, b - a)

/-- Position `p` moved `k` places along a ring of length `n`; ring 1 runs the other way (R215). -/
def ringPos (n p k rdir : Nat) : Nat := if rdir = 0 then (p + k) % max n 1 else (p + n - k % max n 1) % max n 1

/-- Ring length and this leaf's position of a phase (R217): phases 0 and 3 are x, 1 and 2 are y. -/
def Ctx.ringOf (c : Ctx) (phase : Nat) : Nat × Nat := if phase = 0 || phase = 3 then (c.nx, c.px) else (c.ny, c.py)

/-- Segment `s` of a phase and ring for a chunk of `n` elements (R215): the y rings run within this leaf's x segment. -/
def Ctx.segment (c : Ctx) (n phase rdir s : Nat) : Nat × Nat :=
  let r := ringRange n rdir
  if phase = 0 || phase = 3 then segOf r c.nx s else segOf (segOf r c.nx c.px) c.ny s

/-- The leaf that a ring's packets go to, and the one they come from. -/
def Ctx.nextLeaf (c : Ctx) (phase rdir : Nat) : Nat :=
  let (n, p) := c.ringOf phase
  (if phase = 0 || phase = 3 then c.ringX else c.ringY).getD (ringPos n p 1 rdir) 0
/-- The ring predecessor (R222 check 2). -/
def Ctx.prevLeaf (c : Ctx) (phase rdir : Nat) : Nat :=
  let (n, p) := c.ringOf phase
  (if phase = 0 || phase = 3 then c.ringX else c.ringY).getD (ringPos n p (n - 1) rdir) 0

/-! ## Combination -/

/-- An entry in which `v`, one element of a contribution, has been combined (R239, R247–R250, R252). `member` is the local
member's number. -/
def Ctx.combine (c : Ctx) (e : Entry) (member : Nat) (d : Dec) (code : Nat) : Entry :=
  let e := { e with n := e.n + 1 }
  match c.kind with
  | 0 =>
    if c.fast then
      let x := fp32.encode .rne d
      { e with fp := if e.pres then fp32Add e.fp x else x, pres := true }
    else e.add d
  | 1 => { e with acc := e.acc + d.units 0, pres := true }
  | 2 => { e with prods := e.prods ++ [(member, fp32.encode .rne d)], pres := true }
  | 3 => { e with acc := (if e.pres then e.acc else 1) * d.units 0 % 2 ^ 32, pres := true }
  | 4 => if d = .nan then { e with nan := true, pres := true }
         else { e with best := if e.pres && !(e.best.lt d) then e.best else d, pres := true }
  | 5 => if d = .nan then { e with nan := true, pres := true }
         else { e with best := if e.pres && !(d.lt e.best) then e.best else d, pres := true }
  | k =>
    -- Marten writes every NaN as the canonical one (R237)
    let v := if fIsNan (code % 2 ^ 32) then 0x7FC00000 else code % 2 ^ 32
    let i := code / 2 ^ 32
    if !e.pres then { e with fp := v, idx := i, pres := true }
    else
      let a := (e.fp, e.idx)
      let b := (v, i)
      let lower := if a.2 ≤ b.2 then a else b
      let na := fIsNan a.1
      let nb := fIsNan b.1
      let r := if na && nb then lower else if na then a else if nb then b
        else if fLess a.1 b.1 || (fp32.decode a.1).lt (fp32.decode b.1) then (if k = 6 then b else a)
        else if (fp32.decode b.1).lt (fp32.decode a.1) then (if k = 6 then a else b)
        else lower
      { e with fp := r.1, idx := r.2 }

/-- The float PROD of an entry: present values in ascending local-member order (R248). -/
def Entry.product (e : Entry) : Nat :=
  let sorted := (List.range 128).flatMap (fun m => (e.prods.filter (fun p => p.1 == m)).map (·.2))
  match sorted with
  | [] => fOne
  | a :: l => l.foldl fp32Mul a

/-- The chosen value of a MAX or MIN entry. -/
def Entry.chosen (e : Entry) : Dec := if e.nan then .nan else e.best

/-- Identity of an integer MAX or MIN of format `f` (R237). -/
def intIdentity (max_ : Bool) (f : Nat) : Int :=
  let w := fmtBits f
  if max_ then -(2 ^ (w - 1) : Int) else (2 ^ (w - 1) : Int) - 1

/-- Presence of a result: integer MAX, MIN and PROD report an element equal to the identity as absent (R237). -/
def Ctx.present (c : Ctx) (e : Entry) : Bool :=
  if !e.pres then false
  else if c.kind = 3 then e.acc != 1
  else if (c.kind = 4 || c.kind = 5) && 9 ≤ c.inF then e.chosen.units 0 != intIdentity (c.kind == 4) c.inF
  else true

/-- The partial that a leaf sends for an entry (R214, R246–R250). -/
def Ctx.partOf (c : Ctx) (e : Entry) : PartVal :=
  match c.kind with
  | 0 =>
    if c.fast then { pres := e.pres, v := if e.pres then e.fp else 0 }
    else let (hi, lo) := pairOf e.value
         { pres := e.pres, v := hi + lo * 2 ^ 32 }
  | 1 => { pres := e.pres, v := ofSigned 64 e.acc }
  | 2 => { pres := e.pres, v := if e.pres then (if e.prods.isEmpty then e.fp else e.product) else fOne }
  | 3 => { pres := c.present e, v := if e.pres then ofSigned 32 e.acc else 1 }
  | 4 => if 9 ≤ c.inF then { pres := c.present e, v := ofSigned 32 (if e.pres then e.chosen.units 0 else intIdentity true c.inF) }
         else { pres := e.pres, v := if e.pres then fp32.encode .rne e.chosen else fp32.signed true (255 * 2 ^ 23) }
  | 5 => if 9 ≤ c.inF then { pres := c.present e, v := ofSigned 32 (if e.pres then e.chosen.units 0 else intIdentity false c.inF) }
         else { pres := e.pres, v := if e.pres then fp32.encode .rne e.chosen else 255 * 2 ^ 23 }
  | k => if e.pres then { pres := true, v := e.fp + e.idx * 2 ^ 32 }
         else { pres := false, v := fp32.signed (k == 6) (255 * 2 ^ 23) + (2 ^ 32 - 1) * 2 ^ 32 }

/-- A partial combined into an entry (R246–R250, R252); an absent one adds nothing. -/
def Ctx.addPart (c : Ctx) (e : Entry) (p : PartVal) : Entry :=
  if !p.pres then e
  else match c.kind with
  | 0 =>
    let hi := p.v % 2 ^ 32
    if c.fast then { e with fp := if e.pres then fp32Add e.fp hi else hi, pres := true }
    else (e.add (fp32.decode hi)).add (fp32.decode (p.v / 2 ^ 32))
  | 1 => { e with acc := e.acc + toSigned 64 p.v, pres := true }
  | 2 => { e with fp := if e.pres then fp32Mul e.fp p.v else p.v, pres := true }
  | 3 => { e with acc := (if e.pres then e.acc else 1) * (p.v : Int) % 2 ^ 32, pres := true }
  | 4 => c.combine e 0 (if 9 ≤ c.inF then decOfUnits (toSigned 32 p.v) 0 else fp32.decode p.v) 0
  | 5 => c.combine e 0 (if 9 ≤ c.inF then decOfUnits (toSigned 32 p.v) 0 else fp32.decode p.v) 0
  | _ => c.combine e 0 .nan p.v

/-- Two partials joined, the incoming one first (R215). -/
def Ctx.joinPart (c : Ctx) (a b : PartVal) : Entry := c.addPart (c.addPart {} a) b

/-! ## Results -/

/-- What the rounding of a result counts: finite to ±∞, NaN, identity, saturation of INT32 (R259, R231). -/
structure ResultFlags where
  ovf : Nat := 0
  nan : Nat := 0
  empty : Nat := 0
  sat : Bool := false
  deriving DecidableEq, Repr

/-- The finished value of an entry before its conversion (R241, R248–R250); SUM in units of its own. -/
def Ctx.finalDec (c : Ctx) (e : Entry) : Dec :=
  match c.kind with
  | 0 => if c.fast then (if e.pres then fp32.decode e.fp else .zero false) else e.value
  | 1 => if e.pres then decOfUnits e.acc 0 else .zero false
  | 2 => fp32.decode (if e.pres then (if e.prods.isEmpty then e.fp else e.product) else fOne)
  | 3 => decOfUnits (if e.pres then toSigned 32 (ofSigned 32 e.acc) else 1) 0
  | 4 => if e.pres then e.chosen else if 9 ≤ c.inF then decOfUnits (intIdentity true c.inF) 0 else .inf true
  | 5 => if e.pres then e.chosen else if 9 ≤ c.inF then decOfUnits (intIdentity false c.inF) 0 else .inf false
  | _ => .zero false

/-- Rounding mode of element `i` of chunk `k` where R244 allows stochastic rounding. -/
def Ctx.rnd (c : Ctx) (ctx k i : Nat) : Rnd := if c.stoch && c.kind = 0 then .sr (srBits c.seed ctx k i) else .rne

/-- Codes of finished entries of elements `lo` upward of chunk `k` in format `f`, their scale bytes, and what is counted
(R241–R245, R247–R250). -/
def Ctx.finish (c : Ctx) (ctx k f lo : Nat) (es : List Entry) : List Nat × List Nat × ResultFlags :=
  let at_ := fun (i : Nat) => es.getD i {}
  let n := es.length
  let empties := (es.filter (fun e => !c.present e)).length
  let ds := es.map c.finalDec
  let nans := (ds.filter (· == .nan)).length
  if 6 ≤ c.kind then
    let ps := es.map c.partOf
    (ps.map (·.v), [], { empty := empties, nan := (ps.filter (fun p => fIsNan (p.v % 2 ^ 32))).length })
  else if f = 9 || f = 10 then
    let cs := (List.range n).map (fun i =>
      let v := if c.kind = 1 then (at_ i).acc else (ds.getD i .nan).units 0
      if f = 10 && (2 : Int) ^ 31 ≤ v then (2 ^ 31 - 1, true)
      else if f = 10 && v < -(2 : Int) ^ 31 then (2 ^ 31, true)
      else (ofSigned (fmtBits f) v, false))
    (cs.map (·.1), [], { empty := empties, sat := cs.any (·.2) })
  else if isMx f then
    let blocks := (List.range (blocks32 n)).map (fun b =>
      let l := (ds.drop (32 * b)).take 32
      let (x, cl) := mxScale f l
      (x, (List.range l.length).map (fun j => mxCode f x cl (c.rnd ctx k (lo + 32 * b + j)) (l.getD j .nan))))
    let cs := blocks.flatMap (·.2)
    (cs.map (·.1), blocks.map (·.1), { empty := empties, nan := nans, ovf := (cs.filter (·.2)).length })
  else
    let fm := fmtOf f
    let cs := (List.range n).map (fun i =>
      let d := ds.getD i .nan
      let code := fm.encode (c.rnd ctx k (lo + i)) d
      (code, match d with | .fin .. => (match fm.decode code with | .inf _ => true | _ => false) | _ => false))
    (cs.map (·.1), [], { empty := empties, nan := nans, ovf := (cs.filter (·.2)).length })

/-- Codes packed into bytes, lowest bits first, MX data padded to whole blocks (R234). -/
def packCodes (f : Nat) (codes : List Nat) : List Byte :=
  let w := fmtBits f
  leBytes (rowData f codes.length) (codes.foldr (fun x n => x % 2 ^ w + n * 2 ^ w) 0)

/-- Mask bytes of presence bits (R236). -/
def packMask (l : List Bool) : List Byte :=
  leBytes (ceilDiv l.length 8) (l.foldr (fun b n => b2n b + 2 * n) 0)

/-- Bytes of finished elements [lo, …) as intervals of the result image of a chunk of `n` elements (R216, R236). -/
def resultSpans (f n lo : Nat) (mask : Bool) (codes scales : List Nat) (pres : List Bool) : List (Nat × List Byte) :=
  if codes.isEmpty then []
  else
    [(lo * fmtBits f / 8, packCodes f codes)]
      ++ (if isMx f then [(rowData f n + lo / 32, scales.map (fun x => BitVec.ofNat 8 x))] else [])
      ++ (if mask then [(rowBytes f n + lo / 8, packMask pres)] else [])

/-- Bytes of partials of elements [lo, …) as intervals of the partial image of `n` elements (R217, R236). -/
def Ctx.partBytes (c : Ctx) (n lo : Nat) (l : List PartVal) : List (Nat × List Byte) :=
  if l.isEmpty then []
  else (lo * c.bp, l.flatMap (fun p => leBytes c.bp p.v)) :: (if c.mask then [(n * c.bp + lo / 8, packMask (l.map (·.pres)))] else [])

/-- Partials of elements [lo, lo + len) read from received bytes of the partial image. -/
def Ctx.partsIn (c : Ctx) (n lo len : Nat) (l : List (Nat × List Byte)) : List PartVal :=
  (List.range len).map (fun i =>
    let v := leNat (bytesIn l ((lo + i) * c.bp) c.bp)
    let pres := !c.mask || ((byteIn l (n * c.bp + (lo + i) / 8)).getD 0).toNat.testBit ((lo + i) % 8)
    -- an absent INT64 sum travels as its sentinel (R237)
    { pres := pres, v := v })

/-- Element `i` of a contribution image of `n` elements: its exact value, its code, and its presence (R235–R237). -/
def Ctx.imageElem (c : Ctx) (n : Nat) (l : List (Nat × List Byte)) (i : Nat) : Dec × Nat × Bool :=
  let rd := fun o => (byteIn l o).getD 0
  let code := codeAt rd (fmtBits c.inF) 0 i
  let d := if c.inF = 11 then .zero false else rowElem rd c.inF n 0 i
  (d, code, !c.mask || (rd (rowBytes c.inF n + i / 8)).toNat.testBit (i % 8))

end Sys2Proof.Machine
end

