-- ==== Sys2Proof/Machine/SettArray.lean ====
section
/-! DEFINITION. The matrix array's commands (R261–R274): their fields and checks, the column sums in the fixed tree, and what
MATMUL and ELEM write. -/

namespace Sys2Proof.Machine

/-- Fields of an array command (R265). -/
structure ArrCmd where
  opc : Nat
  aFmt : Nat
  wFmt : Nat
  init : Nat
  reuse : Bool
  notify : Bool
  tag : Nat
  m : Nat
  n : Nat
  k : Nat
  aAddr : Nat
  wAddr : Nat
  acc : Nat
  bias : Nat
  stride : Nat
  deriving DecidableEq, Repr

/-- The command's fields read from its eight words (R265). -/
def arrCmd (w : List Nat) : ArrCmd :=
  let g := fun i => w.getD i 0
  { opc := bits (g 0) 0 4, aFmt := bits (g 0) 4 4, wFmt := bits (g 0) 8 4, init := bits (g 0) 12 2, reuse := bit (g 0) 14,
    notify := bit (g 0) 15, tag := bits (g 0) 16 16, m := bits (g 1) 0 10, n := bits (g 1) 10 8, k := bits (g 2) 0 21,
    aAddr := bits (g 3) 0 23, wAddr := bits (g 4) 0 23, acc := bits (g 5) 0 23, bias := bits (g 6) 0 23, stride := bits (g 7) 0 23 }

/-- Local SRAM of a core: 8 MiB (R260). -/
def sramSize : Nat := 2 ^ 23

/-- Cell mode of a format pair (R261): 0 16-bit, 1 INT8, 2, 3, 4 MX of 8, 6, 4 bits; none for a pair not allowed. -/
def cellMode (a w : Nat) : Option Nat :=
  let mx := fun f => 3 ≤ f && f ≤ 8
  let wd := fun f => if f = 7 then 4 else if f = 5 || f = 6 then 3 else 2
  if mx a && mx w then some (min (wd a) (wd w))
  else if (a = 1 && w = 1) || (a = 2 && w = 2) then some 0
  else if a = 9 && w = 9 then some 1
  else none

/-- K per panel (R261). -/
def panelK (mode : Nat) : Nat := if mode = 4 then 512 else if mode = 3 then 256 else 128
/-- Cycles per vector (R261). -/
def vecCycles (mode : Nat) : Nat := if mode = 0 then 2 else 1
/-- Weight load in cycles (R261). -/
def loadCycles (mode : Nat) : Nat := if mode = 2 then 130 else if mode = 3 then 132 else if mode = 4 then 136 else 128

/-- K-rows of a panel with its padding, and its bytes (R267). -/
def panelRows (f rows : Nat) : Nat := if isMx f then 32 * blocks32 rows else rows
/-- Bytes of a panel of `rows` K-rows (R267). -/
def panelBytes (f rows : Nat) : Nat := panelRows f rows * (24 * fmtBits f) + (if isMx f then blocks32 rows * 192 else 0)
/-- PSTRIDE (R267). -/
def panelStride (f mode : Nat) : Nat := ceilDiv (panelBytes f (panelK mode)) 64 * 64

/-- Exact weight at K-row `kk`, column `j` of a panel of `rows` K-rows that starts at address `a` (R267). -/
def panelElem (rd : Nat → Byte) (f rows a kk j : Nat) : Dec :=
  decodeElem f (codeAt rd (fmtBits f) (a + kk * (24 * fmtBits f)) j)
    (rd (a + panelRows f rows * (24 * fmtBits f) + kk / 32 * 192 + j)).toNat

/-- Bytes that the activation rows span (R267, R273). -/
def ArrCmd.aSpan (c : ArrCmd) : Nat := if c.m = 0 then 0 else (c.m - 1) * c.stride + rowBytes c.aFmt (if c.opc = 2 then c.n else c.k)
/-- Bytes that the weights span (R267, R273). -/
def ArrCmd.wSpan (c : ArrCmd) (mode : Nat) : Nat :=
  if c.opc = 2 then (if c.m = 0 then 0 else (c.m - 1) * c.stride + rowBytes c.wFmt c.n)
  else if c.k = 0 then 0
  else let t := ceilDiv c.k (panelK mode) - 1
       t * panelStride c.wFmt mode + panelBytes c.wFmt (c.k - t * panelK mode)
/-- Bytes that the accumulator rows span (R267). -/
def ArrCmd.accSpan (c : ArrCmd) : Nat := 768 * c.m

/-- Two ranges meet. -/
def rangesMeet (a n b m : Nat) : Bool := decide (0 < n) && decide (0 < m) && decide (a < b + m) && decide (b < a + n)

/-- The checks of R266, on the command's words. -/
def arrOk (w : List Nat) : Bool :=
  let c := arrCmd w
  let hi := fun i s => (w.getD i 0) >>> s == 0
  match cellMode c.aFmt c.wFmt with
  | none => false
  | some mode =>
    let row := if c.opc = 2 then max (rowBytes c.aFmt c.n) (rowBytes c.wFmt c.n) else rowBytes c.aFmt c.k
    (c.opc == 1 || c.opc == 2) && c.init != 3 && hi 1 18 && hi 2 21 && hi 3 23 && hi 4 23 && hi 5 23 && hi 6 23 && hi 7 23
      && c.m ≤ 512 && c.n ≤ 192 && c.k ≤ 1048576 && (c.opc != 2 || c.k == 0)
      && c.aAddr % 64 == 0 && c.wAddr % 64 == 0 && c.acc % 64 == 0 && c.bias % 64 == 0 && c.stride % 64 == 0
      && row ≤ c.stride
      && c.aAddr + c.aSpan ≤ sramSize && c.wAddr + c.wSpan mode ≤ sramSize && c.acc + c.accSpan ≤ sramSize
      && (c.init != 1 || c.bias + 768 ≤ sramSize)
      && !rangesMeet c.acc c.accSpan c.aAddr c.aSpan && !rangesMeet c.acc c.accSpan c.wAddr (c.wSpan mode)

/-- Exact sum of products with the IEEE rules for special values; a zero sum is +0, the fixed-point tree keeping no sign of
zero (DEDUCED, log 19). -/
def dotExact (l : List (Dec × Dec)) : Dec :=
  match l.foldl (fun (a : Dec) x => match a.add (x.1.mul x.2) with | .zero _ => .zero false | d => d) (.zero false) with
  | .zero _ => .zero false
  | d => d

/-- Column sum of one panel in FP32 (R263): `a kk` and `w kk` are the operands of the panel's K-row `kk`, `rows` of them
present. -/
def colSumF (mode : Nat) (rows : Nat) (a w : Nat → Dec) : Option FVal :=
  if mode = 0 then
    tree fAddF 7 ((List.range 128).map (fun k => if k < rows then some (fRound ((a k).mul (w k))) else none))
  else
    let nb := panelK mode / 32
    tree fAddF 4 ((List.range nb).map (fun b =>
      let ks := (List.range 32).map (32 * b + ·) |>.filter (· < rows)
      if ks.isEmpty then none else some (fRound (dotExact (ks.map (fun k => (a k, w k)))))))

/-- Column sum of one panel in INT8 mode (R263). -/
def colSumI (rows : Nat) (a w : Nat → Dec) : Int :=
  (List.range rows).foldl (fun (n : Int) k => n + (a k).units 0 * (w k).units 0) 0

/-- INT32 addition that saturates, and whether it did (R263). -/
def satAdd32 (x y : Int) : Int × Bool :=
  let z := x + y
  if (2 : Int) ^ 31 ≤ z then (2 ^ 31 - 1, true) else if z < -(2 : Int) ^ 31 then (-(2 : Int) ^ 31, true) else (z, false)

/-- The weights of panel `t`: from the active bank when REUSE holds, else from local SRAM. -/
def ArrCmd.weight (c : ArrCmd) (rd : Nat → Byte) (bank : Option Panel) (mode t kk j : Nat) : Dec :=
  match bank with
  | some p => panelElem (fun i => p.bytes.getD i 0) c.wFmt p.rows 0 kk j
  | none => panelElem rd c.wFmt (min (panelK mode) (c.k - t * panelK mode)) (c.wAddr + t * panelStride c.wFmt mode) kk j

/-- REUSE takes effect (R269): the active bank holds this command's only panel. -/
def ArrCmd.reused (c : ArrCmd) (mode : Nat) (bank : Option Panel) : Option Panel :=
  match bank with
  | some p => if c.reuse && c.opc == 1 && 0 < c.k && c.k ≤ panelK mode && p.addr == c.wAddr && p.fmt == c.wFmt && p.mode == mode
                && c.k ≤ p.rows then some p else none
  | none => none

/-- One result entry: code, and the flags SAT, NAN, OVF (R284). -/
structure ArrEntry where
  code : Nat
  sat : Bool
  nan : Bool
  ovf : Bool
  deriving DecidableEq, Repr

/-- The accumulator operand that INIT names (R265, R270). -/
def ArrCmd.start (c : ArrCmd) (rd : Nat → Byte) (m j : Nat) : Nat :=
  if c.init = 0 then 0 else if c.init = 1 then rdNat rd (c.bias + 4 * j) 4 else rdNat rd (c.acc + 768 * m + 4 * j) 4

/-- Entry (m, j) of a MATMUL (R269) or an ELEM (R273). -/
def ArrCmd.entry (c : ArrCmd) (rd : Nat → Byte) (bank : Option Panel) (mode m j : Nat) : ArrEntry :=
  let s0 := c.start rd m j
  if c.opc = 2 then
    let a := rowElem rd c.aFmt c.n (c.aAddr + m * c.stride) j
    let w := rowElem rd c.wFmt c.n (c.wAddr + m * c.stride) j
    if mode = 1 then
      let (v, s) := satAdd32 (toSigned 32 s0) (a.units 0 * w.units 0)
      ⟨ofSigned 32 v, s, false, false⟩
    else
      let p := a.mul w
      let f := if mode = 0 then fRound p else (0, false)
      let r := if mode = 0 then fAddF (s0, false) f else fRound ((fp32.decode s0).add p)
      ⟨r.1, false, fIsNan r.1, r.2⟩
  else
    let kt := panelK mode
    let t := ceilDiv c.k kt
    let av := fun t k => rowElem rd c.aFmt c.k (c.aAddr + m * c.stride) (t * kt + k)
    let wv := fun t k => c.weight rd bank mode t k j
    let rows := fun t => min kt (c.k - t * kt)
    if mode = 1 then
      let r := (List.range t).foldl (fun (x : Int × Bool) t =>
        let (v, s) := satAdd32 x.1 (colSumI (rows t) (av t) (wv t)); (v, x.2 || s)) (toSigned 32 s0, false)
      ⟨ofSigned 32 r.1, r.2, false, false⟩
    else
      let r := (List.range t).foldl (fun (x : FVal) t =>
        match colSumF mode (rows t) (av t) (wv t) with | some v => fAddF x v | none => x) (s0, false)
      -- with no panel the operand itself is written; every NaN is the canonical one (R264)
      ⟨if fIsNan r.1 then fp32.nanCode else r.1, false, fIsNan r.1, r.2⟩

/-- Entries that a command writes, row by row (R267, R274): none for K = 0 with INIT = KEEP. -/
def ArrCmd.cells (c : ArrCmd) : List (Nat × Nat) :=
  if c.opc = 1 && c.k = 0 && c.init = 2 then []
  else (List.range c.m).flatMap (fun m => (List.range c.n).map (fun j => (m, j)))

/-- What the array does with a command once it starts (R266, R269, R273, R274, R275): `err` is the number of entries written
before a detected error and the failing row or column. -/
def arrRun (rd : Nat → Byte) (bank : Option Panel) (q : QCmd) (err : Option (Nat × Nat)) : Running × Option Panel :=
  let c := arrCmd q.words
  match cellMode c.aFmt c.wFmt, arrOk q.words with
  | some mode, true =>
    let re := c.reused mode bank
    let all := c.cells
    let cells := match err with | some (n, _) => all.take n | none => all
    let es := cells.map (fun x => (x, c.entry rd re mode x.1 x.2))
    let any := fun (f : ArrEntry → Bool) => es.any (fun e => f e.2)
    let flags := b2n (c.opc == 1 && c.k == 0) + 2 * b2n (c.m == 0 || c.n == 0) + 4 * b2n (any (·.sat)) + 8 * b2n (any (·.nan))
      + 16 * b2n (any (·.ovf))
    let tk := if c.opc = 2 then 1 else ceilDiv c.k (panelK mode)
    let last := c.wAddr + (tk - 1) * panelStride c.wFmt mode
    let rows := c.k - (tk - 1) * panelK mode
    -- REUSE looks at the panel of the previous command alone: one that loads none leaves none (R269, R274)
    let idle := c.opc = 2 || c.k = 0 || c.m = 0 || c.n = 0
    let bank' := if idle then none else if re.isSome then bank
      else some { addr := last, fmt := c.wFmt, mode := mode, rows := rows,
                  bytes := (List.range (panelBytes c.wFmt rows)).map (fun i => rd (last + i)) }
    ({ cmd := q, status := if err.isSome then 0x50 else 0, flags := flags,
       writes := es.map (fun e => (c.acc + 768 * e.1.1 + 4 * e.1.2, leBytes 4 e.2.code)), err := err.map (·.2),
       work := if c.n = 0 then 0 else c.m * tk, loads := if idle || re.isSome then 0 else tk }, bank')
  | _, _ => ({ cmd := q, status := 0x11 }, bank)

/-- Ranges that a command reads and writes, for the interlock of R301: (address, length). -/
def arrHulls (w : List Nat) : List (Nat × Nat) × List (Nat × Nat) :=
  let c := arrCmd w
  match cellMode c.aFmt c.wFmt, arrOk w with
  | some mode, true =>
    ([(c.aAddr, c.aSpan), (c.wAddr, c.wSpan mode)] ++ (if c.init = 1 then [(c.bias, 768)] else []) ++ (if c.init = 2 then [(c.acc, c.accSpan)] else []),
     [(c.acc, c.accSpan)])
  | _, _ => ([], [])

end Sys2Proof.Machine
end

