-- ==== Sys2Proof/Machine/SettVec.lean ====
section
/-! DEFINITION. The vector engine's commands (R288–R300): tensor descriptors, the walk, the stages, what CHAIN writes to OUT and
ROUT, and the summary. -/

namespace Sys2Proof.Machine

/-- A tensor as its descriptor gives it (R288): sizes with 1 for unused dimensions, signed strides (dimension 0 has none). -/
structure Tensor where
  fmt : Nat
  ndim : Nat
  addr : Nat
  size : List Nat
  stride : List Int
  deriving DecidableEq, Repr

/-- The tensor of a descriptor (R288). -/
def tensorOf (d : Desc) : Tensor :=
  let g := fun i => d.getD i 0
  let nd := bits (g 0) 4 3
  { fmt := bits (g 0) 0 4, ndim := nd, addr := bits (g 1) 0 23,
    size := (List.range 5).map (fun i => if i < nd then bits (g (2 + i)) 0 21 else 1),
    stride := 0 :: (List.range 4).map (fun i => if i + 1 < nd then toSigned 32 (g (7 + i)) else 0) }

/-- A descriptor's own checks (R288, R300). -/
def tensorDescOk (d : Desc) : Bool :=
  let g := fun i => d.getD i 0
  let nd := bits (g 0) 4 3
  d.length == 16 && bits (g 0) 0 4 ≤ 11 && 1 ≤ nd && nd ≤ 5 && (g 0) >>> 7 == 0 && (g 1) >>> 23 == 0
    && (List.range 5).all (fun i => (g (2 + i)) >>> 21 == 0 && g (2 + i) ≤ 1048576 && (i < nd || g (2 + i) == 0))
    && (List.range 4).all (fun i => i + 1 < nd || g (7 + i) == 0)
    && (List.range 5).all (fun i => g (11 + i) == 0)

/-- Size of dimension `i`. -/
def Tensor.sz (t : Tensor) (i : Nat) : Nat := t.size.getD i 1

/-- Number of elements. -/
def Tensor.total (t : Tensor) : Nat := t.size.foldl (· * ·) 1

/-- Bytes of one row (R289). -/
def Tensor.rowLen (t : Tensor) : Nat := rowBytes t.fmt (t.sz 0)

/-- Indices of flat index `f` (R290). -/
def Tensor.idx (t : Tensor) (f : Nat) : List Nat :=
  ((List.range 5).foldl (fun (a : List Nat × Nat) i => (a.1 ++ [a.2 % t.sz i], a.2 / t.sz i)) ([], f)).1

/-- First byte of the row at indices 1–4 (R289). -/
def Tensor.rowAt (t : Tensor) (ix : List Nat) : Int :=
  (t.addr : Int) + (List.range 4).foldl (fun (n : Int) i => n + t.stride.getD (i + 1) 0 * (ix.getD (i + 1) 0 : Int)) 0

/-- The hull: lowest byte and highest byte plus one (R289); none for a tensor without elements. -/
def Tensor.hull (t : Tensor) : Option (Int × Int) :=
  if t.total = 0 then none
  else
    let ext := (List.range 4).map (fun i => t.stride.getD (i + 1) 0 * ((t.sz (i + 1) : Int) - 1))
    let lo := ext.foldl (fun (n : Int) e => n + min e 0) (t.addr : Int)
    let hi := ext.foldl (fun (n : Int) e => n + max e 0) (t.addr : Int)
    some (lo, hi + (t.rowLen : Int))

/-- The tensor lies in local SRAM and its rows are aligned (R289, R300). -/
def Tensor.ok (t : Tensor) : Bool :=
  let al : Int := if t.fmt = 0 || t.fmt = 10 || t.fmt = 11 then 4 else if t.fmt = 1 || t.fmt = 2 then 2 else 1
  (t.addr : Int) % al == 0 && (List.range 4).all (fun i => t.stride.getD (i + 1) 0 % al == 0)
    && (match t.hull with | some (lo, hi) => decide (0 ≤ lo) && decide (hi ≤ (sramSize : Int)) | none => true)

/-- Fields of a vector command (R291). -/
structure VecCmd where
  opc : Nat
  notify : Bool
  pval : Nat
  tag : Nat
  raxes : Nat
  rop : Nat
  rsrc : Nat
  osrc : Nat
  predEn : Bool
  pred : Nat
  predNeg : Bool
  setpEn : Bool
  setp : Nat
  test : Nat
  scalars : Nat
  deriving DecidableEq, Repr

/-- The command's fields read from its sixteen words (R291). -/
def vecCmd (w : List Nat) : VecCmd :=
  let g := fun i => w.getD i 0
  { opc := bits (g 0) 0 4, notify := bit (g 0) 7, pval := bits (g 0) 8 8, tag := bits (g 0) 16 16,
    raxes := bits (g 6) 0 5, rop := bits (g 6) 5 3, rsrc := bits (g 6) 8 3, osrc := bits (g 6) 11 3, predEn := bit (g 6) 14,
    pred := bits (g 6) 15 3, predNeg := bit (g 6) 18, setpEn := bit (g 6) 19, setp := bits (g 6) 20 3, test := bits (g 6) 23 3,
    scalars := bits (g 7) 0 23 }

/-- Stage words before the first END (R292). -/
def stagesOf (w : List Nat) : List Nat := ((w.drop 8).take 8).takeWhile (fun x => x % 64 ≠ 0)

/-- The stage rules of R292 and R294. -/
def stagesOk (w : List Nat) (total : Nat) : Bool :=
  let st := stagesOf w
  let rest := ((w.drop 8).take 8).drop st.length
  !st.isEmpty && (rest.drop 1).all (· == 0) && (match rest.head? with | some e => e == 0 | none => true)
    && st.all (fun x => vecOpOk (bits x 0 6) (bits x 25 7) && bits x 6 4 < 14 && bits x 10 4 < 14 && bits x 14 4 < 14
                && (bits x 0 6 != 0x18 || total ≤ 2 ^ 20))

/-- Operand `i`: 0–2 IN, 3 OUT, 4 ROUT; none where unused. -/
def QCmd.operand (q : QCmd) (i : Nat) : Option Tensor :=
  match q.descs.getD i [] with
  | [] => none
  | d => some (tensorOf d)

/-- Hulls meet. -/
def hullsMeet (a b : Option (Int × Int)) : Bool :=
  match a, b with
  | some (l, h), some (m, g) => decide (l < g) && decide (m < h)
  | _, _ => false

/-- Two tensors coincide exactly (R295). -/
def Tensor.same (a b : Tensor) : Bool := a.addr == b.addr && a.fmt == b.fmt && a.size == b.size && a.stride == b.stride

/-- The checks of R300 on a CHAIN. -/
def chainOk (q : QCmd) : Bool :=
  let w := q.words
  let g := fun i => w.getD i 0
  let c := vecCmd w
  let used := (List.range 5).filter (fun i => bit (g (1 + i)) 23)
  match q.operand 0 with
  | none => false
  | some in0 =>
    let ins := (List.range 3).filterMap q.operand
    let out := q.operand 3
    let rout := q.operand 4
    let arg := c.rop = 4 || c.rop = 5
    let fits := fun (t : Tensor) => (List.range 5).all (fun i => t.sz i == in0.sz i || t.sz i == 1)
    c.opc == 1 && bits (g 0) 4 3 == 0 && (List.range 5).all (fun i => (g (1 + i)) >>> 24 == 0)
      && (g 6) >>> 26 == 0 && (g 7) >>> 23 == 0 && c.rop != 7 && (!c.setpEn || c.test ≤ 4)
      && used.all (fun i => tensorDescOk (q.descs.getD i []) && bits (g (1 + i)) 0 23 % 64 == 0) && c.scalars % 64 == 0
      && c.scalars + 64 ≤ sramSize && stagesOk w in0.total
      && ins.all (fun t => fits t && t.ok && (t.fmt != 11 || arg))
      && (match out with | some t => t.ok && t.size == in0.size && t.fmt != 11 | none => true)
      && (match rout with
          | some t => t.ok && (List.range 5).all (fun i => t.sz i == (if c.raxes.testBit i then 1 else in0.sz i))
                        && (if arg then t.fmt == 11 else t.fmt == 0)
          | none => true)
      && (match out with
          | some t => ins.all (fun x => !hullsMeet t.hull x.hull) || (t.same in0 && (ins.drop 1).all (fun x => !hullsMeet t.hull x.hull))
          | none => true)
      && (match rout with
          | some t => ins.all (fun x => !hullsMeet t.hull x.hull)
                        && (match out with | some o => !hullsMeet t.hull o.hull | none => true)
          | none => true)

/-- The 32-bit value of an input element (R292): floats decoded to FP32, integers sign-extended. -/
def inputVal (f : Nat) (rd : Nat → Byte) (n a i : Nat) : Nat :=
  if f = 9 || f = 10 then ofSigned 32 (toSigned (fmtBits f) (codeAt rd (fmtBits f) a i))
  else if f = 11 then rdNat rd (a + 8 * i) 4
  else fp32.encode .rne (rowElem rd f n a i)

/-- An input's value at the indices of the iteration space, broadcast where its size is 1 (R291). -/
def Tensor.read (t : Tensor) (rd : Nat → Byte) (ix : List Nat) : Nat :=
  let jx := (List.range 5).map (fun i => if t.sz i = 1 then 0 else ix.getD i 0)
  inputVal t.fmt rd (t.sz 0) (t.rowAt jx).toNat (jx.getD 0 0)

/-- The scalar table (R291). -/
def scalarsOf (rd : Nat → Byte) (a : Nat) : List Nat := (List.range 16).map (fun i => rdNat rd (a + 4 * i) 4)

/-- A source of a stage (R292). -/
def srcVal (temps ins sc : List Nat) (flat k n : Nat) : Nat :=
  if n < 8 then temps.getD n 0 else if n < 11 then ins.getD (n - 8) 0 else if n = 11 then sc.getD k 0
  else if n = 12 then flat % 2 ^ 32 else 0

/-- The temporaries after all stages for one element, and F2I saturations (R292, R294). -/
def runStages (stages : List Nat) (ins sc : List Nat) (flat : Nat) : List Nat × Nat :=
  stages.foldl (fun (t : List Nat × Nat) x =>
    let v := srcVal t.1 ins sc flat (bits x 21 4)
    let u := srBits (sc.getD 14 0 + sc.getD 15 0 * 2 ^ 32) (sc.getD 13 0 % 4096) (sc.getD 12 0) flat
    let (r, s) := vecOp (bits x 0 6) (v (bits x 6 4)) (v (bits x 10 4)) (v (bits x 14 4)) (bits x 25 7) u
    (t.1.set (bits x 18 3) r, t.2 + b2n s)) (List.replicate 8 0, 0)

/-- Temporaries of every element in walk order (R290). -/
def chainTemps (rd : Nat → Byte) (q : QCmd) (in0 : Tensor) : List (List Nat × Nat) :=
  let c := vecCmd q.words
  let sc := scalarsOf rd c.scalars
  let st := stagesOf q.words
  let rest := [q.operand 0, q.operand 1, q.operand 2]
  (List.range in0.total).map (fun f =>
    let ix := in0.idx f
    runStages st (rest.map (fun o => match o with | some t => t.read rd ix | none => 0)) sc f)

/-! ## OUT -/

/-- Codes, scale bytes and saturations of one output row from its temporaries (R295). -/
def outRow (f : Nat) (vals : List Nat) : List Nat × List Nat × Nat :=
  if f = 9 || f = 10 then
    let hi : Int := 2 ^ (fmtBits f - 1) - 1
    let lo : Int := -(2 ^ (fmtBits f - 1))
    let cs := vals.map (fun v => let x := toSigned 32 v
                                 let y := if hi < x then hi else if x < lo then lo else x
                                 (ofSigned (fmtBits f) y, decide (y ≠ x)))
    (cs.map (·.1), [], (cs.filter (·.2)).length)
  else if f ≤ 2 then
    let cs := vals.map (fun v => let d := fp32.decode v
                                 let c := (fmtOf f).encode .rne d
                                 (c, match d with | .fin .. => (match (fmtOf f).decode c with | .inf _ => true | _ => false) | _ => false))
    (cs.map (·.1), [], (cs.filter (·.2)).length)
  else
    let blocks := (List.range (blocks32 vals.length)).map (fun b => ((vals.drop (32 * b)).take 32).map fp32.decode)
    let done := blocks.map (fun ds =>
      if f = 8 then
        -- MXINT8: the largest element code is 127 × 2^-6, of exponent 0; saturates symmetrically (R233)
        let top := ds.foldl (fun (m : Option Int) d => match d with
          | .fin _ n e => some (match m with | none => topExp n e | some u => max u (topExp n e))
          | _ => m) none
        let x : Nat := if ds.any (· == .nan) then 255
          else if ds.any (fun d => match d with | .inf _ => true | _ => false) then 254
          else match top with | none => 0 | some t => (max 0 (min 254 (t + 127))).toNat
        (x, ds.map (fun d => match d with
          | .fin s m e =>
            if x = 255 then (0, false)
            else
              let n := roundAt .rne m (e - (x : Int) + 127) (-6)
              let k := min n 127
              (ofSigned 8 (if s then -(k : Int) else k), decide (127 < n))
          | .inf s => (ofSigned 8 (if s then -127 else 127), x != 255)
          | _ => (0, false)))
      else
        let (x, cl) := mxScale f ds
        (x, ds.map (fun d =>
          let (c, _) := mxCode f x cl .rne d
          -- an element that saturates or becomes ±∞ from a finite value (R295)
          let sat := match d with
            | .fin _ m e => x != 255 && (let fm := fmtOf f
                                         let y := fm.round .rne m (e - (x : Int) + 127)
                                         (fm.encodeMag y.1 y.2).isNone)
            | .inf _ => f != 4 && x != 255
            | _ => false
          (c, sat))))
    let cs := done.flatMap (·.2)
    (cs.map (·.1), done.map (·.1), (cs.filter (·.2)).length)

/-- Bytes of a row with the codes of its active lanes put in, the other bits as they were (R290, R295). -/
def packRow (f n : Nat) (rd : Nat → Byte) (a : Nat) (codes : List Nat) : List Byte :=
  let w := fmtBits f
  let old := rdNat rd a (rowData f n)
  leBytes (rowData f n) ((List.range codes.length).foldl (fun x i => setBits x (w * i) w (codes.getD i 0)) old)

/-- Exact value of a code as written (R298), under its block's scale. -/
def writtenVal (f code x : Nat) : Dec := decodeElem f code x

/-! ## ROUT -/

/-- Combination of two values of a reduction: (FP32 code, index) (R297). -/
def redJoin (rop : Nat) (a b : Nat × Nat) : Nat × Nat :=
  let add := (fp32Add a.1 b.1, 0)
  if rop = 0 || rop = 6 then add
  else if rop = 2 then (fMax a.1 b.1, 0)
  else if rop = 3 then (fMin a.1 b.1, 0)
  else
    -- ARG: a NaN wins; equal values go to the lower index (R250)
    let na := fIsNan a.1
    let nb := fIsNan b.1
    let lower := if a.2 ≤ b.2 then a else b
    if na && nb then lower else if na then a else if nb then b
    else
      let da := fp32.decode a.1
      let db := fp32.decode b.1
      if da.lt db then (if rop = 4 then b else a) else if db.lt da then (if rop = 4 then a else b) else lower

/-- Identity of a reduction (R237): code and index. -/
def redId (rop : Nat) : Nat × Nat :=
  if rop = 2 then (fp32.signed true (255 * 2 ^ 23), 0)
  else if rop = 3 then (255 * 2 ^ 23, 0)
  else if rop = 4 then (fp32.signed true (255 * 2 ^ 23), 2 ^ 32 - 1)
  else if rop = 5 then (255 * 2 ^ 23, 2 ^ 32 - 1)
  else (0, 0)

/-- Values of one output element, in the groups of the walk (R297): each inner list is one group, when dimension 0 is reduced;
otherwise each is one value. -/
def redGroups (in0 : Tensor) (raxes : Nat) (vals : List Nat) (ox : List Nat) : List (List (Nat × Nat)) :=
  let here := (List.range in0.total).filter (fun f =>
    let ix := in0.idx f
    (List.range 5).all (fun i => raxes.testBit i || ix.getD i 0 == ox.getD i 0))
  let pairs := (List.range here.length).map (fun p => (here.getD p 0, (vals.getD (here.getD p 0) 0, p)))
  if raxes.testBit 0 then
    let rows := here.map (fun f => f / in0.sz 0) |>.eraseDups
    rows.flatMap (fun r => (List.range (ceilDiv (in0.sz 0) 256)).map (fun g =>
      (pairs.filter (fun x => x.1 / in0.sz 0 == r && x.1 % in0.sz 0 / 256 == g)).map (·.2)))
  else pairs.map (fun x => [x.2])

/-- The groups combined: a fixed tree in each group, then in walk order (R297). -/
def redFold {α : Type} (f : α → α → α) (groups : List (List α)) : Option α :=
  groups.foldl (fun a g => joinOpt f a (tree f 8 (g.map some))) none

/-- Value of one ROUT element (R297). -/
def redValue (in0 : Tensor) (c : VecCmd) (vals : List Nat) (ox : List Nat) : Nat × Nat :=
  let gs := redGroups in0 c.raxes vals ox
  if c.rop = 1 then
    let e := gs.flatten.foldl (fun (e : Entry) x => e.add (fp32.decode x.1)) {}
    (fp32.encode .rne e.value, 0)
  else
    let gs := if c.rop = 6 then gs.map (·.map (fun x => (fp32Mul x.1 x.1, x.2))) else gs
    match redFold (redJoin c.rop) gs with
    | some v => (if fIsNan v.1 then (fp32.nanCode, v.2) else v)
    | none => redId c.rop

/-! ## The whole command -/

/-- What the summary counts (R298), from the written values in flat order; `rows` is the length of a row. -/
def summaryOf (vals : List Dec) (row sat : Nat) (empty : Bool) : List Nat :=
  let fin := fun d => match d with | Dec.nan => false | .inf _ => false | _ => true
  let nan := (vals.filter (· == .nan)).length
  let inf := (vals.filter (fun d => match d with | .inf _ => true | _ => false)).length
  let mag := fun d => match d with | Dec.fin _ m e => Dec.fin false m e | _ => .zero false
  let best := (List.range vals.length).foldl (fun (b : Option (Dec × Nat)) i =>
    let d := vals.getD i .nan
    if fin d then (match b with
      | none => some (mag d, i)
      | some (x, _) => if x.lt (mag d) && mag d != .zero false then some (mag d, i) else b) else b) none
  let sq := vals.map (fun d => if fin d then some (let c := fp32.encode .rne d; fp32Mul c c) else none)
  let groups := (List.range (ceilDiv vals.length (max row 1))).flatMap (fun r =>
    let l := (sq.drop (r * row)).take row
    (List.range (ceilDiv l.length 256)).map (fun g => (l.drop (256 * g)).take 256))
  let sum := groups.foldl (fun a g => joinOpt fp32Add a (tree fp32Add 8 g)) none
  [b2n empty * 2, nan, inf, sat, (match best with | some (d, _) => fp32.encode .rne d | none => 0),
   (match best with | some (_, i) => i | none => 2 ^ 32 - 1), sum.getD 0]

/-- The test of R298 on a summary (W1–W7). -/
def testHolds (t : Nat) (sc11 : Nat) (sm : List Nat) : Bool :=
  let nan := sm.getD 1 0
  let inf := sm.getD 2 0
  if t = 0 then nan = 0 && inf = 0
  else if t = 1 then !(nan = 0 && inf = 0)
  else if t = 2 then !fIsNan sc11 && !fLess sc11 (sm.getD 4 0)
  else if t = 3 then sm.getD 3 0 = 0
  else bit (sm.getD 0 0) 1

/-- One row of OUT as written. -/
structure OutRow where
  addr : Nat
  fmt : Nat
  codes : List Nat
  scales : List Nat
  sat : Nat
  deriving DecidableEq, Repr

/-- One element of ROUT as written. -/
structure RedOut where
  addr : Nat
  fmt : Nat
  code : Nat
  idx : Nat
  deriving DecidableEq, Repr

/-- Rows of OUT (R295) from the temporaries. -/
def outRows (q : QCmd) (in0 : Tensor) (temps : List (List Nat × Nat)) : List OutRow :=
  match q.operand 3 with
  | none => []
  | some o =>
    let n0 := in0.sz 0
    let osrc := (vecCmd q.words).osrc
    (List.range (if n0 = 0 then 0 else in0.total / n0)).map (fun r =>
      let vals := ((temps.drop (r * n0)).take n0).map (fun (t : List Nat × Nat) => t.1.getD osrc 0)
      let x := outRow o.fmt vals
      { addr := (o.rowAt (in0.idx (r * n0))).toNat, fmt := o.fmt, codes := x.1, scales := x.2.1, sat := x.2.2 })

/-- Elements of ROUT (R297) from the temporaries. -/
def redOuts (q : QCmd) (in0 : Tensor) (temps : List (List Nat × Nat)) : List RedOut :=
  let c := vecCmd q.words
  match q.operand 4 with
  | none => []
  | some o =>
    if c.raxes = 0 then []
    else
      let vals := temps.map (fun (t : List Nat × Nat) => t.1.getD c.rsrc 0)
      (List.range o.total).map (fun f =>
        let ox := o.idx f
        let v := redValue in0 c vals ox
        { addr := (o.rowAt ox).toNat + (if o.fmt = 11 then 8 else 4) * ox.getD 0 0, fmt := o.fmt, code := v.1, idx := v.2 })

/-- Bytes that a row of OUT writes. -/
def OutRow.writes (x : OutRow) (rd : Nat → Byte) (n0 : Nat) : List (Nat × List Byte) :=
  (x.addr, packRow x.fmt n0 rd x.addr x.codes) ::
    (if isMx x.fmt then [(x.addr + rowData x.fmt n0, x.scales.map (fun b => BitVec.ofNat 8 b))] else [])

/-- Values that a row of OUT holds (R298). -/
def OutRow.vals (x : OutRow) : List Dec :=
  (List.range x.codes.length).map (fun i => writtenVal x.fmt (x.codes.getD i 0) (x.scales.getD (i / 32) 0))

/-- Bytes that an element of ROUT writes. -/
def RedOut.write (x : RedOut) : Nat × List Byte :=
  (x.addr, if x.fmt = 11 then leBytes 4 x.code ++ leBytes 4 x.idx else leBytes 4 x.code)

/-- What the vector engine does with a CHAIN once it starts (R291–R300): `pred` is the predicates, `err` the number of OUT rows
written before a detected error, with the failing place. -/
def chainRun (rd : Nat → Byte) (pred : Nat) (q : QCmd) (err : Option (Nat × Nat)) : Running :=
  let c := vecCmd q.words
  match q.operand 0, chainOk q with
  | some in0, true =>
    if c.predEn && pred.testBit c.pred == c.predNeg then { cmd := q, summary := [1, 0, 0, 0, 0, 0, 0] }
    else
      let temps := chainTemps rd q in0
      let n0 := in0.sz 0
      let f2i := temps.foldl (fun n (t : List Nat × Nat) => n + t.2) 0
      let all := outRows q in0 temps
      let rows := match err with | some (n, _) => all.take n | none => all
      let red := if err.isSome then [] else redOuts q in0 temps
      let sat := rows.foldl (fun n (x : OutRow) => n + x.sat) f2i
      let empty := in0.total = 0
      let sm := match q.operand 3, q.operand 4 with
        | some _, _ => summaryOf (rows.flatMap OutRow.vals) n0 sat empty
        | none, some o => summaryOf (red.map (fun x => fp32.decode x.code)) (o.sz 0) sat empty
        | none, none => summaryOf [] 1 sat empty
      let sc11 := (scalarsOf rd c.scalars).getD 11 0
      { cmd := q, status := if err.isSome then 0x50 else 0,
        writes := rows.flatMap (fun x => x.writes rd n0) ++ red.map RedOut.write, summary := sm, err := err.map (·.2),
        setp := if c.setpEn && err.isNone then some (c.setp, testHolds c.test sc11 sm) else none,
        work := (if n0 = 0 then 0 else in0.total / n0) * ceilDiv n0 256 }
  | _, _ => { cmd := q, status := 0x11, summary := [0, 0, 0, 0, 0, 0, 0] }

/-- A hull as (address, length). -/
def Tensor.range (t : Tensor) : Nat × Nat := match t.hull with | some (l, h) => (l.toNat, (h - l).toNat) | none => (0, 0)

/-- Ranges a vector command reads and writes (R301). -/
def vecHulls (q : QCmd) : List (Nat × Nat) × List (Nat × Nat) :=
  if (vecCmd q.words).opc = 1 then
    (((List.range 3).filterMap q.operand).map (·.range) ++ [((vecCmd q.words).scalars, 64)],
     ([q.operand 3, q.operand 4].filterMap id).map (·.range))
  else ([], [])

end Sys2Proof.Machine
end

