-- ==== Sys2Proof/Machine/Sett.lean ====
section
/-! DEFINITION. Sett cores as part of the machine: visible and physical cores (R281–R283), bindings and the start of a core
(R310–R313), work items (R312), engine queues with the interlock and the completion FIFOs (R301, R302, R305), halts (R306)
and repairs (R276–R280). -/

namespace Sys2Proof.Machine

/-- Physical core `c`. -/
def State.core (s : State) (c : Nat) : SettCore := Tbl.get {} s.sett.cores c
/-- The core becomes `x`. -/
def State.setCore (s : State) (c : Nat) (x : SettCore) : State := { s with sett := { s.sett with cores := Tbl.put {} s.sett.cores c x } }

/-- The den of a physical core (R11). -/
def coreDen (c : Nat) : Nat := c / 32

/-- Physical core of visible core `v` (R281). -/
def State.physOf (s : State) (v : Nat) : Option Nat := match Tbl.get 0 s.sett.vmap v with | 0 => none | n + 1 => some n

/-- Visible core that maps to physical core `c`. -/
def State.visOf (s : State) (c : Nat) : Option Nat := (s.sett.vmap.find? (fun e => e.2 == c + 1)).map (·.1)

/-- Numbers that a visible core may have: 120, or 128 under CHAR_ALL (R283). -/
def State.visMax (s : State) : Nat := if s.sett.charAll then 128 else 120

/-- Job that owns visible core `v`; 0 none (R393). -/
def State.coreOwner (s : State) (v : Nat) : Nat := Tbl.get 0 s.sett.owner v

/-- A byte of the core's local SRAM. -/
def SettCore.rd (x : SettCore) (a : Nat) : Byte := Tbl.get 0 x.sram a

/-- The core's local SRAM with writes applied, in order. -/
def SettCore.wr (x : SettCore) (l : List (Nat × List Byte)) : SettCore :=
  { x with sram := l.foldl (fun m w => Tbl.putMany 0 m w.1 w.2) x.sram }

/-- A core can take a binding: healthy, powered or powerable, free, and not waiting for a repair load or test (R275, R278,
R279). -/
def State.coreFree (s : State) (v : Nat) : Bool :=
  match s.physOf v with
  | none => false
  | some c => let x := s.core c
              x.binding = 0 && !x.fenced && !x.repairPend && !x.needTest

/-- Free visible cores of a job, ascending (R206, R391). -/
def State.freeCores (s : State) (job : Nat) : List Nat := below s.visMax (fun v => s.coreOwner v == job && s.coreFree v)

/-- Handle of slot, job and generation (R311, R312). -/
def objHandle (slot job gen : Nat) : Nat := slot + job * 2 ^ 8 + gen % 4096 * 2 ^ 20

/-- The program a handle names, by slot. -/
def State.programOf (s : State) (h : Nat) : Option (Nat × Program) :=
  let k := h % 256
  let p : Program := Tbl.get {} s.sett.programs k
  if p.present && objHandle k p.job p.gen = h then some (k, p) else none

/-- The binding a handle names, by slot. -/
def State.bindingOf (s : State) (h : Nat) : Option (Nat × Binding) :=
  let k := h % 256
  let b : Binding := Tbl.get {} s.sett.bindings k
  if b.present && objHandle k b.job b.gen = h then some (k, b) else none

/-- Binding in slot `k` becomes `b`. -/
def State.setBinding (s : State) (k : Nat) (b : Binding) : State := { s with sett := { s.sett with bindings := Tbl.put {} s.sett.bindings k b } }

/-! ## Images -/

/-- Little-endian field of an image. -/
def imgField (l : List Byte) (a n : Nat) : Nat := leNat ((l.drop a).take n)

/-- Section `i` of an image (R310): type, target, size, file offset. -/
def imgSection (l : List Byte) (i : Nat) : Nat × Nat × Nat × Nat :=
  let a := 128 + 16 * i
  (imgField l a 1, imgField l (a + 4) 4, imgField l (a + 8) 4, imgField l (a + 12) 4)

/-- Sections of an image. -/
def imgSections (l : List Byte) : List (Nat × Nat × Nat × Nat) := (List.range (imgField l 10 2)).map (imgSection l)

/-- Size of the memory a section type names (R310, R303). -/
def sectionMem (t : Nat) : Nat := if t = 1 || t = 2 then 65536 else sramSize

/-- Check 1 of R311. -/
def imgLengthOk (l : List Byte) : Bool :=
  imgField l 64 8 == l.length && imgField l 72 4 + 96 == l.length && l.length ≤ 9 * 2 ^ 20

/-- Check 2 of R311, with the firmware line 2 of R3 and the release running. -/
def imgFieldsOk (l : List Byte) (line release : Nat) : Bool :=
  let kind := imgField l 6 1
  let cores := imgField l 8 2
  let n := imgField l 10 2
  let secs := imgSections l
  let mem := fun (t : Nat) => if t = 4 then 3 else t
  let idx := List.range secs.length
  imgField l 0 4 == 0x54544553 && imgField l 4 2 == 1 && kind ≤ 3 && imgField l 7 1 == 0
    && 1 ≤ cores && cores ≤ 120 && (kind == 0 || cores == 1) && 1 ≤ n && n ≤ 32 && 128 + 16 * n ≤ imgField l 72 4
    && imgField l 12 4 < 65536 && imgField l 16 4 ≤ 0x1F000 && 0x10000 ≤ imgField l 16 4 && imgField l 20 4 ≤ 64 && imgField l 24 4 ≤ 4096
    && ((l.drop 76).take 52).all (· == 0)
    && (imgField l 30 2 < line || (imgField l 30 2 == line && imgField l 28 2 ≤ release))
    && secs.all (fun x => 1 ≤ x.1 && x.1 ≤ 4 && x.2.1 + x.2.2.1 ≤ sectionMem x.1 && (x.1 == 4 || x.2.2.2 + x.2.2.1 ≤ imgField l 72 4))
    && idx.all (fun i => idx.all (fun j => i == j ||
        (let a := secs.getD i (0, 0, 0, 0)
         let b := secs.getD j (0, 0, 0, 0)
         mem a.1 != mem b.1 || !rangesMeet a.2.1 a.2.2.1 b.2.1 b.2.2.1)))
    && (List.range secs.length).all (fun i => ((l.drop (128 + 16 * i + 1)).take 3).all (· == 0))

/-! ## Starting and ending a core -/

/-- The core with its memories wiped and nothing bound (R313): repairs, fencing, and what the status registers show stay. -/
def SettCore.wiped (x : SettCore) : SettCore :=
  { x with sram := [], itcm := [], dtcm := [], spill := [], spillMib := 0, pc := 0, sp := 0, args := [], aqStage := [], vqStage := [],
           mqStage := [], outbox := [], arrayQ := [], vecQ := [], movQ := [], array := none, vec := none, mov := none, issue := 0,
           panel := none, pred := 0, acompQ := [], vsumQ := [], mcompQ := [], acomp := [], vsum := [], mcomp := [], inbox := [], inboxQ := [],
           popped := 0, items := [], nextItem := 1, timer := 0, timerEv := false, eventEn := 0, launchAt := 0, stopping := false }

/-- The core leaves its binding and is idle. -/
def SettCore.released (x : SettCore) : SettCore := { x.wiped with st := .idle, kind := 0, binding := 0, index := 0, user := none }

/-- MiB of the spill pool of den `d` that no core has reserved (R312, R344). -/
def State.spillFree (s : State) (d : Nat) : Nat :=
  64 * Tbl.get 0 s.mem.spillUnits d - s.sett.cores.foldl (fun n e => if coreDen e.1 = d then n + e.2.spillMib else n) 0

/-- The core starts a program (R312): memories wiped, spill area reserved, sections and parameters loaded, at ENTRY. -/
def SettCore.started (x : SettCore) (img params : List Byte) (binding idx n kind user : Nat) (attached : Bool) : SettCore :=
  let x := x.wiped
  let load := fun (t : Nat) (m : Tbl Byte) => (imgSections img).foldl (fun m e =>
    if e.1 = t then Tbl.putMany 0 m e.2.1 ((img.drop e.2.2.2).take e.2.2.1) else m) m
  { x with sram := load 3 [], itcm := load 1 [], dtcm := Tbl.putMany 0 (load 2 []) 0xF000 params, spillMib := imgField img 20 4,
           st := .running, kind := kind, binding := binding, index := idx, user := if attached then some user else none,
           exitCode := 0, pc := imgField img 12 4, sp := imgField img 16 4, gated := false,
           args := [idx, n, 0x1F000, imgField img 24 4, if attached then user else 0] }

/-- Whether the spill areas for these physical cores fit in their dens' pools. -/
def State.spillFits (s : State) (cs : List Nat) (mib : Nat) : Bool :=
  [0, 1, 2, 3].all (fun d => (cs.filter (fun c => coreDen c == d)).length * mib ≤ s.spillFree d)

/-- Visible cores `vs` start the program of a binding, with index `i` upward (R312). -/
def State.startCores (s : State) (vs : List Nat) (h : Nat) (user : Nat) (attached : Bool) : State :=
  match s.bindingOf h with
  | none => s
  | some (_, b) =>
    match s.programOf b.program with
    | none => s
    | some (_, p) =>
      (List.range vs.length).foldl (fun s i =>
        match s.physOf (vs.getD i 0) with
        | none => s
        | some c => s.setCore c { (s.core c).started p.image b.params h i vs.length b.kind user attached with launchAt := s.clk + 1 }) s

/-- Visible cores attached to a context or table by a binding, ascending (R317). -/
def State.attachedCores (s : State) (h user : Nat) : List Nat :=
  below 128 (fun v => match s.physOf v with | some c => (s.core c).binding == h && h != 0 && (s.core c).user == some user | none => false)

/-! ## Work items -/

/-- The INBOX words of an item (R312). -/
def Item.words (i : Item) : List Nat :=
  [i.kind + i.num % 2 ^ 16 * 2 ^ 16, i.ctx, i.chunk % 2 ^ 32, i.first % 2 ^ 32, i.count % 2 ^ 32, i.src, i.handle % 2 ^ 32, 0]

/-- The state of a core at event `e` of EVENTS: one in WFI goes on where EVENT_EN has the event (R305). -/
def SettCore.woken (x : SettCore) (e : Nat) : ProgSt := if x.st = .waiting && x.eventEn.testBit e then .running else x.st

/-- An item is posted to a core; it gets the core's next item number, which also serves as its handle (R312). -/
def State.postItem (s : State) (c : Nat) (i : Item) : State :=
  let x := s.core c
  let i := { i with num := x.nextItem, handle := if i.kind = 2 || i.kind = 3 then x.nextItem else 0 }
  s.setCore c { x with items := x.items ++ [i], nextItem := x.nextItem % 65535 + 1, inboxQ := x.inboxQ ++ [i.words],
                       st := x.woken 3 }

/-- STOP goes to the attached cores (R313). -/
def State.stopCores (s : State) (vs : List Nat) : State :=
  vs.foldl (fun s v => match s.physOf v with
    | none => s
    | some c =>
      if (s.core c).st = .running || (s.core c).st = .waiting then
        let s := s.postItem c { kind := 15, ctx := (s.core c).user.getD 0 }
        s.setCore c { s.core c with stopping := true }
      else s.setCore c (s.core c).released) s

/-- The core's open item of that number. -/
def SettCore.item (x : SettCore) (n : Nat) : Option Item := x.items.find? (fun i => i.num == n)

/-- The item is released. -/
def SettCore.dropItem (x : SettCore) (n : Nat) : SettCore := { x with items := x.items.filter (fun i => i.num != n) }

/-! ## Engine queues -/

/-- A program runs on the core: its engines take commands. -/
def SettCore.live (x : SettCore) : Bool := x.st = .running || x.st = .waiting

/-- AQ_COMMIT with the staged words (R305): enqueued with the next issue number; the queue's 16 entries full, the write holds. -/
def SettCore.aqCommit (x : SettCore) (w : List Nat) : SettCore :=
  if !x.live || 16 ≤ x.arrayQ.length then x
  else { x with aqStage := w, arrayQ := x.arrayQ ++ [{ issue := x.issue, words := w }], issue := x.issue + 1 }

/-- The words of a descriptor at local address `a`. -/
def SettCore.descAt (x : SettCore) (a : Nat) : Desc := (List.range 16).map (fun i => rdNat x.rd (a + 4 * i) 4)

/-- VQ_COMMIT (R305): the operands' descriptors are read now (R301). -/
def SettCore.vqCommit (x : SettCore) (w : List Nat) : SettCore :=
  if !x.live || 16 ≤ x.vecQ.length then x
  else
    let ds := (List.range 5).map (fun i => let p := w.getD (1 + i) 0
                                           if bit p 23 then x.descAt (bits p 0 23) else [])
    { x with vqStage := w, vecQ := x.vecQ ++ [{ issue := x.issue, words := w, descs := ds }], issue := x.issue + 1 }

/-- MQ_COMMIT (R305). -/
def SettCore.mqCommit (x : SettCore) (w : List Nat) : SettCore :=
  if !x.live || 16 ≤ x.movQ.length then x
  else { x with mqStage := w, movQ := x.movQ ++ [{ issue := x.issue, words := w }], issue := x.issue + 1 }

/-- Local ranges that a mover command reads and writes (R301). -/
def movHulls (w : List Nat) : List (Nat × Nat) × List (Nat × Nat) :=
  let g := fun i => w.getD i 0
  let opc := bits (g 0) 0 4
  let l := bits (g 1) 0 23
  let n := bits (g 2) 0 24
  if opc = 1 then ([], [(l, n)])
  else if opc = 2 then ([(l, n)], [])
  else if opc = 3 then ([(bits (g 4) 0 23, 8 * n)], [(l, 64 * n)])
  else ([(l, 32 + n), (bits (g 7) 0 23, 2 * bits (g 7) 23 7)], [])

/-- Some range of one list meets one of another. -/
def anyMeet (a b : List (Nat × Nat)) : Bool := a.any (fun x => b.any (fun y => rangesMeet x.1 x.2 y.1 y.2))

/-- A command with these hulls must wait for incomplete commands of lower issue number on other engines (R301). -/
def blockedBy (me : List (Nat × Nat) × List (Nat × Nat)) (issue : Nat) (others : List (Nat × List (Nat × Nat) × List (Nat × Nat))) : Bool :=
  others.any (fun o => o.1 < issue && (anyMeet o.2.2 (me.1 ++ me.2) || anyMeet o.2.1 me.2))

/-- Incomplete commands of the array with their hulls. -/
def SettCore.arrayOpen (x : SettCore) : List (Nat × List (Nat × Nat) × List (Nat × Nat)) :=
  (x.arrayQ ++ (x.array.map (·.cmd)).toList).map (fun q => (q.issue, arrHulls q.words))
/-- Incomplete commands of the vector engine with their hulls. -/
def SettCore.vecOpen (x : SettCore) : List (Nat × List (Nat × Nat) × List (Nat × Nat)) :=
  (x.vecQ ++ (x.vec.map (·.cmd)).toList).map (fun q => (q.issue, vecHulls q))
/-- Incomplete commands of the mover with their hulls. -/
def SettCore.movOpen (x : SettCore) : List (Nat × List (Nat × Nat) × List (Nat × Nat)) :=
  (x.movQ ++ (x.mov.map (·.cmd)).toList).map (fun q => (q.issue, movHulls q.words))

/-- The array's next command, when nothing executes there and the interlock is clear (R301). -/
def SettCore.arrayNext (x : SettCore) : Option QCmd :=
  match x.array, x.arrayQ with
  | none, q :: _ => if x.live && !blockedBy (arrHulls q.words) q.issue (x.vecOpen ++ x.movOpen) then some q else none
  | _, _ => none

/-- The vector engine's next command (R299, R301). -/
def SettCore.vecNext (x : SettCore) : Option QCmd :=
  match x.vec, x.vecQ with
  | none, q :: _ => if x.live && !blockedBy (vecHulls q) q.issue (x.arrayOpen ++ x.movOpen) then some q else none
  | _, _ => none

/-- The mover's next command (R301, R309). -/
def SettCore.movNext (x : SettCore) : Option QCmd :=
  match x.mov, x.movQ with
  | none, q :: _ => if x.live && !blockedBy (movHulls q.words) q.issue (x.arrayOpen ++ x.vecOpen) then some q else none
  | _, _ => none

/-- An array command starts (R269, R273). -/
def SettCore.arrayStart (x : SettCore) (opc : Nat) (err : Option (Nat × Nat)) : SettCore :=
  match x.arrayNext with
  | none => x
  | some q =>
    if (opc = 2) != ((arrCmd q.words).opc = 2) then x
    else
      let (r, p) := arrRun x.rd x.panel q err
      { x with arrayQ := x.arrayQ.drop 1, array := some r, panel := p, bank := (x.bank + r.loads) % 2 }

/-- A CHAIN starts (R291–R300). -/
def SettCore.chainStart (x : SettCore) (err : Option (Nat × Nat)) : SettCore :=
  match x.vecNext with
  | none => x
  | some q => if (vecCmd q.words).opc = 2 then x else { x with vecQ := x.vecQ.drop 1, vec := some (chainRun x.rd x.pred q err) }

/-- A completion record is posted to a FIFO of 16, or dropped and counted in FIFO_OVF (R302). -/
def pushRec (q : List (List Nat)) (r : List Nat) : List (List Nat) × Nat := if 16 ≤ q.length then (q, 1) else (q ++ [r], 0)

/-- FIFO_OVF counts (R316). -/
def State.fifoOvf (s : State) (c n : Nat) : State := if n = 0 then s else s.bumpBy (settReg c 0x3A4) n

/-- An array completion is posted (R266, R302, R284, R285). -/
def State.postArray (s : State) (c : Nat) (q : QCmd) (status flags : Nat) : State :=
  let x := s.core c
  let k := arrCmd q.words
  let (l, n) := if k.notify then pushRec x.acompQ [k.tag + status * 2 ^ 16, flags] else (x.acompQ, 0)
  ((s.setCore c { x with acompQ := l, lastTag := k.tag, lastDone := status + flags * 2 ^ 16, st := if k.notify then x.woken 0 else x.st }).fifoOvf c n).bump64 (settReg c 0x140) 1

/-- A vector completion is posted (R298, R302, R315). -/
def State.postVec (s : State) (c : Nat) (q : QCmd) (status : Nat) (sm : List Nat) : State :=
  let x := s.core c
  let k := vecCmd q.words
  let (l, n) := if k.notify && k.opc ≠ 2 then pushRec x.vsumQ ((k.tag + status * 2 ^ 16) :: sm) else (x.vsumQ, 0)
  ((s.setCore c { x with vsumQ := l, vlast := k.tag + status * 2 ^ 16, st := if k.notify && k.opc ≠ 2 then x.woken 1 else x.st }).fifoOvf c n).bump64 (settReg c 0x380) 1

/-- A mover completion is posted (R305, R307, R315). -/
def State.postMov (s : State) (c : Nat) (q : QCmd) (status bytes : Nat) : State :=
  let x := s.core c
  let tag := bits (q.words.getD 0 0) 16 16
  let (l, n) := if bit (q.words.getD 0 0) 8 then pushRec x.mcompQ [tag + status * 2 ^ 16, bytes] else (x.mcompQ, 0)
  (s.setCore c { x with mcompQ := l, mlast := tag + status * 2 ^ 16, st := if bit (q.words.getD 0 0) 8 then x.woken 2 else x.st }).fifoOvf c n

/-- A core error event names the physical core (R453). -/
def State.coreEventAt (s : State) (c src addr : Nat) (detail : List Nat) : State :=
  let job := match s.bindingOf (s.core c).binding with | some (_, b) => some b.job | none => none
  s.event { word := coreDen c, source := src, unit := c, kind := .core, job := job, addr := addr, detail := detail }

/-- The same, with no address. -/
def State.coreEvent (s : State) (c src : Nat) (detail : List Nat) : State := s.coreEventAt c src 0 detail

/-- The array's queue is discarded: each command completes with FENCED (R275). -/
def State.flushArray (s : State) (c : Nat) : State :=
  let q := (s.core c).arrayQ
  q.foldl (fun s k => s.postArray c k 0x60 0) (s.setCore c { s.core c with arrayQ := [] })
/-- The vector queue is discarded (R300). -/
def State.flushVec (s : State) (c : Nat) : State :=
  let q := (s.core c).vecQ
  q.foldl (fun s k => s.postVec c k 0x60 (List.replicate 7 0)) (s.setCore c { s.core c with vecQ := [] })
/-- The mover's queue is discarded (R306). -/
def State.flushMov (s : State) (c : Nat) : State :=
  let q := (s.core c).movQ
  q.foldl (fun s k => s.postMov c k 0x60 0) (s.setCore c { s.core c with movQ := [] })

/-- A detected error is counted by its kind: parity, bit 17, or residue, bit 18 (R275, R285). -/
def State.countArrayErr (s : State) (c e : Nat) : State :=
  let s := if e.testBit 17 then s.bump (settReg c 0x15C) else s
  if e.testBit 18 then s.bump (settReg c 0x160) else s

/-- The array completes the command in progress (R266, R275, R285). -/
def State.arrayDone (s : State) (c : Nat) : State :=
  match (s.core c).array with
  | none => s
  | some r =>
    let s := s.setCore c { (s.core c).wr r.writes with array := none }
    let s := (s.postArray c r.cmd r.status r.flags).bump64 (settReg c 0x148) r.work
    match r.err with
    | none => s
    | some e => ((s.flushArray c).countArrayErr c e).coreEvent c fSettArray [e % 2 ^ 17]

/-- The vector engine completes the command in progress (R298, R300, R316). -/
def State.vecDone (s : State) (c : Nat) : State :=
  match (s.core c).vec with
  | none => s
  | some r =>
    let x := (s.core c).wr r.writes
    let pred := match r.setp with | some (p, b) => setBits x.pred p 1 (b2n b) | none => x.pred
    let s := s.setCore c { x with vec := none, pred := pred }
    let s := (s.postVec c r.cmd r.status r.summary).bump64 (settReg c 0x388) r.work
    match r.err with
    | none => s
    | some _ => ((s.flushVec c).bump (settReg c 0x3A8)).coreEvent c fSettVec []

/-- SETPRED takes its turn: all eight predicates, or BAD_PARAM for a reserved bit (R299, R300). -/
def State.setPred (s : State) (c : Nat) : State :=
  let x := s.core c
  match x.vecNext with
  | none => s
  | some q =>
    let k := vecCmd q.words
    if k.opc ≠ 2 then s
    else
      let ok := bits (q.words.getD 0 0) 4 3 = 0
      let s := s.setCore c { x with vecQ := x.vecQ.drop 1, pred := if ok then k.pval else x.pred }
      s.postVec c q (if ok then 0 else 0x11) (List.replicate 7 0)

/-! ## Halts -/

/-- The engines of a core stop and their queues are discarded with FENCED (R306). -/
def State.stopEngines (s : State) (c : Nat) : State :=
  let x := s.core c
  let s := s.setCore c { x with array := none, vec := none, mov := none }
  let s := match x.array with | some r => s.postArray c r.cmd 0x60 0 | none => s
  let s := match x.vec with | some r => s.postVec c r.cmd 0x60 (List.replicate 7 0) | none => s
  let s := match x.mov with | some r => s.postMov c r.cmd 0x60 0 | none => s
  ((s.flushArray c).flushVec c).flushMov c

/-- A core's program ends with state `st`: its memories are wiped (R313), and a PROGRAM binding whose cores have all ended
is DONE; an attached core is released once STOP was sent. -/
def State.endCore (s : State) (c : Nat) (st : ProgSt) : State :=
  let x := s.core c
  let y := x.wiped
  match s.bindingOf x.binding with
  | some (k, b) =>
    if b.kind = 0 then
      let s := s.setCore c { y with st := st }
      let ended := b.ended ++ [(x.index, st, x.exitCode)]
      s.setBinding k { b with ended := ended, st := if b.cores.length ≤ ended.length then .done else b.st }
    else if x.stopping then s.setCore c { x.released with exitCode := x.exitCode }
    else s.setCore c { y with st := st }
  | none => s.setCore c { y with st := st }

/-- One core is halted: engines stopped, state HALTED (R306, R313). -/
def State.haltCore (s : State) (c : Nat) : State :=
  if (s.core c).live then (s.stopEngines c).endCore c .halted else s

/-- Physical cores of a binding that run. -/
def State.coresOf (s : State) (h : Nat) : List Nat := (s.sett.cores.filter (fun e => e.2.binding == h && h != 0 && e.2.live)).map (·.1)

/-- Every running core of a binding is halted (R306). -/
def State.haltBinding (s : State) (h : Nat) : State := (s.coresOf h).foldl (fun s c => s.haltCore c) s

/-! ## Repairs and the visible map -/

/-- Spares of core `c` by its repairs, factory first (R276–R279). -/
def State.sparesOf (s : State) (c : Nat) : List Spare :=
  let put := fun (field : Bool) (l : List Spare) (r : Repair) =>
    if r.core = c then l.set r.spare { row := r.row, used := true, borrowed := r.row / 32 ≠ r.spare, field := field } else l
  let l := s.sett.field.foldl (put true) (s.sett.fuse.foldl (put false) [{}, {}, {}, {}])
  (List.range 4).map (fun q => if s.sett.badSpares.contains (c, q) then { row := (l.getD q {}).row, bad := true, field := true } else l.getD q {})

/-- LAT for those spares: 11 plus the largest number of stages added (R277). -/
def latOf (l : List Spare) : Nat := 11 + l.foldl (fun n x => if x.used then max n (if x.borrowed then 2 else 1) else n) 0

/-- The spare that replaces a failed row of core `c` (R277). -/
def State.spareFor (s : State) (c row : Nat) : Option Nat :=
  let l := s.sparesOf c
  let q := row / 32
  let free := fun (i : Nat) => i < 4 && !(l.getD i {}).used && !(l.getD i {}).bad
  if free q then some q else if 1 ≤ q && free (q - 1) then some (q - 1) else if free (q + 1) then some (q + 1) else none

/-- Visible core `v` takes the lowest-numbered physical core that is healthy and unmapped, in its home den first (R281). -/
def State.mapOne (s : State) (v : Nat) : State :=
  let home := v / 30
  let dens := home :: [0, 1, 2, 3].filter (· ≠ home)
  let cand := dens.flatMap (fun d => (List.range 32).map (32 * d + ·)) |>.filter (fun p => !(s.core p).fenced && (s.visOf p).isNone)
  match cand with
  | p :: _ => { s with sett := { s.sett with vmap := Tbl.put 0 s.sett.vmap v (p + 1) } }
  | [] => { s with sett := { s.sett with vmap := Tbl.put 0 s.sett.vmap v 0 } }

/-- The map is rebuilt for visible cores that have no physical core or a fenced one (R281, R282). -/
def State.remap (s : State) : State :=
  (List.range s.sett.visible).foldl (fun s v =>
    match s.physOf v with
    | some c =>
      if (s.core c).fenced then s.mapOne v else s
    | none => if s.sett.charAll then s else s.mapOne v) s

/-- Fenced physical cores. -/
def State.fencedCores (s : State) : Nat := (s.sett.cores.filter (fun e => e.2.fenced)).length

/-- Visible cores that exist after a repair load (R282). -/
def State.recount (s : State) : State :=
  let f := s.fencedCores
  let n := if f ≤ 8 then 120 else 128 - f
  { s with sett := { s.sett with visible := n, vmap := Tbl.clearWhere s.sett.vmap (fun v => decide (n ≤ v)) } }

/-- One core takes its repairs (R279). -/
def State.loadRepairs (s : State) (c : Nat) : State :=
  let l := s.sparesOf c
  let s := s.setCore c { s.core c with spares := l, lat := latOf l, fenced := s.sett.fences.contains c, repairPend := false }
  if s.sett.fences.contains c then s else s.condEnd (coreDen c) fSettFenced c

/-- Repair load of a core, or of all for CHAR_ALL (R279, R281–R283): once unbound with an empty array queue. -/
def State.repairLoad (s : State) (c : Nat) : State :=
  let ready := fun (c : Nat) => (s.core c).binding = 0 && (s.core c).arrayQ.isEmpty && (s.core c).array.isNone
  match s.sett.charNew with
  | some on =>
    if !(List.range 128).all ready then s
    else
      let s := (List.range 128).foldl (fun s c => s.loadRepairs c) s
      if on then
        let m := (below 128 (fun c => !(s.core c).fenced)).map (fun c => (c, c + 1))
        { s with sett := { s.sett with charNew := none, charAll := true, vmap := m, visible := 128 - s.fencedCores } }
      else (({ s with sett := { s.sett with charNew := none, charAll := false, vmap := startMap } }).recount).remap
  | none =>
    if !(s.core c).repairPend || !ready c then s
    else if s.sett.charAll then s.loadRepairs c
    else ((s.loadRepairs c).recount).remap

/-- The self-test of a core ends (R277, R278, R280): result 0 pass, 1 the row that failed, 2 a fault no row replacement
isolates. Answers PASS, REPAIRED, FENCED as bits 0–2 (R396). -/
def State.selftestDone (s : State) (c res row : Nat) : State × Nat :=
  let fence := fun (s : State) =>
    let l := if s.sett.fences.contains c then s.sett.fences else c :: s.sett.fences
    let s := { s with sett := { s.sett with fences := l } }
    ((s.setCore c { s.core c with repairPend := true, needTest := false }).condBegin
      { word := coreDen c, source := fSettFenced, unit := c, kind := .core }, 4)
  if res = 0 then
    -- in SERVICE a core that passes is healthy at its next repair load (R278)
    let s : State := if s.sec.lc = 3 && s.sett.fences.contains c then { s with sett := { s.sett with fences := s.sett.fences.filter (· != c) } } else s
    (s.setCore c { s.core c with needTest := false }, 1)
  else if res = 1 then
    -- a spare in use that failed is marked bad, and its row is placed again
    let old := (List.range 4).find? (fun q => let x := (s.sparesOf c).getD q {}
                                              x.used && x.row == row)
    let s : State := match old with
      | some q =>
        let f := s.sett.field.filter (fun (r : Repair) => !(r.core == c && r.spare == q))
        { s with sett := { s.sett with badSpares := (c, q) :: s.sett.badSpares, field := f } }
      | none => s
    match s.spareFor c row with
    | none => fence s
    | some q =>
      if 64 ≤ s.sett.field.length then fence s
      else
        let s : State := { s with sett := { s.sett with field := s.sett.field ++ [{ core := c, row := row, spare := q }] } }
        let s := s.setCore c { s.core c with repairPend := true, needTest := false }
        (s.coreEvent c fSettRepaired [row + q * 2 ^ 7 + (if row / 32 = q then 1 else 2) * 2 ^ 9], 2)
  else fence s

end Sys2Proof.Machine
end

