-- ==== Sys2Proof/Machine/Coll.lean ====
section
/-! DEFINITION. Collective contexts at a leaf: chunk slots and their blocks (R206, R219, R223, R257), contributions and partials
(R214, R221, R222), rings (R215–R218), epilogues (R224), results (R216), notices (R219), failures (R228, R229) and completion
(R208). -/

namespace Sys2Proof.Machine

/-- Context `x`. -/
def State.ctx (s : State) (x : Nat) : Ctx := Tbl.get {} s.coll.ctxs x
/-- The context becomes `c`. -/
def State.setCtx (s : State) (x : Nat) (c : Ctx) : State := { s with coll := { s.coll with ctxs := Tbl.put {} s.coll.ctxs x c } }

/-- Register `o` of a context's record (R231). -/
def ctxReg (x o : Nat) : Nat := baseColl + 0x1000 + 0x20 * x + o

/-- B_slot of R206: accumulator blocks, ring blocks and the control block; one block where Marten combines nothing. -/
def Ctx.blocks (c : Ctx) : Nat :=
  if c.op = 5 then
    let b := c.locals.length * (bits (c.w 14) 0 16 + 1)
    let dim := bits (c.w 13) 0 16
    b * ceilDiv (dim * (if c.fast then 4 else 16)) 4096 + ceilDiv b 16
      + (if c.fast then 0 else b * ceilDiv (rowBytes c.inF dim) 4096)
  else if !c.reduces then 1
  else
    let a := match c.kind with
      | 0 => if c.fast then 4 else 16
      | 1 => 8
      | 2 => 4 * c.locals.length
      | 6 => 8
      | 7 => 8
      | _ => 4
    ceilDiv (c.e * a) 4096 + (if 1 < c.leaves.length then ceilDiv (c.e * c.bp) 4096 else 0) + 1

/-- Marten unit of chunk `k` (R206), 4 × den + group. -/
def Ctx.unit (c : Ctx) (k : Nat) : Nat :=
  let u := k % max (4 * c.dens.length) 1
  4 * c.dens.getD (u / 4) 0 + u % 4

/-- The open slot of chunk `k`. -/
def Ctx.slot (c : Ctx) (k : Nat) : Option Slot := c.slots.find? (fun z => z.chunk == k)
/-- The slot of `z`'s chunk becomes `z`. -/
def Ctx.putSlot (c : Ctx) (z : Slot) : Ctx := { c with slots := c.slots.map (fun y => if y.chunk = z.chunk then z else y) }

/-- The full chunk number that a CHUNK field names, nearest the window (R213). -/
def Ctx.resolve (c : Ctx) (f : Nat) : Nat :=
  let base := c.h / 65536 * 65536 + f % 65536
  if c.h + 32768 ≤ base && 65536 ≤ base then base - 65536 else if base + 32768 < c.h then base + 65536 else base

/-! ## Blocks -/

/-- Blocks of chunk or batch `k` that lie in den `d` (R206): all of them in its unit's den; of a batch, those of the tokens combined there
(R321), with the control blocks in the den of unit k mod 4 |D|. -/
def Ctx.blocksIn (c : Ctx) (k d : Nat) : Nat :=
  if c.op = 5 then
    let u := max (4 * c.dens.length) 1
    let n := c.locals.length * (bits (c.w 14) 0 16 + 1)
    let dim := bits (c.w 13) 0 16
    let j := c.dens.idxOf d
    let upTo := fun (y : Nat) => y / u * 4 + min 4 (y % u - 4 * j)
    let toks := if j < c.dens.length then upTo (k * n + n) - upTo (k * n) else 0
    toks * (ceilDiv (dim * (if c.fast then 4 else 16)) 4096 + (if c.fast then 0 else ceilDiv (rowBytes c.inF dim) 4096))
      + (if c.unit k / 4 = d then ceilDiv n 16 else 0)
  else if c.unit k / 4 = d then c.blocks else 0

/-- The blocks of a chunk are taken from the pools of their dens. -/
def State.slotUse (s : State) (c : Ctx) (k : Nat) : State := [0, 1, 2, 3].foldl (fun s d => if c.blocksIn k d = 0 then s else s.poolUse d 1 (c.blocksIn k d)) s
/-- The blocks of a chunk go back to the pools of their dens. -/
def State.slotGive (s : State) (c : Ctx) (k : Nat) : State := [0, 1, 2, 3].foldl (fun s d => if c.blocksIn k d = 0 then s else s.poolGive d 1 (c.blocksIn k d)) s

/-- Blocks on die of den `d` (R257). -/
def State.onDie (s : State) (d : Nat) : Nat :=
  s.coll.ctxs.foldl (fun n e => e.2.slots.foldl (fun n z => if 0 < z.onDie then n + e.2.blocksIn z.chunk d else n) n) 0

/-- The least recently used slot with blocks on die in den `d`, other than the one named. -/
def State.lruSlot (s : State) (d x k : Nat) : Option (Nat × Slot) :=
  let l := s.coll.ctxs.flatMap (fun e => (e.2.slots.filter (fun z => 0 < e.2.blocksIn z.chunk d && 0 < z.onDie && !(e.1 == x && z.chunk == k))).map (fun z => (e.1, z)))
  bestBy (fun (a b : Nat × Slot) => a.2.lastUse < b.2.lastUse) l

/-- A slot's blocks move to the context's backing (R25, R257). -/
def State.spillSlot (s : State) (x : Nat) (z : Slot) : State :=
  let c := s.ctx x
  (s.setCtx x (c.putSlot { z with onDie := 0, spilled := z.spilled + z.onDie })).bumpBy (martenReg z.unit 0x18) z.onDie

/-- Room for `need` blocks on die, with fuel: slots spill, least recently used first, where the den has backing (R25, R223). -/
def State.makeRoom (d need x k : Nat) : Nat → State → State
  | 0, s => s
  | n + 1, s =>
    if s.onDie d + need ≤ 16384 || Tbl.get 0 s.mem.p1Backing d = 0 then s
    else match s.lruSlot d x k with
      | none => s
      | some (y, z) => State.makeRoom d need x k n (s.spillSlot y z)

/-- Room on die for the blocks of chunk `k` in every den that has some of them. -/
def State.roomFor (s : State) (x k : Nat) : State :=
  [0, 1, 2, 3].foldl (fun s d => if (s.ctx x).blocksIn k d = 0 then s else State.makeRoom d ((s.ctx x).blocksIn k d) x k 4096 s) s

/-- A slot opens (R219): its blocks are allocated on die; at WARN the least recently used slot spills (R145). -/
def State.openSlot (s : State) (x k : Nat) : State :=
  let c := s.ctx x
  let u := c.unit k
  let s := s.roomFor x k
  let n := s.coll.useCtr
  let s := { s with coll := { s.coll with useCtr := n + 1 } }
  let s := s.setCtx x { s.ctx x with slots := (s.ctx x).slots ++ [{ chunk := k, unit := u, onDie := c.blocks, lastUse := n }] }
  let s := s.slotUse c k
  [0, 1, 2, 3].foldl (fun s d =>
    if 0 < c.blocksIn k d && 1 ≤ (s.pool d 1).level && 0 < Tbl.get 0 s.mem.p1Backing d then
      match s.lruSlot d x k with | some (y, z) => s.spillSlot y z | none => s
    else s) s

/-! ## Packets of the context -/

/-- Header fields common to the context's packets. -/
def State.ctxHdr (s : State) (x k type dst : Nat) : Hdr :=
  let c := s.ctx x
  { type := type, tc := c.tc, dst := dst, src := s.ownId, job := c.job, ctx := x, chunk := k % 65536, deadline := stampOf c.deadline }

/-- A packet of the context leaves from a Marten unit. -/
def State.ctxSend (s : State) (x k type dst off : Nat) (bytes : List Byte) (unit : Nat) (ring : Option Nat) : State :=
  let h := { s.ctxHdr x k type dst with msg := off % 2 ^ 32 / 4096, offset := off, len := bytes.length }
  s.sendPkt { hdr := h, payload := bytes } (.marten (unit / 4) (unit % 4)) ring (some (s.ctx x).deadline)

/-- The name of the multicast of a context's chunk or token: its context, chunk, token and offset (R151). -/
def mcName (x k t off : Nat) : Nat := 2 * (x + 4096 * (off + 2 ^ 32 * (t + 2 ^ 16 * k))) + 1

/-- A copy of a chunk's result leaves from a Marten unit to one member (R151, R216). -/
def State.ctxCopy (s : State) (x k dst off : Nat) (bytes : List Byte) (unit : Nat) : State :=
  let h := { s.ctxHdr x k 0x09 dst with msg := off % 2 ^ 32 / 4096, offset := off, len := bytes.length }
  s.sendCopy { hdr := h, payload := bytes } (.marten (unit / 4) (unit % 4)) (some (s.ctx x).deadline) (mcName x k 0 off)

/-- A STATUS COMPLETION about the context goes to each local member. -/
def State.ctxStatus (s : State) (x chunk code : Nat) : State :=
  let c := s.ctx x
  c.locals.foldl (fun s m =>
    s.sendCompl m { job := c.job, ctx := x, chunk := chunk % 65536 } { kind := kStatus, stc := c.tc, ackSeq := code, winM1 := s.winOf 0 - 1, inc := s.st.incarnation } false) s

/-- The contexts of this member are paired: it mirrors, or serves for both (R421, R429). -/
def State.pairCtx (s : State) : Bool := s.pl.paired && (s.pair.st == 2 || s.pair.st == 3 || s.pair.st == 5)

/-- The H notice of R219; none before any slot has been freed. A paired context's notice comes with its boundary (R427). -/
def State.notice (s : State) (x : Nat) : State :=
  let c := s.ctx x
  if c.h = 0 || s.pairCtx then s else s.ctxStatus x (c.h - 1) 0

/-- The chunks below this one have been reported by every leaf, this one among them (R429). -/
def State.reportedG (s : State) (c : Ctx) : Nat :=
  (c.leaves.filter (fun l => l != s.ownId && l != 8192 + s.pl.partner)).foldl (fun m l => min m (Tbl.get 0 c.peerG l)) c.g

/-- The first chunk beyond the window (R219): in a paired context a slot is used again only once every leaf has reported its chunk
(R429). -/
def State.windowEnd (s : State) (c : Ctx) : Nat := (if s.pairCtx then min c.h (s.reportedG c) else c.h) + c.win

/-! ## Failure -/

/-- The slot's count of local members whose packets have all been accepted, and the ranks still missing (R222, R229): of a freed chunk
none; where one member sends the chunk, only that one can be missing. -/
def Ctx.missing (c : Ctx) (k : Nat) : Nat × List Nat :=
  let p := c.packets k
  let bits := match c.slot k with | some z => z.bits | none => []
  let whole := fun m => (List.range p).all (fun i => bits.contains (m, i))
  let sends := fun m => match c.sender k with | some r => c.ranks.getD m 0 == r | none => true
  let idx := List.range c.locals.length
  if k < c.h || c.freedAbove.contains k then (c.locals.length, [])
  else ((idx.filter whole).length, (idx.filter (fun m => sends m && !whole m)).map (fun m => c.ranks.getD m 0))

/-- Completion count and missing ranks of a batch of an MOE context (R331). -/
def Ctx.missingMoe (c : Ctx) (k : Nat) : Nat × List Nat :=
  let tpm := bits (c.w 14) 0 16 + 1
  let toks := match c.batches.find? (fun b => b.b == k) with | some b => b.tokens | none => []
  let whole := fun m => (List.range tpm).all (fun j => toks.any (fun t => t.t == m * tpm + j && t.whole))
  let idx := List.range c.locals.length
  if k < c.h || c.freedAbove.contains k then (c.locals.length, [])
  else ((idx.filter whole).length, (idx.filter (fun m => !whole m)).map (fun m => c.ranks.getD m 0))

/-- Completion count and missing ranks of chunk or batch `k`. -/
def Ctx.missingOf (c : Ctx) (k : Nat) : Nat × List Nat := if c.op = 5 then c.missingMoe k else c.missing k

/-- Packets of context `x` that this leaf has sent and that are not acknowledged, outstanding or waiting. -/
def State.ctxUnacked (s : State) (x : Nat) : List Hdr :=
  s.st.tx.flatMap (fun e => ((e.2.out ++ e.2.wait).map (fun o => o.pkt.hdr)).filter (fun h => h.ctx == x && (martenType h.type || h.type == 0x09)))

/-- The lowest chunk that is not complete: not freed, or with a packet of it unacknowledged (R208, R229). -/
def State.lowChunk (s : State) (x : Nat) : Nat := (s.ctxUnacked x).foldl (fun k h => min k ((s.ctx x).resolve h.chunk)) (s.ctx x).h

/-- Code of a cause (R231). -/
def Cause.code : Cause → Nat
  | .none_ => 0
  | .deadline => 1
  | .step => 2
  | .path => 3
  | .data => 4
  | .epilogue => 5
  | .abort => 6
  | .remote => 7

/-- A leaf fails a context (R229): the record, COLL_FAILED, the STATUS to each local member with two repeats owed, and the
failure notice to the other leaves, which a leaf that fails by such a notice does not send on. -/
def State.failCtx (s : State) (x status : Nat) (cause : Cause) : State :=
  let c := s.ctx x
  if c.state ≠ .armed && c.state ≠ .running then s
  else
    let k := s.lowChunk x
    let (n, miss) := c.missingOf k
    let s := s.setCtx x { c with state := .failed, status := status, cause := cause, failChunk := k, failCount := n,
                                 failRank := miss.head?, noticesLeft := 2 }
    let s := s.bump (baseColl + 0x1C)
    let s := s.event { word := 4, source := mCollFailed, job := some c.job, ctx := some x, status := status,
                       cause := cause.code, detail := [k % 2 ^ 32, n % 256 + (miss.head?.getD 0 % 8192) * 256 + b2n miss.head?.isSome * 2 ^ 21, c.h % 2 ^ 32] }
    let s := if cause = .deadline || cause = .path || cause = .step then
        s.event { word := 4, source := mCtxDeadline, job := some c.job, ctx := some x, status := status, cause := cause.code,
                  detail := [k % 2 ^ 32, n % 256 + (miss.head?.getD 0 % 8192) * 256 + b2n miss.head?.isSome * 2 ^ 21, c.h % 2 ^ 32] } else s
    let s := s.ctxStatus x k status
    if cause = .remote then s
    else
      (c.leaves.filter (· != s.ownId)).foldl (fun s m => s.sendPeer m 0x0580 [6, x, status + cause.code * 2 ^ 16] none false) s

/-! ## Results -/

/-- Packets of a chunk's result for the member of rank `r`: offsets and bytes (R210, R216). -/
def Ctx.resultPackets (c : Ctx) (k r : Nat) (image : List Byte) : List (Nat × List Byte) :=
  let n := c.elemsOf k
  let f := c.outF
  let cut := fun (spans : List (Nat × Nat)) =>
    (spans.flatMap (fun x => cutPackets x.1 x.2)).map (fun x => (x.1, (image.drop x.1).take x.2))
  if c.op = 1 then
    let piece := c.elems / max c.m 1
    let lo := max (r * piece) (k * c.e)
    let hi := min ((r + 1) * piece) (k * c.e + n)
    cut (imageSpans f n c.mask (lo - k * c.e) (hi - lo))
  else if c.op = 4 then
    if k / max c.unitChunks 1 % max c.m 1 = r then cut [(0, imageBytes f n c.mask)] else []
  else cut [(0, imageBytes f n c.mask)]

/-- Chunk `k` has been freed: H moves past every freed chunk (R219), with its notice. -/
def State.chunkFreed (s : State) (x k : Nat) : State :=
  let c := s.ctx x
  let freed := k :: c.freedAbove
  let h := (List.range (freed.length + 1)).foldl (fun h _ => if freed.contains h then h + 1 else h) c.h
  let s := s.setCtx x { c with h := h, freedAbove := freed.filter (fun f => h ≤ f) }
  if h = c.h then s else s.notice x

/-- The leaf hands a chunk's result to the slice and frees the slot (R216, R219). -/
def State.deliver (s : State) (x : Nat) (z : Slot) : State :=
  let c := s.ctx x
  let k := z.chunk
  let image := bytesIn z.fins 0 (imageBytes c.outF (c.elemsOf k) c.mask)
  let keep := s.pairCtx
  let s := s.setCtx x { c with slots := c.slots.filter (fun y => y.chunk != k), results := c.results ++ [(k, image)],
                               kept := if keep then c.kept ++ [z] else c.kept }
  let s := if keep then s else s.slotGive c z.chunk
  let s := (List.range c.locals.length).foldl (fun s m =>
    (c.resultPackets k (c.ranks.getD m 0) image).foldl (fun s p =>
      if c.op = 1 || c.op = 4 then s.ctxSend x k 0x09 (c.locals.getD m 0) p.1 p.2 z.unit none
      else s.ctxCopy x k (c.locals.getD m 0) p.1 p.2 z.unit) s) s
  s.chunkFreed x k

/-! ## Owned intervals -/

/-- Counters and flags of finished results (R231, R259). -/
def State.countResults (s : State) (x unit : Nat) (f : ResultFlags) : State :=
  let c := s.ctx x
  let s := s.setCtx x { c with empty := c.empty || decide (0 < f.empty), sat := c.sat || f.sat }
  let s := s.bumpBy (martenReg unit 0x20) f.ovf
  let s := s.bumpBy (martenReg unit 0x24) f.nan
  s.bumpBy (martenReg unit 0x28) f.empty

/-- Attached physical cores of a context, in ascending visible order (R317). -/
def State.ctxCores (s : State) (x : Nat) : List Nat := (s.attachedCores (s.ctx x).binding x).filterMap s.physOf

/-- The leaf owns elements [lo, …) of chunk `k` with these entries (R216): rounded to OUT_FMT, or to FP32 and handed to the
epilogue core c mod e (R224, R318). -/
def State.ownInterval (s : State) (x k lo : Nat) (es : List Entry) : State :=
  let c := s.ctx x
  match c.slot k with
  | none => s
  | some z =>
    if es.isEmpty then s
    else if 0 < c.epiCores then
      let (codes, _, fl) := c.finish x k 0 lo es
      let vals := (List.range es.length).map (fun i => ({ pres := c.present (es.getD i {}), v := codes.getD i 0 } : PartVal))
      let s := (s.setCtx x (c.putSlot { z with epi := z.epi ++ [{ lo := lo, vals := vals }] })).countResults x z.unit { empty := fl.empty }
      let cores := s.ctxCores x
      s.postItem (cores.getD (k % max cores.length 1) 0) { kind := 1, ctx := x, chunk := k, first := lo, count := es.length }
    else
      let (codes, scales, fl) := c.finish x k c.outF lo es
      let spans := resultSpans c.outF (c.elemsOf k) lo c.mask codes scales (es.map c.present)
      (s.setCtx x (c.putSlot { z with fins := z.fins ++ spans })).countResults x z.unit fl

/-! ## Rings -/

/-- Bytes received on a phase and ring. -/
def Slot.received (z : Slot) (phase rdir : Nat) : List (Nat × List Byte) :=
  (z.ring.filter (fun r => r.phase == phase && r.rdir == rdir)).map (fun r => (r.off, r.bytes))

/-- The incoming partial of elements [lo, lo + len) of a phase, once all its bytes are here. -/
def Ctx.incoming (c : Ctx) (z : Slot) (phase rdir lo len : Nat) : Option (List PartVal) :=
  let n := c.elemsOf z.chunk
  let l := z.received phase rdir
  if (c.partSpans n lo len).all (fun x => covered l x.1 x.2) then some (c.partsIn n lo len l) else none

/-- This leaf's own partials after the leaf stage. -/
def Slot.ownParts (z : Slot) (lo len : Nat) : List PartVal := (z.ownVals.drop lo).take len

/-- This leaf's partial of elements [lo, lo + len) at the start of a reduce phase: its own after the leaf stage, or the x ring's
result within its x segment (R215). -/
def Ctx.own (c : Ctx) (z : Slot) (phase rdir lo len : Nat) : Option (List PartVal) :=
  if !z.leafDone then none
  else if phase = 0 || c.nx ≤ 1 then some (z.ownParts lo len)
  else
    match c.incoming z 0 rdir lo len with
    | some l => some ((List.range len).map (fun i => c.partOf (c.joinPart (l.getD i {}) ((z.ownParts lo len).getD i {}))))
    | none => none

/-- Bytes of segment `g` that a reduce phase sends next, once they can be formed (R215). -/
def Ctx.reduceStep (c : Ctx) (z : Slot) (phase rdir g : Nat) : Option (List (Nat × List Byte)) :=
  let n := c.elemsOf z.chunk
  let (len, p) := c.ringOf phase
  let (lo, cnt) := c.segment n phase rdir g
  if g = p then none
  else match c.own z phase rdir lo cnt with
    | none => none
    | some own =>
      if g = ringPos len p (len - 1) rdir then some (c.partBytes n lo own)
      else match c.incoming z phase rdir lo cnt with
        | none => none
        | some l => some (c.partBytes n lo ((List.range cnt).map (fun i => c.partOf (c.joinPart (l.getD i {}) (own.getD i {})))))

/-- Bytes of segment `g` that a gather phase sends next, once they are here (R215). -/
def Ctx.gatherStep (c : Ctx) (z : Slot) (phase rdir g : Nat) : Option (List (Nat × List Byte)) :=
  let n := c.elemsOf z.chunk
  let (len, p) := c.ringOf phase
  let (lo, cnt) := c.segment n phase rdir g
  let spans := imageSpans c.outF n c.mask lo cnt
  if g = ringPos len p 1 rdir then none
  else if spans.all (fun x => covered z.fins x.1 x.2) then some (spans.map (fun x => (x.1, bytesIn z.fins x.1 x.2))) else none

/-- Ring positions of the leaf that serves the one sender of chunk `k`. -/
def State.originPos (s : State) (c : Ctx) (k : Nat) : Nat × Nat :=
  let e := (s.groupMembers (sliceOf (c.w 2) (c.w 3))).getD ((c.sender k).getD 0) 0
  let r := chipRack e
  (c.ringX.idxOf (s.leafAt r.1 s.pl.ry), c.ringY.idxOf (s.leafAt s.pl.rx r.2))

/-- Bytes of a whole range that a gathering operation sends on a phase, once they are here: along y from the sender's leaf, then
along x from every leaf of its column (log 20). -/
def State.copyStep (s : State) (c : Ctx) (z : Slot) (phase rdir : Nat) : Option (List (Nat × List Byte)) :=
  let n := c.elemsOf z.chunk
  let (ox, oy) := s.originPos c z.chunk
  let (len, p) := c.ringOf phase
  let (lo, cnt) := ringRange n rdir
  let spans := imageSpans c.outF n c.mask lo cnt
  let o := if phase = 3 then ox else oy
  if (phase = 2 && c.px ≠ ox) || ringPos len p 1 rdir = o then none
  else if spans.all (fun x => covered z.fins x.1 x.2) then some (spans.map (fun x => (x.1, bytesIn z.fins x.1 x.2))) else none

/-- Steps of a context's rings, in the order of R215. -/
def Ctx.stepList (c : Ctx) : List (Nat × Nat × Nat) :=
  let segs : Nat → Nat → List (Nat × Nat × Nat) := fun phase n =>
    if n ≤ 1 then [] else [0, 1].flatMap (fun r => (List.range n).map (fun g => (phase, r, g)))
  if c.reduces then segs 0 c.nx ++ segs 1 c.ny ++ segs 2 c.ny ++ segs 3 c.nx
  else (if c.ny ≤ 1 then [] else [(2, 0, 0), (2, 1, 0)]) ++ (if c.nx ≤ 1 then [] else [(3, 0, 0), (3, 1, 0)])

/-- Bytes of a step, where it can be sent now. -/
def State.stepBytes (s : State) (c : Ctx) (z : Slot) (t : Nat × Nat × Nat) : Option (List (Nat × List Byte)) :=
  if !c.reduces then s.copyStep c z t.1 t.2.1
  else if t.1 ≤ 1 then c.reduceStep z t.1 t.2.1 t.2.2
  else c.gatherStep z t.1 t.2.1 t.2.2

/-- A step's bytes go to the next leaf as COLL_PARTIAL packets (R217). -/
def State.sendStep (s : State) (x : Nat) (z : Slot) (t : Nat × Nat × Nat) (spans : List (Nat × List Byte)) : State :=
  let c := s.ctx x
  let base := t.1 * 2 ^ 44 + t.2.1 * 2 ^ 43
  let dir := (if t.1 = 0 || t.1 = 3 then 0 else 2) + t.2.1
  spans.foldl (fun s sp =>
    (cutPackets sp.1 sp.2.length).foldl (fun s p =>
      s.ctxSend x z.chunk 0x0A (c.nextLeaf t.1 t.2.1) (base + p.1) ((sp.2.drop (p.1 - sp.1)).take p.2) z.unit (some dir)) s) s

/-- The addends that a partial brings: two of a pair, one else, none where it is absent (R246). -/
def Ctx.partAddends (c : Ctx) (p : PartVal) : List Dec :=
  if !p.pres then []
  else if c.kind = 0 && !c.fast then [fp32.decode (p.v % 2 ^ 32), fp32.decode (p.v / 2 ^ 32)] else [.zero false]

/-- Addends of a join of two partials, whether its entry takes the long form, and the addends that come to the long form (R246, R256). -/
def Ctx.joinCount (c : Ctx) (a b : PartVal) : Nat × Nat × Nat :=
  let l := c.partAddends a ++ c.partAddends b
  let r := l.foldl (fun (x : Entry × Nat) d => (x.1.add d, x.2 + b2n x.1.esc)) (({} : Entry), 0)
  (l.length, b2n r.1.esc, r.2)

/-- Addend counters of joined partials (R258, R259). -/
def State.countJoin (s : State) (c : Ctx) (unit : Nat) (a b : List PartVal) : State :=
  let l := List.zipWith c.joinCount a b
  let sum := fun (f : Nat × Nat × Nat → Nat) => l.foldl (fun n x => n + f x) 0
  ((s.bump64 (martenReg unit 0x08) (sum (·.1))).bumpBy (martenReg unit 0x10) (sum (·.2.1))).bumpBy (martenReg unit 0x14) (sum (·.2.2))

/-- The joins of a step that a reduce phase has just formed are counted; its ring's first step joins nothing (R215). -/
def State.countStep (s : State) (c : Ctx) (z : Slot) (t : Nat × Nat × Nat) : State :=
  let (len, p) := c.ringOf t.1
  let (lo, cnt) := c.segment (c.elemsOf z.chunk) t.1 t.2.1 t.2.2
  if !c.reduces || 1 < t.1 || t.2.2 = ringPos len p (len - 1) t.2.1 then s
  else match c.own z t.1 t.2.1 lo cnt, c.incoming z t.1 t.2.1 lo cnt with
    | some own, some l => s.countJoin c z.unit l own
    | _, _ => s

/-- Every step that can be sent now is sent, once (R215). -/
def State.sendSteps (s : State) (x k : Nat) : State :=
  (s.ctx x).stepList.foldl (fun s t =>
    let c := s.ctx x
    match c.slot k with
    | none => s
    | some z =>
      if z.sent.contains t then s
      else match s.stepBytes c z t with
        | none => s
        | some b => ((s.setCtx x (c.putSlot { z with sent := z.sent ++ [t] })).countStep c z t).sendStep x z t b) s

/-- The owner forms its interval of each ring, once (R215, R216): that of the x ring where a y ring follows is only counted here. -/
def State.ownRings (s : State) (x k : Nat) : State :=
  [0, 1].foldl (fun s r =>
    let c := s.ctx x
    match c.slot k with
    | none => s
    | some z =>
      let n := c.elemsOf k
      let last := if 1 < c.ny then 1 else 0
      let p := (c.ringOf last).2
      let (lo, cnt) := c.segment n last r p
      let (xlo, xcnt) := c.segment n 0 r c.px
      let s := if last = 0 || c.nx ≤ 1 || z.owned.contains (r + 2) || !c.reduces then s
        else match c.own z 0 r xlo xcnt, c.incoming z 0 r xlo xcnt with
          | some own, some l => (s.setCtx x (c.putSlot { z with owned := (r + 2) :: z.owned })).countJoin c z.unit l own
          | _, _ => s
      let c := s.ctx x
      let z := (c.slot k).getD z
      if z.owned.contains r || !c.reduces then s
      else match c.own z last r lo cnt, c.incoming z last r lo cnt with
        | some own, some l =>
          let s := (s.setCtx x (c.putSlot { z with owned := r :: z.owned })).countJoin c z.unit l own
          s.ownInterval x k lo ((List.range cnt).map (fun i => c.joinPart (l.getD i {}) (own.getD i {})))
        | _, _ => s) s

/-- The rings of a chunk go on as far as they can, and the result is delivered when the whole image is here. -/
def State.advance (s : State) (x k : Nat) : State :=
  let several := 1 < (s.ctx x).leaves.length
  let s := if several then ((s.sendSteps x k).ownRings x k).sendSteps x k else s
  let c := s.ctx x
  match c.slot k with
  | none => s
  | some z => if covered z.fins 0 (imageBytes c.outF (c.elemsOf k) c.mask) then s.deliver x z else s

/-! ## Contributions -/

/-- Elements [a, a + cnt) of an image are combined as member `m`'s (R239). -/
def Ctx.addElems (c : Ctx) (z : Slot) (m a cnt n : Nat) (l : List (Nat × List Byte)) : Slot :=
  { z with entries := (List.range cnt).foldl (fun es i =>
      let (d, code, pres) := c.imageElem n l (a + i)
      if pres then Tbl.put {} es (a + i) (c.combine (Tbl.get {} es (a + i)) m d code) else es) z.entries }

/-- Addend counters of a change of entries (R258, R259). -/
def State.countAddends (s : State) (unit : Nat) (old new : Tbl Entry) : State :=
  let sum := fun (f : Entry → Nat) (t : Tbl Entry) => t.foldl (fun n e => n + f e.2) 0
  let add := sum (·.n) new - sum (·.n) old
  let esc := sum (fun e => b2n e.esc) new - sum (fun e => b2n e.esc) old
  let slow := new.foldl (fun n e => if (Tbl.get ({} : Entry) old e.1).esc then n + (e.2.n - (Tbl.get ({} : Entry) old e.1).n) else n) 0
  ((s.bump64 (martenReg unit 0x08) add).bumpBy (martenReg unit 0x10) esc).bumpBy (martenReg unit 0x14) slow

/-- Every local member that sends chunk `k` has all its bits set (R214). -/
def Ctx.leafComplete (c : Ctx) (z : Slot) : Bool :=
  let p := c.packets z.chunk
  (List.range c.locals.length).all (fun m =>
    (match c.sender z.chunk with | some r => c.ranks.getD m 0 != r | none => false) || (List.range p).all (fun i => z.bits.contains (m, i)))

/-- The leaf stage of a chunk is complete (R214): TDC of a FAST chunk (R253), then result, partials or the gathered image. -/
def State.leafStage (s : State) (x k : Nat) : State :=
  let c := s.ctx x
  match c.slot k with
  | none => s
  | some z =>
    let n := c.elemsOf k
    let entry := fun i => Tbl.get ({} : Entry) z.entries i
    let tdc := c.reduces && c.fast && c.kind == 0 && z.entries.any (fun e => 3 ≤ e.2.n)
    let s := if tdc then
        ({ s with coll := { s.coll with tdc := Tbl.put 0 s.coll.tdc c.job ((Tbl.get 0 s.coll.tdc c.job + 1) % 2 ^ 64) } }).bump (martenReg z.unit 0x2C)
      else s
    if !c.reduces then
      let z := { z with leafDone := true, fins := z.images.map (fun i => (i.2.1, i.2.2)), images := [] }
      (s.setCtx x (c.putSlot z)).advance x k
    else if c.leaves.length ≤ 1 then
      ((s.setCtx x (c.putSlot { z with leafDone := true })).ownInterval x k 0 ((List.range n).map entry)).advance x k
    else
      let own := (List.range n).map (fun i => c.partOf (entry i))
      (s.setCtx x (c.putSlot { z with leafDone := true, ownVals := own })).advance x k

/-- An accepted contribution is combined (R222, R214): at once, or when the member's scales and mask are all here. -/
def State.contribute (s : State) (x k m : Nat) (pkt : Pkt) : State :=
  let c := s.ctx x
  match c.slot k with
  | none => s
  | some z =>
    let n := c.elemsOf k
    let w := fmtBits c.inF
    let z := { z with bits := (m, pkt.hdr.msg) :: z.bits }
    let mine := fun (z : Slot) => (z.images.filter (fun i => i.1 == m)).map (fun i => (i.2.1, i.2.2))
    let z' :=
      if c.reduces && !isMx c.inF && !c.mask then
        c.addElems z m (pkt.hdr.offset * 8 / w) (pkt.payload.length * 8 / w) n [(pkt.hdr.offset, pkt.payload)]
      else
        let z := { z with images := z.images ++ [(m, pkt.hdr.offset, pkt.payload)] }
        if c.reduces && (List.range (c.packets k)).all (fun i => z.bits.contains (m, i)) then
          let z := c.addElems z m 0 n n (mine z)
          { z with images := z.images.filter (fun i => i.1 != m) }
        else z
    let s := (s.setCtx x (c.putSlot z')).countAddends z.unit z.entries z'.entries
    if c.leafComplete z' && !z'.leafDone then s.leafStage x k else s

/-- Partials expected on a phase and ring, as (offset, length) (R217, R222 check 3). -/
def State.expected (s : State) (c : Ctx) (k phase rdir : Nat) : List (Nat × Nat) :=
  let n := c.elemsOf k
  let (len, p) := c.ringOf phase
  let cut := fun (l : List (Nat × Nat)) => l.flatMap (fun x => cutPackets x.1 x.2)
  if len ≤ 1 || 3 < phase then []
  else if !c.reduces then
    let (ox, oy) := s.originPos c k
    let (lo, cnt) := ringRange n rdir
    if (phase = 2 && c.px = ox && c.py ≠ oy) || (phase = 3 && c.px ≠ ox) then cut (imageSpans c.outF n c.mask lo cnt) else []
  else
    (List.range len).flatMap (fun g =>
      let (lo, cnt) := c.segment n phase rdir g
      if phase ≤ 1 then (if g = ringPos len p (len - 1) rdir then [] else cut (c.partSpans n lo cnt))
      else if g = p then [] else cut (imageSpans c.outF n c.mask lo cnt))

/-- An accepted partial is stored in the slot's ring area, or among the finished bytes, and the rings go on (R214, R216). -/
def State.partial_ (s : State) (x k : Nat) (pkt : Pkt) : State :=
  let c := s.ctx x
  match c.slot k with
  | none => s
  | some z =>
    let ph := bits pkt.hdr.offset 44 4
    let rd := bits pkt.hdr.offset 43 1
    let off := bits pkt.hdr.offset 0 32
    let z := { z with ringBits := (8 * ph + rd, off) :: z.ringBits }
    let z := if ph ≤ 1 then { z with ring := z.ring ++ [{ phase := ph, rdir := rd, off := off, bytes := pkt.payload }] }
             else { z with fins := z.fins ++ [(off, pkt.payload)] }
    (s.setCtx x (c.putSlot z)).advance x k

/-! ## The checks of R222 -/

/-- Outcome of the checks. -/
inductive Verdict222 where
  | notMember
  | badContrib
  | refused (k : Nat)
  | dup (k : Nat)
  | accept (k m : Nat)
  deriving DecidableEq, Repr

/-- The checks of R222 on a contribution or a partial, in order. -/
def State.check222 (s : State) (h : Hdr) (len : Nat) : Verdict222 :=
  let c := s.ctx h.ctx
  let part := h.type = 0x0A
  let ph := bits h.offset 44 4
  let rd := bits h.offset 43 1
  let m := c.locals.idxOf h.src
  if c.state ≠ .armed && c.state ≠ .running || c.job ≠ h.job || c.op = 5 || c.standby then .notMember
  else if (if part then ph ≤ 3 && c.prevLeaf ph rd != h.src || 3 < ph || (c.ringOf ph).1 ≤ 1 else c.locals.length ≤ m) then .notMember
  else
    let k := c.resolve h.chunk
    let shape :=
      if part then (s.expected c k ph rd).contains (bits h.offset 0 32, len) && h.msg == bits h.offset 0 32 / 4096
      else h.msg < c.packets k && h.offset == 4096 * h.msg && len == packetLen (imageBytes c.inF (c.elemsOf k) c.mask) h.msg
        && (match c.sender k with | some r => c.ranks.getD m 0 == r | none => true)
    if c.chunks ≤ k || !shape then .badContrib
    else if s.windowEnd c ≤ k then .refused k
    else
      let old := match c.slot k with
        | some z => if part then z.ringBits.contains (8 * ph + rd, bits h.offset 0 32) else z.bits.contains (m, h.msg)
        | none => k < c.h || c.freedAbove.contains k
      if old then .dup k else .accept k m

/-- STATUS to the source of a packet of a failed context (R222). -/
def State.failedStatus (s : State) (h : Hdr) : State :=
  let c := s.ctx h.ctx
  if c.state = .failed && c.job = h.job then s.sendStatus h c.status else s

/-- A contribution or partial reaches its slot: the slot opens, a spilled one is read back first (R219, R257). -/
def State.toSlot (s : State) (x k m : Nat) (pkt : Pkt) : State :=
  let c := s.ctx x
  let s := if c.state = .armed then s.setCtx x { c with state := .running } else s
  let s := if ((s.ctx x).slot k).isSome then s else s.openSlot x k
  let c := s.ctx x
  match c.slot k with
  | none => s
  | some z =>
    let n := s.coll.useCtr
    let s := { s with coll := { s.coll with useCtr := n + 1 } }
    if 0 < z.spilled then
      s.setCtx x (c.putSlot { z with reading := true, lastUse := n, waiting := z.waiting ++ [pkt] })
    else
      let s := s.setCtx x (c.putSlot { z with lastUse := n })
      if pkt.hdr.type = 0x0A then s.partial_ x k pkt else s.contribute x k m pkt

/-- A COLL_CONTRIB or COLL_PARTIAL comes to Marten (R117, R221, R222). -/
def State.martenIn (s : State) (p : Nat) (pkt : Pkt) : State :=
  if !s.sw.delivered.contains (p, pkt) then s
  else
    let s := s.taken p pkt
    let h := pkt.hdr
    match s.check222 h pkt.payload.length with
    | .refused _ => (s.bump (ctxReg h.ctx 0x14)).sendStatus h 0x21
    | v =>
      let (s, ok) := s.acceptTracked p h
      if !ok then s
      else match v with
        | .notMember => (s.bump (baseColl + 0x10)).failedStatus h
        | .badContrib => s.bump (baseColl + 0x14)
        | .dup _ => s.bump (ctxReg h.ctx 0x18)
        | .accept k m => s.toSlot h.ctx k m pkt
        | .refused _ => s

/-! ## Completion, notices, resends -/

/-- Packets of the context that this leaf has sent and that are not acknowledged: outstanding or waiting. -/
def State.ctxOpenPkts (s : State) (x : Nat) (f : Hdr → Bool) : Bool :=
  s.st.tx.any (fun e => (e.2.out ++ e.2.wait).any (fun o => o.pkt.hdr.ctx == x && martenType o.pkt.hdr.type && f o.pkt.hdr
    || o.pkt.hdr.ctx == x && o.pkt.hdr.type == 0x09 && f o.pkt.hdr))

/-- The boundary of a paired context moves past every chunk that is retired (R427): freed, with every packet of it acknowledged; its recorded
ranges are copied to the partner. Each advance goes to the local members and the other leaves (R429). -/
def State.advanceG : Nat → State → Nat → State
  | 0, s, _ => s
  | n + 1, s, x =>
    let c := s.ctx x
    if !s.pairCtx || c.standby || c.h ≤ c.g || (c.state != .running && c.state != .done)
        || s.ctxOpenPkts x (fun h => h.chunk == c.g % 65536 && (h.type == 0x09 || martenType h.type)) then s
    else
      let mine := c.ranges.filter (fun r => r.1 == c.g)
      let s := mine.foldl (fun s r => (s.emit (.mirror 2 [x, c.g, r.2.1 % 2 ^ 32, r.2.1 / 2 ^ 32] (s.memRead r.2.1 r.2.2))).bump64 (basePair + 0x20) r.2.2) s
      let s := s.emit (.mirror 3 [x, c.g] [])
      let s := s.setCtx x { s.ctx x with g := c.g + 1, ranges := c.ranges.filter (fun r => r.1 != c.g) }
      let s := s.ctxStatus x c.g 0
      let s := (c.leaves.filter (fun l => l != s.ownId && l != 8192 + s.pl.partner)).foldl (fun s l =>
        s.sendCompl l { job := c.job, ctx := x, chunk := c.g % 65536 } { kind := kStatus, stc := c.tc, ackSeq := 0, winM1 := s.winOf 0 - 1, inc := s.st.incarnation } false) s
      State.advanceG n s x

/-- Slots kept for the other leaves are let go once every leaf has reported their chunk (R429). -/
def State.dropKept (s : State) (x : Nat) : State :=
  let c := s.ctx x
  let done := c.kept.filter (fun z => !s.pairCtx || z.chunk < s.reportedG c)
  if done.isEmpty then s
  else
    done.foldl (fun s z => s.slotGive c z.chunk)
      (s.setCtx x { c with kept := c.kept.filter (fun z => s.pairCtx && s.reportedG c ≤ z.chunk) })

/-- Results whose packets have all been acknowledged are dropped (R123), and a context with nothing left is DONE (R208). -/
def State.ctxSettle (s : State) (x : Nat) : State :=
  let c := s.ctx x
  if c.state ≠ .running || c.op = 5 then s
  else
    let keep := c.results.filter (fun r => s.ctxOpenPkts x (fun h => h.chunk == r.1 % 65536 && h.type == 0x09))
    let s := if keep = c.results then s else s.setCtx x { c with results := keep }
    if c.chunks ≤ c.h && !c.standby && (!s.pairCtx || c.chunks ≤ c.g) && !s.ctxOpenPkts x (fun _ => true) then s.setCtx x { s.ctx x with state := .done } else s

/-- Every context is judged for its boundary and for completion. -/
def State.collSettle (s : State) : State :=
  s.coll.ctxs.foldl (fun s e => ((State.advanceG ((s.ctx e.1).h - (s.ctx e.1).g) s e.1).dropKept e.1).ctxSettle e.1) s

/-- A ring step has exceeded STEP_US (R218): some packet of the segment is still outstanding. -/
def State.stepTimeout (s : State) (x chunk phase rdir : Nat) : State :=
  if s.ctxOpenPkts x (fun h => h.type == 0x0A && h.chunk == chunk % 65536 && bits h.offset 44 4 == phase && bits h.offset 43 1 == rdir) then
    s.failCtx x 0x40 .step
  else s

/-- The context's DEADLINE passes (R208, R228): cause STEP while a ring step has been sent and is not acknowledged (R218), PATH where a
packet of it was lost to its path or a missing member cannot be reached. -/
def State.ctxExpire (s : State) (x : Nat) : State :=
  let lost := s.st.tx.any (fun e => (e.2.out ++ e.2.wait).any (fun o => o.pkt.hdr.ctx == x && o.heldAt.isSome
    && (o.pkt.hdr.type == 0x09 || martenType o.pkt.hdr.type)))
  let step := s.st.tx.any (fun e => e.2.out.any (fun o => o.pkt.hdr.ctx == x && o.pkt.hdr.type == 0x0A))
  let c := s.ctx x
  let miss := (c.missingOf (s.lowChunk x)).2
  -- a missing member cannot be reached: its down port is out of routing
  let cut := (List.range c.locals.length).any (fun m => miss.contains (c.ranks.getD m 0)
    && (match s.downPort (c.locals.getD m 0) with | some p => !(s.port p).routed | none => true))
  s.failCtx x 0x40 (if step then .step else if lost || cut || c.pathLost then .path else .deadline)

/-- A failure STATUS is sent again (R229). -/
def State.failRepeat (s : State) (x : Nat) : State :=
  let c := s.ctx x
  if c.state ≠ .failed || c.noticesLeft = 0 then s
  else (s.setCtx x { c with noticesLeft := c.noticesLeft - 1 }).ctxStatus x c.failChunk c.status

/-- A RESEND_REQ of scope CONTRIB from another leaf (R429): every partial and finished segment of the chunk that went to it is computed again
from the slot, open or kept, and sent again. -/
def State.resendParts (s : State) (x src chunk : Nat) : State :=
  let c := s.ctx x
  match (c.slots ++ c.kept).find? (fun z => z.chunk % 65536 == chunk) with
  | none => s
  | some z => (z.sent.filter (fun t => c.nextLeaf t.1 t.2.1 == src)).foldl (fun s t =>
      match s.stepBytes c z t with | some b => s.sendStep x z t b | none => s) s

/-- RESEND_REQ (R123): packets of a held result go again on fresh SEQ numbers, or the request is ignored and counted. -/
def State.resendReq (s : State) (p : Nat) (pkt : Pkt) : State :=
  let h := pkt.hdr
  let c := s.ctx h.ctx
  let scope := bits (leWord pkt.payload 0) 0 8
  let first := bits (leWord pkt.payload 1) 0 16
  let count := bits (leWord pkt.payload 1) 16 16
  let ign := s.bump (swReg (denOf p) 0x224)
  if scope = 2 && c.leaves.contains h.src && c.job = h.job && s.pairCtx then s.resendParts h.ctx h.src h.chunk
  else match c.results.find? (fun r => r.1 % 65536 == h.chunk), c.locals.idxOf? h.src with
  | some (k, image), some m =>
    if scope ≠ 1 || c.job ≠ h.job then ign
    else
      ((c.resultPackets k (c.ranks.getD m 0) image).filter (fun q => count == 0 || (first ≤ q.1 / 4096 && q.1 / 4096 < first + count))).foldl
        (fun s q => s.ctxSend h.ctx k 0x09 h.src q.1 q.2 (c.unit k) none) s
  | _, _ => ign

end Sys2Proof.Machine
end

