-- ==== Sys2Proof/Machine/Moe.lean ====
section
/-! DEFINITION. Mixture-of-experts contexts (R320–R331) and embedding lookups (R332): tokens, gating, capacity, dispatch, combine,
and the posting of lookups. -/

namespace Sys2Proof.Machine

/-- Experts (R320). -/
def Ctx.nexp (c : Ctx) : Nat := bits (c.w 12) 0 10 + 1
/-- TOPK. -/
def Ctx.topk (c : Ctx) : Nat := bits (c.w 12) 10 4
/-- RENORM. -/
def Ctx.renorm (c : Ctx) : Bool := bit (c.w 12) 14
/-- DIM. -/
def Ctx.dim (c : Ctx) : Nat := bits (c.w 13) 0 16
/-- CAP. -/
def Ctx.cap (c : Ctx) : Nat := bits (c.w 13) 16 16
/-- Tokens per member per batch. -/
def Ctx.tpm (c : Ctx) : Nat := bits (c.w 14) 0 16 + 1
/-- PLACE. -/
def Ctx.place (c : Ctx) : Nat := bits (c.w 14) 16 8
/-- B: tokens of a batch at a leaf. -/
def Ctx.batchTokens (c : Ctx) : Nat := c.locals.length * c.tpm
/-- T_bytes: a token's image. -/
def Ctx.tokenBytes (c : Ctx) : Nat := rowBytes c.inF c.dim

/-- The open batch `b`. -/
def Ctx.batch (c : Ctx) (b : Nat) : Option Batch := c.batches.find? (fun y => y.b == b)
/-- The batch becomes `y`. -/
def Ctx.putBatch (c : Ctx) (y : Batch) : Ctx := { c with batches := c.batches.map (fun z => if z.b = y.b then y else z) }
/-- Token `t` of a batch, as it is before anything of it has come. -/
def Batch.token (y : Batch) (t : Nat) : Token := (y.tokens.find? (fun k => k.t == t)).getD { t := t }
/-- The token becomes `k`. -/
def Batch.put (y : Batch) (k : Token) : Batch :=
  { y with tokens := if y.tokens.any (fun z => z.t == k.t) then y.tokens.map (fun z => if z.t = k.t then k else z) else y.tokens ++ [k] }

/-- Token `t` of batch `b` in context `x` becomes `k`. -/
def State.putToken (s : State) (x b : Nat) (k : Token) : State :=
  let c := s.ctx x
  match c.batch b with
  | some y => s.setCtx x (c.putBatch (y.put k))
  | none => s

/-- Token `t` of batch `b`. -/
def State.token (s : State) (x b t : Nat) : Token := match (s.ctx x).batch b with | some y => y.token t | none => { t := t }

/-- The replica that token `t` of batch `b` uses for expert `e` (R322). -/
def State.replica (s : State) (c : Ctx) (b t e : Nat) : Nat :=
  let pt : PlaceTable := Tbl.get {} s.coll.tables c.place
  let w := Tbl.get 0 pt.entries e
  let i := (b * c.batchTokens + t) % (bits w 56 2 + 1)
  bits w (14 * i) 14

/-- Marten unit of token `t` of batch `b` (R321). -/
def Ctx.tokenUnit (c : Ctx) (b t : Nat) : Nat :=
  let u := (b * c.batchTokens + t) % max (4 * c.dens.length) 1
  4 * c.dens.getD (u / 4) 0 + u % 4

/-- A token's image is sent to an endpoint as MOE_DISPATCH (R328), or a combined image as MOE_RETURN (R330). -/
def State.sendImage (s : State) (x b t type dst code : Nat) (image : List Byte) (unit : Nat) : State :=
  let h := { s.ctxHdr x b type dst with msg := t }
  let send := fun (s : State) (off : Nat) (bytes : List Byte) =>
    let pkt : Pkt := { hdr := { h with offset := code + off * 2 ^ 16, len := bytes.length }, payload := bytes }
    if type = 0x10 then s.sendCopy pkt (.marten (unit / 4) (unit % 4)) (some (s.ctx x).deadline) (mcName x b (t + 1) off)
    else s.sendPkt pkt (.marten (unit / 4) (unit % 4)) none (some (s.ctx x).deadline)
  if image.isEmpty then send s 0 []
  else (cutPackets 0 image.length).foldl (fun s p => send s p.1 ((image.drop p.1).take p.2)) s

/-! ## Selection -/

/-- The k largest of a list of probabilities, in descending order, lower index first among equals (R325). -/
def topK : Nat → List (Nat × Nat) → List (Nat × Nat)
  | 0, _ => []
  | n + 1, l =>
    match bestBy (fun (a b : Nat × Nat) => fLess b.2 a.2 || (fEqual a.2 b.2 && a.1 < b.1)) l with
    | none => []
    | some a => a :: topK n (l.filter (fun y => y.1 != a.1))

/-- Selected experts with their gates, or none for a bad row (R325). -/
def gatesOf (c : Ctx) (probs : List Nat) : Option (List (Nat × Nat)) :=
  if probs.any (fun p => fIsNan p || fLess p 0 || fLess fOne p) then none
  else
    let sel := topK c.topk ((List.range probs.length).map (fun i => (i, probs.getD i 0)))
    if !c.renorm then some sel
    else
      let sum := match sel with | [] => 0 | a :: l => l.foldl (fun n y => fp32Add n y.2) a.2
      some (sel.map (fun y => (y.1, if fEqual sum 0 then 0 else fp32.encode .rne ((fp32.decode y.2).div (fp32.decode sum)))))

/-! ## Results -/

/-- Whether all of a token's accepted assignments have returned in full (R330). -/
def Ctx.returned (c : Ctx) (k : Token) : Bool :=
  k.accepted.all (fun e => (List.range (ceilDiv c.tokenBytes 4096)).all (fun i => k.rets.contains (e, 4096 * i)))

/-- The slot of a batch is freed when every token's result has been handed over (R330), with the TDC of R327. -/
def State.batchDone (s : State) (x b : Nat) : State :=
  let c := s.ctx x
  match c.batch b with
  | none => s
  | some y =>
    if !(List.range c.batchTokens).all (fun t => (y.token t).finished) then s
    else
      let full := fun e => y.tokens.any (fun k => k.rejected.contains e)
      let n := if c.fast then y.tokens.foldl (fun n k => n + ((k.accepted ++ k.rejected).filter full).length) 0 else 0
      let s := if n = 0 then s
        else { s with coll := { s.coll with tdc := Tbl.put 0 s.coll.tdc c.job ((Tbl.get 0 s.coll.tdc c.job + n) % 2 ^ 64) } }
      let s := if (c.slot b).isSome then s.slotGive c b else s
      (s.setCtx x { c with batches := c.batches.filter (fun z => z.b != b), slots := c.slots.filter (fun z => z.chunk != b) }).chunkFreed x b

/-- A token with nothing outstanding is finished and its result sent to its member (R330). -/
def State.tokenDone (s : State) (x b t : Nat) : State :=
  let c := s.ctx x
  let k := s.token x b t
  if !k.gated || k.finished || !k.held.isEmpty || !c.returned k then s
  else
    let dst := c.locals.getD (t / c.tpm) 0
    let u := c.tokenUnit b t
    let s := s.putToken x b { k with finished := true, entries := [], parts := [], retBytes := [] }
    let s :=
      if k.accepted.isEmpty then s.sendImage x b t 0x11 dst 0xFFFE [] u
      else
        let es := (List.range c.dim).map (fun i => Tbl.get ({} : Entry) k.entries i)
        let (codes, scales, fl) := c.finish x b c.outF 0 es
        let image := packCodes c.outF codes ++ (if isMx c.outF then scales.map (fun y => BitVec.ofNat 8 y) else [])
        (s.countResults x u fl).sendImage x b t 0x11 dst 0xFFFF image u
    s.batchDone x b

/-- The token's image as received. -/
def Token.image (k : Token) (n : Nat) : List Byte := bytesIn k.parts 0 n

/-- An assignment is accepted and its copy dispatched (R328). -/
def State.acceptAssign (s : State) (x b t e : Nat) : State :=
  let c := s.ctx x
  let k := s.token x b t
  let s := s.putToken x b { k with accepted := k.accepted ++ [e], held := k.held.filter (· != e) }
  (s.bump (baseColl + 0x20)).sendImage x b t 0x10 (s.replica c b t e) e (k.image c.tokenBytes) (c.tokenUnit b t)

/-- An assignment is rejected for capacity (R326–R328). -/
def State.rejectAssign (s : State) (x b t e : Nat) : State :=
  let k := s.token x b t
  (s.putToken x b { k with rejected := k.rejected ++ [e], held := k.held.filter (· != e) }).bump (baseColl + 0x24)

/-- Decision on one assignment with FAST = 0 (R326): accept, reject, or hold. -/
def Ctx.decide326 (c : Ctx) (y : Batch) (t e : Nat) : Option Bool :=
  let lower := (List.range t).map y.token
  let sel := (lower.filter (fun k => k.gated && k.sel.any (fun z => z.1 == e))).length
  let open_ := (lower.filter (fun k => !k.gated)).length
  if sel + open_ < c.cap then some true else if c.cap ≤ sel then some false else none

/-- Decides assignment (t, e) of batch `b`; a new hold counts in MOE_HELD (R326). -/
def State.decideOne (s : State) (x b t e : Nat) (fresh : Bool) : State :=
  let c := s.ctx x
  match c.batch b with
  | none => s
  | some y =>
    match c.decide326 y t e with
    | some true => s.acceptAssign x b t e
    | some false => s.rejectAssign x b t e
    | none =>
      if fresh then
        let k := y.token t
        (s.putToken x b { k with held := k.held ++ [e] }).bump (baseColl + 0x2C)
      else s

/-- Held assignments of a batch are judged again after a token has been gated (R326). -/
def State.rejudge (s : State) (x b : Nat) : State :=
  let toks := match (s.ctx x).batch b with | some y => y.tokens | none => []
  toks.foldl (fun s k => (k.held.foldl (fun s e => s.decideOne x b k.t e false) s).tokenDone x b k.t) s

/-- Acceptance of a token's assignments with FAST = 1 (R327): in the order of the DISPATCH items. -/
def State.decideFast (s : State) (x b t : Nat) (sel : List Nat) : State :=
  sel.foldl (fun s e =>
    let c := s.ctx x
    let n := match c.batch b with | some y => (y.tokens.filter (fun k => k.accepted.contains e)).length | none => 0
    if n < c.cap then s.acceptAssign x b t e else s.rejectAssign x b t e) s

/-- The dispatch unit takes a token's probability row (R325–R328). -/
def State.gateToken (s : State) (x b t : Nat) (probs : List Nat) : State :=
  let c := s.ctx x
  let k := s.token x b t
  match gatesOf c probs with
  | none => (((s.putToken x b { k with gated := true }).bump (baseColl + 0x28)).tokenDone x b t).rejudge x b
  | some sel =>
    let s := s.putToken x b { k with gated := true, sel := sel }
    let es := sel.map (·.1)
    let s := if c.fast then s.decideFast x b t es else es.foldl (fun s e => s.decideOne x b t e true) s
    (s.tokenDone x b t).rejudge x b

/-! ## Packets -/

/-- A batch opens its slot, and the context runs (R219, R323). -/
def State.openBatch (s : State) (x b : Nat) : State :=
  let c := s.ctx x
  let s := if c.state = .armed then s.setCtx x { c with state := .running } else s
  if ((s.ctx x).batch b).isSome then s
  else
    let s := s.openSlot x b
    s.setCtx x { s.ctx x with batches := (s.ctx x).batches ++ [{ b := b }] }

/-- A MOE_DISPATCH from a member is taken (R323): once whole, the token is posted to core t mod e. -/
def State.tokenPart (s : State) (x b : Nat) (pkt : Pkt) : State :=
  let c := s.ctx x
  let s := s.openBatch x b
  let t := pkt.hdr.msg
  let k := s.token x b t
  let k := { k with parts := k.parts ++ [(pkt.hdr.offset / 2 ^ 16, pkt.payload)] }
  let whole := covered k.parts 0 c.tokenBytes
  let s := s.putToken x b { k with whole := whole }
  if !whole then s
  else
    let cores := s.ctxCores x
    s.postItem (cores.getD (t % max cores.length 1) 0)
      { kind := 2, ctx := x, chunk := b, first := t, count := c.tokenBytes, src := pkt.hdr.src, cells := k.image c.tokenBytes }

/-- MOE_DISPATCH (R222 with R323). -/
def State.dispatchIn (s : State) (p : Nat) (pkt : Pkt) : State :=
  if !s.sw.delivered.contains (p, pkt) || pkt.hdr.type ≠ 0x10 then s
  else
    let s := s.taken p pkt
    let h := pkt.hdr
    let c := s.ctx h.ctx
    let b := c.resolve h.chunk
    let live := (c.state = .armed || c.state = .running) && c.job == h.job && c.op == 5 && !c.standby
    let m := c.locals.idxOf h.src
    let off := h.offset / 2 ^ 16
    let shape := h.offset % 2 ^ 16 == 0 && off % 4096 == 0 && h.msg < c.batchTokens && off < c.tokenBytes
      && pkt.payload.length == packetLen c.tokenBytes (off / 4096)
    if live && m < c.locals.length && shape && m == h.msg / c.tpm && s.windowEnd c ≤ b then (s.bump (ctxReg h.ctx 0x14)).sendStatus h 0x21
    else
      let (s, ok) := s.acceptTracked p h
      if !ok then s
      else if !live then (s.bump (baseColl + 0x10)).failedStatus h
      else if c.locals.length ≤ m then s.bump (baseColl + 0x10)
      else if !shape || m ≠ h.msg / c.tpm then s.bump (baseColl + 0x14)
      else
        let old := match c.batch b with
          | some y => (y.token h.msg).finished || (y.token h.msg).gated || covered (y.token h.msg).parts off 1
          | none => b < c.h || c.freedAbove.contains b
        if old then s.bump (ctxReg h.ctx 0x18) else s.tokenPart h.ctx b pkt

/-- The addend of a return (R251): the exact product, bits below 2^-149 rounded to nearest even. -/
def gateProduct (g : Nat) (y : Dec) : Dec :=
  match (fp32.decode g).mul y with
  | .fin sg m e => if e < -149 then (let n := roundAt .rne m e (-149); if n = 0 then .zero sg else .fin sg n (-149)) else .fin sg m e
  | d => d

/-- Elements of a return are combined, weighted by the gate (R330, R251, R252). -/
def Ctx.addReturn (c : Ctx) (k : Token) (g a cnt : Nat) (l : List (Nat × List Byte)) : Token :=
  { k with entries := (List.range cnt).foldl (fun es i =>
      let y := rowElem (fun o => (byteIn l o).getD 0) c.inF c.dim 0 (a + i)
      Tbl.put {} es (a + i) (c.combine (Tbl.get {} es (a + i)) 0 (gateProduct g y) 0)) k.entries }

/-- An accepted return packet is combined: at once, or when the image's scales are here. -/
def State.returnPart (s : State) (x b : Nat) (pkt : Pkt) : State :=
  let c := s.ctx x
  let t := pkt.hdr.msg
  let e := pkt.hdr.offset % 2 ^ 16
  let off := pkt.hdr.offset / 2 ^ 16
  let k := s.token x b t
  let g := ((k.sel.find? (fun z => z.1 == e)).map (·.2)).getD 0
  let old := k.entries
  let w := fmtBits c.inF
  let k := { k with rets := (e, off) :: k.rets, retBytes := k.retBytes ++ [(e, off, pkt.payload)] }
  let mine := (k.retBytes.filter (fun r => r.1 == e)).map (fun r => (r.2.1, r.2.2))
  let k :=
    if !isMx c.inF then c.addReturn { k with retBytes := [] } g (off * 8 / w) (pkt.payload.length * 8 / w) [(off, pkt.payload)]
    else if covered mine 0 c.tokenBytes then c.addReturn { k with retBytes := k.retBytes.filter (fun r => r.1 != e) } g 0 c.dim mine
    else k
  ((s.putToken x b k).countAddends (c.tokenUnit b t) old k.entries).tokenDone x b t

/-- A return reaches its batch's slot; a spilled one is read back first (R257). -/
def State.toBatch (s : State) (x b : Nat) (pkt : Pkt) : State :=
  let c := s.ctx x
  match c.slot b with
  | none => s.returnPart x b pkt
  | some z =>
    let n := s.coll.useCtr
    let s := { s with coll := { s.coll with useCtr := n + 1 } }
    if 0 < z.spilled then s.setCtx x (c.putSlot { z with reading := true, lastUse := n, waiting := z.waiting ++ [pkt] })
    else (s.setCtx x (c.putSlot { z with lastUse := n })).returnPart x b pkt

/-- A spilled slot has been read back: its blocks are on die again, and its waiting packets go on (R257). A context whose slot
holds an uncorrectable block fails with ERR_DATA (R228); the row brings a good one. -/
def State.readBack (s : State) (x k : Nat) : State :=
  let c := s.ctx x
  match c.slot k with
  | none => s
  | some z =>
    if !z.reading then s
    else
      let s := (s.roomFor x k).bumpBy (martenReg z.unit 0x1C) z.spilled
      let c := s.ctx x
      let s := s.setCtx x (c.putSlot { z with reading := false, waiting := [], onDie := z.onDie + z.spilled, spilled := 0 })
      z.waiting.foldl (fun s pkt => if c.op = 5 then s.toBatch x k pkt else s.toSlot x k (c.locals.idxOf pkt.hdr.src) pkt) s

/-- MOE_RETURN (R222 with R330). -/
def State.returnIn (s : State) (p : Nat) (pkt : Pkt) : State :=
  if !s.sw.delivered.contains (p, pkt) || pkt.hdr.type ≠ 0x11 then s
  else
    let s := s.taken p pkt
    let (s, ok) := s.acceptTracked p pkt.hdr
    if !ok then s
    else
      let h := pkt.hdr
      let c := s.ctx h.ctx
      let b := c.resolve h.chunk
      let e := h.offset % 2 ^ 16
      let off := h.offset / 2 ^ 16
      let k := s.token h.ctx b h.msg
      if !((c.state = .armed || c.state = .running) && c.job == h.job && c.op == 5) then (s.bump (baseColl + 0x10)).failedStatus h
      else if !k.accepted.contains e then s.bump (baseColl + 0x30)
      else if s.replica c b h.msg e ≠ h.src then s.bump (baseColl + 0x10)
      else if off % 4096 ≠ 0 || c.tokenBytes ≤ off || pkt.payload.length ≠ packetLen c.tokenBytes (off / 4096) then s.bump (baseColl + 0x14)
      else if k.finished || k.rets.contains (e, off) then s.bump (ctxReg h.ctx 0x18)
      else s.toBatch h.ctx b pkt

/-- An MOE context at its DEADLINE: one with no open batch and nothing unacknowledged has done all its work (log 22). -/
def State.moeExpire (s : State) (x : Nat) : State :=
  let c := s.ctx x
  if c.state = .running && c.batches.isEmpty && !s.ctxOpenPkts x (fun _ => true) then s.setCtx x { c with state := .done }
  else s.ctxExpire x

/-! ## Embedding lookups -/

/-- Open items of a core. -/
def State.openItems (s : State) (c : Nat) : Nat := (s.core c).items.length

/-- EMB_LOOKUP (R332, R317): refused where its job does not own the table, else posted to the attached core with the fewest open
items, the lower number on a tie. -/
def State.lookupIn (s : State) (p : Nat) (pkt : Pkt) : State :=
  if !s.sw.delivered.contains (p, pkt) || pkt.hdr.type ≠ 0x14 then s
  else
    let s := s.taken p pkt
    let h := pkt.hdr
    let t : EmbTable := Tbl.get {} s.coll.embs h.ctx
    if t.job = 0 || t.job ≠ h.job then (s.bump (baseColl + 0x38)).sendStatus h 0x22
    else
      let cores := t.cores.filterMap s.physOf
      match bestBy (fun a b => s.openItems a < s.openItems b) cores with
      | none => s
      | some c => s.postItem c { kind := 3, ctx := h.ctx, first := h.msg, count := pkt.payload.length, src := h.src, cells := pkt.payload }

end Sys2Proof.Machine
end

