-- ==== Sys2Proof/Machine/SettRun.lean ====
section
/-! DEFINITION. The mover (R307–R309), the engine ports' reads and pushes (R305, R312, R324) and the end, faults and timers of a
program (R306, R313). -/

namespace Sys2Proof.Machine

/-! ## Checks of a mover command (R308) -/

/-- Fields of a mover command (R307). -/
structure MovCmd where
  opc : Nat := 0
  space : Nat := 0
  local_ : Nat := 0
  len : Nat := 0
  ctx : Nat := 0
  remote : Nat := 0
  chunk : Nat := 0
  list : Nat := 0
  ndst : Nat := 0
  deriving DecidableEq, Repr

/-- A mover command read from its eight words (R307). -/
def movCmd (w : List Nat) : MovCmd :=
  let g := fun (i : Nat) => w.getD i 0
  { opc := bits (g 0) 0 4, space := bits (g 0) 4 4, local_ := bits (g 1) 0 23, len := bits (g 2) 0 24, ctx := bits (g 3) 0 12,
    remote := bits (g 4) 0 32 + bits (g 5) 0 16 * 2 ^ 32, chunk := g 6, list := bits (g 7) 0 23, ndst := bits (g 7) 23 9 }

/-- The binding of a core. -/
def State.bindOf (s : State) (c : Nat) : Binding := match s.bindingOf (s.core c).binding with | some (_, b) => b | none => {}

/-- The STATE region that the core's epilogue binding reaches (R319). -/
def State.epiRegion (s : State) (c : Nat) : Option Nat :=
  match (s.core c).user with
  | some x => if (s.bindOf c).kind = 1 then s.regionOf (s.ctx x).stateH else none
  | none => none

/-- Every byte lies in a READY region of the job, one that takes PUTs of the binding where the command is one (R308, R319, R346). -/
def State.movReach (s : State) (c : Nat) (wr : Bool) (o n : Nat) : Bool :=
  let job := (s.bindOf c).job
  let ok := fun (a : Nat) => match s.regionAt a with
    | some i =>
      let r := s.region i
      r.job == job && r.state = .ready && (!wr || r.settWr || s.epiRegion c == some i)
    | none => false
  -- regions are whole frames, so it is enough to look once in each frame
  ok o && ok (o + (n - 1)) && (List.range (n / frameSize + 1)).all (fun i => o / frameSize * frameSize + i * frameSize ≤ o ||
    o + n ≤ o / frameSize * frameSize + i * frameSize || ok (o / frameSize * frameSize + i * frameSize))

/-- The open SEGMENT item of the core for that context and chunk: its slot's interval. -/
def State.segItem (s : State) (c x k : Nat) : Option (Item × EpiSeg) :=
  match (s.core c).items.find? (fun i => i.kind == 1 && i.ctx == x && i.chunk == k) with
  | some i =>
    match (s.ctx x).slot k with
    | some z => (z.epi.find? (fun e => e.lo == i.first)).map (fun e => (i, e))
    | none => none
  | none => none

/-- Status of GET and PUT as they start; 0 when they may move (R308). -/
def State.movCheck (s : State) (c : Nat) (k : MovCmd) : Nat :=
  let x := s.core c
  let al := k.local_ % 64 == 0 && k.len % 64 == 0 && k.remote % 64 == 0 && 64 ≤ k.len && k.len ≤ sramSize
  if 3 < k.space || !al || sramSize < k.local_ + k.len then 0x11
  else if k.space = 0 then (if s.movReach c (k.opc = 2) k.remote k.len then 0 else 0x22)
  else if k.space = 1 then (if x.spillMib * 2 ^ 20 < k.remote + k.len then 0x21 else 0)
  else if k.space = 2 then
    (if x.user == some k.ctx && (s.bindOf c).kind == 1 && (s.segItem c k.ctx k.chunk).isSome then 0 else 0x22)
  else (match x.items.find? (fun i => i.handle == k.chunk && (i.kind == 2 || i.kind == 3)) with | some _ => 0 | none => 0x22)

/-- A byte of a space beyond what the item holds: the spec gives none (log 6). -/
def State.freeByte (s : State) (i : Nat) : Byte := BitVec.ofNat 8 (Config.freeNat (s.freeCtr + i) % 256)

/-- The bytes of a segment as SPACE 2 shows them, FP32 in element order (R308, R224). -/
def segBytes (e : EpiSeg) : List Byte := e.vals.flatMap (fun v => leBytes 4 v.v)

/-! ## Moving -/

/-- The mover's command is at work with this outcome, and its bytes are counted (R316). -/
def State.movRun (s : State) (c : Nat) (q : QCmd) (status bytes : Nat) : State :=
  let x := s.core c
  let s := s.setCore c { x with movQ := x.movQ.drop 1, mov := some { cmd := q, status := status, bytes := bytes } }
  if bytes = 0 then s else s.bump64 (settReg c 0x390) bytes

/-- An uncorrectable tier line is met by a mover (R309, R351): an epilogue's STATE read fails its context with ERR_DATA (R225). -/
def State.movUe (s : State) (c l : Nat) : State :=
  let s := s.meetUe l
  match s.regionAt (64 * l), s.epiRegion c, (s.core c).user with
  | some i, some r, some x => if i = r then s.failCtx x 0x50 .data else s
  | _, _, _ => s

/-- Tier lines [o, o + n) go to local address `a`, but for uncorrectable ones (R309): bytes moved and whether one failed. -/
def State.getLines (s : State) (c o a n : Nat) : State × Nat × Bool :=
  let bad := s.mem.ue.filter (fun l => o / 64 ≤ l && l < (o + n) / 64)
  let lines := (List.range (n / 64)).filter (fun i => !bad.contains (o / 64 + i))
  let w := lines.map (fun i => (a + 64 * i, s.memRead (o + 64 * i) 64))
  let s := s.setCore c ((s.core c).wr w)
  (bad.foldl (fun s l => s.movUe c l) s, 64 * lines.length, !bad.isEmpty)

/-- GET (R307–R309); a command with a reserved OPC completes here, with BAD_PARAM (R308). -/
def State.movGet (s : State) (c : Nat) : State :=
  match (s.core c).movNext with
  | none => s
  | some q =>
    let k := movCmd q.words
    if 2 ≤ k.opc && k.opc ≤ 4 then s
    else
      let st := if k.opc = 1 then s.movCheck c k else 0x11
      if st ≠ 0 then s.movRun c q st 0
      else if k.space = 0 then
        let (s, n, bad) := s.getLines c k.remote k.local_ k.len
        s.movRun c q (if bad then 0x50 else 0) n
      else
        let x := s.core c
        let (bytes, s) :=
          if k.space = 1 then ((List.range k.len).map (fun i => Tbl.get 0 x.spill (k.remote + i)), s)
          else
            let src := if k.space = 2 then (match s.segItem c k.ctx k.chunk with | some (_, e) => segBytes e | none => [])
                       else (match x.items.find? (fun i => i.handle == k.chunk && (i.kind == 2 || i.kind == 3)) with | some i => i.cells | none => [])
            let part := (src.drop k.remote).take k.len
            let pad := k.len - part.length
            (part ++ (List.range pad).map s.freeByte, { s with freeCtr := s.freeCtr + pad })
        (s.setCore c (x.wr [(k.local_, bytes)])).movRun c q 0 k.len

/-- PUT writes the lines of local SRAM that are good to the remote space (R307–R309); `bad` lists the local lines, by address ÷ 64,
that read as uncorrectable. -/
def State.putLines (s : State) (c : Nat) (k : MovCmd) (bad : List Nat) : State :=
  let x := s.core c
  let lines := (List.range (k.len / 64)).filter (fun i => !bad.contains (k.local_ / 64 + i))
  let line := fun (i : Nat) => (List.range 64).map (fun j => x.rd (k.local_ + 64 * i + j))
  if k.space = 0 then
    let s' := lines.foldl (fun s i => s.memWrite (k.remote + 64 * i) (line i)) s
    if !s.mirroredAt k.remote then s'
    -- R427: an epilogue's ranges are recorded against its chunk, any other write goes to the partner
    else if x.kind = 1 then
      match x.user, x.items.find? (fun i => i.kind == 1) with
      | some y, some i => s'.setCtx y { s'.ctx y with ranges := (s'.ctx y).ranges ++ lines.map (fun j => (i.chunk, k.remote + 64 * j, 64)) }
      | _, _ => s'
    else lines.foldl (fun s i => s.mirrorWrite (k.remote + 64 * i) (line i) none) s'
  else if k.space = 1 then
    s.setCore c { x with spill := lines.foldl (fun m i => Tbl.putMany 0 m (k.remote + 64 * i) (line i)) x.spill }
  else if k.space = 2 then
    let y := s.ctx k.ctx
    match s.segItem c k.ctx k.chunk, y.slot k.chunk with
    | some (i, _), some z =>
      let put := fun (e : EpiSeg) => if e.lo = i.first then { e with out := lines.foldl (fun m j => Tbl.putMany 0 m (k.remote + 64 * j) (line j)) e.out } else e
      s.setCtx k.ctx (y.putSlot { z with epi := z.epi.map put })
    | _, _ => s
  else
    let put := fun (i : Item) =>
      if i.handle = k.chunk && (i.kind = 2 || i.kind = 3) then
        { i with cells := lines.foldl (fun (l : List Byte) j =>
            (List.range l.length).map (fun a => if k.remote + 64 * j ≤ a && a < k.remote + 64 * j + 64 then (line j).getD (a - (k.remote + 64 * j)) 0 else l.getD a 0)) i.cells }
      else i
    s.setCore c { x with items := x.items.map put }

/-- PUT. -/
def State.movPut (s : State) (c : Nat) (bad : List Nat) : State :=
  match (s.core c).movNext with
  | none => s
  | some q =>
    let k := movCmd q.words
    if k.opc ≠ 2 then s
    else
      let st := s.movCheck c k
      if st ≠ 0 then s.movRun c q st 0
      else
        let met := bad.filter (fun l => k.local_ / 64 ≤ l && l < (k.local_ + k.len) / 64)
        (s.putLines c k met).movRun c q (if met.isEmpty then 0 else 0x50) (k.len - 64 * met.eraseDups.length)

/-- GATHER (R307–R309). -/
def State.movGather (s : State) (c : Nat) : State :=
  match (s.core c).movNext with
  | none => s
  | some q =>
    let k := movCmd q.words
    if k.opc ≠ 3 then s
    else
      let a := k.remote % 2 ^ 23
      let offs := (List.range k.len).map (fun i => rdNat (s.core c).rd (a + 8 * i) 8)
      if k.space ≠ 0 || k.len = 0 || 131072 < k.len || k.local_ % 64 ≠ 0 || k.remote % 64 ≠ 0 || sramSize < k.local_ + 64 * k.len
          || sramSize < k.remote + 8 * k.len || !offs.all (· % 64 == 0) then s.movRun c q 0x11 0
      else if !offs.all (fun o => s.movReach c false o 64) then s.movRun c q 0x22 0
      else
        let (s, n, bad) := (List.range k.len).foldl (fun (z : State × Nat × Bool) i =>
          let (s, m, b) := z.1.getLines c (offs.getD i 0) (k.local_ + 64 * i) 64
          (s, z.2.1 + m, z.2.2 || b)) (s, 0, false)
        s.movRun c q (if bad then 0x50 else 0) n

/-- One packet of SEND leaves: a request that the core issues is awaited (R592), and an embedding core's replies are counted (R335). -/
def State.sendFrom (s : State) (c : Nat) (pkt : Pkt) (deadline : Option Nat) (mc : Nat) : State :=
  let h := pkt.hdr
  let ask := fun (k : AskKind) (s : State) =>
    { s with st := { s.st with asks := s.st.asks ++ [{ kind := k, dst := h.dst, ctx := h.ctx, chunk := h.chunk, msg := h.msg, pkt := pkt,
                                                       sentAt := s.clk, core := some c }] } }
  let s := if h.type = 0x02 then ask .read s else if h.type = 0x14 then ask .lookup s else s
  let s := if (s.core c).kind = 3 && h.type = 0x15 then s.bump (baseColl + 0x34)
           else if (s.core c).kind = 3 && h.type = 0x04 then s.bump (baseColl + 0x38) else s
  s.sendCopy pkt (.sett (coreDen c)) deadline mc

/-- SEND (R307, R308): the header's VER, SRC, JOB, SEQ and deadline are the mover's own. -/
def State.movSend (s : State) (c : Nat) : State :=
  match (s.core c).movNext with
  | none => s
  | some q =>
    let k := movCmd q.words
    if k.opc ≠ 4 then s
    else
      let x := s.core c
      let h := Hdr.ofWords ((List.range 8).map (fun i => rdNat x.rd (k.local_ + 4 * i) 4))
      let payload := (List.range k.len).map (fun i => x.rd (k.local_ + 32 + i))
      let dsts := if k.ndst = 0 then [h.dst] else (List.range k.ndst).map (fun i => rdNat x.rd (k.list + 2 * i) 2 % 2 ^ 14)
      if 3 < k.space || k.remote ≠ 0 || 4096 < k.len || 64 < k.ndst || sramSize < k.local_ + 32 + k.len || sramSize < k.list + 2 * k.ndst
          || !typeOk h.type h.tc then s.movRun c q 0x11 0
      else
        let dl := match x.user with | some u => if x.kind = 1 || x.kind = 2 then some (s.ctx u).deadline else none | none => none
        let hd : Hdr := { type := h.type, tc := h.tc, src := s.ownId, job := (s.bindOf c).job, len := k.len, offset := h.offset, ctx := h.ctx,
                          chunk := h.chunk, msg := h.msg, deadline := stampOf (dl.getD 0) }
        -- several destinations: one chain and a list (R151)
        let (id, s) := if dsts.length ≤ 1 then (0, s) else s.newId
        let s := dsts.foldl (fun s d => s.sendFrom c { hdr := { hd with dst := d }, payload := payload } dl (2 * id)) s
        s.movRun c q 0 (32 + k.len)

/-- The mover's command completes (R305, R309, R316). -/
def State.movDone (s : State) (c : Nat) : State :=
  match (s.core c).mov with
  | none => s
  | some r =>
    let s := (s.setCore c { s.core c with mov := none }).postMov c r.cmd r.status r.bytes
    if r.status = 0x50 then s.bump (settReg c 0x3AC) else s

/-! ## POP reads (R305) -/

/-- A completion FIFO moves its oldest record into its record area: the record, the rest and what the read returned. -/
def popRec (q : List (List Nat)) (area : List Nat) : List Nat × List (List Nat) × Nat :=
  match q with
  | r :: rest => (r, rest, 1)
  | [] => (area, [], 0)

/-- ACOMP_POP. -/
def State.acompPop (s : State) (c : Nat) : State :=
  let x := s.core c
  let (a, q, v) := popRec x.acompQ x.acomp
  s.setCore c { x with acomp := a, acompQ := q, popped := v }

/-- VSUM_POP. -/
def State.vsumPop (s : State) (c : Nat) : State :=
  let x := s.core c
  let (a, q, v) := popRec x.vsumQ x.vsum
  s.setCore c { x with vsum := a, vsumQ := q, popped := v }

/-- MCOMP_POP. -/
def State.mcompPop (s : State) (c : Nat) : State :=
  let x := s.core c
  let (a, q, v) := popRec x.mcompQ x.mcomp
  s.setCore c { x with mcomp := a, mcompQ := q, popped := v }

/-- INBOX_POP. -/
def State.inboxPop (s : State) (c : Nat) : State :=
  let x := s.core c
  let (a, q, v) := popRec x.inboxQ x.inbox
  s.setCore c { x with inbox := a, inboxQ := q, popped := v }

/-! ## Faults of a program (R306) -/

/-- A program halts on a fault: cause, PC and trap value recorded, SETT_PROG_FAULT raised, the binding's other cores halted, and a
context it serves failed (R225, R331). -/
def State.progFault (s : State) (c cause pc tval : Nat) : State :=
  let x := s.core c
  if !x.live then s
  else
    let s := s.setCore c { x with faultCause := cause % 256, faultPc := pc % 2 ^ 64, faultTval := tval % 2 ^ 64 }
    let s := s.coreEventAt c fSettProg (pc % 2 ^ 64) [x.binding, cause % 256]
    let s := s.haltCore c
    let s := s.haltBinding x.binding
    match x.user with
    | some u => if x.kind = 1 || x.kind = 2 then s.failCtx u 0xFF .epilogue else s
    | none => s

/-! ## OUTBOX (R305, R312, R324) -/

/-- An OUTBOX item of KIND 1: the segment's output stands in the slot's blocks, and the rings or the result carry it (R224). -/
def State.segFinished (s : State) (c n : Nat) : State :=
  let x := s.core c
  match x.item n with
  | none => s
  | some i =>
    if i.kind ≠ 1 || !x.live then s
    else
      let s := s.setCore c (x.dropItem n)
      let y := s.ctx i.ctx
      match y.slot i.chunk with
      | none => s
      | some z =>
        match z.epi.find? (fun e => e.lo == i.first) with
        | none => s
        | some e =>
          let f := y.outF
          let n := e.vals.length
          let body := (List.range (rowData f n)).map (fun a => Tbl.get 0 e.out a)
          let sc := rowBytes f n - rowData f n
          let spans := [(e.lo * fmtBits f / 8, body)]
            ++ (if isMx f then [(rowData f (y.elemsOf i.chunk) + e.lo / 32, (List.range sc).map (fun a => Tbl.get 0 e.out (rowData f n + a)))] else [])
            ++ (if y.mask then [(rowBytes f (y.elemsOf i.chunk) + e.lo / 8, packMask (e.vals.map (·.pres)))] else [])
          let z := { z with fins := z.fins ++ spans, epi := z.epi.filter (fun e => e.lo != i.first) }
          (s.setCtx i.ctx (y.putSlot z)).advance i.ctx i.chunk

/-- An OUTBOX item of KIND 2 releases a TOKEN or LOOKUP item and its cells (R312). -/
def State.itemRelease (s : State) (c n : Nat) : State :=
  let x := s.core c
  match x.item n with
  | some i => if x.live && (i.kind = 2 || i.kind = 3) then s.setCore c (x.dropItem n) else s
  | none => s

/-- The control core halts with a cause, PC and trap value that no rule states (log 6). -/
def State.haltFree (s : State) (c : Nat) : State :=
  { s with freeCtr := s.freeCtr + 3 }.progFault c (Config.freeNat s.freeCtr) (Config.freeNat (s.freeCtr + 1)) (Config.freeNat (s.freeCtr + 2))

/-- An OUTBOX item of KIND 3, DISPATCH (R324): the probability row is copied and the dispatch unit takes the token; one that names no
open TOKEN item halts the program (R306). -/
def State.dispatchOut (s : State) (c : Nat) (w : List Nat) : State :=
  let x := s.core c
  let g := fun (i : Nat) => w.getD i 0
  let n := bits (g 0) 16 16
  if !x.live then s
  else match x.item n with
    | some i =>
      if i.kind ≠ 2 || i.ctx ≠ bits (g 1) 0 12 || i.chunk % 2 ^ 32 ≠ g 2 || i.first ≠ g 3 then s.haltFree c
      else
        let a := bits (g 4) 0 23
        let probs := (List.range ((s.ctx i.ctx).nexp)).map (fun e => rdNat x.rd (a + 4 * e) 4)
        (s.setCore c (x.dropItem n)).gateToken i.ctx i.chunk i.first probs
    | none => s.haltFree c

/-! ## End and timers -/

/-- A write to EXIT ends the program on its core (R313). -/
def State.progExit (s : State) (c code : Nat) : State :=
  let x := s.core c
  if !x.live then s
  else (s.setCore c { x with exitCode := code % 2 ^ 32, array := none, vec := none, mov := none }).endCore c .exited

/-- CYCLE reaches TIMER: event 4 is raised, and a core in WFI wakes (R305). -/
def State.timerExpiry (s : State) (c : Nat) : State :=
  let x := s.core c
  if x.live then s.setCore c { x with timerEv := true, st := x.woken 4 } else s

/-- An attached core has not written EXIT within 100 µs of STOP: it is halted, and the halt raises nothing (R313). -/
def State.stopTimeout (s : State) (c : Nat) : State := if (s.core c).stopping then s.haltCore c else s

end Sys2Proof.Machine
end

