-- ==== Sys2Proof/Machine/Cmd.lean ====
section
/-! DEFINITION. The command interpreter: replies (R367–R369, R373, R375, R402), the checks of R380 in order, the timing classes
(R381–R384), slots (R370–R372) and commands from the fabric (R374, R375). -/

namespace Sys2Proof.Machine

/-! ## Device, job and life-cycle states -/

/-- DEV_STATE code (R377). -/
def DevState.code : DevState → Nat
  | .off => 0
  | .boot => 1
  | .wipe => 2
  | .config => 3
  | .ready => 4
  | .active => 5

/-- JOB_STATE code (R379). -/
def State.jobState (s : State) (j : Nat) : Nat :=
  if j = 0 then 2
  else match s.jobValid j, Tbl.get none s.partPend j with
    | v, some p => if p.entry.valid then (if v then 2 else 1) else (if v then 3 else 0)
    | true, none => 2
    | false, none => 0

/-- Overlays active, by bit: TRAIN, SERVE, INSTRUMENT, MAINT (R386). -/
def State.overlays (s : State) : Nat := maskOf 4 (fun k => (Tbl.get none s.cfg.active (k + 1)).isSome)

/-- Instrument features are permitted: SERVICE, or the INSTRUMENT overlay outside RETIRED (R470). -/
def State.instrument (s : State) : Bool := s.sec.lc == 3 || ((s.overlays).testBit 2 && s.sec.lc != 4)

/-- Keeper serves commands from this source (R377, R460, R498, R499, R507). -/
def State.serves (s : State) (src : Src) : Bool :=
  let fabric := match src with | .slot _ => false | .fabric _ => true
  2 ≤ s.dev.code && s.box.stage == .idle && !s.power.inReset && s.power.pstate != 3 && !(fabric && s.power.pstate == 2)
    && (match src with | .slot n => n < 256 && s.fld (slotReg n 0) 12 1 == 1 | .fabric _ => true)

/-! ## Replies -/

/-- What a command answers with: status, short result, result block, ERR_WORD; for a LONG command that goes on, what its work
carries along (R367, R382). -/
structure Ans where
  status : Nat := 0
  q : List Nat := []
  block : List Byte := []
  err : Nat := 0xFFFF
  goes : Bool := false
  data : List Nat := []
  work : Work := .plain
  deriving DecidableEq, Repr

/-- A refusal with a status. -/
def Ans.no (status : Nat) : Ans := { status := status }
/-- BAD_PARAM at parameter word `n`. -/
def Ans.bad (n : Nat) : Ans := { status := 0x11, err := n }
/-- OK with a short result. -/
def Ans.ok (q : List Nat) : Ans := { q := q }

/-- The 64 bytes of a reply (R367). -/
def replyBytes (tag status op dev job : Nat) (final : Bool) (progress err resLen : Nat) (q : List Nat) (rseq : Nat) : List Byte :=
  ([tag % 2 ^ 16 + status % 2 ^ 16 * 2 ^ 16, op % 2 ^ 16 + dev * 2 ^ 16 + job * 2 ^ 20 + b2n final * 2 ^ 24,
    progress % 2 ^ 10 + err % 2 ^ 16 * 2 ^ 16, resLen % 2 ^ 12] ++ (List.range 10).map (fun i => q.getD i 0 % 2 ^ 32) ++ [0, rseq]).flatMap (leBytes 4)

/-- The next RSEQ: 1 first, passing over 0 on a wrap (R373). -/
def nextSeq (n : Nat) : Nat := if n + 1 = 2 ^ 32 then 1 else n + 1

/-- Slot `n`. -/
def State.cslot (s : State) (n : Nat) : CmdSlot := Tbl.get {} s.cmd.slots n
/-- The slot becomes `x`. -/
def State.setSlot (s : State) (n : Nat) (x : CmdSlot) : State := { s with cmd := { s.cmd with slots := Tbl.put {} s.cmd.slots n x } }

/-- The last 64 commands of a fabric source (R375). -/
def State.dupsOf (s : State) (e : Nat) : List DupEntry := Tbl.get [] s.cmd.dups e
/-- They become `l`. -/
def State.setDups (s : State) (e : Nat) (l : List DupEntry) : State := { s with cmd := { s.cmd with dups := Tbl.put [] s.cmd.dups e (l.take 64) } }

/-- A CMD_REPLY leaves for an endpoint (R375). -/
def State.sendCmdReply (s : State) (e job : Nat) (bytes : List Byte) : State :=
  s.sendPkt { hdr := { type := 0x21, dst := e, src := s.ownId, job := job, len := bytes.length }, payload := bytes } .keeper none none

/-- A reply goes out on the path of its command (R373, R375). -/
def State.reply (s : State) (src : Src) (tag op job progress : Nat) (final : Bool) (a : Ans) : State :=
  match src with
  | .slot n =>
    let x := s.cslot n
    let seq := nextSeq x.rseq
    let bytes := replyBytes tag a.status op s.dev.code (s.jobState job) final progress a.err a.block.length a.q seq
    let s := s.setSlot n { x with rseq := seq, st := if final then .idle else x.st, bytes := if final then [] else x.bytes, words := if final then [] else x.words }
    let base := s.reg (slotReg n 8) / 4096 * 4096 + s.reg (slotReg n 12) * 2 ^ 32
    let en := s.fld (slotReg n 0) 12 1 = 1
    if !en then s.bump (baseCmd + 0x428)
    else if !s.canMaster then (s.bump (baseCmd + 0x428)).raiseMod mCmdReplyFail
    else
      let s := if a.block.isEmpty then s else s.hostWrite (base + 64) a.block
      let s := s.hostWrite base bytes
      if s.fld (slotReg n 0) 13 1 = 1 then s.signal (s.fld (slotReg n 0) 16 6) else s
  | .fabric e =>
    let seq := nextSeq (Tbl.get 0 s.cmd.frseq e)
    let bytes := replyBytes tag a.status op s.dev.code (s.jobState job) final progress a.err a.block.length a.q seq ++ a.block
    let s := { s with cmd := { s.cmd with frseq := Tbl.put 0 s.cmd.frseq e seq } }
    let s := s.setDups e ((s.dupsOf e).map (fun (d : DupEntry) => if d.tag = tag then { d with reply := bytes, final := final } else d))
    s.sendCmdReply e job bytes

/-- The counter of a final status (R402). -/
def statusCtr (st : Nat) : Nat :=
  baseCmd + (match st with
    | 0 => 0x100 | 0x10 => 0x108 | 0x11 => 0x10C | 0x12 => 0x110 | 0x20 => 0x114 | 0x21 => 0x118 | 0x22 => 0x11C | 0x30 => 0x120
    | 0x40 => 0x124 | 0x41 => 0x128 | 0x50 => 0x12C | 0x60 => 0x130 | _ => 0x134)

/-- The final reply with its PROGRESS: counted by status, the command's P2 buffer given back; AUTH_FAIL raises SEC_FAIL (R384, R402, R441). -/
def State.finalReplyAt (s : State) (progress : Nat) (src : Src) (tag op job : Nat) (a : Ans) : State :=
  let s := if a.status = 0x30 then s.raiseMod mSecFail else s
  let s := (s.bump (statusCtr a.status)).poolGive 0 2 1
  s.reply src tag op job progress true a

/-- The final reply of a command that has not been accepted as LONG. -/
def State.finalReply (s : State) (src : Src) (tag op job : Nat) (a : Ans) : State := s.finalReplyAt 0 src tag op job a

/-! ## Commands that execute -/

/-- The executing command `id`. -/
def State.execOf (s : State) (id : Nat) : Option Exec := s.cmd.execs.find? (fun e => e.id == id)

/-- It becomes `e`. -/
def State.setExec (s : State) (e : Exec) : State :=
  { s with cmd := { s.cmd with execs := s.cmd.execs.map (fun x => if x.id = e.id then e else x) } }

/-- A command's work ends with its final reply (R382, R384): PROGRESS is 1,000 after OK for a LONG command, and else the last sent. After a
power-fail warning it ends without one (R517). -/
def State.execDone (s : State) (id : Nat) (a : Ans) : State :=
  match s.execOf id with
  | none => s
  | some e =>
    let p := if !e.long then 0 else if a.status = 0 then 1000 else e.progress
    let s := { s with cmd := { s.cmd with execs := s.cmd.execs.filter (fun x => x.id != id) } }
    if s.box.stage ≠ .idle && s.box.pfWarn then s else s.finalReplyAt p e.src e.tag e.op e.job a

/-- Executing commands of an opcode that carry the number `n` first in their data: each ends. -/
def State.execsDone (s : State) (op n : Nat) (a : Ans) : State :=
  (s.cmd.execs.filter (fun e => e.op == op && e.data.head? == some n)).foldl (fun s e => s.execDone e.id a) s

/-! ## Opcodes and their checks -/

/-- What the opcode tables say of an opcode (R386–R399). -/
structure OpInfo where
  op : Nat
  lens : Nat → Bool
  /-- Device states, by code. -/
  states : List Nat
  a : Bool := false
  j : Bool := false
  m : Bool := false
  p : Bool := false
  /-- Creates or changes an object of JOB, so it needs VALID and a job that is not halted (R379, R444). -/
  change : Bool := false
  long : Bool := false
  force : Bool := false
  /-- Executed on both members of a formed pair (R425). -/
  mirrored : Bool := false
  /-- Life cycle and overlays permit it (R376, R470). -/
  perm : State → Bool := fun _ => true

/-- A module of the PEERS record (R376, R406). -/
def State.peerListed (s : State) (e : Nat) : Bool :=
  8192 ≤ e && e < 9216 && (match s.pl.peers with | some m => m.testBit (e - 8192) | none => true)

/-- Authority of R376: the source, its job and the opcode's codes. -/
def State.authority (s : State) (i : OpInfo) (c : Cmd) : Bool :=
  let own := match c.src with
    | .slot n =>
      let o := s.fld (slotReg n 0) 0 12
      if o = 0 then i.a || i.j || i.m else c.job = o && (i.a || i.j)
    | .fabric e =>
      if 8192 ≤ e then s.peerListed e && c.job = 0 && (i.a || i.m || i.p) && 1 ≤ s.sec.lc && s.sec.lc ≤ 3
      else if c.job ≠ 0 then i.a || i.j
      else i.a
  own && (i.a || (i.j && c.job ≠ 0) || ((i.m || i.p) && c.job = 0))

/-- The job state permits the opcode (R379, R444). -/
def State.jobPermits (s : State) (i : OpInfo) (c : Cmd) : Bool :=
  if !i.j || c.job = 0 then true
  else
    let v := s.jobState c.job
    (v = 2 || (v = 3 && !i.change)) && !(i.change && s.faults.halted.contains c.job)

/-- Steps 2–6 of R380, and the refusal of R145 for want of P2 buffers: the status of the first that fails. -/
def State.cmdCheck (s : State) (i : OpInfo) (c : Cmd) : Option Nat :=
  if !i.lens c.len || 4096 < c.len then some 0x12
  else if c.rsvSet || (c.force && !i.force) then some 0x11
  else if !i.states.contains s.dev.code || (s.power.pstate = 2 && (i.op / 256 = 5 || i.op / 256 = 7 || i.op / 256 = 0xC)) then some 0x20
  else if !s.authority i c || !i.perm s || (s.sec.lc = 4 && i.op / 256 ≠ 0 && i.op / 256 ≠ 9 && i.op / 256 ≠ 0xB) then some 0x22
  else if !s.jobPermits i c then some 0x20
  else if (match c.src with | .slot _ => c.job ≠ 0 && (s.pool 0 2).level = 3 | .fabric _ => false) then some 0x21
  else none

/-- A command begins to execute: its slot is EXEC, or its fabric source's list holds its TAG; it has its P2 buffer (R372, R375, R384). -/
def State.cmdBegin (s : State) (c : Cmd) : State :=
  match c.src with
  | .slot n =>
    let x := s.cslot n
    if x.st = .exec then s else (s.setSlot n { x with st := .exec, tag := c.tag }).poolUse 0 2 1
  | .fabric e =>
    if (s.dupsOf e).any (fun d => d.tag == c.tag && !d.final) then s else (s.setDups e ({ tag := c.tag } :: s.dupsOf e)).poolUse 0 2 1

/-- The ACCEPTED reply of a LONG command that has passed its checks (R382, R402). -/
def State.accepted (s : State) (i : OpInfo) (c : Cmd) : State :=
  (s.bump (baseCmd + 0x104)).reply c.src c.tag i.op c.job 0 false { status := 1, err := 0xFFFF }

/-- A command whose effect `s` shows ends with `a` (R380, R382, R425): copied to the partner where it is executed on both members, taken among the
executing ones and accepted where its work goes on, else answered. -/
def State.cmdEnd (s : State) (i : OpInfo) (c : Cmd) (a : Ans) : State :=
  let s := if a.status = 0 && i.mirrored && s.pair.st = 2 then s.emit (.mirror i.op [c.tag, c.job] c.params) else s
  if a.status = 0 && a.goes then
    let id := s.cmd.nextExec
    let e : Exec := { id := id, src := c.src, tag := c.tag, op := i.op, job := c.job, quiet := c.quiet, long := i.long, at_ := s.clk,
                      params := c.params, work := a.work, data := a.data }
    let s := { s with cmd := { s.cmd with execs := s.cmd.execs ++ [e], nextExec := id + 1 } }
    if i.long then s.accepted i c else s
  else (if i.long && a.status = 0 then s.accepted i c else s).finalReplyAt (if i.long && a.status = 0 then 1000 else 0) c.src c.tag i.op c.job a

/-- A command runs (R380, R382): refused at the first check that fails, else its body, which does steps 7–11 and the effect. -/
def State.runCmd (s : State) (i : OpInfo) (c : Cmd) (body : State → State × Ans) : State :=
  if !s.serves c.src then s
  else
    let s := s.cmdBegin c
    match s.cmdCheck i c with
    | some st => s.finalReply c.src c.tag i.op c.job (.no st)
    | none => (body s).1.cmdEnd i c (body s).2

/-- Lengths `n`. -/
def lenIs (n : Nat) : Nat → Bool := fun l => l == n

/-- Index of the first parameter word whose check fails. -/
def firstBad (l : List (Nat × Bool)) : Option Nat := (l.find? (fun x => !x.2)).map (·.1)

/-- BAD_PARAM at the first word that fails, else `k`. -/
def Ans.check (s : State) (l : List (Nat × Bool)) (k : State × Ans) : State × Ans :=
  match firstBad l with | some n => (s, .bad n) | none => k

/-- States W C R A, C R A, R A and so on. -/
def stWCRA : List Nat := [2, 3, 4, 5]
def stCRA : List Nat := [3, 4, 5]
def stRA : List Nat := [4, 5]
def stCR : List Nat := [3, 4]
def stR : List Nat := [4]
def stA : List Nat := [5]

/-! ## Slots and packets -/

/-- OPCODE is listed in R386–R399 (R380, step 1). -/
def opKnown (op : Nat) : Bool :=
  let g := op / 256
  let o := op % 256
  decide (o < [5, 4, 5, 2, 7, 8, 7, 10, 4, 7, 3, 4, 8].getD g 0) || (3 ≤ g && g ≤ 5 && o == 0x80)

/-- The bytes of a slot's command up to `n`. -/
def CmdSlot.cmd (x : CmdSlot) (n : Nat) : List Byte := Tbl.range 0 x.bytes 0 n

/-- A slot's command is complete: words 0–3 written, CHECK good, LEN in range and every word of it written (R371). -/
def CmdSlot.complete (x : CmdSlot) : Bool :=
  let h := x.cmd 16
  let len := bits (leWord h 1) 16 13
  [0, 1, 2, 3].all x.words.contains && leWord h 3 == crc32c (h.take 12) && 16 ≤ len && len ≤ 4096
    && (List.range (ceilDiv len 4)).all x.words.contains

/-- A host write to slot `n` at byte `off` (R370–R372). -/
def State.apertureWrite (s : State) (n off : Nat) (l : List Byte) : State :=
  if s.dev.code < 2 || s.box.stage ≠ .idle || 256 ≤ n || 4096 < off + l.length then s
  else
    let x := s.cslot n
    if s.fld (slotReg n 0) 12 1 ≠ 1 || x.st = .exec then s.bump (slotReg n 0x18)
    else
      let ws := (List.range (ceilDiv (off + l.length) 4)).filter (fun w => off ≤ 4 * w && 4 * w + 4 ≤ off + l.length && !x.words.contains w)
      let x := { x with st := .filling, bytes := Tbl.putMany 0 x.bytes off l, words := x.words ++ ws }
      if x.complete then
        let w := leWord (x.cmd 16)
        let s := (s.setSlot n { x with st := .exec, tag := bits (w 1) 0 16 }).poolUse 0 2 1
        if opKnown (bits (w 0) 0 16) then s else s.finalReply (.slot n) (bits (w 1) 0 16) (bits (w 0) 0 16) (bits (w 2) 0 12) (.no 0x10)
      else s.setSlot n x

/-- A slot has been FILLING for FILL_MS (R371). -/
def State.slotFillTimeout (s : State) (n : Nat) : State :=
  let x := s.cslot n
  if x.st ≠ .filling then s
  else
    let h := x.cmd 16
    let w := leWord h
    let tag := if x.words.contains 1 then bits (w 1) 0 16 else 0
    let op := if x.words.contains 0 then bits (w 0) 0 16 else 0
    let job := if x.words.contains 2 then bits (w 2) 0 12 else 0
    let s := (s.bump (baseCmd + 0x138)).setSlot n { x with tag := tag }
    (s.bump (statusCtr 0x12)).reply (.slot n) tag op job 0 true (.no 0x12)

/-- A CMD packet (R374, R375, R145): checked, answered again where it repeats one of the last 64, or taken for execution. -/
def State.cmdPacket (s : State) (p : Nat) (pkt : Pkt) : State :=
  if !s.sw.delivered.contains (p, pkt) || pkt.hdr.type ≠ 0x20 then s
  else
    let s := s.taken p pkt
    let h := pkt.hdr
    let w := leWord pkt.payload
    let e := h.src
    let tag := bits (w 1) 0 16
    let op := bits (w 0) 0 16
    if !s.serves (.fabric e) then s
    else if pkt.payload.length < 16 || w 3 ≠ crc32c (pkt.payload.take 12) then s.bump (baseCmd + 0x138)
    else match (s.dupsOf e).find? (fun d => d.tag == tag) with
      | some d =>
        let s := s.bump (baseCmd + 0x13C)
        if d.reply.isEmpty then s else s.sendCmdReply e h.job d.reply
      | none =>
        let s := (s.setDups e ({ tag := tag } :: s.dupsOf e)).poolUse 0 2 1
        if bits (w 1) 16 13 ≠ pkt.payload.length then s.finalReply (.fabric e) tag op h.job (.no 0x12)
        else if bits (w 2) 0 12 ≠ h.job then s.finalReply (.fabric e) tag op h.job (.no 0x22)
        else if !opKnown op then s.finalReply (.fabric e) tag op h.job (.no 0x10)
        else s

/-- A progress reply falls due (R382): PROGRESS never falls and stays below 1,000; how far the work has come is a free value. -/
def State.progressReply (s : State) (id : Nat) : State :=
  match s.execOf id with
  | none => s
  | some e =>
    if e.quiet || !e.long then s
    else
      let p := min 999 (max e.progress (s.free % 1000))
      (s.used.setExec { e with progress := p }).reply e.src e.tag e.op e.job p false { status := 1 }

/-- The host refuses a reply write (R373). -/
def State.replyRefused (s : State) : State := s.raiseMod mCmdReplyFail

/-- A program staging has had no part for 100 ms (R394). -/
def State.stagingTimeout (s : State) (src : Src) : State :=
  { s with cmd := { s.cmd with staging := s.cmd.staging.filter (fun x => x.src != src) } }

end Sys2Proof.Machine
end

