-- ==== Sys2Proof/Machine/Measure.lean ====
section
/-! DEFINITION. Measurements of images, programs and state (R404, R475), and the copy that Owl reports (R476). -/

namespace Sys2Proof.Machine

/-- The bytes of an image that its signature covers (R404). -/
def signedPart (l : List Byte) : List Byte := l.take (l.length - 96)
/-- The signer's key of an image (R404). -/
def signerOf (l : List Byte) : List Byte := (l.drop (l.length - 96)).take 32
/-- The signature of an image verifies (R404). -/
def signatureOk (l : List Byte) : Bool := Config.ed25519Verify (signerOf l) (signedPart l) (l.drop (l.length - 64))
/-- The measurement of an image (R404, R310). -/
def measureOf (l : List Byte) : List Byte := Config.sha512 (signedPart l)

/-! ## Measurements -/

/-- The bytes of the flash repair record (R279): an entry of three 4-byte words a repair. -/
def State.repairBytes (s : State) : List Byte := s.sett.field.flatMap (fun r => leBytes 4 r.core ++ leBytes 4 r.row ++ leBytes 4 r.spare)

/-- Measurement of a firmware image that runs: of the image written by PLDM, or of the slot as delivered. -/
def State.fwMeasured (s : State) (keeper : Bool) : List Byte :=
  match (s.sec.fw.find? (fun e => e.1 == s.sec.slot)).map (·.2) with
  | some (o, k) => measureOf (if keeper then k else o)
  | none => Config.fwMeasure s.sec.slot (b2n keeper)

/-- Index 9 of R475. -/
def State.stateBlock (s : State) : List Byte :=
  [s.sec.lc, s.sec.lcCtr, s.sec.ctr0, s.sec.ctr1, s.sec.revoke].map (BitVec.ofNat 8 ·) ++ List.replicate 3 0 ++ leBytes 4 s.sec.ownerSeq
    ++ List.replicate 4 0 ++ (match s.sec.owner with | some k => (Config.sha512 k).take 64 | none => List.replicate 64 0)

/-- The measurement blocks in index order (R475). -/
def State.measurements (s : State) : List (List Byte) :=
  let ovr := fun k => match Tbl.get none s.cfg.active k with | some i => measureOf i.bytes | none => []
  let progs := (s.sett.programs.filter (fun e => e.2.present)).flatMap (fun e => leBytes 4 (objHandle e.1 e.2.job e.2.gen) ++ e.2.measurement)
  [Config.bootRomMeasure, s.fwMeasured false, s.fwMeasured true, (match s.cfg.base with | some b => measureOf b.bytes | none => []),
   ovr 1, ovr 2, ovr 3, ovr 4, s.stateBlock, Config.sha512 s.repairBytes, Config.sha512 progs]

/-- Keeper updates the copy that Owl reports (R476). -/
def State.copyMeasures (s : State) : State := { s with sec := { s.sec with meas := s.measurements } }

end Sys2Proof.Machine
end

