-- ==== Sys2Proof/Machine/MemTier.lean ====
section
/-! DEFINITION. The reserved areas of the fast tier (R344), placement of regions on frames (R341, R345), wipes (R346), fences and rebuilds
of a den's tier (R359–R361), maintenance, throttling and scrub (R352–R358), and unclean frames (R512). -/

namespace Sys2Proof.Machine

/-! ## Reserved areas (R344) -/

/-- The POOLS word of a den in effect (R406): 131,072 blocks, 65,536 pages and 8 units where no image names it. -/
def State.poolsWord (s : State) (d : Nat) : Nat := s.cfg.pools.getD d (131072 + 65536 * 2 ^ 21 + 8 * 2 ^ 40)

/-- P1 backing blocks, P3 pages and spill units of a POOLS word. -/
def poolsOf (w : Nat) : Nat × Nat × Nat := (bits w 0 21, bits w 21 18, bits w 40 6)

/-- Ends of the six areas of R344 within a den, each area starting at a 64 KiB boundary: P2 buffers, program store, P1 backing,
escape extension, P3 pages, spill pool. -/
def areaEnds (blocks pages units : Nat) : List Nat :=
  ([16 * 2 ^ 20, 64 * 2 ^ 20, 4096 * blocks, 6144 * (16384 + blocks), 65536 * pages, units * 2 ^ 26].foldl
    (fun (a : Nat × List Nat) n => let e := ceilDiv a.1 65536 * 65536 + n; (e, a.2 ++ [e])) (0, [])).2

/-- Frames that a den's areas take. -/
def areaFrames (blocks pages units : Nat) : Nat := ceilDiv ((areaEnds blocks pages units).getLastD 0) frameSize

/-- Offset of the escape extension within a den's run (R258, R344). -/
def extOffset (blocks pages units : Nat) : Nat := ceilDiv ((areaEnds blocks pages units).getD 2 0) 65536 * 65536

/-- The reserved areas of a den take these sizes, and the den's run becomes `len` frames from logical frame `from_`. -/
def State.setAreas (s : State) (d blocks pages units from_ len : Nat) : State :=
  let s := s.setPool d 1 { s.pool d 1 with size := 16384 + blocks }
  let s := s.setPool d 3 { s.pool d 3 with size := pages }
  let m := s.mem
  { s with mem := { m with rsvFrom := Tbl.put 0 m.rsvFrom d from_, rsvLen := Tbl.put 0 m.rsvLen d len,
                           p1Backing := Tbl.put 0 m.p1Backing d blocks, spillUnits := Tbl.put 0 m.spillUnits d units } }

/-- A den's sizes in proportion to its set of `n` of 64 channels, rounded down (R360). -/
def State.areaSizes (s : State) (d : Nat) : Nat × Nat × Nat :=
  let n := (s.tier d false).setN
  let (b, p, u) := poolsOf (s.poolsWord d)
  (b * n / 64, p * n / 64, u * n / 64)

/-- Every den's areas are laid out, runs packed from the top in descending den order (R344, R412). A fenced tier has none (R361). -/
def State.layAreas (s : State) : State :=
  ([3, 2, 1, 0].foldl (fun (a : State × Nat) d =>
    let (s, top) := a
    let (b, p, u) := s.areaSizes d
    let n := if (s.tier d false).setN = 0 then 0 else areaFrames b p u
    (s.setAreas d b p u (top - n) n, top - n)) (s, 4096)).1

/-- A den's areas are laid out again after a rebuild: the run keeps its highest frame and gives up frames at its low end (R344, R360). -/
def State.relayDen (s : State) (d : Nat) : State :=
  let (b, p, u) := s.areaSizes d
  let n := if (s.tier d false).setN = 0 then 0 else areaFrames b p u
  let top := Tbl.get 0 s.mem.rsvFrom d + Tbl.get 0 s.mem.rsvLen d
  s.setAreas d b p u (top - n) n

/-! ## Frames -/

/-- Frames that a den reserves in a tier. -/
def State.rsvFrames (s : State) (d : Nat) (slow : Bool) : Nat := if slow then 0 else Tbl.get 0 s.mem.rsvLen d

/-- Physical frames of a den's tier that regions hold. -/
def State.usedPhys (s : State) (d : Nat) (slow : Bool) : List Nat :=
  (s.mem.regions.filter (fun e => e.2.slow == slow && e.2.state != .free)).flatMap (fun e =>
    let r := e.2
    if r.place < 4 then (if r.place = d then r.phys else [])
    else ((List.range r.phys.length).filter (fun i => i % 4 == d)).map (fun i => r.phys.getD i 0))

/-- The lowest `n` free physical frames of a den's tier, fewer where fewer are free (R345). The reserved areas hold the lowest ones. -/
def State.freePhys (s : State) (d : Nat) (slow : Bool) (n : Nat) : List Nat :=
  let rsv := s.rsvFrames d slow
  let used := s.usedPhys d slow
  ((List.range (s.physFrames d slow - rsv)).map (· + rsv)).filter (fun f => !used.contains f) |>.take n

/-- Free physical frames of a den's tier (R363). -/
def State.freeFrames (s : State) (d : Nat) (slow : Bool) : Nat := s.physFrames d slow - s.rsvFrames d slow - (s.usedPhys d slow).length

/-- Runs of logical frames in use in a tier: first frame and length. -/
def State.usedRuns (s : State) (slow : Bool) : List (Nat × Nat) :=
  (s.mem.regions.filter (fun e => e.2.slow == slow && e.2.state != .free)).map (fun e => (e.2.frame, e.2.frames))
    ++ (if slow then [] else (List.range 4).map (fun d => (Tbl.get 0 s.mem.rsvFrom d, Tbl.get 0 s.mem.rsvLen d)))

/-- The lowest free run of `n` logical frames, aligned on four when spread (R341, R345): the start is 0 or the end of a run in use. -/
def State.freeRun (s : State) (slow spread : Bool) (n : Nat) : Option Nat :=
  let runs := s.usedRuns slow
  let up := fun x => if spread then ceilDiv x 4 * 4 else x
  let fits := fun x => decide (x + n ≤ s.tierFrames slow) && runs.all (fun r => r.2 == 0 || decide (x + n ≤ r.1) || decide (r.1 + r.2 ≤ x))
  let starts := (0 :: runs.map (fun r => up (r.1 + r.2))).filter fits
  starts.foldl (fun (a : Option Nat) x => match a with | none => some x | some y => some (min x y)) none

/-- Physical frames for a region of `n` frames: of one den, or one per den for each group (R341, R345). -/
def State.physFor (s : State) (slow : Bool) (place n : Nat) : Option (List Nat) :=
  if place < 4 then
    let l := s.freePhys place slow n
    if l.length = n then some l else none
  else
    let g := n / 4
    let ls := (List.range 4).map (fun d => s.freePhys d slow g)
    if ls.all (fun l => l.length == g) then some ((List.range g).flatMap (fun i => ls.map (fun l => l.getD i 0))) else none

/-- Dens whose tier a placement touches. -/
def placeDens (place : Nat) : List Nat := if place < 4 then [place] else [0, 1, 2, 3]

/-- A rebuild of a tier that the placement touches is under way (R360). -/
def State.rebuilding (s : State) (slow : Bool) (place : Nat) : Bool := (placeDens place).any (fun d => (s.tier d slow).rebuild)

/-- A wipe clears the unclean frames that it covers (R512). -/
def State.cleanFrames (s : State) (place : Nat) (phys : List Nat) : State :=
  let covered := fun (d f : Nat) => if place < 4 then d == place && phys.contains f
    else ((List.range phys.length).filter (fun i => i % 4 == d)).any (fun i => phys.getD i 0 == f)
  { s with mem := { s.mem with unclean := s.mem.unclean.filter (fun e => !(covered e.1 e.2)) } }

/-- Slow frames not yet cleared (R512, R520). -/
def State.uncleanCount (s : State) : Nat := s.mem.unclean.length

/-- A slow controller has cleared an unclean frame of its den (R512). -/
def State.frameCleared (s : State) (d f : Nat) : State := { s with mem := { s.mem with unclean := s.mem.unclean.filter (· != (d, f)) } }

/-! ## Regions in use -/

/-- Some context, table or binding that is not FREE names the region (R346). -/
def State.regionNamed (s : State) (i : Nat) : Bool :=
  let h := s.regionHandle i
  s.coll.embs.any (fun e => e.2.region == h && e.2.dim != 0) || s.coll.ctxs.any (fun e => e.2.state != .free && e.2.op != 5 && e.2.stateH == h)

/-- The wipe of a region ends (R346): zeros throughout, and READY or FREE; the LONG command that started it replies. -/
def State.regionWiped (s : State) (i : Nat) : State :=
  let r := s.region i
  if r.state ≠ .wiping then s
  else
    let s := (s.wipeRegion i).cleanFrames r.place (if r.slow then r.phys else [])
    if r.releasing then
      (s.setRegion i { r with state := .free, phys := [], releasing := false }).execsDone 0x0601 i (.ok [])
    else
      let base := r.base
      let s := s.setRegion i { r with state := .ready }
      let s := s.execsDone 0x0600 i (.ok [s.regionHandle i, base % 2 ^ 32, base / 2 ^ 32])
      s.execsDone 0x0602 i (.ok [0, base % 2 ^ 32, base / 2 ^ 32])

/-- A region enters LOST (R346, R360): its contents and physical frames are gone, and a creation or reload in progress fails. -/
def State.regionLost (s : State) (i : Nat) : State :=
  let r := s.region i
  let inside := fun l => decide (r.base ≤ 64 * l) && decide (64 * l < r.base + r.size)
  let s := { s with mem := { s.mem with
      bytes := Tbl.clearWhere s.mem.bytes (fun o => decide (r.base ≤ o) && decide (o < r.base + r.size)),
      ue := s.mem.ue.filter (fun l => !inside l), wcb := s.mem.wcb.filter (fun e => !inside e.line) } }
  let s := s.setRegion i { r with state := if r.releasing then .wiping else .lost, phys := [] }
  if r.state = .wiping && !r.releasing then
    (s.execsDone 0x0600 i (.no 0xFF)).execsDone 0x0602 i (.no 0xFF)
  else s

/-! ## Fences and rebuilds -/

/-- Commands that lose their P2 buffer (R351, R360): one of the aperture ends with INTERNAL, one of the fabric is discarded and may be
sent again. -/
def State.loseCommands (s : State) : State :=
  s.cmd.execs.foldl (fun s e =>
    match e.src with
    | .slot _ => s.execDone e.id (.no 0xFF)
    | .fabric f =>
      let s := { s with cmd := { s.cmd with execs := s.cmd.execs.filter (fun x => x.id != e.id) } }
      (s.setDups f ((s.dupsOf f).filter (fun d => d.tag != e.tag))).poolGive 0 2 1) s

/-- What the fast tier of a den held beside regions is lost (R360): contexts with a slot there fail, deep packets are discarded, P2
buffers, programs and spill areas go. -/
def State.fastLost (s : State) (d : Nat) : State :=
  let hit := fun (c : Ctx) => c.slots.any (fun z => z.unit / 4 == d) || (!c.batches.isEmpty && c.dens.contains d)
  let s := (s.coll.ctxs.filter (fun e => hit e.2)).foldl (fun s e => s.failCtx e.1 0x50 .data) s
  let s := (s.sw.held.filter (fun h => h.den == d && h.deep)).foldl (fun s h => s.lose h h.port 0x078) s
  let s := if d = 0 then s.loseCommands else s
  let s := (s.sett.bindings.filter (fun e => e.2.present)).foldl (fun s e => s.haltBinding (objHandle e.1 e.2.job e.2.gen)) s
  let gone := fun (p : Program) => if p.present then { gen := (p.gen + 1) % 4096 } else p
  let programs := s.sett.programs.map (fun e => (e.1, gone e.2))
  State.copyMeasures { s with sett := { s.sett with programs := programs } }

/-- A den's tier is rebuilt, or fenced whole when too few channels are left (R360, R361). -/
def State.rebuildTier (s : State) (d : Nat) (slow : Bool) : State :=
  let t := s.tier d slow
  let healthy := (below (s.tierChans slow) (fun c => !t.fenced.testBit c)).length
  let n := s.setFor slow healthy
  let hit := s.mem.regions.filter (fun e => e.2.state != .free && e.2.slow == slow && (e.2.place == d || e.2.place == 4))
  let s := hit.foldl (fun s e => s.regionLost e.1) s
  let s := if slow then s else s.fastLost d
  let s := s.setTier d slow { t with setN := n, rebuild := n != 0, tierFenced := n == 0 }
  let s := { s with mem := { s.mem with unclean := if slow then s.mem.unclean.filter (fun e => e.1 != d || decide (e.2 < s.physFrames d slow)) else s.mem.unclean } }
  let s := if slow then s else s.relayDen d
  if n = 0 then
    let s := if slow then s else s.setPool d 2 { s.pool d 2 with size := 0 }
    s.condBegin { word := d, source := fTierFenced, unit := 2 * d + b2n slow, kind := .tier }
  else s

/-- A channel is fenced (R359): the den's set falls, and its tier is rebuilt when the set changes. -/
def State.fenceChan (s : State) (slow : Bool) (c : Nat) : State :=
  let d := c / s.tierChans slow
  let i := c % s.tierChans slow
  let t := s.tier d slow
  if 3 < d || t.fenced.testBit i then s
  else
    let before := s.chanSet d slow
    let s := s.setChan slow c { s.chan slow c with st := 4, forced := false }
    let s := s.setTier d slow { t with fenced := t.fenced + 2 ^ i }
    let s := s.condBegin { word := d, source := fChannelFenced, unit := c, kind := if slow then .slowCh else .fastCh }
    if before.contains i then s.rebuildTier d slow else s

/-- The rebuild of a den's tier is complete (R360). -/
def State.rebuilt (s : State) (d : Nat) (slow : Bool) : State := s.setTier d slow { s.tier d slow with rebuild := false }

/-- A whole tier of a den is fenced (R361, R445). -/
def State.fenceTier (s : State) (d : Nat) (slow : Bool) : State :=
  if (s.tier d slow).tierFenced || 3 < d then s
  else
    let t := s.tier d slow
    (s.setTier d slow { t with fenced := 2 ^ s.tierChans slow - 1 }).rebuildTier d slow

/-! ## Maintenance -/

/-- A channel exists in the variant. -/
def State.chanExists (s : State) (slow : Bool) (c : Nat) : Bool := decide (c < 4 * s.tierChans slow)

/-- The stall of a queue hold counts toward MAX_STALL (R364). -/
def State.stall (s : State) (slow : Bool) (c ns : Nat) : State := s.maxCtr (memReg slow c 0x14) ns

/-- A full retrain starts: the channel's buffer is flushed and its queue held (R358). -/
def State.retrainStart (s : State) (slow : Bool) (c : Nat) (forced : Bool) : State :=
  let s := s.flushChan slow c
  (s.setChan slow c { s.chan slow c with st := 3, forced := forced, heldAt := s.clk }).bump (memReg slow c 0x1C)

/-- A full retrain forced by the module (R358): MEM_RETRAIN, and the den's TC1 flows by R192. -/
def State.forcedRetrain (s : State) (slow : Bool) (c : Nat) : State :=
  if !s.chanExists slow c || (s.chan slow c).st = 3 || (s.chan slow c).st = 4 then s
  else
    let d := c / s.tierChans slow
    let s := (s.retrainStart slow c true).event { word := d, source := fMemRetrain, unit := c, kind := if slow then .slowCh else .fastCh }
    s.tc1DenRisk d true

/-- A full retrain ends: the queue resumes, or the channel is fenced (R358, R359). -/
def State.retrainDone (s : State) (slow : Bool) (c : Nat) (ok : Bool) : State :=
  if (s.chan slow c).st ≠ 3 then s
  else
    let d := c / s.tierChans slow
    let s := s.setChan slow c { s.chan slow c with st := 0, forced := false }
    let s := s.stall slow c (sat32 ((s.clk - (s.chan slow c).heldAt) / 1000))
    let s := s.tc1DenRisk d false
    let s := if ok then s else s.fenceChan slow c
    s.execsDone 0x0605 (1024 * b2n slow + c) (if ok then .ok [] else .no 0xFF)

/-- A per-bank refresh of a channel (R357). -/
def State.bankRefresh (s : State) (slow : Bool) (c : Nat) : State :=
  if !s.chanExists slow c || (s.chan slow c).st = 4 then s
  else s.setChan slow c { s.chan slow c with refreshes := ((s.chan slow c).refreshes + 1) % 2 ^ 32 }

/-- Another channel of the controller group is under calibration or a short retrain (R357). -/
def State.groupBusy (s : State) (slow : Bool) (c : Nat) : Bool :=
  let per := s.tierChans slow / 2
  s.mem.chans.any (fun e => e.1 / 1024 == b2n slow && e.1 % 1024 / per == c / per && e.1 % 1024 != c && (e.2.st == 1 || e.2.st == 2))

/-- Impedance calibration of a channel: a stall of at most 1 µs, taken at the bound (R357). -/
def State.calibrate (s : State) (slow : Bool) (c : Nat) : State :=
  if !s.chanExists slow c || (s.chan slow c).st ≠ 0 || s.groupBusy slow c then s else s.stall slow c (s.free % 1001) |>.used

/-- A short retrain: a stall of at most 2 µs, or, where it does not converge, a forced full retrain (R357, R358). -/
def State.shortRetrain (s : State) (slow : Bool) (c : Nat) (ok : Bool) : State :=
  if !s.chanExists slow c || (s.chan slow c).st ≠ 0 || s.groupBusy slow c then s
  else
    let s := (s.stall slow c (s.free % 2001)).used
    if ok then s else s.forcedRetrain slow c

/-- A line is corrected and written back: CH_CE, and the channel's errors of the present second (R350, R352, R364). -/
def State.lineCorrected (s : State) (o : Nat) : State :=
  let s := s.bumpChan o 0x04
  match s.chanOf o with
  | some (slow, c, _) => s.setChan slow c { s.chan slow c with ceWindow := (s.chan slow c).ceWindow + 1 }
  | none => s

/-- The patrol scrub reads a line of a READY region or of a reserved area (R352): 0 good, 1 a single-symbol error, 2 uncorrectable. A
single-symbol error of an ACT region is uncorrectable (R350); the reserved areas are as WGT or STATE (R344). A line that is
uncorrectable stays so (R350). -/
def State.scrub (s : State) (l res : Nat) : State :=
  if s.fld baseMem 8 1 = 0 then s
  else
    let o := 64 * l
    match s.regionAt o with
    | none =>
      if o < s.tierFrames false * frameSize && (s.rsvDen (o / frameSize)).isSome then
        (if res = 1 then s.lineCorrected o else if res = 2 then s.meetUe l else s)
      else s
    | some i =>
      let r := s.region i
      if r.state ≠ .ready then s
      else if s.mem.ue.contains l then s.meetUe l
      else if res = 0 then s
      else if res = 1 && r.type ≠ 0 then (s.lineCorrected o).bump (baseMem + 0x10000 + 0x20 * i + 0x14)
      else
        let s := { s with mem := { s.mem with ue := l :: s.mem.ue } }
        s.meetUe l

/-- Each second, corrected errors of a channel against CE_TH (R352). -/
def State.ceWindow (s : State) (slow : Bool) (c : Nat) : State :=
  let x := s.chan slow c
  let d := c / s.tierChans slow
  let ovr := s.fld baseMem 16 16 < x.ceWindow
  let s := s.setChan slow c { x with ceWindow := 0 }
  if ovr && s.chanExists slow c then s.event { word := d, source := fMemCeRate, unit := c, kind := if slow then .slowCh else .fastCh } else s

/-- The throttle step for a reading, with 3 °C of hysteresis on the way down (R356). -/
def stepFor (cur t : Nat) : Nat :=
  let up := if 105 ≤ t then 3 else if 95 ≤ t then 2 else if 85 ≤ t then 1 else 0
  if cur ≤ up then up
  else
    let hold := fun k => decide ((if k = 3 then 105 else if k = 2 then 95 else 85) ≤ t + 2)
    ([3, 2, 1].find? (fun k => decide (k ≤ cur) && hold k)).getD 0 |> max up

/-- One tier's temperature is sampled (R356): MEM_HOT while the step is 2 or 3, MEM_OVERTEMP at 110 °C. -/
def State.tierTemp (s : State) (d : Nat) (slow : Bool) (t : Nat) : State :=
  let x := s.tier d slow
  let n := stepFor x.step t
  let s := s.setTier d slow { x with temp := t, step := n }
  let e : Event := { word := d, source := fMemHot, unit := 2 * d + b2n slow, kind := .tier }
  let s := if 2 ≤ n then s.condBegin e else s.condEnd d fMemHot (2 * d + b2n slow)
  if 110 ≤ t then s.condBegin { e with source := fMemOvertemp } else s.condEnd d fMemOvertemp (2 * d + b2n slow)

/-- Stack and LP6 temperatures of a den are sampled (R356). -/
def State.memTemp (s : State) (d stack lp6 : Nat) : State := if 3 < d then s else (s.tierTemp d false stack).tierTemp d true lp6

/-- A write-combining entry has reached WCB_AGE (R353). -/
def State.wcbAge (s : State) (l : Nat) : State := match s.wcbOf l with | some e => s.wcbFlush e | none => s

end Sys2Proof.Machine
end

