-- ==== Sys2Proof/Machine/MemCmd.lean ====
section
/-! DEFINITION. Memory and region commands (R345, R346, R392, group 0x06), the end of a bulk transfer (R351, R392, R546), and host accesses through
BAR4 (R544, R545). -/

namespace Sys2Proof.Machine

/-- The protected regions' mirroring holds in a formed pair only (R345, R425). -/
def State.paired2 (s : State) : Bool := s.pair.st == 2

/-! ## Region commands -/

/-- REGION_CREATE (R345, R346, R392): the generation advances with the reuse of an index, and the record starts afresh (R365). -/
def State.regionCreate (s : State) (c : Cmd) : State :=
  let w := c.p 0
  let slow := bit w 0
  let place := bits w 3 3
  let prot := bit w 9
  let n := bits (c.p 1) 0 24
  let i : OpInfo := { op := 0x0600, lens := lenIs 24, states := stA, j := true, change := true, long := true, mirrored := prot }
  s.runCmd i c (fun s =>
    Ans.check s [(0, bits w 1 2 < 3 && place < 5 && bits w 10 22 == 0),
                 (1, 1 ≤ n && bits (c.p 1) 24 8 == 0 && (place != 4 || n % 4 == 0)), (0, c.job != 0)] (
      if prot && !s.paired2 then (s, .no 0x20)
      else if s.rebuilding slow place then (s, .no 0x20)
      else
        match (List.range 4096).find? (fun k => (s.region k).state == .free), s.freeRun slow (place == 4) n, s.physFor slow place n with
        | some k, some f, some ph =>
          let g := if (s.region k).job = 0 then 0 else ((s.region k).gen + 1) % 256
          let r : Region := { state := .wiping, type := bits w 1 2, slow := slow, place := place, prot := prot, fabWr := bit w 6, fabRd := bit w 7,
                              settWr := bit w 8, job := c.job, gen := g, frame := f, frames := n, phys := ph }
          let s := (s.setRegion k r).setCtr (baseMem + 0x10000 + 0x20 * k + 0x14) 0
          (s.setCtr (baseMem + 0x10000 + 0x20 * k + 0x18) 0, { goes := true, data := [k] })
        | _, _, _ => (s, .no 0x21)))

/-- A region handle's checks of R380, steps 7 and 8: BAD_PARAM where it is stale, NOT_OWNER where the region is another job's. -/
def State.withRegion (s : State) (c : Cmd) (k : Nat → State × Ans) : State × Ans :=
  match s.regionOf (c.p 0) with
  | none => (s, .bad 0)
  | some i => if (s.region i).job ≠ c.job then (s, .no 0x22) else k i

/-- REGION_RELEASE (R346, R392): wiped, then free; a LOST region passes through WIPING with nothing to write. The
record keeps its fields until the index is used again (R365). -/
def State.regionRelease (s : State) (c : Cmd) : State :=
  let prot := match s.regionOf (c.p 0) with | some i => (s.region i).prot | none => false
  s.runCmd { op := 0x0601, lens := lenIs 20, states := stA, j := true, long := true, mirrored := prot } c (fun s =>
    s.withRegion c (fun i =>
      let r := s.region i
      if (r.state ≠ .ready && r.state ≠ .lost) || s.regionNamed i then (s, .no 0x20)
      else
        let r' : Region := { r with state := .wiping, releasing := true }
        let s := s.flushWhere (fun e => decide (r.base ≤ 64 * e.line) && decide (64 * e.line < r.base + r.size))
        (s.setRegion i r', { goes := true, data := [i] })))

/-- REGION_RELOAD (R346, R392): a LOST region on free physical frames of the present sets, at its old base. -/
def State.regionReload (s : State) (c : Cmd) : State :=
  let prot := match s.regionOf (c.p 0) with | some i => (s.region i).prot | none => false
  s.runCmd { op := 0x0602, lens := lenIs 20, states := stA, j := true, change := true, long := true, mirrored := prot } c (fun s =>
    s.withRegion c (fun i =>
      let r := s.region i
      if r.state ≠ .lost || s.rebuilding r.slow r.place || (r.prot && !s.paired2) then (s, .no 0x20)
      else match s.physFor r.slow r.place r.frames with
        | none => (s, .no 0x21)
        | some ph => (s.setRegion i { r with state := .wiping, phys := ph }, { goes := true, data := [i] })))

/-- RSTAT of a region (R365). -/
def Region.stat (r : Region) : Nat :=
  let st := match r.state with | .free => 0 | .wiping => 1 | .ready => 2 | .lost => 3
  st + r.type * 8 + b2n r.slow * 32 + b2n (r.place == 4) * 64 + (if r.place < 4 then r.place else 0) * 128 + b2n r.prot * 512 + b2n r.fabWr * 1024
    + b2n r.fabRd * 2048 + b2n r.settWr * 4096 + r.job * 65536

/-- The seven words of a region's record (R365). -/
def State.regionRecord (s : State) (i : Nat) : List Nat :=
  let r := s.region i
  let base := if r.job = 0 then 0 else r.base
  let a := baseMem + 0x10000 + 0x20 * i
  [r.stat, if r.job = 0 then 0 else s.regionHandle i, base % 2 ^ 32, base / 2 ^ 32, r.frames, s.ctr (a + 0x14), s.ctr (a + 0x18)]

/-- REGION_QUERY (R392). -/
def State.regionQuery (s : State) (c : Cmd) : State :=
  s.runCmd { op := 0x0603, lens := lenIs 20, states := stA, j := true } c (fun s => s.withRegion c (fun i => (s, .ok (s.regionRecord i))))

/-! ## Flushes and retrains -/

/-- MEM_FLUSH of one channel (R353, R392). -/
def State.memFlush (s : State) (c : Cmd) : State :=
  let slow := bit (c.p 0) 9
  let ch := bits (c.p 0) 0 9
  s.runCmd { op := 0x0604, lens := lenIs 20, states := stRA, m := true } c (fun s =>
    Ans.check s [(0, bits (c.p 0) 11 21 == 0 && s.chanExists slow ch)] (s.flushChan slow ch, .ok []))

/-- MEM_FLUSH of every channel of a tier (R392). -/
def State.memFlushAll (s : State) (c : Cmd) : State :=
  let slow := bit (c.p 0) 9
  s.runCmd { op := 0x0604, lens := lenIs 20, states := stRA, m := true } c (fun s =>
    Ans.check s [(0, bits (c.p 0) 11 21 == 0)]
      (s.flushWhere (fun e => match s.chanOf (64 * e.line) with | some (sl, _, _) => sl == slow | none => false), .ok []))

/-- A retrain of a channel of den `d` breaks an admitted bound: t_mem taken as 150 µs (R192). -/
def State.retrainBreaks (s : State) (d : Nat) : Bool :=
  s.flows.any (fun f => f.outDen == d && f.phase == .committed && !f.revoked && f.admits
    && decide (f.dReq < (if 192 ≤ f.port then f.bound - 2350 + 150000
        else f.bound - f.hopBound + s.hopBound f.ingress f.port (s.aggregate f.port f.job none) 0 150000)))

/-- MEM_RETRAIN (R192, R358, R392). -/
def State.memRetrain (s : State) (c : Cmd) : State :=
  let slow := bit (c.p 0) 9
  let ch := bits (c.p 0) 0 9
  s.runCmd { op := 0x0605, lens := lenIs 20, states := stRA, m := true, long := true, force := true } c (fun s =>
    Ans.check s [(0, bits (c.p 0) 10 22 == 0 && s.chanExists slow ch)] (
      let d := ch / s.tierChans slow
      if (s.chan slow ch).st = 3 || (s.chan slow ch).st = 4 then (s, .no 0x20)
      else if !c.force && s.retrainBreaks d then (s, .no 0x21)
      else
        let s := s.retrainStart slow ch false
        let s := if c.force then s.tc1DenRisk d true else s
        (s, { goes := true, data := [1024 * b2n slow + ch] })))

/-! ## Bulk transfers -/

/-- A Sett window lies wholly under the range, and its core is IDLE (R348). -/
def State.windowCore (s : State) (o n : Nat) : Option (Nat × Nat) :=
  match settWindow s.visMax o with
  | some (v, a) => if a + n ≤ 2 ^ 23 then (match s.physOf v with | some c => some (c, a) | none => none) else none
  | none => none

/-- Access of job 0 or of the host to a range (R347, R348). -/
def State.checkHost (s : State) (o n : Nat) : Access :=
  match s.windowCore o n with
  | some (c, _) => if (s.core c).st = .idle then .ok else .stateReject
  | none =>
    if (settWindow s.visMax o).isSome && (settWindow s.visMax (o + n - 1)).map (·.1) == (settWindow s.visMax o).map (·.1) then .badParam
    else s.checkAny s.visMax o n

/-- Bytes of a checked range, from region memory or a Sett window. -/
def State.anyRead (s : State) (o n : Nat) : List Byte :=
  match s.windowCore o n with
  | some (c, a) => (List.range n).map (fun i => (s.core c).rd (a + i))
  | none => s.memRead o n

/-- Bytes written to a checked range; a protected region's write goes to the partner too (R426). -/
def State.anyWrite (s : State) (o : Nat) (l : List Byte) : State :=
  match s.windowCore o l.length with
  | some (c, a) => s.setCore c ((s.core c).wr [(a, l)])
  | none =>
    let s' := s.memWrite o l
    if s.mirroredAt o then s'.mirrorWrite o l none else s'

/-- Checks common to both directions of BULK_XFER (R392). A JOB other than 0 needs its own READY region. -/
def State.bulkCheck (s : State) (c : Cmd) (k : State → State × Ans) : State × Ans :=
  let n := c.p64 5
  let o := c.p64 2
  Ans.check s [(0, c.p64 0 % 64 == 0), (3, o < 2 ^ 48), (4, bits (c.p 4) 1 31 == 0), (5, n % 64 == 0 && n ≤ 2 ^ 40)] (
    if n = 0 then k s
    else if c.job = 0 then
      match s.checkHost o n with
      | .ok => k s
      | a => (s.accViol o 0, .no a.status)
    else if s.reservedRange s.visMax o n then (s.accViol o c.job, .no 0x11)
    else match s.regionSpan o n with
      | none => (s.accViol o c.job, .no 0x22)
      | some i =>
        if (s.region i).job ≠ c.job then (s.accViol o c.job, .no 0x22)
        else if (s.region i).state ≠ .ready then (s.accViol o c.job, .no 0x20)
        else k s)

/-- The opcode row of BULK_XFER (R392). -/
def bulkInfo : OpInfo := { op := 0x0606, lens := lenIs 44, states := stRA, j := true, m := true, long := true }

/-- BULK_XFER from host memory to the module: the bus-master read is issued (R392, R546). -/
def State.bulkToModule (s : State) (c : Cmd) : State :=
  s.runCmd bulkInfo c (fun s => Ans.check s [(4, !bit (c.p 4) 0)] (s.bulkCheck c (fun s =>
    (if s.canMaster then s.emit (.hostRead (c.p64 0) (c.p64 5)) else s, { goes := true, data := [] }))))

/-- BULK_XFER from the module to host memory (R392). -/
def State.bulkToHost (s : State) (c : Cmd) : State :=
  s.runCmd bulkInfo c (fun s => Ans.check s [(4, bit (c.p 4) 0)] (s.bulkCheck c (fun s => (s, { goes := true, data := [] }))))

/-- The end of a bulk transfer (R351, R392): bytes from the host are written, or bytes of the module go to the host up to the first
uncorrectable line. -/
def State.bulkDone (s : State) (id : Nat) (data : List Byte) : State :=
  match s.execOf id with
  | none => s
  | some e =>
    if e.op ≠ 0x0606 then s
    else
      let host := leWord e.params 0 + leWord e.params 1 * 2 ^ 32
      let o := leWord e.params 2 + leWord e.params 3 * 2 ^ 32
      let n := leWord e.params 5 + leWord e.params 6 * 2 ^ 32
      let ok : Ans := .ok [n % 2 ^ 32, n / 2 ^ 32]
      if bit (leWord e.params 4) 0 then
        let win := (s.windowCore o n).isSome
        match (if win then none else s.ueIn o n) with
        | some l =>
          let s := s.meetUe l
          let m := 64 * l - o
          (if m = 0 then s else s.hostWrite host (s.anyRead o m)).execDone id (.no 0x50)
        | none => (if n = 0 then s else s.hostWrite host (s.anyRead o n)).execDone id ok
      else
        let l := data.take n
        if l.length < n then s
        else ((if n = 0 then s else s.anyWrite o l).bump64 (baseCmd + 0x410) n).execDone id ok

/-- A bus-master read is refused or not completed in 10 ms: the transfer or image load ends with INTERNAL (R546). -/
def State.masterReadFails (s : State) (id : Nat) : State :=
  match s.execOf id with
  | none => s
  | some e => if e.op = 0x0606 || e.op = 0x0100 || e.op = 0x0101 then s.execDone id (.no 0xFF) else s

/-! ## BAR4 -/

/-- Module offset of a BAR4 access (R544). -/
def State.bar4Offset (s : State) (w : Nat) : Nat := bits (s.reg (baseCmd + 0x400) + s.reg (baseCmd + 0x404) * 2 ^ 32) 30 18 * 2 ^ 30 + w

/-- BAR4 accesses are served: outside HIBERNATE and resets, with memory (R545, R549). -/
def State.bar4Serves (s : State) : Bool := s.host.linkUp && 2 ≤ s.dev.code && s.power.pstate != 3 && !s.power.inReset

/-- A refused host access (R545). -/
def State.bar4Refuse (s : State) (o : Nat) : State := (s.bump (baseCmd + 0x420)).accViol o 0

/-- A host read through BAR4 (R545). -/
def State.bar4Read (s : State) (w n : Nat) : State :=
  if !s.bar4Serves || n = 0 then s
  else
    let o := s.bar4Offset w
    match s.checkHost o n with
    | .ok =>
      match (if (s.windowCore o n).isSome then none else s.ueIn o n) with
      | some l => (s.meetUe l).emit (.completionErr 4)
      | none => s.emit (.completion (s.anyRead o n))
    | _ => (s.bar4Refuse o).emit (.completionErr 1)

/-- A host write through BAR4 (R545). -/
def State.bar4Write (s : State) (w : Nat) (l : List Byte) (poisoned : Bool) : State :=
  if !s.bar4Serves || l.isEmpty then s
  else if poisoned then (s.bump (baseCmd + 0x424)).raiseMod mPcieErr
  else
    let o := s.bar4Offset w
    match s.checkHost o l.length with
    | .ok => s.anyWrite o l
    | _ => s.bar4Refuse o

end Sys2Proof.Machine
end

