-- ==== Sys2Proof/Machine/CollCmd.lean ====
section
/-! DEFINITION. Commands of contexts, placement tables and embedding tables (R202–R211, R228, R319–R322, R332, group 0x05 of R391), and the
relaying of context commands to the other leaves (R207, R385). -/

namespace Sys2Proof.Machine

/-! ## The shape of a context at this leaf -/

/-- The group of a descriptor (R204). With PKG_INTERNAL a package is one member, by its lowest CHIP value (R203). -/
def groupSlice (desc : List Nat) : Slice :=
  let w1 := bits (desc.getD 2 0) 0 27
  let w1 := if bit (desc.getD 0 0) 25 then setBits w1 3 6 0 else w1
  sliceOf w1 (desc.getD 3 0)

/-- Index of a rack value among a descriptor's values. -/
def indexIn (l : List Nat) (v : Nat) : Nat := (l.findIdx (· == v))

/-- What a descriptor means at this leaf (R202, R206, R215): members, ranks, rings, leaves and dens. -/
def State.ctxShape (s : State) (desc : List Nat) : Ctx :=
  let g := groupSlice desc
  let mem := s.groupMembers g
  let xs := descVals g.x (some s.pl.x)
  let ys := descVals g.y (some s.pl.y)
  let own := (List.range mem.length).filter (fun r => chipRack (mem.getD r 0) == (s.pl.rx, s.pl.ry))
  let locals := own.map (fun r => mem.getD r 0)
  let dens := [0, 1, 2, 3].filter (fun d => locals.any (fun e => match s.downPort e with | some p => denOf p == d | none => false))
  { desc := desc, deadline := desc.getD 6 0 + desc.getD 7 0 * 2 ^ 32, seed := desc.getD 8 0 + desc.getD 9 0 * 2 ^ 32,
    locals := locals, ranks := own, m := mem.length, nx := xs.length, ny := ys.length, px := indexIn xs s.pl.rx, py := indexIn ys s.pl.ry,
    ringX := xs.map (fun x => s.leafAt x s.pl.ry), ringY := ys.map (fun y => s.leafAt s.pl.rx y),
    leaves := ys.flatMap (fun y => xs.map (fun x => s.leafAt x y)), dens := if dens.isEmpty then [0] else dens, binding := desc.getD 10 0 }

/-- Combinations of R210 and R211. -/
def comboOk (op red fi fo : Nat) : Bool :=
  if op = 2 || op = 3 || op = 4 then red == 0 && fo == fi && fi ≤ 11
  else if op = 5 then red == 0 && fi ≤ 8 && fo ≤ 7
  else if red = 0 then (fi ≤ 8 && fo ≤ 7) || ((fi == 9 || fi == 10) && fo == 10)
  else if red = 1 then (fi ≤ 2 && fo ≤ 2) || (fi == 10 && fo == 10)
  else if red = 2 || red = 3 then ((fi ≤ 2 || fi == 9 || fi == 10) && (fo == fi || fo == 0)) || (3 ≤ fi && fi ≤ 8 && fo ≤ 2)
  else fi == 11 && fo == 11

/-- ELEMS by operation (R210, R320). -/
def elemsOk (c : Ctx) : Bool :=
  let n := c.elems
  let m := max c.m 1
  1 ≤ n && (c.op != 1 || (n % m == 0 && (!isMx c.inF || n % (32 * m) == 0))) && (c.op != 4 || n % m == 0)
    && (c.op != 5 || n == c.tpm * c.dim)

/-- The binding that EPI_PROG names and its kind (R312). -/
def State.epiBinding (s : State) (c : Ctx) : Option Binding := (s.bindingOf (c.w 10)).map (·.2)

/-- Checks of a descriptor at any leaf by parameter word (R204, R205, R210, R211, R319, R320, R321). -/
def State.descChecks (s : State) (c : Ctx) : List (Nat × Bool) :=
  let w := c.w
  let g := sliceOf (w 2) (w 3)
  let moe := c.op == 5
  let pt : PlaceTable := Tbl.get {} s.coll.tables c.place
  [(0, c.op ≤ 5 && c.red ≤ 5 && comboOk c.op c.red c.inF c.outF && (c.tc == 1 || c.tc == 2) && bits (w 0) 27 5 == 0
        && ((12 ≤ c.clog && c.clog ≤ 19) || (moe && c.clog == 0)) && !(moe && (c.mask || c.pkg))),
   (1, 1 ≤ c.job && 1 ≤ c.win && c.win ≤ 64 && c.epiCores ≤ 16 && 1 ≤ c.stepUs
        && (c.epiCores == 0 || moe || (c.op ≤ 1 && c.red == 0)) && (!moe || 1 ≤ c.epiCores)),
   (2, bits (w 2) 27 5 == 0 && s.sliceOk g),
   (3, bit (w 3) 31 == false && (c.op == 3 || c.root == 0) && (c.op != 3 || c.root < c.m)),
   (2, s.sliceIn g (s.part c.job).slice && c.locals.length ≤ 128),
   (4, elemsOk c), (5, bits (w 5) 8 24 == 0),
   (6, s.domainNow < c.deadline),
   (10, if c.epiCores = 0 then w 10 == 0 else match s.epiBinding c with | some b => b.kind == (if moe then 2 else 1) | none => false),
   (11, if c.epiCores = 0 || moe then w 11 == 0
        else match s.regionOf (w 11) with | some i => (s.region i).type == 2 && (s.region i).job == c.job | none => false),
   (12, if moe then c.topk ≤ min 8 c.nexp && 1 ≤ c.topk && bits (w 12) 15 17 == 0 else w 12 == 0),
   (13, if moe then 1 ≤ c.dim && 1 ≤ c.cap else w 13 == 0),
   (14, if moe then bits (w 14) 24 8 == 0 && c.locals.length * c.tpm ≤ 65536 && (match pt.experts with | some n => n == c.nexp | none => false)
        else w 14 == 0),
   (15, w 15 == 0)]

/-- Blocks of a context's claim in den `d` (R206): slot i of W lies where chunk i does; the batch slots of an MOE context lie in all dens of
D alike, as their tokens do (R321, R331). -/
def Ctx.claimIn (c : Ctx) (d : Nat) : Nat :=
  if c.op = 5 then (if c.dens.contains d then ceilDiv (c.win * c.blocks) c.dens.length else 0)
  else ((List.range c.win).filter (fun i => c.unit i / 4 == d)).length * c.blocks

/-- Blocks of claims held in den `d`, the golden session's among them (R535). -/
def State.claimed (s : State) (d : Nat) : Nat :=
  s.coll.ctxs.foldl (fun n e => if e.2.state ≠ .free then n + e.2.claimIn d else n)
    (if s.inst.golden.en && s.inst.golden.claimDen = d then s.inst.golden.claim else 0)

/-- A context number may be given out: FREE, not held by R209, and of the member that serves it while a paired module runs alone
(R422, R436). -/
def State.ctxFree (s : State) (x : Nat) : Bool :=
  (s.ctx x).state == .free && !(s.ctx x).busyHold && !(s.inst.golden.en && s.inst.golden.ctxNo == x + 1) && (!s.pl.paired || s.pairCtx || x % 2 == s.pl.member)

/-- The lowest such number from `x` up. -/
def State.ctxPick (s : State) (x : Nat) : Option Nat := ((List.range (4096 - x)).map (· + x)).find? (fun k => s.ctxFree k)

/-- With TC = 1 the job holds an admitted flow on each egress of the context at this leaf (R205). -/
def State.tc1Paths (s : State) (c : Ctx) : Bool :=
  let on := fun p => s.flows.any (fun f => f.job == c.job && f.port == p && f.phase == .committed && !f.revoked)
  c.tc != 1 ||
    (c.locals.all (fun e => match s.downPort e with | some p => on p | none => false)
      && (c.nx ≤ 1 || (s.dirPorts 0).any on && (s.dirPorts 1).any on) && (c.ny ≤ 1 || (s.dirPorts 2).any on && (s.dirPorts 3).any on))

/-- The reservations of R206 that fail at this leaf: the first item's number, 0 where none does. -/
def State.ctxItem (s : State) (c : Ctx) : Nat :=
  let free := s.freeCores c.job
  let mib := match s.epiBinding c with
    | some b => (match s.programOf b.program with | some (_, p) => imgField p.image 20 4 | none => 0)
    | none => 0
  if c.dens.any (fun d => (s.pool d 1).level == 3) then 3
  else if c.dens.any (fun d =>
      let b := Tbl.get 0 s.mem.p1Backing d
      (if b = 0 then 16384 else b) < s.claimed d + c.claimIn d) then 4
  else if free.length < c.epiCores || !s.spillFits ((free.take c.epiCores).filterMap s.physOf) mib then 5
  else if !s.tc1Paths c then 6
  else 0

/-- The context is held at this leaf: RESERVING, record cleared, its cores attached (R206, R208, R231, R312). -/
def State.ctxHold (s : State) (x : Nat) (c : Ctx) (coord : Bool) : State :=
  let cores := (s.freeCores c.job).take c.epiCores
  -- R422: in a formed pair the other member of CTX mod 2 holds it on standby, its cores taking no items
  let standby := s.pl.paired && s.pair.st == 2 && x % 2 != s.pl.member
  let s := s.setCtx x { c with state := .reserving, cores := cores, coord := coord, standby := standby }
  let s := ((s.setCtr (ctxReg x 0x14) 0).setCtr (ctxReg x 0x18) 0)
  if cores.isEmpty then s else s.startCores cores c.binding x true

/-- A held context is committed (R207, R208). -/
def State.ctxCommit (s : State) (x : Nat) : State := if (s.ctx x).state = .reserving then s.setCtx x { s.ctx x with state := .armed } else s

/-- A context becomes FREE: its cores receive STOP, its blocks and results go, and its number is held back (R208, R209). -/
def State.ctxFreed (s : State) (x : Nat) (hold : Bool) : State :=
  let c := s.ctx x
  let s := (c.slots ++ c.kept).foldl (fun s z => s.slotGive c z.chunk) s
  let s := s.stopCores c.cores
  s.setCtx x { c with state := .free, slots := [], batches := [], results := [], cores := [], busyHold := hold, noticesLeft := 0, kept := [],
                      ranges := [], standby := false }

/-- A reservation is released before or after its commit (R207, R385). -/
def State.ctxUnhold (s : State) (x : Nat) : State :=
  let c := s.ctx x
  if c.state = .reserving || c.state = .armed then
    let s := (c.cores.filterMap s.physOf).foldl (fun s k => s.setCore k (s.core k).released) s
    (s.setCtx x { c with cores := [] }).ctxFreed x false
  else s

/-- A context is armed again with a new DEADLINE and SEED (R209). -/
def State.ctxRearmed (s : State) (x deadline seed : Nat) : State :=
  let c := s.ctx x
  let s := c.kept.foldl (fun s z => s.slotGive c z.chunk) s
  s.setCtx x { c with state := .armed, kept := [], ranges := [], deadline := deadline, seed := seed, h := 0, freedAbove := [], slots := [], results := [], batches := [], g := 0, peerG := [],
                      status := 0, cause := .none_, pathLost := false }

/-- An abort (R228): status OK, cause ABORT. -/
def State.ctxAborted (s : State) (x : Nat) : State := s.failCtx x 0 .abort

/-- The held-back number may be given out again once 16 ms have passed since the release and the old DEADLINE (R209). -/
def State.ctxHoldOver (s : State) (x : Nat) : State := if (s.ctx x).busyHold then s.setCtx x { s.ctx x with busyHold := false } else s

/-! ## Relaying -/

/-- A CTX_PEER command goes to each of the leaves (R207, R391). -/
def State.relay (s : State) (leaves : List Nat) (words : List Nat) (owner : Option Nat) : State :=
  leaves.foldl (fun s m => s.sendPeer m 0x0580 words owner false) s

/-- The number that the next executing command will have. -/
def State.nextExecId (s : State) : Nat := s.cmd.nextExec

/-- A refused creation: RESOURCE_BUSY with the leaf and item that failed (R205, R391). -/
def State.createBusy (s : State) (leaf item : Nat) : State × Ans :=
  (s.bump (baseColl + 0x18), { status := 0x21, q := [0, leaf + item * 65536] })

/-- CTX_CREATE at the coordinating leaf (R205–R207, R385, R391). -/
def State.ctxCreate (s : State) (c : Cmd) : State :=
  let desc := (List.range 16).map c.p
  s.runCmd { op := 0x0500, lens := lenIs 80, states := stA, j := true, change := true, mirrored := true } c (fun s =>
    let x := s.ctxShape desc
    let first := (s.groupMembers (groupSlice desc)).head?.getD 0
    Ans.check s (s.descChecks x ++ [(2, chipRack first == (s.pl.rx, s.pl.ry) && !s.pl.spine)]) (
      if x.job ≠ c.job then (s, .no 0x22)
      else if (match s.epiBinding x with | some b => x.epiCores != 0 && b.job != c.job | none => false) then (s, .no 0x22)
      else if x.op = 5 && (Tbl.get ({} : PlaceTable) s.coll.tables x.place).job ≠ c.job then (s, .no 0x22)
      else match s.ctxPick 0 with
        | none => s.createBusy s.ownId 1
        | some k =>
          let item := s.ctxItem x
          if item ≠ 0 then s.createBusy s.ownId item
          else
            let s := s.ctxHold k x true
            let others := x.leaves.filter (· != s.ownId)
            if others.isEmpty then (s.ctxCommit k, .ok [k])
            else
              let s := s.relay others ([0, k] ++ desc) (some s.nextExecId)
              (s, { goes := true, data := [k, 0], work := .relay others [] })))

/-- The context that a command names, with its checks of R380, steps 7 to 9. -/
def State.withCtx (s : State) (c : Cmd) (extra : List (Nat × Bool)) (legal : CtxState → Bool) (k : Nat → State × Ans) : State × Ans :=
  let x := c.p 0
  Ans.check s ((0, x < 4096) :: extra) (
    let y := s.ctx x
    if y.state ≠ .free && y.job ≠ c.job then (s, .no 0x22)
    else if !legal y.state then (s, .no 0x20)
    else k x)

/-- Every other leaf of the context's group, where this leaf must coordinate (R385). -/
def State.otherLeaves (s : State) (x : Nat) : List Nat := (s.ctx x).leaves.filter (· != s.ownId)

/-- A command of a group with several leaves must go to the leaf of the member of rank 0 (R385). -/
def State.mustCoord (s : State) (c : Cmd) : Bool := (s.ctx (c.p 0)).state == .free || (s.ctx (c.p 0)).leaves.length ≤ 1 || (s.ctx (c.p 0)).coord

/-- CTX_REARM (R209, R391). -/
def State.ctxRearm (s : State) (c : Cmd) : State :=
  s.runCmd { op := 0x0501, lens := lenIs 36, states := stA, j := true, change := true, mirrored := true } c (fun s =>
    s.withCtx c [(0, s.mustCoord c), (1, s.domainNow < c.p64 1)] (fun st => st == .done) (fun x =>
      let others := s.otherLeaves x
      if others.isEmpty then (s.ctxRearmed x (c.p64 1) (c.p64 3), .ok [])
      else (s.relay others [3, x, c.p 1, c.p 2, c.p 3, c.p 4] (some s.nextExecId), { goes := true, data := [x, 3], work := .relay others [] })))

/-- CTX_RELEASE (R208, R209, R391). -/
def State.ctxRelease (s : State) (c : Cmd) : State :=
  s.runCmd { op := 0x0502, lens := lenIs 20, states := stA, j := true, mirrored := true } c (fun s =>
    s.withCtx c [(0, s.mustCoord c)] (fun st => st == .done || st == .failed) (fun x =>
      let others := s.otherLeaves x
      if others.isEmpty then (s.ctxFreed x true, .ok [])
      else (s.relay others [4, x] (some s.nextExecId), { goes := true, data := [x, 4], work := .relay others [] })))

/-- CTX_ABORT (R228, R391). -/
def State.ctxAbort (s : State) (c : Cmd) : State :=
  s.runCmd { op := 0x0503, lens := lenIs 20, states := stA, j := true, mirrored := true } c (fun s =>
    s.withCtx c [(0, s.mustCoord c)] (fun st => st == .armed || st == .running) (fun x =>
      let others := s.otherLeaves x
      if others.isEmpty then (s.ctxAborted x, .ok [])
      else (s.relay others [5, x] (some s.nextExecId), { goes := true, data := [x, 5], work := .relay others [] })))

/-- Code of a context's state (R208). -/
def CtxState.code : CtxState → Nat
  | .free => 0
  | .reserving => 1
  | .armed => 2
  | .running => 3
  | .done => 4
  | .failed => 5

/-- The eight words of a context's record (R231). -/
def State.ctxRecord (s : State) (x : Nat) : List Nat :=
  let c := s.ctx x
  let spill := c.slots.foldl (fun n z => n + z.spilled) 0
  [c.state.code + c.job * 16 + c.op * 2 ^ 16 + c.red * 2 ^ 20 + b2n c.fast * 2 ^ 24 + b2n c.empty * 2 ^ 25 + b2n c.sat * 2 ^ 26,
   c.status + c.cause.code * 2 ^ 16, c.h % 2 ^ 32, c.failChunk % 2 ^ 32,
   c.failCount % 256 + (c.failRank.getD 0 % 8192) * 256 + b2n c.failRank.isSome * 2 ^ 21,
   s.ctr (ctxReg x 0x14), s.ctr (ctxReg x 0x18), c.slots.length % 128 + min spill 65535 * 65536]

/-- CTX_QUERY (R391). -/
def State.ctxQuery (s : State) (c : Cmd) : State :=
  s.runCmd { op := 0x0504, lens := lenIs 20, states := stA, j := true } c (fun s =>
    Ans.check s [(0, c.p 0 < 4096)] (
      let y := s.ctx (c.p 0)
      if !y.desc.isEmpty && y.job ≠ c.job then (s, .no 0x22) else (s, .ok (s.ctxRecord (c.p 0)))))

/-! ## Peer commands of a leaf (R207, R209, R228, R229, R391) -/

/-- The opcode row of CTX_PEER. -/
def ctxPeerInfo : OpInfo := { op := 0x0580, lens := fun l => 24 ≤ l && l ≤ 88 && l % 4 == 0, states := stA, p := true }

/-- A leaf holds a reservation relayed by the coordinator (R207). -/
def State.ctxPeerHold (s : State) (c : Cmd) : State :=
  let desc := (List.range 16).map (fun i => c.p (2 + i))
  let k := c.p 1
  s.runCmd ctxPeerInfo c (fun s =>
    let x := s.ctxShape desc
    Ans.check s ([(0, c.p 0 == 0 && c.len == 88), (1, k < 4096)] ++ (s.descChecks x).map (fun e => (e.1 + 2, e.2))) (
      if !s.ctxFree k then (s, { status := 0x21, q := [0, s.ownId + 65536] })
      else
        let item := s.ctxItem x
        if item ≠ 0 then (s, { status := 0x21, q := [0, s.ownId + item * 65536] })
        else (s.ctxHold k x false, .ok [])))

/-- A leaf commits a held context (R207). -/
def State.ctxPeerCommit (s : State) (c : Cmd) : State :=
  s.runCmd ctxPeerInfo c (fun s => Ans.check s [(0, c.p 0 == 1), (1, c.p 1 < 4096)] (
    if (s.ctx (c.p 1)).state ≠ .reserving then (s, .no 0x20) else (s.ctxCommit (c.p 1), .ok [])))

/-- A leaf releases a held reservation (R207). -/
def State.ctxPeerRelease (s : State) (c : Cmd) : State :=
  s.runCmd ctxPeerInfo c (fun s => Ans.check s [(0, c.p 0 == 2), (1, c.p 1 < 4096)] (s.ctxUnhold (c.p 1), .ok []))

/-- A leaf arms a context again (R209). -/
def State.ctxPeerRearm (s : State) (c : Cmd) : State :=
  s.runCmd ctxPeerInfo c (fun s => Ans.check s [(0, c.p 0 == 3 && c.len == 40), (1, c.p 1 < 4096)] (
    if (s.ctx (c.p 1)).state ≠ .done then (s, .no 0x20) else (s.ctxRearmed (c.p 1) (c.p64 2) (c.p64 4), .ok [])))

/-- A leaf releases a context (R209). -/
def State.ctxPeerFree (s : State) (c : Cmd) : State :=
  s.runCmd ctxPeerInfo c (fun s => Ans.check s [(0, c.p 0 == 4), (1, c.p 1 < 4096)] (
    if (s.ctx (c.p 1)).state ≠ .done && (s.ctx (c.p 1)).state ≠ .failed then (s, .no 0x20) else (s.ctxFreed (c.p 1) true, .ok [])))

/-- A leaf aborts a context (R228). -/
def State.ctxPeerAbort (s : State) (c : Cmd) : State :=
  s.runCmd ctxPeerInfo c (fun s => Ans.check s [(0, c.p 0 == 5), (1, c.p 1 < 4096)] (
    if (s.ctx (c.p 1)).state ≠ .armed && (s.ctx (c.p 1)).state ≠ .running then (s, .no 0x20) else (s.ctxAborted (c.p 1), .ok [])))

/-- A failure notice of another leaf (R229): the same status, cause REMOTE; nothing where the context has already failed here. -/
def State.ctxPeerFail (s : State) (c : Cmd) : State :=
  s.runCmd ctxPeerInfo c (fun s => Ans.check s [(0, c.p 0 == 6 && c.len == 28), (1, c.p 1 < 4096)]
    (s.failCtx (c.p 1) (bits (c.p 2) 0 16) .remote, .ok []))

/-! ## Replies to relayed context commands -/

/-- What the coordinator does once every leaf has acted (R207, R209, R385). -/
def State.relayDone (s : State) (e : Exec) : State :=
  let x := e.data.getD 0 0
  let stage := e.data.getD 1 0
  if e.op = 0x0500 then
    if stage = 0 then
      let others := s.otherLeaves x
      let s := s.setExec { e with data := [x, 1], work := .relay others [] }
      (s.relay others [1, x] (some e.id)).ctxCommit x
    else s.execDone e.id (.ok [x])
  else if e.op = 0x0501 then
    (s.ctxRearmed x (leWord e.params 1 + leWord e.params 2 * 2 ^ 32) (leWord e.params 3 + leWord e.params 4 * 2 ^ 32)).execDone e.id (.ok [])
  else if e.op = 0x0502 then (s.ctxFreed x true).execDone e.id (.ok [])
  else (s.ctxAborted x).execDone e.id (.ok [])

/-- A leaf has refused or not acted: what others hold is released, and the command fails (R207, R385). A creation whose number is taken
at another leaf tries the next number. -/
def State.relayFailed (s : State) (e : Exec) (m status q1 : Nat) (acted : List Nat) : State :=
  let x := e.data.getD 0 0
  if e.op ≠ 0x0500 then s.execDone e.id (.no status)
  else
    let c := s.ctx x
    let s := s.relay (acted.filter (· != m)) [2, x] none
    let s := s.ctxUnhold x
    let again := if status = 0x21 && bits q1 16 4 = 1 then s.ctxPick (x + 1) else none
    match again with
    | some y =>
      let s := s.ctxHold y { c with state := .free, cores := [] } true
      let others := c.leaves.filter (· != s.ownId)
      (s.setExec { e with data := [y, 0], work := .relay others [] }).relay others ([0, y] ++ c.desc) (some e.id)
    | none =>
      if status = 0x21 then (s.bump (baseColl + 0x18)).execDone e.id { status := 0x21, q := [0, bits q1 0 14 + bits q1 16 4 * 65536] }
      else s.execDone e.id (.no status)

/-- A leaf's final reply to a relayed command (R207, R385). -/
def State.ctxReplyIn (s : State) (e : Exec) (m status q1 : Nat) : State :=
  match e.work with
  | .relay left acted =>
    if !left.contains m then s
    else if status = 0 then
      let left := left.filter (· != m)
      let e := { e with work := .relay left (m :: acted) }
      let s := s.setExec e
      if left.isEmpty then s.relayDone e else s
    else s.relayFailed e m status q1 (acted ++ left)
  | .plain => s

/-! ## Placement tables (R322) -/

/-- The table is named by a context that is not FREE. -/
def State.tableInUse (s : State) (t : Nat) : Bool := s.coll.ctxs.any (fun e => e.2.state != .free && e.2.op == 5 && e.2.place == t)

/-- The checks and writes of MOE_PLACE (R322, R391). -/
def State.placeBody (s : State) (c : Cmd) (commit : Bool) : State × Ans :=
  let t := bits (c.p 0) 0 8
  let first := bits (c.p 1) 0 10
  let n := bits (c.p 1) 10 9
  let experts := c.p 2 + 1
  let es := (List.range n).map (fun i => c.p64 (4 + 2 * i))
  let tab : PlaceTable := Tbl.get {} s.coll.tables t
  let written := (List.range n).foldl (fun l i => if l.contains (first + i) then l else (first + i) :: l) tab.written
  Ans.check s [(0, bits (c.p 0) 9 23 == 0 && bit (c.p 0) 8 == commit), (1, bits (c.p 1) 19 13 == 0 && n ≤ 508 && first + n ≤ 1024),
               (2, c.p 2 < 1024), (3, c.p 3 == 0), (4, es.all (fun e => bits e 58 6 == 0))] (
    if tab.job ≠ 0 && tab.job ≠ c.job then (s, .no 0x22)
    else if !es.all (fun e => (List.range (bits e 56 2 + 1)).all (fun i => s.inJob c.job (bits e (14 * i) 14))) then (s, .no 0x22)
    else if s.tableInUse t then (s, .no 0x20)
    else if commit && !(List.range experts).all written.contains then (s, .bad 0)
    else
      let entries := (List.range n).foldl (fun m i => Tbl.put 0 m (first + i) (es.getD i 0)) tab.entries
      let tab' : PlaceTable := { job := c.job, entries := entries, written := written, experts := if commit then some experts else none }
      ({ s with coll := { s.coll with tables := Tbl.put {} s.coll.tables t tab' } }, .ok []))

/-- The opcode row of MOE_PLACE. -/
def moePlaceInfo (c : Cmd) : OpInfo := { op := 0x0505, lens := lenIs (32 + 8 * bits (c.p 1) 10 9), states := stA, j := true, change := true, mirrored := true }

/-- MOE_PLACE (R322, R391). -/
def State.moePlace (s : State) (c : Cmd) : State := s.runCmd (moePlaceInfo c) c (fun s => s.placeBody c false)

/-- MOE_PLACE with COMMIT (R391). -/
def State.moePlaceCommit (s : State) (c : Cmd) : State := s.runCmd (moePlaceInfo c) c (fun s => s.placeBody c true)

/-! ## Embedding tables (R332) -/

/-- EMB_CREATE (R312, R332, R391). -/
def State.embCreate (s : State) (c : Cmd) : State :=
  let t := bits (c.p 0) 0 8
  let n := bits (c.p 0) 8 6
  let fmt := bits (c.p 0) 14 2
  let dim := bits (c.p 1) 0 11
  let base := c.p64 4
  let rows := bits (c.p64 6) 0 41
  let stride := c.p 8
  s.runCmd { op := 0x0506, lens := lenIs 52, states := stA, j := true, change := true } c (fun s =>
    let b := (s.bindingOf (c.p 2)).map (·.2)
    let r := s.regionOf (c.p 3)
    let size := match r with | some i => (s.region i).size | none => 0
    Ans.check s [(0, bits (c.p 0) 16 16 == 0 && 1 ≤ n && n ≤ 32 && fmt ≤ 2), (1, bits (c.p 1) 11 21 == 0 && 1 ≤ dim && dim ≤ 1024),
                 (2, match b with | some b => b.kind == 3 | none => false), (3, match r with | some i => (s.region i).type != 0 | none => false),
                 (4, base % 64 == 0), (6, bits (c.p64 6) 41 23 == 0 && 1 ≤ rows && rows ≤ 2 ^ 40),
                 (8, stride % 64 == 0 && dim * fmtBits fmt / 8 ≤ stride),
                 (6, base + (rows - 1) * stride + dim * fmtBits fmt / 8 ≤ size)] (
      if (match b, r with | some b, some i => b.job != c.job || (s.region i).job != c.job | _, _ => false) then (s, .no 0x22)
      else if (Tbl.get ({} : EmbTable) s.coll.embs t).dim ≠ 0 then (if (Tbl.get ({} : EmbTable) s.coll.embs t).job = c.job then (s, .no 0x20) else (s, .no 0x22))
      else
        let free := (s.freeCores c.job).take n
        let mib := match b with | some b => (match s.programOf b.program with | some (_, p) => imgField p.image 20 4 | none => 0) | none => 0
        if free.length < n || !s.spillFits (free.filterMap s.physOf) mib then (s, .no 0x21)
        else
          let e : EmbTable := { job := c.job, binding := c.p 2, region := c.p 3, base := base, rows := rows, dim := dim, fmt := fmt, stride := stride, cores := free }
          let s := { s with coll := { s.coll with embs := Tbl.put {} s.coll.embs t e } }
          (s.startCores free (c.p 2) t true, .ok [])))

/-- EMB_RELEASE: the attached cores receive STOP (R313, R391). -/
def State.embRelease (s : State) (c : Cmd) : State :=
  s.runCmd { op := 0x0507, lens := lenIs 20, states := stA, j := true } c (fun s =>
    Ans.check s [(0, c.p 0 < 256)] (
      let e : EmbTable := Tbl.get {} s.coll.embs (c.p 0)
      if e.dim = 0 then (s, .no 0x20)
      else if e.job ≠ c.job then (s, .no 0x22)
      else
        let s := { s with coll := { s.coll with embs := Tbl.put {} s.coll.embs (c.p 0) {} } }
        (s.stopCores e.cores, .ok [])))

end Sys2Proof.Machine
end

