-- ==== Sys2Proof/Machine/Sec.lean ====
section
/-! DEFINITION. Keys (R464, R470), measurements (R404, R475, R476) and Owl's SPDM responder (R474, R554). -/

namespace Sys2Proof.Machine

/-! ## Keys -/

/-- A Lichavo key that is not revoked (R464). -/
def State.lichavo (s : State) (key : List Byte) : Bool := (List.range 4).any (fun k => !s.sec.revoke.testBit k && Config.lichavoKey k == key)

/-- The owner key. -/
def State.isOwner (s : State) (key : List Byte) : Bool := match s.sec.owner with | some k => k == key | none => false

/-- A key is accepted for configuration images in the present state (R470). -/
def State.cfgKey (s : State) (key : List Byte) : Bool :=
  if s.sec.lc = 0 then s.lichavo key else if s.sec.lc ≤ 3 then s.isOwner key else false

/-- A key is accepted for Sett programs in the present state (R470). -/
def State.progKey (s : State) (key : List Byte) : Bool :=
  if s.sec.lc = 0 then s.lichavo key else if s.sec.lc ≤ 3 then s.isOwner key || s.lichavo key else false

/-- MEASURE_READ (R398, R475): the blocks joined. -/
def State.measureRead (s : State) (c : Cmd) : State :=
  s.runCmd { op := 0x0B03, lens := lenIs 16, states := stCRA, m := true } c (fun s => (s, { block := s.measurements.flatten }))

/-! ## SPDM (R474, R554) -/

/-- The negotiated state of a path: 0 MCTP, 1 DOE. -/
def State.path (s : State) (p : Nat) : SpdmPath := Tbl.get {} s.sec.spdm p
/-- It becomes `x`. -/
def State.setPath (s : State) (p : Nat) (x : SpdmPath) : State := { s with sec := { s.sec with spdm := Tbl.put {} s.sec.spdm p x } }

/-- Kind of the SPDM error answers: Busy before step 4 of R466, UnexpectedRequest where the path has not negotiated (DSP0274). -/
def spdmBusy : Nat := 256
/-- A request that the path's negotiated state does not allow. -/
def spdmUnexpected : Nat := 257

/-- An SPDM request on a path: Busy, out of order, or answered (R474, R507). -/
def State.spdmReq (s : State) (p : Nat) (ready : SpdmPath → Bool) (k : State → State) : State :=
  if 1 < p || (p = 1 && !s.host.linkUp) then s
  else if !s.sec.keeperUp || s.power.inReset || s.power.pstate = 3 then s.emit (.spdm p spdmBusy [])
  else if !ready (s.path p) then s.emit (.spdm p spdmUnexpected [])
  else k s

/-- GET_VERSION: version 1.2; the path's negotiation starts again. -/
def State.spdmVersion (s : State) (p : Nat) : State :=
  s.spdmReq p (fun _ => true) (fun s => (s.setPath p { version := true }).emit (.spdm p 291 [0x12]))

/-- GET_CAPABILITIES. -/
def State.spdmCaps (s : State) (p : Nat) : State :=
  s.spdmReq p (·.version) (fun s => (s.setPath p { s.path p with caps := true }).emit (.spdm p 292 []))

/-- NEGOTIATE_ALGORITHMS: Ed25519 and SHA-512. -/
def State.spdmAlgs (s : State) (p : Nat) : State :=
  s.spdmReq p (·.caps) (fun s => (s.setPath p { s.path p with algs := true }).emit (.spdm p 293 []))

/-- GET_DIGESTS: the digest of slot 0's chain. -/
def State.spdmDigests (s : State) (p : Nat) : State :=
  s.spdmReq p (·.algs) (fun s => s.emit (.spdm p 294 (Config.sha512 (Config.certChain s.sec.slot))))

/-- GET_CERTIFICATE: a part of slot 0's chain. -/
def State.spdmCert (s : State) (p off len : Nat) : State :=
  s.spdmReq p (·.algs) (fun s => s.emit (.spdm p 295 (((Config.certChain s.sec.slot).drop off).take len)))

/-- The alias key's number: it changes with the Keeper firmware (R464). -/
def State.aliasKey (s : State) : Nat := leNat ((s.fwMeasured true).take 8)

/-- CHALLENGE: the nonce and the digest of the chain signed with the alias key. -/
def State.spdmChallenge (s : State) (p : Nat) (nonce : List Byte) : State :=
  s.spdmReq p (·.algs) (fun s =>
    let body := nonce ++ Config.sha512 (Config.certChain s.sec.slot)
    s.emit (.spdm p 296 (body ++ Config.ed25519Sign s.aliasKey body)))

/-- GET_MEASUREMENTS: one block, or all for index 255, from the single copy, signed (R475, R476). -/
def State.spdmMeasure (s : State) (p idx : Nat) (nonce : List Byte) : State :=
  s.spdmReq p (·.algs) (fun s =>
    let l := s.sec.meas
    let body := (if idx = 255 then l.flatten else if 1 ≤ idx && idx ≤ 11 then l.getD (idx - 1) [] else []) ++ nonce
    s.emit (.spdm p 297 (body ++ Config.ed25519Sign s.aliasKey body)))

end Sys2Proof.Machine
end

