-- ==== Sys2Proof/Machine/SettCmd.lean ====
section
/-! DEFINITION. Commands of Sett cores, programs and bindings (R310–R313, R393, R394), the self-test, repairs and CHAR_ALL (R279, R280, R283,
R396). -/

namespace Sys2Proof.Machine

/-! ## Visible cores of jobs -/

/-- The visible cores of a 128-bit bitmap in parameter words from `n`. -/
def cmdBitmap (c : Cmd) (n : Nat) : List Nat := bitsOf 128 (c.p n + c.p (n + 1) * 2 ^ 32 + c.p (n + 2) * 2 ^ 64 + c.p (n + 3) * 2 ^ 96)

/-- A visible core exists (R281–R283). -/
def State.coreThere (s : State) (v : Nat) : Bool := (s.physOf v).isSome

/-- A visible core is bound. -/
def State.coreBound (s : State) (v : Nat) : Bool := match s.physOf v with | some c => (s.core c).binding != 0 | none => false

/-- Owner of each of the visible cores becomes job `j`. -/
def State.setOwner (s : State) (vs : List Nat) (j : Nat) : State :=
  { s with sett := { s.sett with owner := vs.foldl (fun m v => Tbl.put 0 m v j) s.sett.owner } }

/-- A refusal for want of visible cores (R282). -/
def State.tooFew (s : State) : State × Ans := (s.raiseMod mSettCapacity, .no 0x60)

/-- CORE_ASSIGN (R393). -/
def State.coreAssign (s : State) (c : Cmd) : State :=
  let j := c.p 0
  let vs := cmdBitmap c 1
  s.runCmd { op := 0x0700, lens := lenIs 36, states := stA, m := true } c (fun s =>
    Ans.check s [(0, j < 4096)] (
      if vs.any (fun v => (s.coreOwner v != 0 && s.coreOwner v != j) || s.coreBound v) then (s, .no 0x20)
      else if vs.any (fun v => !s.coreThere v) then (s, .no 0x60)
      else (s.setOwner vs j, .ok [])))

/-- CORE_RETURN (R393). -/
def State.coreReturn (s : State) (c : Cmd) : State :=
  let vs := cmdBitmap c 1
  s.runCmd { op := 0x0701, lens := lenIs 36, states := stA, m := true } c (fun s =>
    Ans.check s [(0, c.p 0 == 0)] (if vs.any s.coreBound then (s, .no 0x20) else (s.setOwner vs 0, .ok [])))

/-! ## Programs -/

/-- The checks of R311 on an image, in order: status of the first that fails, and the slot that takes the program. -/
def State.progCheck (s : State) (l : List Byte) : Nat × Nat :=
  let bytes := s.sett.programs.foldl (fun n e => if e.2.present then n + e.2.image.length else n) 0
  if l.length < 224 || !imgLengthOk l then (0x12, 0)
  else if !imgFieldsOk l 2 s.fwRelease then (0x11, 0)
  else if !(s.progKey (signerOf l) && signatureOk l) then (0x30, 0)
  else match (List.range 256).find? (fun k => !(Tbl.get ({} : Program) s.sett.programs k).present) with
    | none => (0x21, 0)
    | some k =>
      if 2 ^ 28 < bytes + l.length then (0x21, 0)
      else if s.sett.visible < imgField l 8 2 then (0x60, 0)
      else (0, k)

/-- The checks of a program image end (R311): loaded with its handle and measurement, or nothing is. -/
def State.progVerified (s : State) (id : Nat) : State :=
  match s.execOf id with
  | none => s
  | some e =>
    if e.op ≠ 0x0702 then s
    else
      let l := e.data.map (fun n => BitVec.ofNat 8 n)
      let (st, k) := s.progCheck l
      if st = 0x60 then (s.raiseMod mSettCapacity).execDone id (.no st)
      else if st ≠ 0 then s.execDone id (.no st)
      else
        let old : Program := Tbl.get {} s.sett.programs k
        let p : Program := { job := e.job, gen := old.gen, present := true, image := l, measurement := measureOf l }
        let s := { s with sett := { s.sett with programs := Tbl.put {} s.sett.programs k p } }
        s.copyMeasures.execDone id { q := [objHandle k e.job p.gen], block := p.measurement }

/-- KIND of an image: 1 EPILOGUE and 2 GATING are mirrored in a pair (R425). -/
def imgMirrored (l : List Byte) : Bool := imgField l 6 1 == 1 || imgField l 6 1 == 2

/-- PROG_LOAD from a region (R311, R394). -/
def State.progLoadRegion (s : State) (c : Cmd) : State :=
  let n := c.p 4
  let o := c.p64 2
  s.runCmd { op := 0x0702, lens := lenIs 36, states := stA, j := true, change := true, long := true, mirrored := true } c (fun s =>
    Ans.check s [(0, c.p 0 == 1), (1, (s.regionOf (c.p 1)).isSome)] (
      match s.regionOf (c.p 1) with
      | none => (s, .bad 1)
      | some i =>
        let r := s.region i
        if r.job ≠ c.job then (s, .no 0x22)
        else if r.size < o + n then (s, .bad 2)
        else if r.state ≠ .ready then (s, .no 0x20)
        else match s.ueIn (r.base + o) n with
          | some l => (s.meetUe l, .no 0x50)
          | none => (s, { goes := true, data := (s.memRead (r.base + o) n).map (·.toNat) })))

/-- The staging of a source (R394). -/
def State.stagingOf (s : State) (src : Src) : Option Staging := s.cmd.staging.find? (fun x => x.src == src)
/-- The staging of a source is discarded. -/
def State.dropStaging (s : State) (src : Src) : State := { s with cmd := { s.cmd with staging := s.cmd.staging.filter (fun x => x.src != src) } }

/-- PROG_LOAD of one part (R394): staged, refused, or, when it reaches IMAGE_LEN, checked as a LONG command. -/
def State.progLoadPart (s : State) (c : Cmd) : State :=
  let off := c.p 1
  let len := c.p 2
  let part := c.params.drop 16
  let have_ := match s.stagingOf c.src with | some x => if off = 0 then 0 else x.bytes.length | none => 0
  let last := have_ + part.length == len
  s.runCmd { op := 0x0702, lens := fun l => 32 ≤ l, states := stA, j := true, change := true, long := last, mirrored := true } c (fun s =>
    let old := if off = 0 then none else s.stagingOf c.src
    let okOff := match old with | some x => x.len == len && x.bytes.length == off | none => off == 0
    let bad := fun n => (s.dropStaging c.src, Ans.bad n)
    if c.p 0 ≠ 0 then (s, .bad 0)
    else if !okOff then bad 1
    else if len < have_ + part.length || (!last && part.length % 4 != 0) || c.p 3 ≠ 0 then bad (if c.p 3 ≠ 0 then 3 else 2)
    else
      let bytes := (match old with | some x => x.bytes | none => []) ++ part
      let s := s.dropStaging c.src
      if last then (s, { goes := true, data := bytes.map (·.toNat) })
      else ({ s with cmd := { s.cmd with staging := s.cmd.staging ++ [{ src := c.src, len := len, bytes := bytes }] } }, .ok [bytes.length]))

/-- A program handle's checks of R380, steps 7 and 8. -/
def State.withProgram (s : State) (c : Cmd) (k : Nat → Program → State × Ans) : State × Ans :=
  match s.programOf (c.p 0) with
  | none => (s, .bad 0)
  | some (i, p) => if p.job ≠ c.job then (s, .no 0x22) else k i p

/-- PROG_UNLOAD (R393). The generation advances with the reuse of the slot. -/
def State.progUnload (s : State) (c : Cmd) : State :=
  let m := match s.programOf (c.p 0) with | some (_, p) => imgMirrored p.image | none => false
  s.runCmd { op := 0x0703, lens := lenIs 20, states := stA, j := true, mirrored := m } c (fun s =>
    s.withProgram c (fun i p =>
      if s.sett.bindings.any (fun e => e.2.present && e.2.program == c.p 0) then (s, .no 0x20)
      else
        let q : Program := { gen := (p.gen + 1) % 4096 }
        ({ s with sett := { s.sett with programs := Tbl.put {} s.sett.programs i q } }.copyMeasures, .ok [])))

/-! ## Bindings -/

/-- LEN of BIND (R393). -/
def bindLen (c : Cmd) : Nat → Bool :=
  let n := bits (c.p 1) 0 13
  if bit (c.p 1) 13 then lenIs 52 else lenIs (40 + ceilDiv n 4 * 4)

/-- The parameters of BIND: inline, or from a region with its checks (R393). -/
def State.bindParams (s : State) (c : Cmd) (n : Nat) : Except (State × Ans) (List Byte) :=
  if !bit (c.p 1) 13 then .ok ((c.params.drop 24).take n)
  else
    let o := c.p64 7
    match s.regionOf (c.p 6) with
    | none => .error (s, .bad 6)
    | some i =>
      let r := s.region i
      if r.job ≠ c.job || r.state ≠ .ready || r.size < o + n then .error (s, .no 0x22)
      else .ok (s.memRead (r.base + o) n)

/-- The uncorrectable line that BIND's parameters in a region meet (R393). -/
def State.bindUe (s : State) (c : Cmd) (n : Nat) : Option Nat :=
  if !bit (c.p 1) 13 then none
  else match s.regionOf (c.p 6) with
    | some i => s.ueIn ((s.region i).base + c.p64 7) n
    | none => none

/-- BIND (R312, R393). In TRIM the reply waits until gated cores have powered on (R497). -/
def State.bind (s : State) (c : Cmd) : State :=
  let n := bits (c.p 1) 0 13
  let vs := cmdBitmap c 2
  let m := match s.programOf (c.p 0) with | some (_, p) => imgMirrored p.image | none => false
  s.runCmd { op := 0x0704, lens := bindLen c, states := stA, j := true, change := true, mirrored := m } c (fun s =>
    match s.programOf (c.p 0) with
    | none => (s, .bad 0)
    | some (_, p) =>
      let kind := imgField p.image 6 1
      Ans.check s [(1, bits (c.p 1) 14 18 == 0 && n == imgField p.image 24 4),
                   (2, if kind = 0 then vs.length == imgField p.image 8 2 else vs.isEmpty)] (
        if p.job ≠ c.job then (s, .no 0x22)
        else if vs.any (fun v => s.coreThere v && s.coreOwner v != c.job) then (s, .no 0x22)
        else match s.bindParams c n with
          | .error e => e
          | .ok params =>
            if vs.any (fun v => s.coreThere v && !s.coreFree v) then (s, .no 0x20)
            else match (List.range 256).find? (fun k => !(Tbl.get ({} : Binding) s.sett.bindings k).present) with
              | none => (s, .no 0x21)
              | some k =>
                if vs.any (fun v => !s.coreThere v) then s.tooFew
                else match s.bindUe c n with
                | some l => (s.meetUe l, .no 0x50)
                | none =>
                  let g := (Tbl.get ({} : Binding) s.sett.bindings k).gen
                  let h := objHandle k c.job g
                  let b : Binding := { job := c.job, gen := g, present := true, program := c.p 0, kind := kind, params := params, cores := vs }
                  let cs := vs.filterMap s.physOf
                  let wait := cs.any (fun x => (s.core x).gated)
                  let s := s.setBinding k b
                  let s := (List.range cs.length).foldl (fun s i =>
                    let x := cs.getD i 0
                    s.setCore x { s.core x with binding := h, index := i, kind := kind }) s
                  (s, if wait then { goes := true, data := [h] } else .ok [h])))

/-- A gated core has powered on for the command that needs it (R497). -/
def State.corePowered (s : State) (c : Nat) : State :=
  let x := s.core c
  if !x.gated || x.binding = 0 then s
  else
    let s := s.setCore c { x with gated := false }
    if (s.sett.cores.any (fun e => e.2.binding == x.binding && e.2.gated)) then s else s.execsDone 0x0704 x.binding (.ok [x.binding])

/-- A binding handle's checks of R380, steps 7 and 8. -/
def State.withBinding (s : State) (c : Cmd) (k : Nat → Binding → State × Ans) : State × Ans :=
  match s.bindingOf (c.p 0) with
  | none => (s, .bad 0)
  | some (i, b) => if b.job ≠ c.job then (s, .no 0x22) else k i b

/-- UNBIND (R313, R393): refused with running or attached cores. -/
def State.unbind (s : State) (c : Cmd) : State :=
  let m := match s.bindingOf (c.p 0) with | some (_, b) => b.kind == 1 || b.kind == 2 | none => false
  s.runCmd { op := 0x0705, lens := lenIs 20, states := stA, j := true, mirrored := m } c (fun s =>
    s.withBinding c (fun i b =>
      let h := c.p 0
      if (if b.kind = 0 then !(s.coresOf h).isEmpty else s.sett.cores.any (fun e => e.2.binding == h)) then (s, .no 0x20)
      else
        let s := (s.sett.cores.filter (fun e => e.2.binding == h)).foldl (fun s e => s.setCore e.1 (s.core e.1).released) s
        (s.setBinding i { gen := (b.gen + 1) % 4096 }, .ok [])))

/-- LAUNCH (R312, R393). -/
def State.launch (s : State) (c : Cmd) : State :=
  s.runCmd { op := 0x0706, lens := lenIs 20, states := stA, j := true, change := true } c (fun s =>
    s.withBinding c (fun i b =>
      if b.kind ≠ 0 || b.st ≠ .idle then (s, .no 0x20)
      else match s.programOf b.program with
        | none => (s, .no 0x20)
        | some (_, p) =>
          let cs := b.cores.filterMap s.physOf
          if cs.length < b.cores.length then s.tooFew
          else if !s.spillFits cs (imgField p.image 20 4) then (s, .no 0x21)
          else
            let s := s.setBinding i { b with st := .running }
            (s.startCores b.cores (c.p 0) 0 false, .ok [])))

/-- Exit codes of the first eight cores of a binding, by index. -/
def Binding.exits (b : Binding) : List Nat :=
  (List.range (min 8 b.cores.length)).map (fun i => match b.ended.find? (fun e => e.1 == i) with | some e => e.2.2 | none => 0)

/-- PROG_WAIT (R393): the reply follows when the binding is DONE. -/
def State.progWait (s : State) (c : Cmd) : State :=
  s.runCmd { op := 0x0707, lens := lenIs 20, states := stA, j := true, long := true } c (fun s =>
    s.withBinding c (fun _ b =>
      if b.kind ≠ 0 then (s, .no 0x20)
      else if b.st = .done then (s, .ok b.exits)
      else (s, { goes := true, data := [c.p 0] })))

/-- Waits whose binding is DONE end. -/
def State.waitsEnd (s : State) : State :=
  (s.cmd.execs.filter (fun e => e.op == 0x0707)).foldl (fun s e =>
    match s.bindingOf (e.data.headD 0) with
    | some (_, b) => if b.st = .done then s.execDone e.id (.ok b.exits) else s
    | none => s.execDone e.id (.no 0x20)) s

/-- PROG_STOP (R313, R393): the cores halt, raising nothing. -/
def State.progStop (s : State) (c : Cmd) : State :=
  s.runCmd { op := 0x0708, lens := lenIs 20, states := stA, j := true } c (fun s => s.withBinding c (fun _ _ => (s.haltBinding (c.p 0), .ok [])))

/-- Code of a core's program state (R315). -/
def ProgSt.code : ProgSt → Nat
  | .idle => 0
  | .loading => 1
  | .running => 2
  | .waiting => 3
  | .exited => 4
  | .halted => 5

/-- PROG_QUERY (R393). -/
def State.progQuery (s : State) (c : Cmd) : State :=
  s.runCmd { op := 0x0709, lens := lenIs 20, states := stA, j := true } c (fun s =>
    s.withBinding c (fun _ _ =>
      let l := (s.sett.cores.filter (fun e => e.2.binding == c.p 0)).map (·.2)
      let st := match l.find? (fun x => x.index == 0) with | some x => x.st.code | none => 0
      let n := fun (f : SettCore → Bool) => (l.filter f).length
      (s, .ok [st, n (·.live), n (fun x => x.st == .exited), n (fun x => x.st == .halted)])))

/-! ## Self-test and repairs -/

/-- SELFTEST (R280, R396). -/
def State.selftest (s : State) (c : Cmd) : State :=
  let k := c.p 0
  s.runCmd { op := 0x0904, lens := lenIs 20, states := stRA, m := true, long := true } c (fun s =>
    Ans.check s [(0, k < 128)] (if (s.core k).binding ≠ 0 then (s, .no 0x20) else (s, { goes := true, data := [k] })))

/-- The array self-test of a core ends (R280, R396). -/
def State.selftestEnd (s : State) (c res row : Nat) : State :=
  if 127 < c then s
  else
    let (s, bits_) := s.selftestDone c res row
    s.execsDone 0x0904 c (.ok [bits_])

/-- REPAIR_RESET (R279, R396). -/
def State.repairReset (s : State) (c : Cmd) : State :=
  s.runCmd { op := 0x0905, lens := lenIs 16, states := stR, m := true, perm := fun s => s.sec.lc == 3 } c (fun s =>
    ({ s with sett := { s.sett with field := [], badSpares := [] } }, .ok []))

/-- A write to CHAR_ALL (R283): in SERVICE only; a write of 1 is ignored while a job other than 0 holds a binding. -/
def State.charAllWrite (s : State) (on : Bool) : State :=
  let now := match s.sett.charNew with | some v => v | none => s.sett.charAll
  if s.sec.lc ≠ 3 || on = now || (on && s.sett.bindings.any (fun e => e.2.present && e.2.job != 0)) then s
  else
    let s := { s with sett := { s.sett with charNew := some on } }
    (List.range 128).foldl (fun s c => s.setCore c { s.core c with repairPend := true }) s

end Sys2Proof.Machine
end

