-- ==== Sys2Proof/Machine/LinkCmd.lean ====
section
/-! DEFINITION. Commands of information (R386), links (R388, R41, R92, R588), partitions and routes (R46–R48, R130, R389), queues, shapers and
policers (R172, R175, R181, R182, R390). -/

namespace Sys2Proof.Machine

/-! ## Information (R386) -/

/-- ECHO: the parameters unchanged. -/
def State.echo (s : State) (c : Cmd) : State :=
  s.runCmd { op := 0x0000, lens := fun l => 16 ≤ l && l ≤ 4048, states := stWCRA, a := true } c (fun s => (s, { block := c.params }))

/-- Q4 of GET_INFO: endpoint, plane, role, paired, member. -/
def State.placeWord (s : State) : Nat :=
  let pl := s.pl
  if s.place.isNone then 0
  else s.ownId + pl.plane * 2 ^ 14 + (if pl.spine then 2 else 1) * 2 ^ 18 + b2n pl.paired * 2 ^ 20 + pl.member * 2 ^ 21

/-- GET_INFO. -/
def State.getInfo (s : State) (c : Cmd) : State :=
  s.runCmd { op := 0x0001, lens := lenIs 16, states := stWCRA, a := true } c (fun s =>
    (s, .ok [b2n s.ck2l + 0xB0 * 16, s.fwRelease % 2 ^ 16 + 2 * 2 ^ 16, s.serial % 2 ^ 32, s.serial / 2 ^ 32, s.placeWord,
             if s.place.isSome then s.pl.rx + s.pl.ry * 8 else 0]))

/-- Jobs other than 0 that are VALID. -/
def State.validJobs (s : State) : List Nat := (s.parts.filter (fun e => e.1 != 0 && e.2.valid)).map (·.1)

/-- Contexts that are not FREE. -/
def State.liveCtxs (s : State) : List (Nat × Ctx) := s.coll.ctxs.filter (fun e => e.2.state != .free)
/-- Regions that are not FREE. -/
def State.liveRegions (s : State) : List (Nat × Region) := s.mem.regions.filter (fun e => e.2.state != .free)

/-- GET_STATE. -/
def State.getState (s : State) (c : Cmd) : State :=
  s.runCmd { op := 0x0002, lens := lenIs 16, states := stWCRA, a := true } c (fun s =>
    (s, .ok [s.dev.code + s.sec.lc * 16 + s.power.pstate * 256 + s.overlays * 1024, s.validJobs.length, s.liveCtxs.length, s.liveRegions.length,
             s.sett.visible + (s.sett.cores.filter (fun e => e.2.fenced)).length * 256]))

/-- GET_JOB. -/
def State.getJob (s : State) (c : Cmd) : State :=
  s.runCmd { op := 0x0003, lens := lenIs 16, states := stRA, j := true } c (fun s =>
    let j := c.job
    (s, .ok [s.jobState j, (s.liveCtxs.filter (fun e => e.2.job == j)).length, (s.liveRegions.filter (fun e => e.2.job == j)).length,
             (s.sett.bindings.filter (fun e => e.2.present && e.2.job == j)).length, (s.flows.filter (fun f => f.admits && f.job == j)).length,
             (below 128 (fun v => s.coreOwner v == j)).length]))

/-- GET_STATS: the counters of R402 in offset order, not cleared. -/
def State.getStats (s : State) (c : Cmd) : State :=
  s.runCmd { op := 0x0004, lens := lenIs 16, states := stWCRA, m := true } c (fun s =>
    (s, { block := (List.range 16).flatMap (fun i => leBytes 4 (s.ctr (baseCmd + 0x100 + 4 * i))) }))

/-! ## Links (R388) -/

/-- Port `p` exists: port p + 1 of a ×8 port does not (R12). -/
def State.portThere (s : State) (p : Nat) : Bool := decide (p < 192) && !(p % 2 == 1 && (s.port (p - 1)).width == 3 && (s.port (p - 1)).st != .disabled)

/-- The port that a command names. -/
def cmdPort (c : Cmd) : Nat := bits (c.p 0) 0 8

/-- LOOPBACK of a port is set (R97, R588): other than 0 it leaves routing, and 0 again retrains it. -/
def State.setLoopback (s : State) (p v : Nat) : State :=
  let old := s.fld (linkReg p 0) 9 2
  let s := s.setFld (linkReg p 0) 9 2 v
  if v = old then s else if v ≠ 0 then s.outOfService p else s.retrainPort p

/-- The fields of LINK.CTRL other than ENABLE, LOOPBACK, AUTO_ACCEPT and RETRAIN are set. -/
def State.setCtrlFields (s : State) (p v : Nat) : State :=
  ((((s.setFld (linkReg p 0) 1 2 (bits v 1 2)).setFld (linkReg p 0) 3 1 (bits v 3 1)).setFld (linkReg p 0) 4 2 (bits v 4 2)).setFld (linkReg p 0) 6 1
    (bits v 6 1)).setFld (linkReg p 0) 7 1 (bits v 7 1)

/-- LINK_SET (R97, R388, R470). -/
def State.linkSet (s : State) (c : Cmd) : State :=
  let p := cmdPort c
  let v := c.p 1
  s.runCmd { op := 0x0200, lens := lenIs 24, states := stRA, m := true, perm := fun s => bits v 9 2 == 0 || s.instrument } c (fun s =>
    Ans.check s [(0, bits (c.p 0) 8 24 == 0 && s.portThere p), (1, bits v 11 21 == 0 && bits v 4 2 != 0 && bits v 4 2 != 3 && bits v 9 2 != 3)] (
      let s := s.setCtrlFields p v
      let s := if bit v 0 then s.enablePort p else if s.fld (linkReg p 0) 0 1 = 1 then s.disablePort p else s
      (s.setLoopback p (bits v 9 2), .ok [])))

/-- The port's drains end with this answer. -/
def State.drainsEnd (s : State) (p : Nat) (a : Ans) : State := s.execsDone 0x0201 p a

/-- LINK_DRAIN (R41, R388): a drain already under way on the port ends with STATE_REJECT when another takes its place. -/
def State.linkDrain (s : State) (c : Cmd) : State :=
  let p := cmdPort c
  s.runCmd { op := 0x0201, lens := lenIs 20, states := stRA, m := true, long := true } c (fun s =>
    Ans.check s [(0, bits (c.p 0) 9 23 == 0 && s.portThere p && bit (c.p 0) 8)]
      ((s.drainsEnd p (.no 0x20)).setDrain p true, { goes := true, data := [p] }))

/-- LINK_DRAIN with resume: the final reply comes at once (R388). -/
def State.linkResume (s : State) (c : Cmd) : State :=
  let p := cmdPort c
  s.runCmd { op := 0x0201, lens := lenIs 20, states := stRA, m := true, long := true } c (fun s =>
    Ans.check s [(0, bits (c.p 0) 9 23 == 0 && s.portThere p && !bit (c.p 0) 8)] ((s.drainsEnd p (.no 0x20)).setDrain p false, .ok []))

/-- A draining port's queues are empty (R41). -/
def State.portDrained (s : State) (p : Nat) : State :=
  let x := s.port p
  if x.drainTx && s.queuesEmpty p then (s.setPort p { x with drained := true }).drainsEnd p (.ok []) else s

/-- LINK_RECHECK (R92, R388). -/
def State.linkRecheck (s : State) (c : Cmd) : State :=
  let p := cmdPort c
  s.runCmd { op := 0x0202, lens := lenIs 20, states := stRA, m := true } c (fun s =>
    Ans.check s [(0, bits (c.p 0) 8 24 == 0 && s.portThere p)] (if (s.port p).st ≠ .quarantine then (s, .no 0x20) else (s.recheckPort p, .ok [])))

/-- LINK_RETRAIN (R388, R588). -/
def State.linkRetrain (s : State) (c : Cmd) : State :=
  let p := cmdPort c
  s.runCmd { op := 0x0203, lens := lenIs 20, states := stRA, m := true } c (fun s =>
    Ans.check s [(0, bits (c.p 0) 8 24 == 0 && s.portThere p)] (s.retrainPort p, .ok []))

/-- Code of a link state (R98). -/
def LinkState.code : LinkState → Nat
  | .disabled => 0
  | .hunt => 1
  | .eq => 2
  | .deskew => 3
  | .ident => 4
  | .active => 5
  | .quarantine => 6
  | .down => 7

/-- The code of a number of lanes (R96). -/
def widthCode (n : Nat) : Nat := if 8 ≤ n then 3 else if 4 ≤ n then 2 else if 2 ≤ n then 1 else 0

/-- LINK.STATUS (R98). -/
def State.linkStatus (s : State) (p : Nat) : Nat :=
  let x := s.port p
  x.st.code + s.lockMask p * 2 ^ 4 + x.active % 256 * 2 ^ 12 + widthCode (lanesIn x.active) * 2 ^ 20 + x.ver * 2 ^ 22 + b2n x.peer.isSome * 2 ^ 24
    + b2n x.routed * 2 ^ 25 + b2n x.drained * 2 ^ 26

/-- LINK_QUERY (R388). -/
def State.linkQuery (s : State) (c : Cmd) : State :=
  let p := cmdPort c
  s.runCmd { op := 0x0204, lens := lenIs 20, states := stRA, m := true } c (fun s =>
    let x := s.port p
    Ans.check s [(0, bits (c.p 0) 8 24 == 0 && s.portThere p)]
      (s, .ok [s.linkStatus p, s.reg (linkReg p 8), x.peerId, x.expId, x.peerSerial % 2 ^ 32, x.peerSerial / 2 ^ 32, x.peerFeat]))

/-! ## Partitions and routes (R46–R48, R389) -/

/-- Domain time in ns of the first EPOCH boundary still to come at or after domain time `t`; 0 before the first pulse (R48, R55, R389). -/
def State.boundaryAfter (s : State) (t : Nat) : Nat :=
  if !s.time.seen then 0
  else
    let per := s.time.period * cyclePs
    let want : Int := (t : Int) * 1000 - s.time.domainOff - (s.time.lastPs : Int)
    let k := max 1 (ceilDiv want.toNat (max per 1))
    s.domainAt (s.time.lastPs + k * per)

/-- The entry of a job as it will stand once its pending change applies (R46). -/
def State.futurePart (s : State) (j : Nat) : Part := match Tbl.get none s.partPend j with | some p => p.entry | none => s.part j

/-- The job owns a context, a region or a binding (R46). -/
def State.jobOwns (s : State) (j : Nat) : Bool :=
  s.liveCtxs.any (fun e => e.2.job == j) || s.liveRegions.any (fun e => e.2.job == j) || s.sett.bindings.any (fun e => e.2.present && e.2.job == j)

/-- Another entry that will be VALID shares a chip and a plane (R46). -/
def State.partClash (s : State) (j : Nat) (e : Part) : Bool :=
  (s.parts.map (·.1) ++ s.partPend.map (·.1)).any (fun k =>
    let f := s.futurePart k
    k != j && k != 0 && f.valid && (f.planes &&& e.planes) != 0 && s.slicesMeet f.slice e.slice)

/-- PART_WRITE (R46, R48, R389, R470). -/
def State.partWrite (s : State) (c : Cmd) : State :=
  let e : Part := { w0 := c.p 0, w1 := c.p 1, w2 := c.p 2, w3 := c.p 3 }
  let j := bits e.w0 0 12
  s.runCmd { op := 0x0300, lens := lenIs 40, states := stRA, m := true, mirrored := true, perm := fun s => !e.valid || s.sec.lc == 2 || s.sec.lc == 3 } c (fun s =>
    let g := e.slice
    Ans.check s [(0, j != 0 && bits e.w0 12 4 == 0 && e.planes != 0 && e.planes < 2 ^ s.pl.planes),
                 (1, bits e.w1 27 5 == 0 && descOk g.chip 4 false && descOk g.pkg 4 false && descOk g.tray 8 false),
                 (2, bits e.w2 18 6 == 0 && e.tweight != 0 && descOk g.x s.pl.x true && descOk g.y s.pl.y true), (3, e.w3 < 2)] (
      if (Tbl.get none s.partPend j).isSome || (!e.valid && s.jobValid j && s.jobOwns j) then (s, .no 0x20)
      else if e.valid && s.partClash j e then (s, .no 0x21)
      else
        let t := s.boundaryAfter (c.p64 4)
        ({ s with partPend := Tbl.put none s.partPend j (some { entry := e, time := c.p64 4 }) }, .ok [t % 2 ^ 32, t / 2 ^ 32])))

/-- PART_READ (R389). -/
def State.partRead (s : State) (c : Cmd) : State :=
  let j := c.p 0
  s.runCmd { op := 0x0301, lens := lenIs 20, states := stRA, m := true } c (fun s =>
    let e := s.part j
    let p := Tbl.get none s.partPend j
    let t := match p with | some p => p.time | none => 0
    Ans.check s [(0, j < 4096)] (s, .ok [e.w0, e.w1, e.w2, e.w3, b2n p.isSome, t % 2 ^ 32, t / 2 ^ 32]))

/-- Partition writes whose boundary, at domain time `t`, has come (R48); a job that becomes VALID begins with DET.TDC at 0 (R253). -/
def State.partBoundary (s : State) (t : Nat) : State :=
  let due := s.partPend.filter (fun e => match e.2 with | some p => decide (p.time ≤ t) | none => false)
  due.foldl (fun s e =>
    match e.2 with
    | none => s
    | some p =>
      let fresh := p.entry.valid && !s.jobValid e.1
      let s := { s with parts := Tbl.put {} s.parts e.1 p.entry, partPend := Tbl.put none s.partPend e.1 none }
      if fresh then { s with coll := { s.coll with tdc := Tbl.put 0 s.coll.tdc e.1 0 } } else s) s

/-- The device state between READY and ACTIVE (R377). -/
def State.devBoundary (s : State) : State :=
  if s.dev = .ready || s.dev = .active then { s with dev := if s.validJobs.isEmpty then .ready else .active } else s

/-- ROUTE_NOTICE (R130, R389). -/
def State.routeNoticeIn (s : State) (c : Cmd) : State :=
  let w := c.p 0
  s.runCmd { op := 0x0380, lens := lenIs 20, states := stRA, p := true } c (fun s =>
    Ans.check s [(0, bits w 9 23 == 0)]
      (s.setHop { axis := bits w 0 1, dir := 2 * bits w 0 1 + bits w 1 1, coord := bits w 2 3, other := bits w 5 3 } (bit w 8), .ok []))

/-! ## Queues, shapers, policers (R390) -/

/-- Key of queue `q` of port `p`. -/
def portQ (p q : Nat) : Nat := qKey (denOf p) (p % 48) q

/-- QUEUE_CFG (R172, R175, R390). -/
def State.queueCfg (s : State) (c : Cmd) : State :=
  let p := cmdPort c
  let tc := bits (c.p 0) 8 2
  let w := c.p 1
  s.runCmd { op := 0x0400, lens := lenIs 24, states := stA, j := true, change := true } c (fun s =>
    Ans.check s [(0, bits (c.p 0) 10 22 == 0 && s.portThere p && (tc == 2 || tc == 3)), (1, 1 ≤ w && w ≤ 255)] (
      let mine := fun q => let x := s.queue (portQ p q); x.valid && !x.releasing && x.job == c.job && x.tc == tc
      let here := s.jobHere c.job
      let weight := if here then w else (s.part c.job).tweight
      match ((List.range 61).map (· + 1)).find? mine with
      | some q => ((s.setQueue (portQ p q) { s.queue (portQ p q) with newWeight := some weight }), .ok [q])
      | none =>
        match ((List.range 61).map (· + 1)).find? (fun q => !(s.queue (portQ p q)).valid && !s.flows.any (fun f => f.port == p && f.queue == q)) with
        | none => (s, .no 0x21)
        | some q =>
          let old := s.queue (portQ p q)
          let x : Queue := { job := c.job, tc := tc, transit := !here, valid := true, weight := weight, pending := true, fLast := old.fLast }
          (s.setQueue (portQ p q) x, .ok [q])))

/-- A queue of 1–61 that a command names, with the checks of R390. -/
def State.withQueue (s : State) (c : Cmd) (q : Nat) (k : Queue → State × Ans) : State × Ans :=
  let x := s.queue (portQ (cmdPort c) q)
  if !x.valid || x.releasing || x.job ≠ c.job then (s, .no 0x22) else k x

/-- QUEUE_RELEASE (R390). -/
def State.queueRelease (s : State) (c : Cmd) : State :=
  let p := cmdPort c
  let q := bits (c.p 0) 8 6
  s.runCmd { op := 0x0401, lens := lenIs 20, states := stA, j := true } c (fun s =>
    Ans.check s [(0, bits (c.p 0) 14 18 == 0 && s.portThere p && 1 ≤ q && q ≤ 61)] (
      s.withQueue c q (fun x => if x.tc = 1 then (s, .no 0x20) else (s.setQueue (portQ p q) { x with releasing := true }, .ok []))))

/-- SHAPER_SET (R182, R390). -/
def State.shaperSet (s : State) (c : Cmd) : State :=
  let p := cmdPort c
  let q := bits (c.p 0) 8 6
  let en := bit (c.p 0) 14
  let b := c.p 2
  s.runCmd { op := 0x0402, lens := lenIs 28, states := stA, j := true, change := true } c (fun s =>
    Ans.check s [(0, bits (c.p 0) 15 17 == 0 && s.portThere p && q != 0), (1, c.p 1 < 2 ^ 20), (2, 17 ≤ b && b ≤ 65535)] (
      s.withQueue c q (fun x =>
        if x.tc = 1 then (s, .bad 0)
        else
          let full : Rat := ((256 * b : Nat) : Rat)
          let now := s.tokens (denOf p) (p % 48) q (rateOf x.rate) (256 * x.burst)
          let tok := if x.shapeEn && now < full then now else full
          (s.setQueue (portQ p q) { x with shapeEn := en, rate := c.p 1, burst := b, tok := tok, tokAt := s.clk }, .ok []))))

/-- POLICER_SET (R181, R390). -/
def State.policerSet (s : State) (c : Cmd) : State :=
  let p := cmdPort c
  let k := 32 * p + bits (c.p 0) 8 5
  let en := bit (c.p 0) 13
  let tc := bits (c.p 0) 14 2
  let cbs := bits (c.p 3) 0 16
  let pbs := bits (c.p 3) 16 16
  s.runCmd { op := 0x0403, lens := lenIs 32, states := stA, j := true, change := true } c (fun s =>
    Ans.check s [(0, bits (c.p 0) 16 16 == 0 && s.portThere p && (s.useOf p).use == 0 && tc != 1), (1, c.p 1 < 2 ^ 20),
                 (2, c.p 2 < 2 ^ 20 && c.p 1 ≤ c.p 2), (3, 17 ≤ cbs && cbs ≤ pbs)] (
      let x := s.policer k
      if x.en && x.job ≠ c.job then (s, .no 0x22)
      else if x.en && x.regulate then (s, .no 0x20)
      else
        let y : Policer := { job := c.job, tc := tc, en := en, cir := c.p 1, pir := c.p 2, cbs := cbs, pbs := pbs,
                             tcTok := ((256 * cbs : Nat) : Rat), tpTok := ((256 * pbs : Nat) : Rat), at_ := s.clk }
        (s.setPolicer k y, .ok [])))

/-- Queue changes at a boundary (R172, R175): new queues and weights take effect, released ones that are empty go, shares follow. -/
def State.queueBoundary (s : State) : State :=
  let ks := (s.sw.queues.filter (fun e => e.2.pending || e.2.newWeight.isSome || e.2.releasing)).map (·.1)
  let ports := (ks.map (fun k => 48 * (k / 4096) + k / 64 % 64)).eraseDups
  let s := ks.foldl (fun s k =>
    let x := s.queue k
    let busy := !(s.inQueue (k / 4096) (k / 64 % 64) (k % 64)).isEmpty
    if x.releasing then (if busy then s else s.setQueue k { fLast := x.fLast })
    else s.setQueue k { x with pending := false, newWeight := none, weight := x.newWeight.getD x.weight }) s
  (if s.sw.sharesPend then s.queuedPorts else ports).foldl (fun s p => s.reshare p) { s with sw := { s.sw with sharesPend := false } }

end Sys2Proof.Machine
end

