-- ==== Sys2Proof/Machine/Tc1Cmd.lean ====
section
/-! DEFINITION. Admission of TC1 flows over their hops (R186–R193, R385, R390): the admitting leaf's commands, the peer reservations at a hop,
and the replies that the admitting leaf awaits. -/

namespace Sys2Proof.Machine

/-! ## The path of a flow -/

/-- Leaves after this one on the route of R37 from rack (x, y) to rack (tx, ty): along x first, with fuel for the hops. -/
def State.leafPath (s : State) (tx ty : Nat) : Nat → Nat → Nat → List Nat
  | 0, _, _ => []
  | n + 1, x, y =>
    if x ≠ tx then
      let r := hopRack x y s.pl.x s.pl.y ((s.axisDirs 0 x tx s.pl.x y).headD 0)
      s.leafAt r.1 r.2 :: State.leafPath s tx ty n r.1 r.2
    else if y ≠ ty then
      let r := hopRack x y s.pl.x s.pl.y ((s.axisDirs 1 y ty s.pl.y x).headD 2)
      s.leafAt r.1 r.2 :: State.leafPath s tx ty n r.1 r.2
    else []

/-- The leaf that serves an endpoint: a module itself, a chip's rack's leaf. -/
def State.leafOf (s : State) (e : Nat) : Nat := if 8192 ≤ e then e else let r := chipRack e; s.leafAt r.1 r.2

/-- The modules after this one that a flow to `dst` passes. On a Clos the spine is known once the first port is pinned. -/
def State.flowPath (s : State) (dst : Nat) : List Nat :=
  let r := s.rackOf dst
  if s.leafOf dst = s.ownId then []
  else if s.isClos then [s.leafOf dst]
  else s.leafPath r.1 r.2 16 s.pl.rx s.pl.ry

/-- Ports of this module that lead to endpoint `n` (R37, R52). -/
def State.hopCands (s : State) (n : Nat) : List Nat :=
  if n < 8192 then (s.downPort n).toList
  else
    let direct := allPorts.filter (fun p => (s.useOf p).use != 0 && (s.expectOf p).map (·.1) == some n)
    if direct.isEmpty && s.isClos && !s.pl.spine then allPorts.filter (fun p => (s.useOf p).use == 2) else direct

/-- A reservation at this hop toward endpoint `n`: on a port, or for a flow that ends at a consumer inside the module, where t_mem is
2.35 µs (R187, R190). -/
def State.holdHop (s : State) (f : Flow) (n pref : Nat) : Option (State × Flow) :=
  let order := s.nextFlow
  -- R444: a den with a degraded pool admits no new flow that crosses it
  let bad := fun d => s.faults.degraded.any (fun x => x.1 == d)
  if bad (denOf f.ingress) then none
  else if n ≠ s.ownId then s.holdFlow f ((s.hopCands n).filter (fun p => !bad (denOf p))) pref order
  else
    let d := denOf f.ingress
    let cells := ceilDiv (256 * f.burst + f.maxLen) 256
    let (s, c, g, _) := s.takeReserve (48 * d) cells
    let t : Rat := ((256 * f.burst + f.maxLen : Nat) : Rat) / rateOf f.rate * 1000000000 + 420 * (1750 / (s.floorMhz : Nat)) + 2350
    let f := { f with port := 192 + d, queue := 0, cells := c, pages := g, hopBound := ceilNat t, phase := .held, order := order }
    some ({ s with flows := s.flows ++ [f] }, f)

/-- A reservation ends: one that was never committed at once, a committed one at the boundary at or after `t` (R187, R390). -/
def State.dropFlow (s : State) (f : Flow) (t : Nat) : State :=
  if f.phase = .committed then s.updFlow { f with phase := .releasing, time := t }
  else ({ s with flows := s.flows.filter (fun x => x.order != f.order) }).giveReserve f

/-- The far port of a port of another leaf, by the connection rule of the default map (R33). -/
def farPort (p : Nat) : Nat := if 32 ≤ p % 48 then upPort (oppDir ((p % 48 - 32) / 4)) (4 * (p / 48) + p % 4) else p

/-- Delay in ns of the link from module `a` to endpoint `b`: as measured on this leaf's own ports (R58), else as the deployment has it. -/
def State.linkDelay (s : State) (p : Option Nat) (a b : Nat) : Nat :=
  let t : PortTime := match p with | some p => Tbl.get {} s.time.ports p | none => {}
  if t.valid then (t.delay / 1000).toNat else Config.linkDelay a b % 2001

/-! ## Commands of the admitting leaf -/

/-- A reservation message to another hop (R187, R390). -/
def State.sendHop (s : State) (f : Flow) (dst action ingress next time : Nat) (owner : Option Nat) : State :=
  s.sendPeer dst 0x0480 [action + ingress % 256 * 4, f.handle, next, f.rate, f.burst, f.maxLen, time % 2 ^ 32, time / 2 ^ 32] owner false

/-- The commit of a whole path: one boundary for all hops (R187). `e` is the command's number. -/
def State.commitPath (s : State) (f : Flow) (e bound : Nat) : State :=
  let t := s.boundaryAfter (s.domainNow + 100000)
  let f := { f with phase := .committing, time := t, bound := bound, hops := f.path.length + 1 }
  f.path.foldl (fun s m => s.sendHop f m 1 0 0 t (some e)) (s.updFlow f)

/-- TC1_ADMIT at the source's leaf (R186, R187, R385, R390): its own hop is held, the next one asked. -/
def State.tc1Admit (s : State) (c : Cmd) : State :=
  let src := c.p 0
  let dst := c.p 1
  s.runCmd { op := 0x0404, lens := lenIs 40, states := stA, j := true, change := true, long := true } c (fun s =>
    let down := if src < 8192 then s.downPort src else none
    Ans.check s [(0, down.isSome && s.inJob c.job src), (1, dst < 9216 && (8192 ≤ dst || s.inJob c.job dst)), (2, 1 ≤ c.p 2 && c.p 2 < 2 ^ 20),
                 (3, 1 ≤ c.p 3 && c.p 3 < 2 ^ 16), (4, 1 ≤ c.p 4 && c.p 4 ≤ 4132)] (
      let inp := down.getD 0
      let path := s.flowPath dst
      let idx := ((List.range 65536).find? (fun i => (s.flowOf (i + c.job * 65536)).isNone)).getD 0
      let busy := fun (s : State) (n : Nat) => (s, ({ status := 0x21, q := [0, 0, n] } : Ans))
      let next := match path with | m :: _ => m | [] => dst
      let pref := if dst < 8192 then bits dst 0 7 / 32 else denOf inp
      let f : Flow := { handle := idx + c.job * 65536, job := c.job, src := src, dst := dst, rate := c.p 2, burst := c.p 3, maxLen := c.p 4,
                        dReq := c.p 5, ingress := inp, next := next, path := path, admits := true }
      if !path.isEmpty && !s.time.domainValid then busy s 1
      else match s.holdHop f next pref with
        | none => busy s 1
        | some (s, f) =>
          let far := s.expectOf f.port
          let f := if path.isEmpty || !s.isClos then f else { f with path := (far.map (·.1)).toList ++ path }
          let s := s.updFlow f
          let d0 := f.hopBound + s.linkDelay none src s.ownId + (if f.port < 192 then s.linkDelay (some f.port) s.ownId (f.path.headD dst) else 0)
          if f.dReq < d0 then busy (s.dropFlow f 0) 1
          else match f.path with
            | [] => (s.commitPath f s.nextExecId d0, { goes := true, data := [f.handle, 2, 0, d0] })
            | m :: rest =>
              let s := s.sendHop f m 0 (match far with | some e => e.2.1 | none => 0) (rest.headD dst) 0 (some s.nextExecId)
              (s, { goes := true, data := [f.handle, 0, 0, d0], work := .relay [m] [] })))

/-- Every hop held so far is released, and the admission fails (R187). -/
def State.admitFails (s : State) (e : Exec) (acted : List Nat) (a : Ans) : State :=
  match s.flowOf (e.data.getD 0 0) with
  | none => s.execDone e.id a
  | some f => ((acted.foldl (fun s m => s.sendHop f m 2 0 0 0 none) s).dropFlow f 0).execDone e.id a

/-- A hop's answer to a reservation or a commit (R187): `q0` its bound, `q1` its pinned port. -/
def State.tc1ReplyIn (s : State) (e : Exec) (m status q0 q1 : Nat) : State :=
  match e.work, s.flowOf (e.data.getD 0 0) with
  | .relay left acted, some f =>
    let stage := e.data.getD 1 0
    let i := e.data.getD 2 0
    let sum := e.data.getD 3 0
    if !left.contains m then s
    else if stage = 0 then
      if status ≠ 0 then s.admitFails e acted (if status = 0xFF then .no 0xFF else { status := 0x21, q := [0, 0, i + 2] })
      else
        let rest := f.path.drop (i + 1)
        let sum := sum + q0 + (if 192 ≤ q1 % 256 then 0 else s.linkDelay none m (rest.headD f.dst))
        let acted := acted ++ [m]
        if f.dReq < sum then s.admitFails e acted { status := 0x21, q := [0, 0, i + 2] }
        else match rest with
          | [] => (s.setExec { e with data := [f.handle, 1, i, sum], work := .relay acted [] }).commitPath f e.id sum
          | n :: more =>
            (s.setExec { e with data := [f.handle, 0, i + 1, sum], work := .relay [n] acted }).sendHop f n 0 (farPort (q1 % 256)) (more.headD f.dst) 0 (some e.id)
    else if status ≠ 0 then s.admitFails e f.path (.no 0xFF)
    else
      let left := left.filter (· != m)
      s.setExec { e with data := [f.handle, if left.isEmpty then 2 else 1, i, sum], work := .relay left (m :: acted) }
  | _, _ => s

/-- Admissions whose hops have all taken the commit, and whose boundary has come, end (R187). -/
def State.admitsEnd (s : State) : State :=
  (s.cmd.execs.filter (fun e => e.op == 0x0404 && e.data.getD 1 0 == 2)).foldl (fun s e =>
    match s.flowOf (e.data.getD 0 0) with
    | some f => if f.phase = .committed then s.execDone e.id (.ok [f.handle, f.bound]) else s
    | none => s) s

/-- The flow that a command names, with R380, steps 7 and 8. -/
def State.withFlow (s : State) (c : Cmd) (k : Flow → State × Ans) : State × Ans :=
  match s.flowOf (c.p 0) with
  | none => (s, .bad 0)
  | some f => if f.job ≠ c.job then (s, .no 0x22) else k f

/-- TC1_RELEASE (R390). -/
def State.tc1Release (s : State) (c : Cmd) : State :=
  s.runCmd { op := 0x0405, lens := lenIs 20, states := stA, j := true } c (fun s =>
    s.withFlow c (fun f =>
      if f.phase ≠ .committed then (s, .no 0x20)
      else
        let t := s.boundaryAfter s.domainNow
        (f.path.foldl (fun s m => s.sendHop f m 2 0 0 t none) (s.dropFlow f t), .ok [])))

/-- TC1_QUERY (R390). -/
def State.tc1Query (s : State) (c : Cmd) : State :=
  s.runCmd { op := 0x0406, lens := lenIs 20, states := stA, j := true } c (fun s =>
    s.withFlow c (fun f => (s, .ok [b2n f.atRisk + b2n f.revoked * 2, f.bound, f.path.length + 1])))

/-! ## Peer reservations at this hop -/

/-- The opcode row of TC1_HOP. -/
def tc1HopInfo : OpInfo := { op := 0x0480, lens := lenIs 48, states := stA, p := true }

/-- The endpoint that sent a command. -/
def srcEndpoint (c : Cmd) : Nat := match c.src with | .fabric e => e | .slot _ => 0

/-- TC1_HOP with HOLD (R186–R190). -/
def State.tc1HopHold (s : State) (c : Cmd) : State :=
  let inp := bits (c.p 0) 2 8
  s.runCmd tc1HopInfo c (fun s =>
    Ans.check s [(0, bits (c.p 0) 0 2 == 0 && bits (c.p 0) 10 22 == 0 && inp < 192), (1, c.p 1 < 2 ^ 28), (2, c.p 2 < 2 ^ 14),
                 (3, 1 ≤ c.p 3 && c.p 3 < 2 ^ 20), (4, 1 ≤ c.p 4 && c.p 4 < 2 ^ 16), (5, 1 ≤ c.p 5 && c.p 5 ≤ 4132)] (
      let f : Flow := { handle := c.p 1, job := c.p 1 / 65536, src := srcEndpoint c, dst := c.p 2, rate := c.p 3, burst := c.p 4, maxLen := c.p 5,
                        ingress := inp, next := c.p 2 }
      if (s.hopFlow f.handle f.src).isSome then (s, .no 0x20)
      else match s.holdHop f f.next (denOf inp) with
        | none => (s, .no 0x21)
        | some (s, f) => (s, .ok [f.hopBound, f.port])))

/-- TC1_HOP with COMMIT (R187). -/
def State.tc1HopCommit (s : State) (c : Cmd) : State :=
  s.runCmd tc1HopInfo c (fun s =>
    Ans.check s [(0, bits (c.p 0) 0 2 == 1 && bits (c.p 0) 10 22 == 0)] (
      match s.hopFlow (c.p 1) (srcEndpoint c) with
      | none => (s, .bad 1)
      | some f => if f.phase ≠ .held then (s, .no 0x20) else (s.updFlow { f with phase := .committing, time := c.p64 6 }, .ok [f.hopBound, f.port])))

/-- TC1_HOP with RELEASE (R187). -/
def State.tc1HopRelease (s : State) (c : Cmd) : State :=
  s.runCmd tc1HopInfo c (fun s =>
    Ans.check s [(0, bits (c.p 0) 0 2 == 2 && bits (c.p 0) 10 22 == 0)] (
      match s.hopFlow (c.p 1) (srcEndpoint c) with
      | none => (s, .bad 1)
      | some f => (s.dropFlow f (c.p64 6), .ok [f.hopBound, f.port])))

end Sys2Proof.Machine
end

