-- ==== Sys2Proof/Machine/PktIn.lean ====
section
/-! DEFINITION. Packets that consumers inside the module take: COMPLETIONs (R114, R116, R592), memory requests and responses (R20, R122, R347,
R351), replies to peer commands (R207, R375), requests sent again (R122, R385). -/

namespace Sys2Proof.Machine

/-- A packet handed to a consumer is taken, and `k` says what the consumer does; nothing where no such packet was handed over. -/
def State.consume (s : State) (p : Nat) (pkt : Pkt) (type : Nat) (k : State → State) : State :=
  if !s.sw.delivered.contains (p, pkt) || pkt.hdr.type ≠ type then s else k (s.taken p pkt)

/-- A COMPLETION with ECE counts in ECE_RX of the den it arrived in (R134). -/
def State.countEce (s : State) (p : Nat) (h : Hdr) : State := if h.ece then s.bump (swReg (denOf p) 0x228) else s

/-- A COMPLETION of one kind (R119). -/
def State.completionIn (s : State) (p : Nat) (pkt : Pkt) (kind : Nat) (k : State → Compl → State) : State :=
  if (complOf pkt.payload).kind ≠ kind then s
  else s.consume p pkt 0x04 (fun s => k (s.countEce p pkt.hdr) (complOf pkt.payload))

/-- ACK (R116). -/
def State.ackPkt (s : State) (p : Nat) (pkt : Pkt) : State := s.completionIn p pkt kAck (fun s c => s.ackIn pkt.hdr.src c pkt.hdr.ece)
/-- OPEN (R114). -/
def State.openPkt (s : State) (p : Nat) (pkt : Pkt) : State := s.completionIn p pkt kOpen (fun s c => s.openIn p pkt.hdr c)
/-- OPEN_ACK (R114). -/
def State.openAckPkt (s : State) (p : Nat) (pkt : Pkt) : State := s.completionIn p pkt kOpenAck (fun s c => s.openAckIn pkt.hdr.src c.stc c.inc)
/-- RESYNC (R114). -/
def State.resyncPkt (s : State) (p : Nat) (pkt : Pkt) : State := s.completionIn p pkt kResync (fun s c => s.resyncIn pkt.hdr.src c.stc)

/-- Codes of R368; any other is treated as INTERNAL. -/
def statusOf (n : Nat) : Nat :=
  if [0x00, 0x01, 0x10, 0x11, 0x12, 0x20, 0x21, 0x22, 0x30, 0x40, 0x41, 0x50, 0x60].contains n then n else 0xFF

/-- A packet that this module sent in a stream is what the STATUS answers (R592). -/
def OutPkt.answers (o : OutPkt) (h : Hdr) : Bool := o.pkt.hdr.ctx == h.ctx && o.pkt.hdr.chunk == h.chunk && o.pkt.hdr.msg == h.msg

/-- The outstanding request that an answer belongs to (R592). -/
def Ask.answered (a : Ask) (h : Hdr) : Bool :=
  a.dst == h.src && a.ctx == h.ctx && a.chunk == h.chunk && a.msg == h.msg

/-- One request leaves the list of those outstanding. -/
def State.askDone (s : State) (a : Ask) : State := { s with st := { s.st with asks := s.st.asks.erase a } }

/-- The work of an executing command goes on with a module's final answer. -/
def State.peerAnswer (s : State) (a : Ask) (status q0 q1 : Nat) : State :=
  match a.owner with
  | none => s
  | some id =>
    match s.execOf id with
    | none => s
    | some e => if e.op = 0x0404 then s.tc1ReplyIn e a.dst status q0 q1 else s.ctxReplyIn e a.dst status q1

/-- A STATUS COMPLETION (R114, R221, R429, R592): a refusal of a partial frees its next resend from the count; a refused OPEN waits; an answer
to a request ends it, and one to a peer command goes to the command; a boundary report of another leaf is noted; anything else is counted. -/
def State.statusPkt (s : State) (p : Nat) (pkt : Pkt) : State :=
  s.completionIn p pkt kStatus (fun s c =>
    let h := pkt.hdr
    let code := statusOf c.ackSeq
    let x := s.txs h.src c.stc
    let ctx := s.ctx h.ctx
    let sent := (List.range 4).flatMap (fun tc => ((s.txs h.src tc).out.filter (fun o => o.answers h && martenType o.pkt.hdr.type)).map (fun o => (tc, o)))
    match sent with
    | (tc, o) :: _ => if code = 0x21 then s.modOut h.src tc o.pkt.hdr.seq (fun o => { o with busy := true }) else s
    | [] =>
      match s.st.asks.find? (fun a => a.kind != .command && a.answered h) with
      | some a => s.askDone a
      | none =>
        if x.phase = .opening && code = 0x21 && h.ctx = 0 && h.chunk = 0 && h.msg = 0 then s.setTxs h.src c.stc { x with phase := .busy, openAt := s.clk }
        else if code = 0 then
          if ctx.state ≠ .free && ctx.leaves.contains h.src then
            s.setCtx h.ctx { ctx with peerG := Tbl.put 0 ctx.peerG h.src (ctx.resolve h.chunk + 1) }
          else s.bump (swReg (denOf p) 0x22C)
        else match s.st.asks.find? (fun a => a.answered h) with
          | some a => (s.askDone a).peerAnswer a code 0 0
          | none => s.bump (swReg (denOf p) 0x22C))

/-! ## Memory requests (R347, R351) -/

/-- The check of R347 and R348 for a request of the fabric. -/
def State.checkFabric (s : State) (job : Nat) (wr : Bool) (o n : Nat) : Access :=
  if job = 0 then s.checkHost o n else s.checkJob s.visMax job wr o n

/-- A refused request: counted, MEM_ACCESS raised, answered with a STATUS (R347). -/
def State.refuseFabric (s : State) (h : Hdr) (a : Access) : State := (s.accViol h.offset h.job).sendStatus h a.status

/-- WRITE (R347, R353, R426). -/
def State.writePkt (s : State) (p : Nat) (pkt : Pkt) : State :=
  s.consume p pkt 0x01 (fun s =>
    let h := pkt.hdr
    let own := h.src = 8192 + s.pl.partner && s.pl.paired
    if !s.mirroredWrite h then
      if pkt.payload.isEmpty then s
      else match s.checkFabric h.job true h.offset pkt.payload.length with
        | .ok => if own then s.memWrite h.offset pkt.payload else s.anyWrite h.offset pkt.payload
        | a => s.refuseFabric h a
    -- R426: a repeat of a write whose copy is still with the partner adds nothing
    else if s.st.tx.any (fun e => (e.2.out ++ e.2.wait).any (fun o => match o.onAck with
        | some a => a.2.src == h.src && a.2.tc == h.tc && a.2.seq == h.seq | none => false)) then s
    else
      let x := s.rxs (s.rxSrc h) h.tc
      let old := !x.open_ || seqLt h.seq x.ack || x.got.contains h.seq || 256 ≤ seqDiff h.seq x.ack
      if old || pkt.payload.isEmpty then (s.acceptTracked p h).1
      else match s.checkFabric h.job true h.offset pkt.payload.length with
        | .ok => (s.memWrite h.offset pkt.payload).mirrorWrite h.offset pkt.payload (some (p, h))
        | a => ((s.acceptTracked p h).1).refuseFabric h a)

/-- READ_REQ (R347, R351): answered with data, or with a STATUS. -/
def State.readReqPkt (s : State) (p : Nat) (pkt : Pkt) : State :=
  s.consume p pkt 0x02 (fun s =>
    let h := pkt.hdr
    let n := bits (leWord pkt.payload 0) 0 13
    if pkt.payload.length < 4 || n = 0 || 4096 < n then s.refuseFabric h .badParam
    else match s.checkFabric h.job false h.offset n with
      | .ok =>
        match (if (s.windowCore h.offset n).isSome then none else s.ueIn h.offset n) with
        | some l => (s.meetUe l).sendStatus h 0x50
        | none =>
          let r : Hdr := { type := 0x03, tc := h.tc, dst := h.src, src := s.ownId, job := h.job, len := n, offset := h.offset, msg := h.msg }
          s.sendPkt { hdr := r, payload := s.anyRead h.offset n } (.memory (s.denOfOffset h.offset (denOf p))) none none
      | a => s.refuseFabric h a)

/-- READ_RESP: the request that it answers is over (R20). -/
def State.readRespPkt (s : State) (p : Nat) (pkt : Pkt) : State :=
  s.consume p pkt 0x03 (fun s =>
    match s.st.asks.find? (fun a => a.kind == .read && a.dst == pkt.hdr.src && a.msg == pkt.hdr.msg && a.pkt.hdr.offset == pkt.hdr.offset) with
    | some a => s.askDone a
    | none => s)

/-- RESEND_REQ (R123). -/
def State.resendPkt (s : State) (p : Nat) (pkt : Pkt) : State := s.consume p pkt 0x28 (fun s => s.resendReq p pkt)

/-! ## Peer commands -/

/-- A CMD_REPLY is matched by TAG to a peer command of this module (R20, R375); an unmatched one is discarded and counted (log 24). -/
def State.replyPkt (s : State) (p : Nat) (pkt : Pkt) : State :=
  s.consume p pkt 0x21 (fun s =>
    let w := leWord pkt.payload
    match s.st.asks.find? (fun a => a.kind == .command && a.dst == pkt.hdr.src && a.tag == bits (w 0) 0 16) with
    | none => s.bump (swReg (denOf p) 0x22C)
    | some a => if bit (w 1) 24 then (s.askDone a).peerAnswer a (statusOf (bits (w 0) 16 16)) (w 4) (w 5) else s)

/-- A relayed module has not acted within the class bound (R385). -/
def State.peerTimeout (s : State) (dst tag : Nat) : State :=
  match s.st.asks.find? (fun a => a.kind == .command && a.dst == dst && a.tag == tag) with
  | none => s
  | some a => (s.askDone a).peerAnswer a 0xFF 0 0

/-- The `i`-th outstanding request has had no response within RTO: it is sent again, with the same MSG or TAG (R122, R123, R375). -/
def State.responseTimeout (s : State) (i : Nat) : State :=
  match s.st.asks[i]? with
  | none => s
  | some a =>
    let s := { s with st := { s.st with asks := s.st.asks.set i { a with sentAt := s.clk } } }
    s.sendPkt a.pkt (match a.core with | some c => .sett (coreDen c) | none => .keeper) none none

end Sys2Proof.Machine
end

