-- ==== Sys2Proof/Machine/Power.lean ====
section
/-! DEFINITION. Power, clock islands and power states (R480–R504): readings, the power cap, thermal and rail limits, island steps,
TRIM, DROWSE, HIBERNATE and wake. -/

namespace Sys2Proof.Machine

/-- Offset `o` of the POWER block. -/
def powReg (o : Nat) : Nat := basePower + o

/-! ## Islands (R488, R492, R503) -/

/-- Island `i`. -/
def State.island (s : State) (i : Nat) : Island := Tbl.get {} s.power.islands i
/-- It becomes `x`. -/
def State.setIsland (s : State) (i : Nat) (x : Island) : State := { s with power := { s.power with islands := Tbl.put {} s.power.islands i x } }

/-- The entry of R492 that island `i` belongs to: 0 Sett, 1 Marten, 2 slices; none for an island that is never capped. -/
def entryOf (i : Nat) : Option Nat := if i < 128 then some 0 else if i < 144 then some 2 else if i < 160 then some 1 else none

/-- Den of an island 0–159. -/
def islandDen (i : Nat) : Nat := if i < 128 then i / 32 else (i - 128) % 16 / 4

/-- Frequency of entry `e` with nothing lowered (R488, R492). -/
def State.entryTop (s : State) (e : Nat) : Nat := if e = 0 then s.fld (powReg 0x00C) 0 11 else 1750

/-- Lowest frequency of entry `e` (R191, R492). -/
def State.entryFloor (s : State) (e : Nat) : Nat := if e = 2 && !s.flows.isEmpty then max 250 (ceilDiv s.floorMhz 125 * 125) else 250

/-- Frequency of entry `e` after `n` steps down. -/
def State.stepped (s : State) (e n : Nat) : Nat := max (s.entryFloor e) (s.entryTop e - 125 * n)

/-- Steps of entry `e` in a list of steps. -/
def stepsOf (l : List Nat) (e : Nat) : Nat := (l.filter (· == e)).length

/-- Steps that den `d` has taken for entry `e` for its temperature (R494). -/
def State.thermalOf (s : State) (d : Nat) : List Nat := Tbl.get [] s.power.thermal d

/-- Steps that a limited rail of den `d` has taken for entry `e` (R484): VSETT feeds the Sett cores, VFAB the others. -/
def State.railOf (s : State) (d e : Nat) : Nat := Tbl.get 0 s.power.railSteps (2 * d + (if e = 0 then 0 else 1))

/-- The frequency that island `i` has to run at: the lowest of its settings (R492, R494, R484), 250 MHz for a slice in DROWSE (R498). -/
def State.targetOf (s : State) (i : Nat) : Nat :=
  match entryOf i with
  | none => if i = 192 then 1500 else if i = 193 then 250 else Config.fixedMhz i
  | some e =>
    let d := islandDen i
    if s.power.pstate = 2 && e = 2 then 250
    else min (s.stepped e (stepsOf s.power.capSteps e)) (min (s.stepped e (stepsOf (s.thermalOf d) e)) (s.stepped e (s.railOf d e)))

/-- The islands that exist (R503). -/
def State.islands (s : State) : List Nat := (List.range 195).filter (fun i => !(s.ck2l && 180 ≤ i && i < 184))

/-- Every island's target follows the settings (R487: it steps only between commands; ISLAND_STEP_COMPLETE ends the step). -/
def State.retarget (s : State) : State :=
  s.islands.foldl (fun s i => s.setIsland i { s.island i with target := s.targetOf i }) s

/-- Islands at their RUN settings, reached at once: at start-up and at a wake (R500). -/
def State.startIslands (s : State) : State :=
  s.islands.foldl (fun s i => s.setIsland i { s.island i with mhz := s.targetOf i, target := s.targetOf i,
                                                              gated := i < 128 && (s.core i).fenced, stopped := false }) s

/-- An island's step completes (R487). -/
def State.islandStep (s : State) (i : Nat) : State :=
  let x := s.island i
  if i < 195 && x.mhz ≠ x.target then s.setIsland i { x with mhz := x.target } else s

/-- An island's own voltage need in mV: its table's point and its adjustments (R486). -/
def State.islandNeed (s : State) (i : Nat) : Nat := Config.vfTable i (s.island i).mhz + 10 * (s.island i).avs

/-- Islands on rail `r` of den `d`: 0 VSETT, 1 VFAB (R482). -/
def railIslands (d r : Nat) : List Nat :=
  if r = 0 then (List.range 32).map (32 * d + ·)
  else (List.range 4).map (128 + 4 * d + ·) ++ (List.range 4).map (144 + 4 * d + ·) ++ (List.range 4).map (160 + 4 * d + ·)
    ++ (List.range 2).map (176 + 2 * d + ·)

/-- A core rail's voltage in mV: the highest that an island on it requires (R486); VMEM is 750, or 600 in retention (R482). -/
def State.railMv (s : State) (d r : Nat) : Nat :=
  if r = 2 then (if s.power.pstate = 2 then 600 else if s.power.pstate = 3 then 0 else 750)
  else if s.power.pstate = 3 then 0
  else ((railIslands d r).filter (fun i => !(s.island i).gated)).foldl (fun m i => max m (s.islandNeed i)) 0

/-- AVS: Keeper raises islands' points by 10 mV, to at most 40 mV (R486). -/
def State.avs (s : State) (l : List Nat) : State :=
  l.foldl (fun s i => let x := s.island i; if i < 195 && x.avs < 4 then s.setIsland i { x with avs := x.avs + 1 } else s) s

/-! ## Readings (R480, R481) -/

/-- PF_WARN_N asserts (R480, R460): the sideband pin follows it (R554's table), the black-box sequence begins. In a pin reset only the status
bit is set (R508). -/
def State.pfWarnIn (s : State) : State :=
  if s.power.pfWarn || s.dev = .off then s
  else
    let s := ({ s with power := { s.power with pfWarn := true } }).emit (.pin 2 false)
    if s.power.inReset then s else s.event { word := 4, source := mPfWarn }

/-- A reading of stage one (R481). Above 60 V INPUT_FAULT begins (R441); below 35 V or above 64 V stage one stops (R480). -/
def State.powerReading (s : State) (mv ma temp : Nat) : State :=
  if s.dev = .off then s
  else
    let w := mv * ma / 1000
    let l := (w :: s.power.samples).take 100
    let s := { s with power := { s.power with vin := mv, iin := ma, stage1 := temp, samples := l,
                                              pin := l.foldl (· + ·) 0 / (1000 * max 1 l.length),
                                              pload := s.free % 4096, v12 := (s.used).free % 65536 } }
    let s := s.used.used
    let s := if 60000 < mv then s.condBegin { word := 4, source := mInputFault } else s.condEnd 4 mInputFault 0
    if mv < 35000 || 64000 < mv then
      let s := if mv < 35000 then s.pfWarnIn else s
      let s := { s with power := { s.power with locked := true, waitStart := true } }
      -- with no sequence of R460 running, the 12 V bus falls at once
      if s.box.stage = .idle then { s with dev := .off } else s
    else s

/-! ## Cap (R491–R493) -/

/-- The first entry in R492's order that is above its lowest frequency under steps `n`. -/
def State.lowerable (s : State) (n : Nat → Nat) : Option Nat := [0, 1, 2].find? (fun e => s.entryFloor e < s.stepped e (n e))

/-- The cap becomes `w` (R491). -/
def State.setCap (s : State) (w : Nat) : State := { s with power := { s.power with cap := w } }

/-- One pass of the capping loop with `p` W over the last 50 µs (R492, R493). It runs in RUN and TRIM (R491). -/
def State.capLoop (s : State) (p : Nat) : State :=
  if 2 ≤ s.power.pstate || s.dev.code < 2 then s
  else
    let w := s.power
    if w.cap < p then
      match s.lowerable (stepsOf w.capSteps) with
      | some e => ({ s with power := { w with capSteps := e :: w.capSteps, lowLoops := 0, unmet := false } }).retarget
      | none => { s with power := { w with lowLoops := 0, unmet := true } }
    else if 100 * p < 97 * w.cap then
      if 20 ≤ w.lowLoops + 1 then ({ s with power := { w with capSteps := w.capSteps.drop 1, lowLoops := 0, unmet := false } }).retarget
      else { s with power := { w with lowLoops := w.lowLoops + 1, unmet := false } }
    else { s with power := { w with lowLoops := 0, unmet := false } }

/-! ## Temperature (R490, R494) -/

/-- A den's junction is at `t` °C (R440, R494): the conditions of DEN_HOT and DEN_OVERTEMP begin or end. -/
def State.junction (s : State) (d t : Nat) : State :=
  let hot := s.power.hotDens
  let hot := if 100 ≤ t then (if hot.contains d then hot else d :: hot) else if t < 97 then hot.filter (· != d) else hot
  let s := { s with power := { s.power with tj := Tbl.put 0 s.power.tj d t, hotDens := hot } }
  let s := if 100 ≤ t then s.condBegin { word := d, source := fDenHot } else if t ≤ 97 then s.condEnd d fDenHot 0 else s
  if 105 ≤ t then s.condBegin { word := d, source := fDenOvertemp } else s.condEnd d fDenOvertemp 0

/-- Some Sett island of the den runs 22 °C hotter than another island of it (R490). -/
def State.skewed (s : State) (d : Nat) : Bool :=
  let near := railIslands d 0 ++ (railIslands d 1).take 12
  (railIslands d 0).any (fun i => near.any (fun j => decide ((s.island j).temp + 22 ≤ (s.island i).temp)))

/-- Temperatures of a den and of islands in it (R490, R494). -/
def State.denTemp (s : State) (d t : Nat) (isl : List (Nat × Nat)) : State :=
  if 3 < d then s
  else
    let s := isl.foldl (fun s x => if x.1 < 160 && islandDen x.1 = d then s.setIsland x.1 { s.island x.1 with temp := x.2 } else s) s
    let sk := s.power.skew.filter (· != d)
    let s := { s with power := { s.power with skew := if s.skewed d then d :: sk else sk } }
    s.junction d t

/-- The thermal loop of den `d` (R494, R490): a step down while it is hot or its islands differ by 22 °C, a step back below 97 °C. -/
def State.thermalLoop (s : State) (d t : Nat) : State :=
  if 3 < d || s.dev.code < 2 then s
  else
    let s := s.junction d t
    let l := s.thermalOf d
    let put := fun (l : List Nat) => ({ s with power := { s.power with thermal := Tbl.put [] s.power.thermal d l } }).retarget
    if 100 ≤ t then (match s.lowerable (stepsOf l) with | some e => put (e :: l) | none => s)
    else if s.power.skew.contains d then (if s.entryFloor 0 < s.stepped 0 (stepsOf l 0) then put (0 :: l) else s)
    else if t < 97 then (if l.isEmpty then s else put (l.drop 1))
    else s

/-! ## Phases and rails (R483, R484) -/

/-- Local phases of a rail: 0 VSETT, 1 VFAB, 2 VMEM (R483). -/
def railPhases (r : Nat) : List Nat := if r = 0 then List.range 14 else if r = 1 then (List.range 8).map (14 + ·) else [22, 23]
/-- The rail of a local phase. -/
def phaseRail (l : Nat) : Nat := if l < 14 then 0 else if l < 22 then 1 else 2

/-- A core rail of den `d` leaves regulation (R484). -/
def State.railOut (s : State) (d : Nat) : State := if 3 < d then s else s.condBegin { word := d, source := fRail }

/-- A phase is stopped until the next start-up; its rail is limited by frequency steps, whose number the spec leaves to the currents (R484). -/
def State.stopPhase (s : State) (p : Nat) : State :=
  if 96 ≤ p || s.power.stopped.contains p then s
  else
    let d := p / 24
    let r := phaseRail (p % 24)
    let k := 2 * d + r
    let s := ({ s with power := { s.power with stopped := p :: s.power.stopped } }).bump (powReg 0x08C)
    let s := if r = 2 then s
             else ({ s with power := { s.power with railSteps := Tbl.put 0 s.power.railSteps k (max (Tbl.get 0 s.power.railSteps k) (s.free % 13)) } }).used.retarget
    if (railPhases r).all (fun l => s.power.stopped.contains (24 * d + l)) then s.railOut d else s

/-- PHASE_FAULT of a module phase (R484, R454). -/
def State.phaseFaultIn (s : State) (p : Nat) : State :=
  if 96 ≤ p || s.power.stopped.contains p then s else (s.event { word := p / 24, source := fPhase, unit := p, kind := .phase }).stopPhase p

/-! ## Reference (R489) -/

/-- The reference is lost: lanes lose lock and their ports leave routing under R89. -/
def State.refLostIn (s : State) : State :=
  if s.power.refLost then s
  else
    let s := { s with power := { s.power with refLost := true } }
    (List.range 192).foldl (fun s p =>
      let n := 2 ^ (s.port p).width
      (List.range n).foldl (fun s i =>
        let l := 4 * p + i
        if (s.lane l).lock = .locked then (s.setLane l { s.lane l with lock := .hunt, win := [], good := 0, soaking := false }).laneLost p i else s) s) s

/-- The reference returns. -/
def State.refBack (s : State) : State := { s with power := { s.power with refLost := false } }

/-! ## Power states (R495–R500) -/

/-- The POWER_STATE command that waits ends. -/
def State.powerReply (s : State) (a : Ans) : State :=
  match s.power.owner with
  | some id => ({ s with power := { s.power with owner := none } }).execDone id a
  | none => s

/-- A transition ends in state `t`; WAKES counts those that end in RUN (R504). -/
def State.powerReached (s : State) (t : Nat) : State :=
  let s := { s with power := { s.power with pstate := t, busy := false } }
  let s := if t = 0 then s.bump (powReg 0x090) else s
  s.powerReply (.ok [])

/-- Cores that TRIM powers off: visible ones without a binding (R497). Fenced cores are unpowered in every state. -/
def State.trimCores (s : State) : State :=
  (List.range 128).foldl (fun s c =>
    let x := s.core c
    if x.binding = 0 && (s.visOf c).isSome then (s.setCore c { x with gated := true }).setIsland c { s.island c with gated := true } else s) s

/-- Cores still to power on for RUN. -/
def State.gatedCores (s : State) : List Nat := below 128 (fun c => (s.core c).gated && !(s.core c).fenced)

/-- A gated core has powered on (R497): for a command that needs it, or on the way to RUN. -/
def State.powerOn (s : State) (c : Nat) : State :=
  let x := s.core c
  if !x.gated || !(x.binding ≠ 0 || (s.power.busy && s.power.target = 0)) then s
  else
    let s := (s.corePowered c).setIsland c { s.island c with gated := false }
    let s := s.setCore c { s.core c with gated := false }
    if s.power.busy && s.power.target = 0 && s.power.pstate = 1 && s.gatedCores.isEmpty then s.powerReached 0 else s

/-- What refuses DROWSE and HIBERNATE (R397, R496). -/
def State.mustStay (s : State) : Bool :=
  s.liveCtxs.any (fun e => e.2.state == .running) || !s.flows.isEmpty || s.pair.st == 2 || s.pair.st == 3 || s.pair.st == 5
    || s.sett.cores.any (fun e => e.2.st == .running && e.2.kind == 0)

/-- POWER_STATE begins a transition to `t` (R496). -/
def State.powerBegin (s : State) (t : Nat) : State := { s with power := { s.power with target := t, busy := true, owner := some s.nextExecId } }

/-- POWER_STATE to target `t` (R397, R495–R499). -/
def State.powerState (s : State) (t : Nat) (c : Cmd) : State :=
  s.runCmd { op := 0x0A01, lens := lenIs 20, states := stCRA, m := true, long := true } c (fun s =>
    Ans.check s [(0, c.p 0 == t)] (
      if s.power.busy then (s, .no 0x20)
      else if t = s.power.pstate then (s, .ok [])
      else if 2 ≤ t && s.mustStay then (s, .no 0x20)
      else if t = 0 && s.power.pstate = 1 && s.gatedCores.isEmpty then (s.powerReached 0, .ok [])
      else if t = 1 && s.power.pstate = 0 then (({ s with power := { s.power with pstate := 1, target := 1 } }).trimCores, .ok [])
      else
        let s := s.powerBegin t
        (if 2 ≤ t && s.power.pstate < 2 then s.setAccept false else s, { goes := true, data := [t] })))

/-- Sett and Marten clocks stop or run again (R495, R498). -/
def State.stopClocks (s : State) (stop : Bool) : State :=
  (List.range 160).foldl (fun s i => if 128 ≤ i && i < 144 then s else s.setIsland i { s.island i with stopped := stop }) s

/-- The forwarding window of an entry to DROWSE or HIBERNATE ends (R498, R499): what remains is discarded under R105, buffers are flushed,
and DROWSE is reached; for HIBERNATE Keeper sends its final reply. -/
def State.drainOut (s : State) : State :=
  if !s.power.busy || s.power.target < 2 then s
  else
    let s := (s.sw.held.map (·.id)).foldl (fun s i => s.residenceOut i) s
    let s := s.flushWhere (fun _ => true)
    if s.power.target = 2 then
      let s := ({ s with power := { s.power with pstate := 2 } }).retarget.stopClocks true
      let s := s.powerReached 2
      if s.power.wakeReq then { s with power := { s.power with busy := true, target := 0, wakeReq := false } } else s
    else s.powerReply (.ok [])

/-- HIBERNATE is reached (R499): Keeper, lanes and the PCI Express link go down; what DRAM holds stays. -/
def State.hibernated (s : State) : State :=
  if !s.power.busy || s.power.target ≠ 3 || s.power.owner.isSome then s
  else
    let s := (List.range 192).foldl (fun s p =>
      if (s.port p).st = .disabled then s else let s := s.outOfService p; s.setPort p { s.port p with st := .disabled }) s
    let s := { s with host := { s.host with linkUp := false, rate := 0, width := 0, flit := false, l0p := false } }
    let s := { s with lanes := [], power := { s.power with pstate := 3, busy := false, hibMeas := s.fwMeasured true } }
    let s := (List.range 195).foldl (fun s i => if i = 193 then s else s.setIsland i { s.island i with gated := true, mhz := 0 }) s
    if s.power.wakeReq then { s with power := { s.power with busy := true, target := 0, wakeReq := false } } else s

/-- A wake request: WAKE_N or I3C (R500). One that comes during an entry waits for its end (R496). -/
def State.wakeRequest (s : State) : State :=
  let w := s.power
  if w.busy && 2 ≤ w.target then { s with power := { w with wakeReq := true } }
  else if w.pstate = 3 && !w.busy then { s with power := { w with busy := true, target := 0 } }
  else s

/-- DROWSE has been reversed (R498): ACCEPT = 1, clocks run, and the target state is reached. -/
def State.drowseWoken (s : State) : State :=
  if !s.power.busy || s.power.pstate ≠ 2 || 2 ≤ s.power.target then s
  else
    let t := s.power.target
    let s := ((({ s with power := { s.power with pstate := 0 } }).stopClocks false).retarget).setAccept (s.dev.code ≥ 4 && s.pair.st != 4)
    let s := if t = 1 then s.trimCores else (List.range 128).foldl (fun s c => if (s.core c).gated && !(s.core c).fenced then s.setCore c { s.core c with gated := false } else s) s
    s.powerReached t

/-- Attached cores of contexts and embedding tables are attached afresh (R500, R312). -/
def State.reattach (s : State) : State :=
  let s := s.liveCtxs.foldl (fun s e => if e.2.cores.isEmpty then s else s.startCores e.2.cores e.2.binding e.1 true) s
  s.coll.embs.foldl (fun s e => if e.2.cores.isEmpty then s else s.startCores e.2.cores e.2.binding e.1 true) s

/-- A wake from HIBERNATE reaches RUN (R500): repair load, islands at their RUN settings, ports hunt, DOMAIN_VALID is cleared. A failed check
turns it into a reset, which the caller makes. -/
def State.hibernateWoken (s : State) : State :=
  let s := { s with power := { s.power with pstate := 0 } }
  let s := (List.range 128).foldl (fun s c => s.repairLoad c) s
  let s := s.startIslands
  let s := { s with time := { s.time with domainValid := false, dirs := [0, 1, 2, 3].foldl (fun t d => Tbl.put {} t d { (Tbl.get ({} : DirTime) t d) with good := 0 }) s.time.dirs } }
  let s := (List.range 192).foldl (fun s p => if s.fld (linkReg p 0) 0 1 = 1 then s.enterHunt p else s) s
  let s := (List.range 128).foldl (fun s c => if (s.core c).gated && !(s.core c).fenced then s.setCore c { s.core c with gated := false } else s) s
  (s.reattach.setAccept (s.dev.code ≥ 4)).powerReached 0

/-! ## Commands (R397) -/

/-- POWER_CAP (R397, R491). -/
def State.powerCap (s : State) (c : Cmd) : State :=
  let w := c.p 0
  s.runCmd { op := 0x0A00, lens := lenIs 20, states := stCRA, m := true } c (fun s =>
    Ans.check s [(0, 1500 ≤ w && w ≤ 3800)] (s.setCap w, .ok [w]))

/-- POWER_READ (R397). -/
def State.powerRead (s : State) (c : Cmd) : State :=
  s.runCmd { op := 0x0A02, lens := lenIs 16, states := stCRA, m := true } c (fun s =>
    (s, .ok [s.power.pin, s.power.vin, s.power.pload, s.power.cap, ([0, 1, 2, 3].map (fun d => Tbl.get 0 s.power.tj d)).foldl max 0 % 256]))

/-! ## Array starts (R485) -/

/-- Array starts in den `d` within the last 100 ns. -/
def State.recentStarts (s : State) (d : Nat) : List Nat := (Tbl.get [] s.power.starts d).filter (fun t => s.clk < t + 100000)

/-- Core `c`'s array has been idle for more than 10 µs. -/
def State.longIdle (s : State) (c : Nat) : Bool :=
  (s.core c).array.isNone && (match Tbl.get 0 s.power.idleAt c with | 0 => true | t => decide (t - 1 + 10 * us < s.clk))

/-- The current-step limit holds core `c` back (R485). -/
def State.startHeld (s : State) (c : Nat) : Bool := s.longIdle c && 4 ≤ (s.recentStarts (coreDen c)).length

/-- Core `c`'s array starts after an idle time (R485). -/
def State.noteStart (s : State) (c : Nat) : State :=
  if !s.longIdle c then s
  else { s with power := { s.power with starts := Tbl.put [] s.power.starts (coreDen c) (s.clk :: s.recentStarts (coreDen c)),
                                        held := s.power.held.filter (· != c) } }

/-- An array command starts on core `c` (R266, R269, R273), unless the current-step limit holds it back (R485). -/
def State.arrayStart (s : State) (c opc : Nat) (err : Option (Nat × Nat)) : State :=
  if 128 ≤ c || 2 ≤ s.power.pstate || (s.core c).array.isSome then s
  else if s.startHeld c then { s with power := { s.power with held := if s.power.held.contains c then s.power.held else c :: s.power.held } }
  else
    let x := (s.core c).arrayStart opc err
    if x = s.core c then s else (s.noteStart c).setCore c x

/-- A held array may start in the next 100 ns window (R485): its next command starts. -/
def State.startLimitEnds (s : State) (c : Nat) : State :=
  if !s.power.held.contains c then s
  else
    let s := { s with power := { s.power with held := s.power.held.filter (· != c) } }
    match (s.core c).arrayNext with
    | none => s
    | some q => s.arrayStart c (arrCmd q.words).opc none

/-- A core's array has finished; its idle time begins (R485). -/
def State.noteIdle (s : State) (c : Nat) : State := { s with power := { s.power with idleAt := Tbl.put 0 s.power.idleAt c (s.clk + 1) } }

end Sys2Proof.Machine
end

