-- ==== Sys2Proof/Machine/RegRw.lean ====
section
/-! DEFINITION. The RW fields of BAR0 (R573): which bits software and configuration images write, the ranges of their values, when a write
is ignored (R562), and what takes effect with a new value. -/

namespace Sys2Proof.Machine

/-- RW bits of a LINK register (R96, R98, R131). -/
def rwLink (o : Nat) : Nat :=
  if o = 0x000 then 0x6FF else if o = 0x010 then 0x1FFFFFF else if o = 0x014 then 0xFFFF else if o = 0x040 then 0xFFFFFFFF
  else if o = 0x048 then 0xFFFF else 0

/-- RW bits of a SWITCH register of den `d` (R133, R166–R168, R197, R200). -/
def rwSwitch (d o : Nat) : Nat :=
  if o < 0x80 then (if o % 0x20 = 4 then 0x7F7F7F else 0)
  else if o = 0x200 then (if d = 0 then 0x0FFF3FFF else 0)
  else if o = 0x240 then (if d = 0 then 0xFF01 else 0)
  else if o = 0x300 then 7
  else if 0x400 ≤ o && o < 0x460 then (if o % 0x10 = 0 || o % 0x10 = 4 then 0xFFFFF else if o % 0x10 = 8 then (if o < 0x430 then 0xFF else 0x1FF) else 0)
  else if o = 0x500 then 0xFFFFFFFF
  else if 0x800 ≤ o && o < 0xB00 then (if o % 0x10 = 0 then 0xFFFF007F else if o % 0x10 = 4 then 0xFF7F else 0)
  else if o = 0xB00 then 0x0FFF1FFF
  else 0

/-- Sources of word `w` that are locked, as a mask. -/
def lockedMask (w : Nat) : Nat := maskOf 64 (fun i => sourceLocked w i)

/-- Word and offset in the word of a FAULT offset below 0x2000 (R462). -/
def faultWord (o : Nat) : Option (Nat × Nat) :=
  if o < 0x1000 then some (o / 0x400, o % 0x400) else if o < 0x1400 then some (4, o - 0x1000) else none

/-- RW bits of a FAULT register (R462, R463): MASK bits of locked sources read 0, and the class of a locked source is fixed. -/
def rwFault (o : Nat) : Nat :=
  if o = 0x2004 then 0x0FFF077F
  else if o = 0x2008 then 7
  else match faultWord o with
    | none => 0
    | some (w, r) =>
      if r = 8 then 0xFFFFFFFF - lockedMask w % 2 ^ 32
      else if r = 12 then 0xFFFFFFFF - lockedMask w / 2 ^ 32
      else if 0x40 ≤ r && r < 0x140 && r % 4 = 0 then
        (if sourceExists w ((r - 0x40) / 4) && !sourceLocked w ((r - 0x40) / 4) then 7 else 0)
      else 0

/-- RW bits of a CMD or HOST register (R400, R401, R557). -/
def rwCmd (o : Nat) : Nat :=
  if o = 0 then 0xFFFF else if o = 0x400 then 0xC0000000 else if o = 0x404 then 0xFFFF else if o = 0x40C then 1
  else if 0x1000 ≤ o && o < 0x3000 then
    (if o % 0x20 = 0 then 0x003F3FFF else if o % 0x20 = 8 then 0xFFFFF000 else if o % 0x20 = 12 then 0xFFFFFFFF else 0)
  else 0

/-- RW bits of the word at BAR0 offset `a`; 0 where it has none (R573). SETT.CORES.CHAR_ALL has a row of its own and is not among them. -/
def rwMask (a : Nat) : Nat :=
  if a < baseFault then 0
  else if a < baseCmd then rwFault (a - baseFault)
  else if a < baseTime then rwCmd (a - baseCmd)
  else if a < basePower then (if a = baseTime + 0x10 then 0x0FFFFFFF else if a = baseTime + 0x18 || a = baseTime + 0x1C then 0xFFFFFFFF else 0)
  else if a < basePair then (if a = powReg 0x00C then 0x7FF else 0)
  else if a < baseSec then (if a = basePair then 3 else 0)
  else if a < baseLink then 0
  else if a < 0x98000 then rwLink ((a - baseLink) % 0x200)
  else if a < baseSwitch then 0
  else if a < baseColl then rwSwitch ((a - baseSwitch) / 0x40000) ((a - baseSwitch) % 0x40000)
  else if a < baseMarten then (if a = baseColl then 0xFF else 0)
  else if a < baseMem then 0
  else if a < baseFox then (if a = baseMem then 0xFFFF01FF else 0)
  else if a < 0x6C0000 then
    let o := (a - baseFox) % 0x8000
    if 0x40 ≤ o && o < 0x60 && o % 4 = 0 then 0x01FFFFFF else 0
  else 0

/-- The value in effect of the RW word at `a` (R562). -/
def State.rwWord (s : State) (a : Nat) : Nat :=
  if a = baseTime + 0x10 then s.time.period
  else if a = baseTime + 0x18 then s.time.load % 2 ^ 32
  else if a = baseTime + 0x1C then s.time.load / 2 ^ 32
  else s.reg a

/-- The reset value of the RW word at `a`. -/
def rwReset (a : Nat) : Nat := if a = baseTime + 0x10 then 156250 else resetWord a

/-- Within `lo` and `hi`. -/
def within (x lo hi : Nat) : Bool := decide (lo ≤ x) && decide (x ≤ hi)

/-- Ranges of a LINK register's fields (R97, R98, R131). -/
def okLink (o v : Nat) : Bool :=
  if o = 0x000 then within (bits v 4 2) 1 2
  else if o = 0x010 then within (bits v 0 7) 60 80 && within (bits v 7 7) 40 80 && within (bits v 14 4) 1 15 && within (bits v 18 7) 1 64
  else if o = 0x014 then within (bits v 0 8) 2 255 && within (bits v 8 8) 1 255
  else if o = 0x040 then within (bits v 0 12) 1 4095 && decide (bits v 12 12 < bits v 0 12) && within (bits v 24 8) 1 255
  else if o = 0x048 then decide (bits v 0 16 ≤ 16384)
  else true

/-- Ranges of a SWITCH register's fields (R133, R166, R167, R197, R200). -/
def okSwitch (o v : Nat) : Bool :=
  if o < 0x80 then within (bits v 0 7) 1 98 && decide (bits v 0 7 < bits v 8 7) && decide (bits v 8 7 < bits v 16 7) && decide (bits v 16 7 ≤ 99)
  else if o = 0x200 then within (bits v 0 10) 2 1000 && within (bits v 10 4) 1 15 && within (bits v 24 4) 2 15
  else if o = 0x300 then within (bits v 0 3) 1 4
  else if o = 0x500 then within (bits v 2 6) 1 60 && bits v 8 12 != 0 && bits v 20 12 != 0
  else if 0x800 ≤ o && o < 0xB00 then
    (if o % 0x10 = 0 then within (bits v 0 7) 1 25 && within (bits v 16 16) 17 4096 else within (bits v 0 7) 10 75 && within (bits v 8 8) 1 255)
  else if o = 0xB00 then decide (bits v 1 6 ≤ 47) && within (bits v 16 12) 1 4095
  else true

/-- The word `v` lies within the ranges of the register at `a`. -/
def rwInRange (a v : Nat) : Bool :=
  if baseFault ≤ a && a < baseCmd then
    let o := a - baseFault
    if o = 0x2004 then decide (bits v 8 3 ≤ 4) && within (bits v 16 12) 1 4095
    else if o = 0x2008 then decide (bits v 0 3 ≤ 4)
    else match faultWord o with
      | some (w, r) => if 0x40 ≤ r then (match sourceInfo w ((r - 0x40) / 4) with | some i => within (bits v 0 3) i.floor 4 | none => true) else true
      | none => true
  else if a = baseCmd then bits v 0 8 != 0 && bits v 8 8 != 0
  else if a = baseTime + 0x10 then within v 15625 156250000
  else if a = powReg 0x00C then within (bits v 0 11) 250 1750 && bits v 0 11 % 125 == 0
  else if baseLink ≤ a && a < 0x98000 then okLink ((a - baseLink) % 0x200) v
  else if baseSwitch ≤ a && a < baseColl then okSwitch ((a - baseSwitch) % 0x40000) v
  else if a = baseColl then bits v 0 8 != 0
  else if a = baseMem then bits v 0 8 != 0 && bits v 16 16 != 0
  else if baseFox ≤ a && a < 0x6C0000 then decide (bits v 20 5 ≤ 20)
  else true

/-- A write of `v` at `a` is taken in the present state: `inst` says that instrument features are permitted (R97, R189, R197, R401, R539). -/
def State.rwAllowed (s : State) (inst : Bool) (a v : Nat) : Bool :=
  if baseCmd + 0x1000 ≤ a && a < baseCmd + 0x3000 then
    let n := (a - baseCmd - 0x1000) / 0x20
    (s.cslot n).st == .idle
      && !(a % 0x20 = 0 && bits v 12 1 == 1 && bits (s.reg a) 12 1 == 0 && s.reg (a + 8) == 0 && s.reg (a + 12) == 0)
  else if baseLink ≤ a && a < 0x98000 && (a - baseLink) % 0x200 = 0 then bits v 9 2 == 0 || bits v 9 2 == bits (s.reg a) 9 2 || inst
  else if baseSwitch ≤ a && a < baseColl && 0x800 ≤ (a - baseSwitch) % 0x40000 && (a - baseSwitch) % 0x40000 < 0xB00 then
    let d := (a - baseSwitch) / 0x40000
    let o := (a - baseSwitch) % 0x40000
    let p := 48 * d + (o - 0x800) / 0x10
    if o % 0x10 = 0 then v == s.reg a || (s.flowsOn p).isEmpty
    else decide (rateOf (s.tc1Sum p) * 100 ≤ ((bits v 0 7 : Nat) : Rat) * s.cEff p)
  else if baseFox ≤ a && a < 0x6C0000 then !(s.foxUnit ((a - baseFox) / 0x8000)).running
  else true

/-- LINK.CTRL takes a new word: ENABLE and LOOPBACK act as R74, R97 and R588 state. -/
def State.linkCtrl (s : State) (p v : Nat) : State :=
  let s := s.setCtrlFields p v
  let s := if bit v 0 then (if s.fld (linkReg p 0) 0 1 = 0 then s.enablePort p else s) else if s.fld (linkReg p 0) 0 1 = 1 then s.disablePort p else s
  s.setLoopback p (bits v 9 2)

/-- The RW word at `a` becomes `v`, with what follows from it at once. -/
def State.rwSet (s : State) (a v : Nat) : State :=
  if a = baseTime + 0x10 then { s with time := { s.time with period := v } }
  else if a = baseTime + 0x18 then { s with time := { s.time with load := s.time.load / 2 ^ 32 * 2 ^ 32 + v } }
  else if a = baseTime + 0x1C then { s with time := { s.time with load := s.time.load % 2 ^ 32 + v * 2 ^ 32 } }
  else if baseLink ≤ a && a < 0x98000 then
    let p := (a - baseLink) / 0x200
    let o := (a - baseLink) % 0x200
    if o = 0 then s.linkCtrl p v else if o = 0x040 then (s.setReg a v).updXoff p else s.setReg a v
  else if baseSwitch ≤ a && a < baseColl then
    let d := (a - baseSwitch) / 0x40000
    let o := (a - baseSwitch) % 0x40000
    let old := s.reg a
    let s := s.setReg a v
    if o < 0x80 then s.relevel d (o / 0x20)
    else if 0x800 ≤ o && o < 0xB00 && o % 0x10 = 4 && bits old 8 8 ≠ bits v 8 8 then { s with sw := { s.sw with sharesPend := true } }
    else if o = 0xB00 && !bit old 0 && bit v 0 then
      { s with sw := { s.sw with samplers := Tbl.put {} s.sw.samplers d { (Tbl.get ({} : Sampler) s.sw.samplers d) with wraps := 0 } } }
    else s
  else if baseFault ≤ a && a < baseCmd then (s.setReg a v).pinFrom s
  else if a = powReg 0x00C then (s.setReg a v).retarget
  else s.setReg a v

/-- A word with the bits of `mask` taken from `v`. -/
def mergeBits (old mask v : Nat) : Nat := old - (old &&& mask) + (v &&& mask)

/-- A software write of `v` to the word at `a`: its RW fields are set, or the write is ignored as a whole (R8, R9, R562). -/
def State.rwWrite (s : State) (a v : Nat) : State :=
  let w := mergeBits (s.rwWord a) (rwMask a) v
  if rwMask a ≠ 0 && rwInRange a w && s.rwAllowed s.instrument a w then s.rwSet a w else s

end Sys2Proof.Machine
end

