-- ==== Sys2Proof/Machine/Fox.lean ====
section
/-! DEFINITION. Fox units' generator streams and commands (R522–R527, R478, R399), mirror sessions (R159, R169) and injections (R537, R538). -/

namespace Sys2Proof.Machine

/-! ## Permission (R470, R478) -/

/-- The eight unit ports of Fox unit `u` (R522). -/
def foxPorts (u : Nat) : List Nat := (List.range 8).map (8 * u + ·)

/-- A command of job `j` may act on unit `u`: no other job holds it, and job 0 needs the instrument permission (R478, R470). -/
def State.foxMay (s : State) (u j : Nat) : Bool :=
  (match (s.foxUnit u).claimed with | some k => k == j | none => true) && (j != 0 || s.instrument)

/-- The unit's ports are all down ports of chips in the job's slice (R478). -/
def State.foxPortsIn (s : State) (u j : Nat) : Bool :=
  (foxPorts u).all (fun p => (s.useOf p).use == 0 && (match s.expectOf p with | some e => s.inJob j e.1 | none => false))

/-- The checks common to the commands of a Fox unit (R399, R478), then `k`. -/
def State.withFox (s : State) (c : Cmd) (extra : List (Nat × Bool)) (k : Nat → State × Ans) : State × Ans :=
  let u := bits (c.p 0) 0 5
  Ans.check s ((0, bits (c.p 0) 5 27 == 0 && decide (u < 24)) :: extra) (if s.foxMay u c.job then k u else (s, .no 0x22))

/-! ## Stream and checker records (R523, R528) -/

/-- A stream record from P2 on. -/
def streamRec (c : Cmd) : FoxStream :=
  let w := c.p
  { en := bit (w 1) 6, port := bits (w 2) 0 3, switched := bit (w 2) 3, tc := bits (w 2) 4 2, job := bits (w 2) 6 12, pattern := bits (w 2) 18 3,
    shape := bit (w 2) 21, weight := bits (w 2) 22 8, dst := bits (w 3) 0 14, dstCnt := bits (w 3) 14 14 + 1, lenMin := bits (w 4) 0 13,
    lenMax := bits (w 4) 13 13, lenMode := bits (w 4) 26 2, rate := bits (w 5) 0 20, burst := bits (w 6) 0 16, seed := c.p64 7, count := c.p64 9,
    const_ := bits (w 11) 0 8, pM1 := bits (w 11) 8 8 }

/-- Value checks of a stream record, by parameter word (R523). -/
def streamChecks (s : State) (u : Nat) (c : Cmd) (x : FoxStream) : List (Nat × Bool) :=
  [(1, bits (c.p 1) 0 2 == 0 && bits (c.p 1) 7 25 == 0),
   (2, x.pattern ≤ 4 && 1 ≤ x.weight && bits (c.p 2) 30 2 == 0 && s.portThere (8 * u + x.port)),
   (3, bits (c.p 3) 28 4 == 0 && x.dst + x.dstCnt ≤ 9216),
   (4, 24 ≤ x.lenMin && x.lenMin ≤ x.lenMax && x.lenMax ≤ 4096 && x.lenMode ≤ 2 && bits (c.p 4) 28 4 == 0),
   (5, bits (c.p 5) 20 12 == 0), (6, 17 ≤ x.burst && bits (c.p 6) 16 16 == 0), (11, bits (c.p 11) 16 16 == 0)]

/-- The queue of a job and class on port `p` that a direct stream uses: the job's own, or a free one taken with the stream's weight (R522, R172). -/
def State.foxQueue (s : State) (p : Nat) (x : FoxStream) : Option State :=
  if x.tc = 0 then some s
  else
    let mine := fun q => let y := s.queue (portQ p q); y.valid && !y.releasing && y.job == x.job && y.tc == x.tc
    if ((List.range 61).map (· + 1)).any mine then some s
    else match ((List.range 61).map (· + 1)).find? (fun q => !(s.queue (portQ p q)).valid && !s.flows.any (fun f => f.port == p && f.queue == q)) with
      | none => none
      | some q =>
        let old := s.queue (portQ p q)
        some (s.setQueue (portQ p q) { job := x.job, tc := x.tc, valid := true, weight := x.weight, pending := true, fLast := old.fLast })

/-- What constrains the streams of a job other than 0 (R478). -/
def State.streamJobOk (s : State) (u j : Nat) (x : FoxStream) : Bool :=
  j == 0 || (s.foxPortsIn u j && x.job == j && 2 ≤ x.tc && (List.range x.dstCnt).all (fun i => s.inJob j (x.dst + i)))

/-- FOX_CFG of one KIND; `chk` and `k` are the KIND's own checks and effect (R399, R523). -/
def State.foxCfg (s : State) (c : Cmd) (len : Nat) (chk : Nat → List (Nat × Bool)) (k : State → Nat → State × Ans) : State :=
  s.runCmd { op := 0x0C02, lens := lenIs len, states := stRA, j := true, m := true, change := true } c (fun s =>
    s.withFox c (chk (bits (c.p 0) 0 5)) (fun u => if (s.foxUnit u).running then (s, .no 0x20) else k s u))

/-- The unit is held by the job that configures it (R478). -/
def State.foxClaim (s : State) (u j : Nat) : State := if j = 0 then s else s.setFox u { s.foxUnit u with claimed := some j }

/-- FOX_CFG KIND 0 (R523, R478). -/
def State.foxCfgStream (s : State) (c : Cmd) : State :=
  let x := streamRec c
  let i := bits (c.p 1) 2 4
  s.foxCfg c 64 (fun u => streamChecks s u c x) (fun s u =>
    if !s.streamJobOk u c.job x then (s, .no 0x22)
    else match (if x.en && !x.switched then s.foxQueue (8 * u + x.port) x else some s) with
      | none => (s, .no 0x21)
      | some s => let s := s.foxClaim u c.job
                  (s.setFox u { s.foxUnit u with streams := Tbl.put {} (s.foxUnit u).streams i x }, .ok []))

/-- FOX_CFG KIND 1 (R528, R478). -/
def State.foxCfgChecker (s : State) (c : Cmd) : State :=
  let w := c.p
  let i := bits (w 1) 2 4
  let x : FoxFlow := { en := bit (w 1) 6, ports := bits (w 2) 0 8, any := bit (w 2) 8, sid := bits (w 2) 9 9, payEn := bit (w 2) 18,
                       protoEn := bit (w 2) 19, hist := bits (w 2) 20 3, histEn := bit (w 2) 23, job := bits (w 3) 0 12 }
  s.foxCfg c 32 (fun _ => [(1, bits (w 1) 0 2 == 1 && bits (w 1) 7 25 == 0), (2, bits (w 2) 24 8 == 0), (3, bits (w 3) 12 20 == 0)]) (fun s u =>
    if (x.protoEn && !s.instrument) || (c.job ≠ 0 && (x.job ≠ c.job || !s.foxPortsIn u c.job)) then (s, .no 0x22)
    else let s := s.foxClaim u c.job
         (s.setFlowK u i x, .ok []))

/-- The 64-bit counters of a unit return to 0 (R540). -/
def State.foxClear64 (s : State) (u : Nat) : State :=
  { s with ctrs := Tbl.clearWhere s.ctrs (fun a =>
      let o := a - foxReg u 0
      decide (foxReg u 0 ≤ a) && ((decide (0x100 ≤ o) && decide (o < 0x200)) || (decide (0x400 ≤ o) && decide (o < 0x800) && decide (o % 0x40 < 0x10)))) }

/-- FOX_CFG KIND 2 (R523, R540): every stream and flow goes, and the claim stays with its job. -/
def State.foxCfgClear (s : State) (c : Cmd) : State :=
  s.foxCfg c 24 (fun _ => [(1, c.p 1 == 2)]) (fun s u =>
    let s := s.foxClaim u c.job
    ((s.setFox u { s.foxUnit u with streams := [], flows := [] }).foxClear64 u, .ok []))

/-! ## Running (R527) -/

/-- Every enabled stream and flow of a unit starts. -/
def State.foxBegin (s : State) (u : Nat) : State :=
  let x := s.foxUnit u
  let st := fun (y : FoxStream) => { y with n := 0, tok := ((256 * y.burst : Nat) : Rat), tokAt := s.clk, running := y.en }
  let fl := fun (y : FoxFlow) => { y with base := 0, seen := [], highest := none, running := y.en }
  s.setFox u { x with streams := x.streams.map (fun e => (e.1, st e.2)), flows := x.flows.map (fun e => (e.1, fl e.2)), running := true,
                      start := none, settling := false }

/-- FOX_START (R527): at the named rack time, or at once when it has passed. -/
def State.foxStart (s : State) (c : Cmd) : State :=
  s.runCmd { op := 0x0C03, lens := lenIs 28, states := stRA, j := true, m := true, change := true } c (fun s =>
    s.withFox c [] (fun u =>
      if c.p64 1 ≤ s.now then (s.foxBegin u, .ok []) else (s.setFox u { s.foxUnit u with start := some (c.p64 1) }, .ok [])))

/-- The start time of an armed unit is reached. -/
def State.foxStartTime (s : State) (u : Nat) : State := if (s.foxUnit u).start.isSome then s.foxBegin u else s

/-- A unit's streams end, and its checkers drain for 20 µs. -/
def State.foxHalt (s : State) (u : Nat) : State :=
  let x := s.foxUnit u
  s.setFox u { x with streams := x.streams.map (fun e => (e.1, { e.2 with running := false })), start := none, settling := x.running }

/-- FOX_STOP (R527). -/
def State.foxStop (s : State) (c : Cmd) : State :=
  s.runCmd { op := 0x0C04, lens := lenIs 20, states := stRA, j := true, m := true } c (fun s => s.withFox c [] (fun u => (s.foxHalt u, .ok [])))

/-- The drain of 20 µs ends: LOST settles, and the unit no longer runs (R527, R529). -/
def State.foxSettle (s : State) (u : Nat) : State :=
  if !(s.foxUnit u).settling then s
  else
    let s := ((s.foxUnit u).flows.filter (fun e => e.2.running)).foldl (fun s e => s.settleFlow u e.1) s
    s.setFox u { s.foxUnit u with running := false, settling := false }

/-- Word at offset `o` of a unit's counters from 0x100 (R540). -/
def State.foxWord (s : State) (u o : Nat) : Nat :=
  let wide := decide (o < 0x200) || (decide (0x400 ≤ o) && decide (o < 0x800) && decide (o % 0x40 < 0x10))
  if wide then s.ctr (foxReg u (o / 8 * 8)) / 2 ^ (if o % 8 = 4 then 32 else 0) % 2 ^ 32 else s.ctr (foxReg u o)

/-- FOX_READ (R527): offsets 0x400–0xFFF at one instant. -/
def State.foxRead (s : State) (c : Cmd) : State :=
  s.runCmd { op := 0x0C05, lens := lenIs 20, states := stRA, j := true, m := true } c (fun s =>
    s.withFox c [] (fun u => (s, { block := (List.range 768).flatMap (fun i => leBytes 4 (s.foxWord u (0x400 + 4 * i))) })))

/-! ## Packets of a stream (R524–R526) -/

/-- Payload length of packet `n` of a stream; LEN_MODE 2 takes the free value `r`. -/
def FoxStream.lenOf (x : FoxStream) (r : Nat) : Nat :=
  let span := x.lenMax - x.lenMin + 1
  if x.lenMode = 1 then x.lenMin + x.n % span else if x.lenMode = 2 then x.lenMin + r % span else x.lenMin

/-- The next packet of stream `i` of unit `u`, its time not yet stamped (R524, R526). -/
def FoxStream.packet (x : FoxStream) (u i own r : Nat) : Pkt :=
  let len := x.lenOf r
  let per := x.pM1 + 1
  let q := x.n % 2 ^ 32
  { hdr := { type := 0x3F, tc := x.tc, dst := x.dst + x.n % x.dstCnt, src := own, job := x.job, len := len, seq := q, offset := 16 * u + i,
             msg := if x.shape then x.n % per else 0, chunk := if x.shape then x.n / per % 2 ^ 16 else 0 },
    payload := leBytes 4 (0x7E57 + x.pattern * 2 ^ 16 + x.const_ * 2 ^ 20) ++ leBytes 8 x.seed ++ leBytes 8 0
      ++ patternBytes x.pattern x.const_ x.seed q (len - 24) }

/-- A stream emits its next packet when its shaper allows (R523, R182): a direct one at the egress engine of its port, which has to be eligible;
a switched one through the unit's attachment (R522). -/
def State.foxEmit (s : State) (u i : Nat) : State :=
  let x := Tbl.get ({} : FoxStream) (s.foxUnit u).streams i
  let p := 8 * u + x.port
  let full : Rat := ((256 * x.burst : Nat) : Rat)
  let t := x.tok + rateOf x.rate * ((s.clk - x.tokAt : Nat) : Rat) / 1000000000000
  let tok := if full < t then full else t
  if !(s.foxUnit u).running || !x.running || tok ≤ 0 then s
  else if !x.switched && !s.eligible p (2 * x.tc) then s
  else
    let pkt := x.packet u i s.ownId s.free
    let s := if x.lenMode = 2 then s.used else s
    let n := x.n + 1
    let x := { x with n := n, tok := tok - (pkt.hdr.bytesTotal : Rat), tokAt := s.clk, running := !(x.count != 0 && x.count == n) }
    let s := s.setFox u { s.foxUnit u with streams := Tbl.put {} (s.foxUnit u).streams i x }
    let s := (s.bump64 (foxReg u (0x100 + 0x10 * i)) 1).bump64 (foxReg u (0x108 + 0x10 * i)) pkt.hdr.bytesTotal
    if x.switched then s.originate pkt (.fox u) none none
    else
      let v := (s.port p).ver
      let hd := { pkt.hdr with ver := if v = 0 then 2 else v }
      let l := s.stampTest pkt.payload
      let s := s.sendOut p { hdr := hd, payload := l } (trailerOf hd l)
      if x.tc = 0 then s else s.advanceVt (denOf p) (p % 48) pkt.hdr.bytesTotal

/-- Units whose claim satisfies `f` stop and are released (R478). -/
def State.foxReleaseWhere (s : State) (f : Option Nat → Bool) : State :=
  ((s.inst.fox.filter (fun e => f e.2.claimed)).map (·.1)).foldl (fun s u =>
    let s := s.foxHalt u
    s.setFox u { s.foxUnit u with claimed := none }) s

/-- Units of a job stop at once and are released (R478, R444). -/
def State.foxRelease (s : State) (j : Nat) : State := s.foxReleaseWhere (fun k => k == some j)

/-- Job-0 units stop (R414). -/
def State.foxStop0 (s : State) : State := ((s.inst.fox.filter (fun e => e.2.claimed.isNone)).map (·.1)).foldl (fun s u => s.foxHalt u) s

/-! ## Mirror sessions (R159, R169, R399) -/

/-- The session that a MIRROR_SET describes. -/
def mirrorRec (c : Cmd) : Mirror :=
  let w := c.p
  { en := true, dir := bits (w 1) 1 2, flow := bit (w 1) 3, port := bits (w 1) 4 6, job := c.job, all := c.job == 0, bad := bit (w 1) 22,
    endpt := bits (w 2) 0 14, endptDst := bit (w 2) 14, endptEn := bit (w 2) 15, type := bits (w 2) 16 6, typeEn := bit (w 2) 22,
    ctxEn := bit (w 2) 23, ctx := bits (w 3) 0 12, aport := bits (w 4) 0 8, snap16 := bits (w 4) 8 8, adst := bits (w 4) 16 14 }

/-- MIRROR_SET (R159, R160, R399). -/
def State.mirrorSet (s : State) (c : Cmd) : State :=
  let i := bits (c.p 0) 0 5
  let x := mirrorRec c
  s.runCmd { op := 0x0C00, lens := lenIs 36, states := stRA, j := true, m := true, change := true } c (fun s =>
    Ans.check s [(0, bits (c.p 0) 5 27 == 0), (1, x.dir ≤ 2 && x.port ≤ 47 && bits (c.p 1) 23 9 == 0), (2, bits (c.p 2) 24 8 == 0),
                 (3, bits (c.p 3) 12 20 == 0), (4, s.portThere x.aport && 2 ≤ x.snap16 && x.adst < 9216 && bits (c.p 4) 30 2 == 0)] (
      let held := (s.mirror i).en && (s.mirror i).job ≠ c.job
      let no := if c.job = 0 then !s.instrument else s.dev == .ready || !s.jobHere c.job || !s.inJob c.job x.adst || (x.bad && !s.instrument)
      if held || no then (s, .no 0x22) else (s.setMirror i x, .ok [])))

/-- MIRROR_CLEAR (R399). -/
def State.mirrorClear (s : State) (c : Cmd) : State :=
  let i := bits (c.p 0) 0 5
  s.runCmd { op := 0x0C01, lens := lenIs 20, states := stRA, j := true, m := true } c (fun s =>
    Ans.check s [(0, bits (c.p 0) 5 27 == 0)] (
      if (s.mirror i).en && (s.mirror i).job ≠ c.job then (s, .no 0x22) else (s.setMirror i {}, .ok [])))

/-- Sessions of a job end (R444); with `none`, those that only the instrument permission allows (R414). -/
def State.mirrorsEnd (s : State) (j : Option Nat) : State :=
  let gone := fun (x : Mirror) => match j with | some j => x.job == j && !x.all | none => x.all || x.bad
  ((s.sw.mirrors.filter (fun e => e.2.en && gone e.2)).map (·.1)).foldl (fun s i => s.setMirror i {}) s

/-! ## Injections (R537, R538) -/

/-- The injection of a port ends: what a DELAY holds is sent, and FC_STATE no longer carries its mask. -/
def State.injEnd (s : State) (p : Nat) : State :=
  let k := (s.inj p).kind
  let s := (s.setInj p { s.inj p with kind := 0 }).sendDelayed p true
  let s := s.setInj p {}
  if k = 7 && (s.port p).st = .active then s.emit (.lm p 0x01 (s.fcMask p)) else s

/-- INJECT of one kind, with the kind's checks and the injection it arms (R399, R537, R538). -/
def State.injectCmd (s : State) (c : Cmd) (kind len : Nat) (chk : List (Nat × Bool)) (x : Inject) : State :=
  let p := cmdPort c
  s.runCmd { op := 0x0C07, lens := fun l => len ≤ l && l ≤ 64 && l % 4 == 0, states := stRA, m := true, perm := fun s => s.instrument } c (fun s =>
    Ans.check s ((0, bits (c.p 0) 8 8 == kind && bits (c.p 0) 16 16 == 0 && s.portThere p) :: chk) (
      if (s.inj p).kind ≠ 0 then (s, .no 0x21)
      else
        let s := s.setInj p { x with kind := kind, delayed := (s.inj p).delayed }
        let s := if kind = 2 || 7 ≤ kind then s.bump (injReg p 4) else s
        (if kind = 7 && (s.port p).st = .active then s.emit (.lm p 0x01 (s.fcMask p)) else s, .ok [])))

/-- INJECT DISARM (R537). -/
def State.injectDisarm (s : State) (c : Cmd) : State :=
  let p := cmdPort c
  s.runCmd { op := 0x0C07, lens := fun l => 20 ≤ l && l ≤ 64 && l % 4 == 0, states := stRA, m := true, perm := fun s => s.instrument } c (fun s =>
    Ans.check s [(0, bits (c.p 0) 8 24 == 0 && s.portThere p)] (s.injEnd p, .ok []))

/-- The lanes of SYMBOL and SYNC. -/
def State.injectSymbol (s : State) (c : Cmd) : State :=
  let n := bits (c.p 1) 8 6
  s.injectCmd c 1 28 [(1, 1 ≤ n && n ≤ 48 && bits (c.p 1) 14 18 == 0), (2, c.p 2 != 0)] { mask := bits (c.p 1) 0 8, symbols := n, count := c.p 2 }

/-- INJECT SYNC (R537). -/
def State.injectSync (s : State) (c : Cmd) : State :=
  s.injectCmd c 2 28 [(1, bits (c.p 1) 8 24 == 0), (2, 1 ≤ c.p 2 && c.p 2 ≤ 65535)] { mask := bits (c.p 1) 0 8, count := c.p 2 }

/-- The match of the packet kinds (R537). -/
def injMatch (c : Cmd) : Inject :=
  { job := if bit (c.p 1) 12 then some (bits (c.p 1) 0 12) else none, type := if bit (c.p 1) 19 then some (bits (c.p 1) 13 6) else none,
    count := c.p 2 }

/-- A packet kind's checks (R537). -/
def injMatchChecks (c : Cmd) : List (Nat × Bool) := [(1, bits (c.p 1) 20 12 == 0), (2, c.p 2 != 0)]

/-- INJECT TRAILER (R537). -/
def State.injectTrailer (s : State) (c : Cmd) : State := s.injectCmd c 3 28 (injMatchChecks c) (injMatch c)
/-- INJECT DROP (R537). -/
def State.injectDrop (s : State) (c : Cmd) : State := s.injectCmd c 4 28 (injMatchChecks c) (injMatch c)
/-- INJECT DUPLICATE (R537). -/
def State.injectDuplicate (s : State) (c : Cmd) : State := s.injectCmd c 5 28 (injMatchChecks c) (injMatch c)
/-- INJECT DELAY (R537). -/
def State.injectDelay (s : State) (c : Cmd) : State :=
  s.injectCmd c 6 32 (injMatchChecks c ++ [(3, 1 ≤ c.p 3 && c.p 3 ≤ 1000000)]) { injMatch c with delayNs := c.p 3 }

/-- INJECT XOFF (R537). -/
def State.injectXoff (s : State) (c : Cmd) : State :=
  s.injectCmd c 7 28 [(1, bits (c.p 1) 8 24 == 0), (2, c.p 2 != 0)] { mask := bits (c.p 1) 0 8, count := c.p 2 }

/-- INJECT SILENCE (R537). P1 stands unused. -/
def State.injectSilence (s : State) (c : Cmd) : State :=
  s.injectCmd c 8 28 [(1, c.p 1 == 0), (2, c.p 2 != 0)] { count := c.p 2 }

/-- An injection's codewords or time are spent (R538): SYMBOL has struck each of its codewords. -/
def State.injectExpire (s : State) (p : Nat) : State :=
  let x := s.inj p
  if x.kind = 1 then (s.bumpBy (injReg p 4) x.count).injEnd p
  else if x.kind = 2 || x.kind = 7 || x.kind = 8 || (x.kind ≠ 0 && x.count = 0) then s.injEnd p
  else s

end Sys2Proof.Machine
end

