-- ==== Sys2Proof/Machine/Golden.lean ====
section
/-! DEFINITION. The golden end point (R532–R536): contributions regenerated on demand, the reference of a fabric of leaves, emulated members'
streams toward the DUT, and the judgement of results. -/

namespace Sys2Proof.Machine

/-- Registers of the golden end point (R541). -/
def goldReg (o : Nat) : Nat := baseFox + 0xC0000 + o

/-- The golden session. -/
def State.gold (s : State) : GoldenSt := s.inst.golden
/-- It becomes `g`. -/
def State.setGold (s : State) (g : GoldenSt) : State := { s with inst := { s.inst with golden := g } }

/-- Parameter word `i` of GOLDEN_SET. -/
def GoldenSt.w (g : GoldenSt) (i : Nat) : Nat := g.words.getD i 0
/-- DUT context, job and endpoint (R532). -/
def GoldenSt.dutCtx (g : GoldenSt) : Nat := bits (g.w 1) 0 12
/-- The job of the collective. -/
def GoldenSt.job (g : GoldenSt) : Nat := bits (g.w 1) 12 12
/-- The DUT endpoint. -/
def GoldenSt.dut (g : GoldenSt) : Nat := bits (g.w 2) 0 14
/-- Seed of the contributions. -/
def GoldenSt.dataSeed (g : GoldenSt) : Nat := g.w 5 + g.w 6 * 2 ^ 32

/-- Members at each leaf of the emulated group (R532). -/
def GoldenSt.mLeaf (g : GoldenSt) : Nat := bits (g.w 3) 0 13 / max 1 (bits (g.w 4) 0 4 * bits (g.w 4) 4 4)

/-- The context whose rules the reference follows, in DETERMINISTIC mode (R535, R204). -/
def GoldenSt.ctx (g : GoldenSt) : Ctx :=
  let p := g.w 0
  { desc := [p % 2 ^ 17 + g.tc * 2 ^ 18 + bits p 17 5 * 2 ^ 20, g.job, 0, 0, g.w 9, bits (g.w 10) 0 8], seed := g.w 7 + g.w 8 * 2 ^ 32,
    m := bits (g.w 3) 0 13, nx := bits (g.w 4) 0 4, ny := bits (g.w 4) 4 4, locals := List.range g.mLeaf }

/-! ## Contributions (R534) -/

/-- A code that is NaN or infinite in a format. -/
def nanOrInf (f code : Nat) : Bool :=
  f < 8 && (match (fmtOf f).decode code with | .nan => true | .inf _ => true | _ => false)

/-- The code of element `i` of the member of rank `r` (R534). The value word of an ARG element is an FP32 code. -/
def goldCode (seed f r i : Nat) : Nat :=
  let g := mix64 (mix64 (seed % 2 ^ 64) ^^^ (r * 2 ^ 40 % 2 ^ 64) ^^^ i)
  let code := g % 2 ^ fmtBits f
  let v := if f = 11 then 0 else f
  let low := if f = 11 then code % 2 ^ 32 else code
  let top := (fmtOf v).eb + (fmtOf v).mb - 1
  if (f < 8 || f = 11) && nanOrInf v low then setBits code top 1 0 else code

/-- The shared scale of block `j` (R534). -/
def goldScale (seed r j : Nat) : Nat :=
  120 + mix64 (mix64 (seed % 2 ^ 64) ^^^ (r * 2 ^ 40 % 2 ^ 64) ^^^ 2 ^ 63 ^^^ j) % 15

/-- First element of chunk `k` in its member's data. -/
def goldFirst (c : Ctx) (k : Nat) : Nat := k % max c.unitChunks 1 * c.e

/-- The image of chunk `k` that the member of rank `r` sends (R212, R534). -/
def goldImage (g : GoldenSt) (r k : Nat) : List Byte :=
  let c := g.ctx
  let n := c.elemsOf k
  let lo := goldFirst c k
  let codes := (List.range n).map (fun i => goldCode g.dataSeed c.inF r (lo + i))
  let scales := if isMx c.inF then (List.range (blocks32 n)).map (fun b => goldScale g.dataSeed r (lo / 32 + b)) else []
  bytesIn (resultSpans c.inF n 0 false codes scales []) 0 (imageBytes c.inF n false)

/-! ## The reference (R535) -/

/-- The entry of element `i` of the data at leaf `leaf`: its members combined in rank order (R214, R50). -/
def goldLeaf (g : GoldenSt) (c : Ctx) (leaf i : Nat) : Entry :=
  (List.range g.mLeaf).foldl (fun e m =>
    let r := leaf * g.mLeaf + m
    let code := goldCode g.dataSeed c.inF r i
    c.combine e m (if c.inF = 11 then .zero false else decodeElem c.inF code (goldScale g.dataSeed r (i / 32))) code) {}

/-- Partials of a ring of `n` positions joined for segment `seg` in the order of R215: the last join is the owner's. -/
def ringJoin (c : Ctx) (n rdir seg : Nat) (f : Nat → PartVal) : Entry :=
  ((List.range (n - 1)).foldl (fun (a : PartVal × Entry) k =>
    let e := c.joinPart a.1 (f (ringPos n seg (k + 2) rdir))
    (c.partOf e, e)) (f (ringPos n seg 1 rdir), {})).2

/-- The segment of a range that holds element `i`. -/
def segHolding (r : Nat × Nat) (n i : Nat) : Nat :=
  ((List.range n).find? (fun z => let x := segOf r n z; x.1 ≤ i && i < x.1 + x.2)).getD 0

/-- The finished entry of element `i` of a chunk of `n` elements whose first element is `lo` (R214–R216). -/
def goldEntry (g : GoldenSt) (c : Ctx) (n lo i : Nat) : Entry :=
  let leaf := fun ix iy => goldLeaf g c (ix + c.nx * iy) (lo + i)
  let rdir := if i < (ringRange n 0).2 then 0 else 1
  let r := ringRange n rdir
  let sx := segHolding r c.nx i
  let ex := fun iy => if c.nx ≤ 1 then leaf 0 iy else ringJoin c c.nx rdir sx (fun ix => c.partOf (leaf ix iy))
  if c.ny ≤ 1 then ex 0
  else ringJoin c c.ny rdir (segHolding (segOf r c.nx sx) c.ny i) (fun iy => c.partOf (ex iy))

/-- The reference image of chunk `k`: the gathered contribution, or the rounded reduction (R535). -/
def goldRef (g : GoldenSt) (k : Nat) : List Byte :=
  let c := g.ctx
  let n := c.elemsOf k
  if c.op = 2 then goldImage g (k / max c.unitChunks 1) k
  else
    let es := (List.range n).map (fun i => goldEntry g c n (goldFirst c k) i)
    let (codes, scales, _) := c.finish g.dutCtx k c.outF 0 es
    bytesIn (resultSpans c.outF n 0 false codes scales []) 0 (imageBytes c.outF n false)

/-! ## Members toward the DUT (R533) -/

/-- Member of port `p` becomes `m`. -/
def State.setMember (s : State) (m : Member) : State :=
  s.setGold { s.gold with members := s.gold.members.map (fun x => if x.port = m.port then m else x) }

/-- A header from a member to the DUT. -/
def State.memberHdr (s : State) (m : Member) (type tc : Nat) : Hdr :=
  { ver := (s.port m.port).ver, type := type, tc := tc, dst := s.gold.dut, src := m.ep, job := s.gold.job, ctx := s.gold.dutCtx }

/-- A packet of a member goes out on its port. -/
def State.memberOut (s : State) (m : Member) (pkt : Pkt) : State :=
  let pkt := { pkt with hdr := { pkt.hdr with len := pkt.payload.length } }
  s.sendOut m.port pkt (trailerOf pkt.hdr pkt.payload)

/-- A COMPLETION of a member (R119). -/
def State.memberCompl (s : State) (m : Member) (like : Hdr) (c : Compl) (ece : Bool) : State :=
  s.memberOut m { hdr := { s.memberHdr m 0x04 0 with ctx := like.ctx, chunk := like.chunk, msg := like.msg, ece := ece },
                  payload := { c with inc := m.inc }.bytes }

/-- A member opens its stream at SEQ `q` (R114). -/
def State.memberOpen (s : State) (m : Member) (q : Nat) : State :=
  let m := { m with tx := { m.tx with phase := .opening, first := q, ack := q, win := 32, openAt := s.clk } }
  (s.setMember m).memberCompl m {} { kind := kOpen, stc := s.gold.tc, ackSeq := q, winM1 := 127 } false

/-- Packet `i` of chunk `k` of a member's data, without SEQ (R212, R533). -/
def State.memberPkt (s : State) (m : Member) (k i : Nat) : Pkt :=
  let g := s.gold
  { hdr := { s.memberHdr m 0x08 g.tc with chunk := k % 65536, msg := i, offset := 4096 * i, deadline := stampOf (g.startAt + 1000000000) },
    payload := ((goldImage g m.rank k).drop (4096 * i)).take 4096 }

/-- The first chunk of which a member receives a piece, and the oldest one not yet judged. -/
def Member.oldest (m : Member) (c : Ctx) : Nat :=
  let lo := if c.op = 1 then m.rank * (c.elems / max c.m 1) / max c.e 1 else 0
  (((List.range (m.judged.length + 1)).map (lo + ·)).find? (fun k => !m.judged.contains k)).getD lo

/-- Chunks that a member sends: all of them, or its own block of an ALL_GATHER (R213). -/
def Member.sends (m : Member) (c : Ctx) : Nat × Nat := if c.op = 2 then (m.rank * c.unitChunks, c.unitChunks) else (0, c.unitChunks)

/-- A member may send chunk `k` (R220, R535). -/
def State.memberMay (s : State) (m : Member) (k : Nat) : Bool :=
  (k < m.h + s.gold.win || (s.gold.win ≤ k && m.judged.contains (k - s.gold.win))) && decide (k < m.oldest s.gold.ctx + 16)

/-- A member numbers a packet and sends it (R116). -/
def State.memberNext (s : State) (m : Member) (pkt : Pkt) : State × Member :=
  let x := m.tx
  let pkt := { pkt with hdr := { pkt.hdr with seq := x.next, len := pkt.payload.length } }
  let m := { m with tx := { x with next := (x.next + 1) % 2 ^ 32, out := x.out ++ [{ pkt := pkt, sentAt := s.clk, port := some m.port }] } }
  ((s.setMember m).memberOut m pkt, m)

/-- What a member may send goes out, with fuel for the packets (R116, R220). -/
def State.memberPump : Nat → State → Nat → State
  | 0, s, _ => s
  | n + 1, s, p =>
    match s.emulated p with
    | none => s
    | some m =>
      let g := s.gold
      let c := g.ctx
      let (k0, cnt) := m.sends c
      if g.stopped || !s.eligible p (2 * g.tc) then s
      else if m.tx.phase = .closed then s.memberOpen m 0
      else if m.tx.phase ≠ .open || m.tx.win ≤ seqDiff m.tx.next m.tx.ack then s
      else match m.tx.wait with
        | o :: rest => let (s, _) := s.memberNext { m with tx := { m.tx with wait := rest } } o.pkt
                       State.memberPump n s p
        | [] =>
          let k := k0 + m.chunk
          if cnt ≤ m.chunk || !s.memberMay m k then s
          else
            let last := c.packets k ≤ m.packet + 1
            let m' := { m with chunk := if last then m.chunk + 1 else m.chunk, packet := if last then 0 else m.packet + 1 }
            let (s, _) := s.memberNext m' (s.memberPkt m k m.packet)
            State.memberPump n s p

/-- Every member sends what it may. -/
def State.goldPump (s : State) : State := (s.gold.members.map (·.port)).foldl (fun s p => s.memberPump 256 p) s

/-- A member's packet is sent again, counted in RESENDS (R541). -/
def State.memberResend (s : State) (m : Member) (q : Nat) : State :=
  match m.tx.out.find? (fun o => o.pkt.hdr.seq == q) with
  | none => s
  | some o =>
    let m := { m with tx := { m.tx with out := m.tx.out.map (fun (y : OutPkt) => if y.pkt.hdr.seq = q then { y with sentAt := s.clk, resends := y.resends + 1 } else y) } }
    ((s.setMember m).bump (goldReg 0x0C)).memberOut m o.pkt

/-- An ACK of a member for the DUT's results (R118). -/
def State.memberAck (s : State) (m : Member) : State :=
  let x := m.rx
  let c : Compl := { kind := kAck, stc := x.last.tc, winM1 := 127, ackSeq := x.ack, sack := x.sack, ceCount := x.ce, acked := x.unacked }
  let m := { m with rx := { x with unacked := 0, ce := 0, firstAt := none } }
  (s.setMember m).memberCompl m x.last c (0 < x.ce)

/-- What falls due for the members with time: OPENs and packets unanswered for RTO, acknowledgements after 1 µs (R114, R118, R120). -/
def State.goldenTick (s : State) : State :=
  if !s.gold.en || s.gold.stopped then s
  else
    let rto := us * s.rtoUs
    let s := (s.gold.members.map (·.port)).foldl (fun s p =>
      match s.emulated p with
      | none => s
      | some m =>
        if !s.eligible p (2 * s.gold.tc) then s
        else
          let s := if (m.tx.phase = .opening && m.tx.openAt + rto ≤ s.clk) || (m.tx.phase = .busy && m.tx.openAt + 100 * us ≤ s.clk)
            then s.memberOpen m m.tx.first else s
          let s := if m.tx.phase = .open then
              (m.tx.out.filter (fun o => o.sentAt + rto ≤ s.clk)).foldl (fun s o =>
                match s.emulated p with | some m => s.memberResend m o.pkt.hdr.seq | none => s) s
            else s
          match s.emulated p with
          | some m => (match m.rx.firstAt with | some t => if t + us ≤ s.clk then s.memberAck m else s | none => s)
          | none => s) s
    s.goldPump

/-! ## Packets from the DUT -/

/-- The session stops: a failure notice of the DUT (R536). -/
def State.dutFail (s : State) : State := (s.setGold { s.gold with stopped := true }).bump (goldReg 0x10)

/-- A COMPLETION for a member (R114, R116, R219, R221). -/
def State.memberComplIn (s : State) (m : Member) (h : Hdr) (c : Compl) : State :=
  let x := m.tx
  if c.kind = kOpen then
    let r := m.rx
    let r := if r.open_ && r.inc = c.inc && r.first = c.ackSeq then r
             else { open_ := true, inc := c.inc, first := c.ackSeq, ack := c.ackSeq, last := { h with tc := c.stc } }
    let m := { m with rx := r }
    (s.setMember m).memberCompl m h { kind := kOpenAck, stc := c.stc, winM1 := 127, ackSeq := c.ackSeq } false
  else if c.kind = kOpenAck then
    if x.phase = .closed then s
    else
      let m := { m with tx := { x with inc := some c.inc } }
      match x.inc with
      | some i => if i ≠ c.inc then (s.setMember m).memberOpen m x.lowest
                  else
                    let m := { m with tx := { m.tx with phase := .open } }
                    if x.phase = .open then s.setMember m
                    else x.out.foldl (fun s o => match s.emulated m.port with | some m => s.memberResend m o.pkt.hdr.seq | none => s) (s.setMember m)
      | none => s.setMember { m with tx := { m.tx with phase := .open } }
  else if c.kind = kResync then (if x.phase = .closed then s else s.memberOpen m x.lowest)
  else if c.kind = kAck then
    let newer := !seqLt c.ackSeq x.ack
    let ack := if newer then c.ackSeq else x.ack
    let gone := fun (o : OutPkt) =>
      let q := o.pkt.hdr.seq
      seqLt q ack || (let i := seqDiff q c.ackSeq
                      1 ≤ i && i < 256 && c.sack.testBit i)
    s.setMember { m with tx := { x with ack := ack, win := if newer then c.winM1 + 1 else x.win, out := x.out.filter (fun o => !gone o) } }
  else if c.kind = kStatus then
    let code := c.ackSeq % 65536
    if code = 0 then
      let d := (h.chunk + 1 + 65536 - m.h % 65536) % 65536
      if h.ctx = s.gold.dutCtx && d < 32768 then s.setMember { m with h := m.h + d } else s
    else if code = 0x21 then (if x.phase = .opening then s.setMember { m with tx := { x with phase := .busy, openAt := s.clk } } else s)
    else if h.ctx = s.gold.dutCtx then s.dutFail else s
  else s

/-- The first element in which two images of a chunk differ, by code or by shared scale. -/
def firstDiff (f n : Nat) (a b : List Byte) : Nat :=
  ((List.range n).find? (fun i => elemCode (fmtBits f) a i != elemCode (fmtBits f) b i
    || (isMx f && a.getD (rowData f n + i / 32) 0 != b.getD (rowData f n + i / 32) 0))).getD 0

/-- A member holds its whole piece of chunk `k`: it is compared with the reference (R536). -/
def State.judgePiece (s : State) (m : Member) (k : Nat) : State :=
  let g := s.gold
  let c := g.ctx
  let n := c.elemsOf k
  let ref := goldRef g k
  let mine := (m.got.filter (fun x => x.1 == k)).map (fun x => (x.2.1, x.2.2))
  let pkts := c.resultPackets k m.rank ref
  if m.judged.contains k || pkts.isEmpty || !pkts.all (fun x => covered mine x.1 x.2.length) then s
  else
    let ok := pkts.all (fun x => bytesIn mine x.1 x.2.length == x.2)
    let s := s.setMember { m with got := m.got.filter (fun x => x.1 != k), judged := k :: m.judged }
    if ok then s.bump (goldReg 0x04)
    else
      let s := s.bump (goldReg 0x08)
      if g.bad then s
      else
        -- bytes of other members' pieces are not here and count as equal
        let img := (List.range ref.length).map (fun o => (byteIn mine o).getD (ref.getD o 0))
        let e := firstDiff c.outF n ref img
        s.setGold { s.gold with bad := true, badChunk := k, badElem := e, expected := elemCode (fmtBits c.outF) ref e % 2 ^ 16,
                                observed := elemCode (fmtBits c.outF) img e % 2 ^ 16 }

/-- The chunk that a CHUNK field names, near the member's notices (R213). -/
def Member.resolve (m : Member) (f : Nat) : Nat :=
  let base := m.h / 65536 * 65536 + f % 65536
  if m.h + 32768 ≤ base && 65536 ≤ base then base - 65536 else if base + 32768 < m.h then base + 65536 else base

/-- A COLL_RESULT for a member: taken once (R117), acknowledged (R118), and judged when its piece is whole (R536). -/
def State.memberResult (s : State) (m : Member) (pkt : Pkt) : State :=
  let h := pkt.hdr
  let x := m.rx
  if !x.open_ then s.memberCompl m h { kind := kResync, stc := h.tc, winM1 := 127 } false
  else if seqLt h.seq x.ack || x.got.contains h.seq then s.memberAck { m with rx := { x with last := h } }
  else if 256 ≤ seqDiff h.seq x.ack then s
  else
    let hole := h.seq = x.ack && !x.got.isEmpty
    let (a, g) := advanceAck 257 x.ack (h.seq :: x.got)
    let x := { x with ack := a, got := g, unacked := x.unacked + 1, ce := x.ce + b2n h.ce, last := h,
                      firstAt := if x.firstAt.isSome then x.firstAt else some s.clk }
    let m := { m with rx := x }
    let s := if 16 ≤ x.unacked || hole then s.memberAck m else s.setMember m
    match s.emulated m.port with
    | none => s
    | some m =>
      let k := m.resolve h.chunk
      if h.ctx ≠ s.gold.dutCtx || m.judged.contains k || s.gold.ctx.chunks ≤ k then s
      else
        let m := { m with got := m.got ++ [(k, h.offset, pkt.payload)] }
        (s.setMember m).judgePiece m k

/-- A CONTRIB request is answered with fresh SEQs (R123, R533). -/
def State.memberAgain (s : State) (m : Member) (pkt : Pkt) : State :=
  let w := leWord pkt.payload
  let k := m.resolve pkt.hdr.chunk
  let first := bits (w 1) 0 16
  let n := if bits (w 1) 16 16 = 0 then s.gold.ctx.packets k else first + bits (w 1) 16 16
  if bits (w 0) 0 8 ≠ 2 || pkt.hdr.ctx ≠ s.gold.dutCtx || s.gold.ctx.chunks ≤ k then s
  else
    let again := (below (min n (s.gold.ctx.packets k)) (fun i => bits (w 1) 16 16 == 0 || decide (first ≤ i))).map (fun i =>
      ({ pkt := s.memberPkt m k i, port := some m.port } : OutPkt))
    s.setMember { m with tx := { m.tx with wait := m.tx.wait ++ again } }

/-- A packet of the DUT reaches an emulated member (R533, R536). -/
def State.goldenIn (s : State) (p : Nat) (pkt : Pkt) : State :=
  match s.emulated p with
  | none => s
  | some m =>
    if !s.gold.inbox.contains (p, pkt) then s
    else
      let s := s.setGold { s.gold with inbox := s.gold.inbox.erase (p, pkt) }
      if s.gold.stopped || pkt.hdr.dst ≠ m.ep then s
      else
        let s := if pkt.hdr.type = 0x04 then s.memberComplIn m pkt.hdr (complOf pkt.payload)
          else if pkt.hdr.type = 0x09 then s.memberResult m pkt
          else if pkt.hdr.type = 0x28 then s.memberAgain m pkt
          else s
        s.goldPump

/-! ## GOLDEN_SET (R532) -/

/-- The session ends: its ports present the module again and retrain. -/
def State.goldenEnd (s : State) : State :=
  if !s.gold.en then s
  else
    let ports := s.gold.members.map (·.port)
    let s := ports.foldl (fun s p => s.outOfService p) s
    ports.foldl (fun s p => s.retrainPort p) (s.setGold {})

/-- Entry `e` of GOLDEN_SET, under a fresh INCARNATION. -/
def goldMember (c : Cmd) (e inc : Nat) : Member :=
  let a := c.p (12 + 2 * e)
  let b := c.p (13 + 2 * e)
  { port := bits a 0 8, rank := bits a 8 13, ep := bits b 0 14, dutPort := bits b 14 8, inc := inc % 2 ^ 32 }

/-- Value checks of GOLDEN_SET by parameter word (R532, R204, R210, R211). -/
def State.goldenChecks (s : State) (c : Cmd) : List (Nat × Bool) :=
  let g : GoldenSt := { words := (List.range 12).map c.p }
  let x := g.ctx
  let n := bits (c.p 11) 0 5
  let ports := (List.range n).map (fun e => bits (c.p (12 + 2 * e)) 0 8)
  [(0, x.op ≤ 2 && x.red ≤ 5 && comboOk x.op x.red x.inF x.outF && 12 ≤ x.clog && x.clog ≤ 19 && bits (c.p 0) 23 9 == 0),
   (1, bits (c.p 1) 24 8 == 0), (2, bits (c.p 2) 14 18 == 0 && g.dut < 9216),
   (4, 1 ≤ x.nx && x.nx ≤ 8 && 1 ≤ x.ny && x.ny ≤ 8 && bits (c.p 4) 8 24 == 0),
   (3, bits (c.p 3) 13 19 == 0 && 1 ≤ g.mLeaf && x.m == g.mLeaf * x.nx * x.ny && g.mLeaf ≤ 128),
   (9, elemsOk x), (10, bits (c.p 10) 8 24 == 0), (11, 1 ≤ n && n ≤ 16 && bits (c.p 11) 5 27 == 0)]
  ++ (List.range n).flatMap (fun e =>
    let a := c.p (12 + 2 * e)
    [(12 + 2 * e, s.portThere (bits a 0 8) && bits a 8 13 < x.m && bits a 21 11 == 0 && !(ports.take e).contains (bits a 0 8)),
     (13 + 2 * e, bits (c.p (13 + 2 * e)) 22 10 == 0 && bits (c.p (13 + 2 * e)) 0 14 < 8192)])

/-- The ports of a mirrored pair's link (R34). -/
def pairPorts : List Nat := [179, 183, 187, 191]

/-- GOLDEN_SET (R532, R535, R399). Class and window of the DUT's context, which R532 does not give, are free values. -/
def State.goldenSet (s : State) (c : Cmd) : State :=
  let n := bits (c.p 11) 0 5
  let en := bit (c.p 0) 22
  s.runCmd { op := 0x0C06, lens := lenIs (64 + 8 * n), states := stRA, m := true,
             perm := fun s => s.instrument } c (fun s =>
    Ans.check s (s.goldenChecks c) (
      let ports := (List.range n).map (fun e => bits (c.p (12 + 2 * e)) 0 8)
      if ports.any (fun p => (s.pl.paired && pairPorts.contains p) || !(s.flowsOn p).isEmpty) then (s, .no 0x20)
      else if !en then (s.goldenEnd, .ok [])
      else
        let s1 := s.goldenEnd
        let g : GoldenSt := { en := true, words := (List.range 12).map c.p, startAt := s1.now, tc := 1 + s1.free % 2, win := 1 + (s1.used).free % 64 }
        let d := denOf (ports.getD 0 0)
        let blocks := 16 * g.ctx.blocks
        let b := Tbl.get 0 s1.mem.p1Backing d
        match s1.ctxPick 0 with
        | none => (s, .no 0x21)
        | some x =>
          if (if b = 0 then 16384 else b) < s1.claimed d + blocks then (s, .no 0x21)
          else
            let s := s1.used.used
            let (s, ms) := (List.range n).foldl (fun (a : State × List Member) e => (a.1.used, a.2 ++ [goldMember c e a.1.free])) (s, [])
            let s := ports.foldl (fun s p => s.outOfService p) s
            let s := s.setGold { g with members := ms, claim := blocks, claimDen := d, ctxNo := x + 1 }
            (ports.foldl (fun s p => s.retrainPort p) s, .ok [])))

end Sys2Proof.Machine
end

