-- ==== Sys2Proof/Machine/Cfg.lean ====
section
/-! DEFINITION. Configuration images (R403–R417): their checks, the effective configuration, the application of a base and of overlays, the
boot record. -/

namespace Sys2Proof.Machine

/-! ## The image (R403, R404) -/

/-- Reserved bytes of the header are 0. -/
def cfgReserved (l : List Byte) : Bool :=
  imgField l 7 1 == 0 && bits (imgField l 8 4) 2 30 == 0 && imgField l 46 2 == 0 && imgField l 60 4 == 0

/-- IMAGE_LEN, IMAGE_ID, BASE_ID, CTR_VAL of an image. -/
def imgLen (l : List Byte) : Nat := imgField l 48 8
/-- IMAGE_ID. -/
def imgId (l : List Byte) : Nat := imgField l 24 8
/-- BASE_ID. -/
def imgBase (l : List Byte) : Nat := imgField l 32 8
/-- CTR_VAL. -/
def imgCtr (l : List Byte) : Nat := imgField l 40 4

/-- `n` records from byte `a` that end at `e`, each KEY above `lo`: KEY and value (R404). -/
def parseRecs (l : List Byte) (e : Nat) : Nat → Nat → Nat → Option (List (Nat × List Byte))
  | 0, a, _ => if a = e then some [] else none
  | n + 1, a, lo =>
    let key := imgField l a 2
    let len := imgField l (a + 4) 4
    let pad := ceilDiv len 8 * 8
    if e < a + 8 || e < a + 8 + pad || key ≤ lo || imgField l (a + 2) 2 ≠ 0 || imgField l (a + 8 + len) (pad - len) ≠ 0 then none
    else match parseRecs l e n (a + 8 + pad) key with
      | none => none
      | some r => some ((key, (l.drop (a + 8)).take len) :: r)

/-- The records of an image (R404). -/
def imgRecs (l : List Byte) : Option (List (Nat × List Byte)) := parseRecs l (imgLen l - 96) (imgField l 44 2) 64 0

/-- The value of a record, empty where the image has none. -/
def imgRec (l : List Byte) (key : Nat) : List Byte :=
  match (imgRecs l).getD [] |>.find? (fun r => r.1 == key) with | some r => r.2 | none => []

/-- The entries of a REGS value: offset, mask, value (R407). -/
def regEntries (v : List Byte) : List (Nat × Nat × Nat) :=
  (List.range (v.length / 12)).map (fun i => (leWord v (3 * i), leWord v (3 * i + 1), leWord v (3 * i + 2)))

/-! ## Values (R406, R407) -/

/-- Bits of the register at `a` that an image of a kind may set (R407). -/
def kindMask (kind a : Nat) : Nat :=
  let o := (a - baseLink) % 0x200
  let w := (a - baseSwitch) % 0x40000
  let link := decide (baseLink ≤ a) && decide (a < 0x98000)
  let sw := decide (baseSwitch ≤ a) && decide (a < baseColl)
  let ok :=
    if kind = 0 then 0xFFFFFFFF
    else if kind ≤ 2 then
      (if sw && (w = 0x200 || (w < 0x80 && w % 0x20 = 4) || w = 0x300 || w = 0x500 || (0x400 ≤ w && w < 0x460) || (0x800 ≤ w && w < 0xB00) || w = 0x240)
        then 0xFFFFFFFF else if a = baseColl then 0xFFFFFFFF else if link && (o = 0x40 || o = 0x48) then 0xFFFFFFFF else 0)
    else if kind = 3 then
      (if link && o = 0 then 0x600 else if sw && w = 0xB00 then 0xFFFFFFFF else if baseFox ≤ a && a < baseDet then 0xFFFFFFFF else 0)
    else (if link && o = 0 then 0xC0 else if link && (o = 0x10 || o = 0x14) then 0xFFFFFFFF else if a = baseMem then 0xFFFFFFFF else 0)
  rwMask a &&& ok

/-- Settings merged by offset: the mask and the value of the entries so far, later ones winning (R411). -/
def mergeEntries (t : Tbl (Nat × Nat)) (l : List (Nat × Nat × Nat)) : Tbl (Nat × Nat) :=
  l.foldl (fun t e =>
    let o := Tbl.get (0, 0) t e.1
    Tbl.put (0, 0) t e.1 (o.1 ||| e.2.1, mergeBits o.2 e.2.1 (e.2.2 &&& e.2.1))) t

/-- A REGS value is well formed for its kind, and its resulting values lie in range: over the reset values for a base, over the present ones for an
overlay (R407). -/
def State.regsOk (s : State) (kind : Nat) (v : List Byte) : Bool :=
  let l := regEntries v
  v.length % 12 == 0 && v.length ≤ 12 * 4096 && l.all (fun e => e.1 % 4 == 0 && e.2.1 &&& kindMask kind e.1 == e.2.1)
    && (mergeEntries [] l).all (fun e => rwInRange e.1 (mergeBits (if kind = 0 then rwReset e.1 else s.rwWord e.1) e.2.1 e.2.2))

/-- The value of a record is in range, and its KEY is allowed for the kind (R406). -/
def State.recOk (s : State) (kind key : Nat) (v : List Byte) : Bool :=
  let w := leNat v
  match key with
  | 1 => kind == 0 && v.length == 4 && within (bits w 14 5) 1 16 && bits w 10 4 < bits w 14 5
  | 2 => kind == 0 && v.length == 4 && within (bits w 0 4) 1 8 && within (bits w 4 4) 1 8 && bits w 8 3 < bits w 0 4 && bits w 11 3 < bits w 4 4
          && bits w 14 18 == 0
  | 3 => kind == 0 && v.length == 768 && (List.range 192).all (fun p => bits (leWord v p) 30 2 == 0)
  | 4 => kind == 0 && v.length == 128
  | 5 => kind == 0 && v.length == 32 && (List.range 4).all (fun d =>
          let x := leNat ((v.drop (8 * d)).take 8)
          bits x 0 21 ≤ 1048576 && bits x 21 19 ≤ 262144 && bits x 40 6 ≤ 32 && bits x 46 18 == 0)
  | 6 => kind == 0 && v.length == 4 && within w 500 1750
  | 7 => kind == 0 && v.length == 4 && within w 15625 156250000
  | 8 => (kind == 0 || kind == 3 || kind == 4) && v.length == 48
  | 9 => s.regsOk kind v
  | 10 => kind != 3 && v.length == 4 && within w 1500 3800
  | _ => false

/-- The records of an image are good (R405 check 4). -/
def State.recsOk (s : State) (kind : Nat) (l : List Byte) : Bool :=
  match imgRecs l with
  | none => false
  | some r => within (imgField l 44 2) 1 64 && r.all (fun x => s.recOk kind x.1 x.2)
      && (kind != 0 || (r.any (fun x => x.1 == 1) && r.any (fun x => x.1 == 2)))

/-- The checks of R405 in order: 0, or the status of the first that fails. `p3` is the length the command names. -/
def State.checkImage (s : State) (kind p3 : Nat) (l : List Byte) : Nat :=
  let n := imgLen l
  if p3 ≠ n || l.length ≠ n || n < 160 || 262144 < n || imgField l 56 4 + 96 ≠ n then 0x12
  else if imgField l 0 4 ≠ 0x46434B43 || imgField l 4 2 ≠ 1 || imgField l 6 1 ≠ kind || !cfgReserved l || imgId l = 0 || (kind = 0 && imgBase l ≠ 0)
    then 0x11
  else if !bit (imgField l 8 4) (b2n s.ck2l) || (imgField l 16 8 ≠ 0 && imgField l 16 8 ≠ s.serial)
      || 2 * 2 ^ 16 + s.fwRelease % 2 ^ 16 < imgField l 12 4 then 0x11
  else if !s.recsOk kind l then 0x11
  else if !s.cfgKey (signerOf l) || !signatureOk l then 0x30
  else if imgCtr l < s.sec.ctr1 then 0x30
  else 0

/-! ## The effective configuration (R411) -/

/-- The base in effect and the overlays that a set of active images holds, in the order of R411. -/
def cfgImages (base : Option CfgImage) (act : Tbl (Option CfgImage)) : List (List Byte) :=
  (match base with | some b => [b.bytes] | none => []) ++
    [1, 2, 3, 4].filterMap (fun k => (Tbl.get none act k).map (·.bytes))

/-- Register settings of a list of images. -/
def effRegs (l : List (List Byte)) : Tbl (Nat × Nat) := l.foldl (fun t i => mergeEntries t (regEntries (imgRec i 9))) []

/-- AUTO_ACCEPT settings of a list of images: mask and value over the ports. -/
def effAccept (l : List (List Byte)) : Nat × Nat :=
  l.foldl (fun a i =>
    let v := imgRec i 8
    let m := leNat (v.take 24)
    (a.1 ||| m, mergeBits a.2 m (leNat (v.drop 24) &&& m))) (0, 0)

/-- The cap that the last image with a POWER record names. -/
def effPower (l : List (List Byte)) : Option Nat :=
  l.foldl (fun a i => let v := imgRec i 10; if v.isEmpty then a else some (leNat v)) none

/-- AUTO_ACCEPT of a port takes a value; a port accepted under it whose bit becomes 0 returns to IDENT (R414, R92). -/
def State.setAutoAccept (s : State) (p : Nat) (b : Bool) : State :=
  let x := s.port p
  let s := s.setPort p { x with autoAccept := b }
  if x.accepted && !b && x.st = .active then
    let s := (s.leaveRouting p).enterIdent p
    match x.peer with | some i => s.judgeIdentity p i | none => s
  else s

/-- Every port's AUTO_ACCEPT follows mask and value; ports outside the mask keep theirs, or return to 0 in `lost`. -/
def State.putAccept (s : State) (m v lost : Nat) : State :=
  allPorts.foldl (fun s p =>
    if m.testBit p then (if (s.port p).autoAccept = v.testBit p then s else s.setAutoAccept p (v.testBit p))
    else if lost.testBit p && (s.port p).autoAccept then s.setAutoAccept p false else s) s

/-- A register takes the value `w` if it does not hold it. -/
def State.cfgSet (s : State) (a w : Nat) : State := if s.rwWord a = w then s else s.rwSet a w

/-- What the register at `a` comes to hold when overlays change: bits that only an overlay named return to reset (R411). -/
def State.overTarget (s : State) (a lost m v : Nat) : Nat := mergeBits (mergeBits (s.rwWord a) lost (rwReset a)) m v

/-- The registers that a change from images `old` to images `new` sets: offset and value. -/
def State.overRegs (s : State) (old new : List (List Byte)) : List (Nat × Nat) :=
  let o := effRegs old
  let n := effRegs new
  let keys := ((o.map (·.1)) ++ (n.map (·.1))).eraseDups
  (keys.map (fun a =>
    let e := Tbl.get (0, 0) n a
    let was := (Tbl.get (0, 0) o a).1
    (a, s.overTarget a (was - (was &&& e.1)) e.1 e.2))).filter (fun x => s.rwWord x.1 != x.2)

/-- The check of R415: the offending KEY and BAR0 offset, none where every setting would be taken. -/
def State.overCheck (s : State) (old new : List (List Byte)) (inst : Bool) : Option (Nat × Nat) :=
  match (s.overRegs old new).find? (fun x => !(rwInRange x.1 x.2 && s.rwAllowed inst x.1 x.2)) with
  | some x => some (9, x.1)
  | none =>
    let w := (effPower new).getD (if (effPower old).isSome then 3800 else s.power.cap)
    if !s.flows.isEmpty && w < Config.capFloor s.floorMhz then some (10, 0) else none

/-- The active set that an OVERLAY_APPLY of `kinds` makes (R410). -/
def State.overNext (s : State) (kinds : Nat) : Tbl (Option CfgImage) :=
  [1, 2, 3, 4].foldl (fun t k => Tbl.put none t k (if kinds.testBit (k - 1) then Tbl.get none s.cfg.staged k else none)) []

/-- What follows when INSTRUMENT leaves the active set outside SERVICE (R414): job-0 units stop, and units of jobs are released (R478). -/
def State.instrumentGone (s : State) : State :=
  if s.sec.lc = 3 then s else (((s.mirrorsEnd none).foxStop0).foxReleaseWhere (fun k => k.isSome)).goldenEnd

/-- The boot record names the images that came from flash (R409). -/
def State.bootRecord (s : State) : State :=
  let ovr := [1, 2, 3, 4].foldl (fun t k => Tbl.put 0 t k (match Tbl.get none s.cfg.active k with | some i => i.slot | none => 0)) []
  let b := match s.cfg.base with | some i => i.slot | none => 0
  if b = 0 && ovr.isEmpty then s
  else { s with cfg := { s.cfg with bootBase := if b = 0 then s.cfg.bootBase else b, bootOver := ovr } }

/-- The switch of R413 to an active set: every field that the effective configuration names is set (R411, R414). -/
def State.overSwitch (s : State) (act : Tbl (Option CfgImage)) : State :=
  let old := cfgImages s.cfg.base s.cfg.active
  let new := cfgImages s.cfg.base act
  let hadInst := s.instrument
  let oa := effAccept old
  let na := effAccept new
  let regs := s.overRegs old new
  let cap := (effPower new).getD (if (effPower old).isSome then 3800 else s.power.cap)
  let s := { s with cfg := { s.cfg with active := act } }
  let s := regs.foldl (fun s x => s.cfgSet x.1 x.2) s
  let s := (s.putAccept na.1 na.2 (oa.1 - (oa.1 &&& na.1))).setCap cap
  let s := if hadInst && !s.instrument then s.instrumentGone else s
  s.copyMeasures.bootRecord

/-- The command that waits for an overlay change ends. -/
def State.overReply (s : State) (o : Option Nat) (a : Ans) : State := match o with | some id => s.execDone id a | none => s

/-- The boundary at domain time `t`: a pending overlay change whose time has come is checked again and applied (R413, R415). -/
def State.overBoundary (s : State) (t : Nat) : State :=
  match s.cfg.pend with
  | none => s
  | some x =>
    if t < x.time then s
    else
      let s := { s with cfg := { s.cfg with pend := none } }
      let act := s.overNext x.kinds
      match s.overCheck (cfgImages s.cfg.base s.cfg.active) (cfgImages s.cfg.base act) (s.sec.lc == 3 || x.kinds.testBit 2) with
      | some (key, a) => (s.event { word := 4, source := mConfigApply, detail := [key], addr := a }).overReply x.owner (.no 0x20)
      | none => (s.overSwitch act).overReply x.owner (.ok [])

/-- The recorded overlays are staged from flash and applied at the first boundary after READY (R409). -/
def State.overRestore (s : State) : State :=
  if !s.cfg.restore then s
  else
    let s := { s with cfg := { s.cfg with restore := false } }
    let good := [1, 2, 3, 4].filterMap (fun k =>
      let n := Tbl.get 0 s.cfg.bootOver k
      let l := Tbl.get [] s.cfg.flash n
      let idOk := imgBase l = 0 || (match s.cfg.base with | some b => imgId b.bytes == imgBase l | none => false)
      if n ≠ 0 && s.checkImage k (imgLen l) l = 0 && idOk then some (k, ({ bytes := l, slot := n } : CfgImage)) else none)
    let st := good.foldl (fun t x => Tbl.put none t x.1 (some x.2)) s.cfg.staged
    let s := { s with cfg := { s.cfg with staged := st } }
    let act := good.foldl (fun t x => Tbl.put none t x.1 (some x.2)) ([] : Tbl (Option CfgImage))
    if act.isEmpty then s
    else match s.overCheck (cfgImages s.cfg.base s.cfg.active) (cfgImages s.cfg.base act) true with
      | some (key, a) => s.event { word := 4, source := mConfigApply, detail := [key], addr := a }
      | none => s.overSwitch act

/-! ## Application of a base (R412) -/

/-- Identity, torus and port map that a base names (R406). -/
def placeOf (l : List Byte) : Place :=
  let i := leNat (imgRec l 1)
  let t := leNat (imgRec l 2)
  let pm := imgRec l 3
  let use := fun p =>
    let w := leWord pm p
    ({ use := bits w 0 2, dir := bits w 2 2, index := bits w 4 4, expEp := bits w 8 14, expPort := bits w 22 8 } : PortUse)
  { index := bits i 0 10, plane := bits i 10 4, planes := bits i 14 5, spine := bit i 19, paired := bit i 20, member := bits i 21 1,
    partner := bits i 22 10, x := bits t 0 4, y := bits t 4 4, rx := bits t 8 3, ry := bits t 11 3,
    map := if pm.isEmpty then [] else (List.range 192).map use,
    peers := if (imgRec l 4).isEmpty then none else some (leNat (imgRec l 4)) }

/-- The POOLS words that a base names; none where it leaves the defaults. -/
def poolsRec (l : List Byte) : List Nat :=
  let v := imgRec l 5
  if v.isEmpty then [] else (List.range 4).map (fun d => leNat ((v.drop (8 * d)).take 8))

/-- Every RW register at its reset value or at what the effective configuration names (R412 step 2, R411). -/
def State.baseRegs (s : State) (l : List (List Byte)) (period : Nat) : State :=
  let eff := effRegs l
  let now := (s.regs.map (·.1)).filter (fun a => rwMask a != 0)
  let keys := (now ++ eff.map (·.1) ++ [baseTime + 0x10, baseTime + 0x18, baseTime + 0x1C]).eraseDups
  keys.foldl (fun s a =>
    let e := Tbl.get (0, 0) eff a
    let base := if a = baseTime + 0x10 then period else rwReset a
    let w := mergeBits (mergeBits (s.rwWord a) (rwMask a) base) e.1 e.2
    let slot := decide (baseCmd + 0x1000 ≤ a) && decide (a < baseCmd + 0x3000) && (s.cslot ((a - baseCmd - 0x1000) / 0x20)).st != .idle
    if slot then s else s.cfgSet a w) s

/-- Entry to READY (R513): ROUTING with ACCEPT = 1; the first entry after a start takes a new INCARNATION. -/
def State.enterReady (s : State) : State :=
  let first := s.power.phase ≠ 6
  let s := if first then
      { s.used with st := { s.st with incarnation := s.free % 2 ^ 32 },
                    power := { s.power with phase := 6, tReady := min 65535 ((s.clk - s.power.startAt) / ms) },
                    cfg := { s.cfg with restore := true } }
    else s
  ({ s with dev := .ready }).setAccept true

/-- A base applies (R412). `areasOk` is false when the wipe of step 3 meets an uncorrectable error. -/
def State.applyBase (s : State) (b : CfgImage) (areasOk : Bool) : State × Bool :=
  let l := b.bytes
  let s := ({ s with dev := .config }).setAccept false
  let keep := s.cfg.active.filter (fun e => match e.2 with | some i => imgBase i.bytes == 0 || imgBase i.bytes == imgId l | none => false)
  let hadInst := s.instrument
  let oldPlace := s.place
  let s := { s with cfg := { s.cfg with base := some b, active := keep } }
  let eff := cfgImages (some b) keep
  let per := imgRec l 7
  let s := s.baseRegs eff (if per.isEmpty then 156250 else leNat per)
  let fl := imgRec l 6
  let s := { s with floorMhz := if fl.isEmpty then 1000 else leNat fl }
  let ac := effAccept eff
  let s := (s.putAccept ac.1 ac.2 (2 ^ 192 - 1)).setCap ((effPower eff).getD 3800)
  let pools := poolsRec l
  let relay := (List.range 4).any (fun d => s.poolsWord d != pools.getD d (131072 + 65536 * 2 ^ 21 + 8 * 2 ^ 40))
  if relay && !areasOk then ({ s with cfg := { s.cfg with base := none } }, false)
  else
    let s := if relay then ({ s with cfg := { s.cfg with pools := pools } }).layAreas else s
    let pl := placeOf l
    let same := match oldPlace with | some o => { o with peers := none } == { pl with peers := none } | none => false
    let s := { s with place := some pl }
    let s := if same then s else (allPorts.filter (fun p => s.fld (linkReg p 0) 0 1 == 1)).foldl (fun s p => s.retrainPort p) s
    let s := if hadInst && !s.instrument then s.instrumentGone else s
    (s.enterReady.copyMeasures.bootRecord, true)

/-! ## Commands (R387) and the end of verification -/

/-- Read of an image: from flash, or by bus-master reads of host memory (R405, R408). -/
def State.imageRead (s : State) (src addr len : Nat) : State := if src = 0 then s else s.emit (.hostRead addr len)

/-- BASE_LOAD (R387, R405, R408, R416). -/
def State.baseLoad (s : State) (c : Cmd) : State :=
  let w := c.p 0
  s.runCmd { op := 0x0100, lens := lenIs 32, states := stCR, m := true, long := true } c (fun s =>
    Ans.check s [(0, bits w 1 3 == 0 && bits w 8 24 == 0 && (bit w 0 || bits w 4 4 != 0))] (
      if s.cfg.pend.isSome then (s, .no 0x20)
      else (s.imageRead (bits w 0 1) (c.p64 1) (c.p 3), { goes := true, data := [bits w 0 1, bits w 4 4, c.p 3, 0] })))

/-- OVERLAY_STAGE (R387, R405, R410, R416). -/
def State.overlayStage (s : State) (c : Cmd) : State :=
  let w := c.p 0
  s.runCmd { op := 0x0101, lens := lenIs 32, states := stRA, m := true, long := true } c (fun s =>
    Ans.check s [(0, bit w 3 == false && bits w 8 24 == 0 && (bit w 2 || bits w 4 4 != 0))] (
      if (match s.cfg.pend with | some x => x.kinds.testBit (bits w 0 2) | none => false) then (s, .no 0x20)
      else (s.imageRead (bits w 2 1) (c.p64 1) (c.p 3), { goes := true, data := [bits w 2 1, bits w 4 4, c.p 3, bits w 0 2 + 1] })))

/-- OVERLAY_APPLY (R387, R410, R413, R415, R416). -/
def State.overlayApply (s : State) (c : Cmd) : State :=
  let kinds := c.p 0
  s.runCmd { op := 0x0102, lens := lenIs 28, states := stRA, m := true, long := true } c (fun s =>
    let fits := fun k => !kinds.testBit (k - 1) || (match Tbl.get none s.cfg.staged k with
      | some i => imgBase i.bytes == 0 || (match s.cfg.base with | some b => imgId b.bytes == imgBase i.bytes | none => false)
      | none => false)
    Ans.check s [(0, decide (kinds < 16) && [1, 2, 3, 4].all fits)] (
      if s.cfg.pend.isSome then (s, .no 0x20)
      else
        let act := s.overNext kinds
        match s.overCheck (cfgImages s.cfg.base s.cfg.active) (cfgImages s.cfg.base act) (s.sec.lc == 3 || kinds.testBit 2) with
        | some _ => (s, .no 0x20)
        | none => ({ s with cfg := { s.cfg with pend := some { kinds := kinds, time := c.p64 1, owner := some s.nextExecId } } }, { goes := true })))

/-- CONFIG_QUERY (R387): identifier and measurement of the base and of each overlay, zeros where there is none. -/
def State.configQuery (s : State) (c : Cmd) : State :=
  s.runCmd { op := 0x0103, lens := lenIs 16, states := stCRA, m := true } c (fun s =>
    let one := fun (o : Option CfgImage) => match o with
      | some i => leBytes 8 (imgId i.bytes) ++ (measureOf i.bytes).take 64
      | none => List.replicate 72 0
    (s, { block := one s.cfg.base ++ [1, 2, 3, 4].flatMap (fun k => one (Tbl.get none s.cfg.active k)) }))

/-- A slot of flash is written, or the write fails and its image stays (R408). -/
def State.flashWrite (s : State) (n : Nat) (l : List Byte) (ok : Bool) : State × Bool :=
  if n = 0 then (s, true)
  else if ok then ({ s with cfg := { s.cfg with flash := Tbl.put [] s.cfg.flash n l } }, true)
  else (s.raiseMod mFlashErr, false)

/-- The checks of an image end (R405, R408, R410, R412): a base applies, an overlay is staged, or the command fails. -/
def State.imageVerified (s : State) (id : Nat) (image : List Byte) (flashOk areasOk : Bool) : State :=
  match s.execOf id with
  | none => s
  | some e =>
    if e.op ≠ 0x0100 && e.op ≠ 0x0101 then s
    else
      let src := e.data.getD 0 0
      let slot := e.data.getD 1 0
      let kind := e.data.getD 3 0
      let l := if src = 0 then Tbl.get [] s.cfg.flash slot else image
      let st := s.checkImage kind (e.data.getD 2 0) l
      if st ≠ 0 then s.execDone id (.no st)
      else
        let (s, ok) := if src = 0 then (s, true) else s.flashWrite slot l flashOk
        if !ok then s.execDone id (.no 0xFF)
        else
          let i : CfgImage := { bytes := l, slot := slot }
          let q := Ans.ok [imgId l % 2 ^ 32, imgId l / 2 ^ 32]
          if kind ≠ 0 then ({ s with cfg := { s.cfg with staged := Tbl.put none s.cfg.staged kind (some i) } }).execDone id q
          else
            let (s, ok) := s.applyBase i areasOk
            s.execDone id (if ok then q else .no 0xFF)

/-- Base images in flash in the order in which start-up tries them: the recorded slot, then descending CTR_VAL, lowest slot first (R409). -/
def State.bootOrder (s : State) : List Nat :=
  let l := (List.range 16).filter (fun n => n != 0 && n != s.cfg.bootBase && !(Tbl.get [] s.cfg.flash n).isEmpty)
  let ctr := fun n => imgCtr (Tbl.get [] s.cfg.flash n)
  let ins := fun (l : List Nat) (n : Nat) => l.takeWhile (fun m => ctr n ≤ ctr m) ++ [n] ++ l.dropWhile (fun m => ctr n ≤ ctr m)
  (if s.cfg.bootBase = 0 then [] else [s.cfg.bootBase]) ++ l.foldl ins []

/-- In CONFIG with no base, Keeper loads the recorded base, or another that passes (R409, R441 CONFIG_FALLBACK). -/
def State.bootBaseLoad (s : State) (areasOk : Bool) : State :=
  if s.dev ≠ .config || s.cfg.base.isSome then s
  else
    let img := fun n => Tbl.get ([] : List Byte) s.cfg.flash n
    match s.bootOrder.find? (fun n => s.checkImage 0 (imgLen (img n)) (img n) == 0) with
    | none => s
    | some n =>
      let s := if s.cfg.bootBase ≠ 0 && n ≠ s.cfg.bootBase then s.raiseMod mConfigFallback else s
      (s.applyBase { bytes := img n, slot := n } areasOk).1

end Sys2Proof.Machine
end

