-- ==== Sys2Proof/Machine/Pair.lean ====
section
/-! DEFINITION. Mirrored pairs (R418–R438): formation, heartbeats and loss of contact, the chips' reports, arbitration, takeover,
self-fence, resynchronisation, break and handback. -/

namespace Sys2Proof.Machine

/-- The pair state becomes `st`; EVENT_TIME takes rack time (R421, R437). -/
def State.pairSet (s : State) (st : Nat) : State := { s with pair := { s.pair with st := st, eventTime := s.now } }

/-- The mirror ports that are ACTIVE (R419, R437). -/
def State.mirrorUp (s : State) : List Nat := pairPorts.filter (fun p => (s.port p).st == .active)

/-- ACTIVE down ports (R432). -/
def State.downUp (s : State) : List Nat := allPorts.filter (fun p => (s.useOf p).use == 0 && (s.port p).st == .active)

/-- PAIR.STATUS (R437). -/
def State.pairStatusWord (s : State) : Nat :=
  let up := maskOf 4 (fun i => s.mirrorUp.contains (179 + 4 * i))
  let contact := match s.pair.lastHb with | some t => decide (s.clk < t + 10 * us) | none => false
  s.pair.st + s.pl.member * 8 + s.pl.partner * 16 + up * 2 ^ 14 + b2n contact * 2 ^ 18 + b2n s.pair.alias_ * 2 ^ 19 + s.pair.reason * 2 ^ 20

/-- PAIR.CTXCNT (R437). -/
def State.pairCtxWord (s : State) : Nat :=
  let live := s.coll.ctxs.filter (fun e => e.2.state != .free)
  (live.filter (fun e => !e.2.standby)).length + (live.filter (fun e => e.2.standby)).length * 2 ^ 16

/-! ## Formation -/

/-- Formation begins (R420, R421). -/
def State.pairStart (s : State) : State := s.pairSet 1

/-- The life-cycle state permits a pair to form (R470). -/
def State.mayPair (s : State) : Bool := decide (1 ≤ s.sec.lc) && decide (s.sec.lc ≤ 3)

/-- PAIR_FORM (R395, R420, R470). -/
def State.pairForm (s : State) (c : Cmd) : State :=
  s.runCmd { op := 0x0800, lens := lenIs 20, states := stR, m := true, long := true, perm := fun s => s.mayPair } c (fun s =>
    Ans.check s [(0, bits (c.p 0) 11 21 == 0 && s.pl.paired && bits (c.p 0) 0 10 == s.pl.partner && bits (c.p 0) 10 1 == s.pl.member)] (
      if s.pair.st ≠ 0 && s.pair.st ≠ 6 then (s, .no 0x20)
      else
        let s' := s.pairStart
        ({ s' with pair := { s'.pair with owner := some s.cmd.nextExec } }, { goes := true })))

/-- A READY module forms its pair by itself (R420, R470). -/
def State.pairAutoForm (s : State) : State :=
  if s.dev = .ready && s.mayPair && s.pl.paired && s.fld basePair 0 1 = 1 && s.pair.st = 0 then s.pairStart else s

/-- The first check of R420 that fails; 0 for none. -/
def State.pairReason (s : State) (i : PairInfo) : Nat :=
  let pl := s.pl
  if s.mirrorUp.isEmpty then 1
  else if i.index ≠ pl.partner || i.plane ≠ pl.plane || i.rx ≠ pl.rx || i.ry ≠ pl.ry then 2
  else if i.member = pl.member then 3
  else if i.ck2l ≠ s.ck2l then 4
  else if i.line ≠ 2 || i.release ≠ s.fwRelease then 5
  else if i.pools ≠ s.cfg.pools then 6
  else 0

/-- The owner of a pair command has its answer. -/
def State.pairAnswer (s : State) (a : Ans) : State :=
  match s.pair.owner with
  | some id => ({ s with pair := { s.pair with owner := none } }).execDone id a
  | none => s

/-- The partner serves for both: a module that forms with it returns, and waits for the handback (R435). -/
def State.partnerServes (s : State) : Bool := s.pair.partnerSt == 3 || s.pair.partnerSt == 5

/-- REASON of PAIR.STATUS. -/
def State.setPairReason (s : State) (r : Nat) : State := { s with pair := { s.pair with reason := r } }

/-- The formation checks end (R420, R421, R435): PAIRED, REFUSED, or at a SOLO member the start of RESYNC. -/
def State.pairFormation (s : State) (i : PairInfo) : State :=
  let r := s.pairReason i
  if s.pair.st = 1 then
    if r ≠ 0 then
      (((s.pairSet 6).raiseMod mPairRefused).pairAnswer (.no 0x20)).setPairReason r
    else if s.partnerServes then ({ s with pair := { s.pair with reason := 0 } }).setAccept false
    else (({ s.pairSet 2 with pair := { (s.pairSet 2).pair with reason := 0, lostAt := none } }).pairAnswer (.ok []))
  else if s.pair.st = 3 && r = 0 && s.fld basePair 1 1 = 1 then s.pairSet 5
  else s

/-! ## Heartbeats and reports -/

/-- Payload of a HEARTBEAT (R430). -/
def State.heartbeatBytes (s : State) : List Byte :=
  leBytes 4 (0x03 + s.pair.st * 2 ^ 8 + s.pl.member * 2 ^ 11) ++ leBytes 4 s.pair.hbSeq ++ leBytes 8 s.now

/-- Every 2 µs a heartbeat goes out on each ACTIVE mirror port; a period in which none came is counted (R430, R438). -/
def State.heartbeatSend (s : State) : State :=
  if !s.pl.paired then s
  else
    let missed := match s.pair.lastHb with | some t => decide (t + 2 * us < s.clk) | none => true
    let s := if missed then s.bump (basePair + 0x28) else s
    let s := { s with pair := { s.pair with hbSeq := (s.pair.hbSeq + 1) % 2 ^ 32 } }
    s.mirrorUp.foldl (fun s p => s.sendMgmt p (s.port p).ver (8192 + s.pl.partner) s.heartbeatBytes) s

/-- A LINK_MGMT packet leaves the list of those delivered. -/
def State.consumeMgmt (s : State) (p : Nat) (pkt : Pkt) (k : State → State) : State :=
  if !s.sw.delivered.contains (p, pkt) || pkt.hdr.type ≠ 0x30 then s else k (s.taken p pkt)

/-- A LINK_MGMT message of one MSGT on a port is taken. -/
def State.takeMgmt (s : State) (p : Nat) (pkt : Pkt) (msgt : Nat) (k : State → State) : State :=
  if bits (leWord pkt.payload 0) 0 8 ≠ msgt then s else s.consumeMgmt p pkt k

/-- A dual-homed chip's report (R431). -/
def State.homeStateIn (s : State) (p : Nat) (pkt : Pkt) : State :=
  if !s.pl.paired || (s.useOf p).use ≠ 0 then s
  else s.takeMgmt p pkt 4 (fun s =>
    { s with pair := { s.pair with homes := Tbl.put none s.pair.homes p (some (s.clk, bit (leWord pkt.payload 0) 8)) } })

/-- The reporting chips' OTHER_UP (R431). -/
def State.reports (s : State) : List Bool :=
  s.downUp.filterMap (fun p => match Tbl.get none s.pair.homes p with
    | some (t, up) => if s.clk ≤ t + 4 * us then some up else none
    | none => none)

/-- At least one chip reports, and every reporting chip shows OTHER_UP = 0 (R432). -/
def State.partnerGone (s : State) : Bool := !s.reports.isEmpty && !s.reports.any id

/-! ## Self-fence and takeover -/

/-- A self-fence (R432): context work stops, the member accepts nothing and says so. Nothing of a context is resent. -/
def State.selfFence (s : State) : State :=
  if s.pair.st = 4 then s
  else
    let drop := fun (l : List OutPkt) => l.filter (fun o => !(martenType o.pkt.hdr.type || o.pkt.hdr.type == 0x09))
    let s := { s.pairSet 4 with
      st := { s.st with tx := s.st.tx.map (fun (e : Nat × TxStream) => (e.1, { e.2 with out := drop e.2.out, wait := drop e.2.wait })) },
      coll := { s.coll with ctxs := s.coll.ctxs.map (fun (e : Nat × Ctx) => (e.1, { e.2 with standby := e.2.standby || e.2.state != CtxState.free })) } }
    (s.event { word := 4, source := mPairFence, kind := .module }).setAccept false

/-- Chunks of a context that a takeover reopens: above the boundary, within the window (R433). -/
def Ctx.redo (c : Ctx) (g : Nat) : List Nat := (List.range (min c.win (c.chunks - g))).map (· + g)

/-- A RESEND_REQ of scope CONTRIB for a whole chunk goes to an endpoint (R123, R433). -/
def State.askContrib (s : State) (x k dst : Nat) : State :=
  let h := { s.ctxHdr x k 0x28 dst with tc := 0, len := 8, deadline := 0 }
  s.sendPkt { hdr := h, payload := leBytes 4 2 ++ leBytes 4 0 } (.marten ((s.ctx x).unit k / 4) ((s.ctx x).unit k % 4)) none none

/-- The leaves of the serving member's torus along each axis for a context of the partner's parity (R419, R422). -/
def State.otherRing (s : State) (l : List Nat) : List Nat :=
  (List.range l.length).map (fun i =>
    let e := l.getD i 0
    let r := s.rackOf e
    if e = s.ownId then e else 8192 + Config.moduleAt (16 + s.pl.plane) r.1 r.2 % 1024)

/-- One context held on standby is taken over (R433). The boundary recorded here is a free value: the partner's records have no row. -/
def State.takeCtx (s : State) (x : Nat) : State :=
  let c := s.ctx x
  if !c.standby || c.state = .free then s
  else
    let g := min c.chunks (s.free % (c.chunks + 1))
    let s := s.used
    let todo := if c.op = 5 then (List.range c.win).map (· + g) else c.redo g
    let c := { c with standby := false, takeG := g, h := g, g := g, freedAbove := [], slots := [], batches := [], results := [],
                      state := if c.state = .armed || c.state = .running then .running else c.state,
                      ringX := s.otherRing c.ringX, ringY := s.otherRing c.ringY, leaves := s.otherRing c.leaves }
    let s := s.setCtx x c
    let s := s.bumpBy (basePair + 0x34) todo.length
    let s := if !c.fast then s else
      { s with coll := { s.coll with tdc := Tbl.put 0 s.coll.tdc c.job ((Tbl.get 0 s.coll.tdc c.job + todo.length) % 2 ^ 64) } }
    todo.foldl (fun s k =>
      let s := if c.op = 5 then s else s.openSlot x k
      let preds := (if c.nx ≤ 1 then [] else [c.prevLeaf 0 0, c.prevLeaf 0 1]) ++ (if c.ny ≤ 1 then [] else [c.prevLeaf 1 0, c.prevLeaf 1 1])
      (c.locals ++ preds.eraseDups.filter (· != s.ownId)).foldl (fun s e => s.askContrib x k e) s) s

/-- The returning member begins to serve (R435, step 4): a new INCARNATION, PAIRED, and the contexts of its parity pass to it by the procedure of
R433. -/
def State.handbackHere (s : State) : State :=
  let s := (s.pairSet 2).bump (basePair + 0x30)
  let s := State.used { s with st := { s.st with incarnation := s.free % 2 ^ 32 } }
  let xs := (s.coll.ctxs.filter (fun e => e.2.standby && e.2.state != .free && e.1 % 2 == s.pl.member)).map (·.1)
  let s := xs.foldl (fun s x => s.takeCtx x) s
  (s.setAccept true).pairAnswer (.ok [])

/-- A partner's heartbeat renews contact (R430, R432). -/
def State.heartbeatIn (s : State) (p : Nat) (pkt : Pkt) : State :=
  if !pairPorts.contains p || !s.pl.paired then s
  else
    s.takeMgmt p pkt 3 (fun s =>
      let ps := bits (leWord pkt.payload 0) 8 3
      let back := s.pair.st == 1 && s.partnerServes && ps == 2
      let s := { s with pair := { s.pair with lastHb := some s.clk, lostAt := none, partnerSt := ps } }
      if back then s.handbackHere else s)

/-- The member answers the partner's identifier from fresh receive state under a new INCARNATION (R433). -/
def State.aliasOn (s : State) : State :=
  let p := { s.pair with alias_ := true, aliasInc := s.free % 2 ^ 32, lostAt := none }
  State.used { s with pair := p, st := { s.st with rx := s.st.rx.filter (fun (e : Nat × RxStream) => e.1 < 4 * 16384) } }

/-- Takeover (R433): SOLO, the partner's identifier under a new INCARNATION, and its contexts from their boundaries. -/
def State.takeOver (s : State) : State :=
  let xs := (s.coll.ctxs.filter (fun e => e.2.standby && e.2.state != .free)).map (·.1)
  let s := (s.pairSet 3).aliasOn
  let s := (xs.foldl (fun s x => s.takeCtx x) s).bump (basePair + 0x30)
  s.event { word := 4, source := mPairTakeover, kind := .module, detail := [s.pl.partner, xs.length] }

/-- No heartbeat for 10 µs (R430, R432, R435). -/
def State.loseContact (s : State) : State :=
  let returning := s.pair.st == 1 && s.partnerServes
  if !(s.pair.st == 2 || s.pair.st == 5 || returning) || s.pair.lostAt.isSome then s
  else
    let s : State := { s with pair := { s.pair with lostAt := some s.clk, lastHb := none } }
    let s := (s.bump (basePair + 0x2C)).raiseMod mPairLost
    if s.pair.st = 5 then
      let s := s.pairSet 3
      State.pairAnswer { s with pair := { s.pair with lostAt := none, backPend := false } } (.no 0xFF)
    else if returning || s.downUp.isEmpty then s.selfFence
    else s

/-- The test of R432: member 1 acts once, member 0 as often as the row says. -/
def State.arbitrate (s : State) : State :=
  if s.pair.st ≠ 2 || s.pair.lostAt.isNone then s
  else if s.partnerGone then s.takeOver
  else if s.pl.member = 1 then s.selfFence
  else s

/-! ## Resynchronisation, break and handback -/

/-- PAIR_BREAK (R395, R436). -/
def State.pairBreak (s : State) (c : Cmd) : State :=
  s.runCmd { op := 0x0801, lens := lenIs 16, states := stRA, m := true } c (fun s =>
    if s.pair.st ≠ 2 then (s, .no 0x20)
    else (({ s with pair := { s.pair with breakPend := true } }).emit (.mirror 0x0801 [] []), .ok []))

/-- PAIR_STATUS (R395, R437). -/
def State.pairStatus (s : State) (c : Cmd) : State :=
  s.runCmd { op := 0x0802, lens := lenIs 16, states := stRA, m := true } c (fun s =>
    (s, .ok [s.pairStatusWord, s.pairCtxWord, s.pair.eventTime % 2 ^ 32, s.pair.eventTime / 2 ^ 32]))

/-- PAIR_RESYNC (R395, R435). -/
def State.pairResync (s : State) (c : Cmd) : State :=
  s.runCmd { op := 0x0803, lens := lenIs 16, states := stRA, m := true, long := true } c (fun s =>
    if s.pair.st ≠ 3 || s.mirrorUp.isEmpty then (s, .no 0x20)
    else
      let s' := s.pairSet 5
      ({ s' with pair := { s'.pair with owner := some s.cmd.nextExec } }, { goes := true }))

/-- Steps 1 to 3 of R435 are done; `failed` contexts could not be reserved. -/
def State.resyncDone (s : State) (failed : Nat) : State :=
  if s.pair.st ≠ 5 then s
  else { s with pair := { s.pair with unmirrored := failed, backPend := true } }

/-- A break or a handback takes effect at an EPOCH boundary (R435, R436). -/
def State.pairBoundary (s : State) : State :=
  if s.pair.breakPend then
    let s := { s.pairSet 0 with
      mem := { s.mem with regions := s.mem.regions.map (fun (e : Nat × Region) => (e.1, { e.2 with prot := false })) } }
    let s := { s with pair := { s.pair with breakPend := false, lostAt := none } }
    (s.coll.ctxs.filter (fun e => e.2.standby && e.2.state != .free)).foldl (fun s e => s.ctxFreed e.1 false) s
  else if s.pair.backPend && s.pair.st = 5 then
    let give := fun (e : Nat × Ctx) => (e.1, if e.1 % 2 ≠ s.pl.member && e.2.state != .free then
      { e.2 with standby := true, takeG := e.2.g, ringX := e.2.ringX, slots := [], kept := [] } else e.2)
    let gone := s.coll.ctxs.filter (fun e => e.1 % 2 ≠ s.pl.member && e.2.state != .free)
    let s := gone.foldl (fun s e => (e.2.slots ++ e.2.kept).foldl (fun s z => s.slotGive e.2 z.chunk) s) s
    let s := s.pairSet 2
    let s := { s with pair := { s.pair with alias_ := false, backPend := false, lostAt := none, lastHb := some s.clk },
                      st := { s.st with rx := s.st.rx.filter (fun (e : Nat × RxStream) => e.1 < 4 * 16384) },
                      coll := { s.coll with ctxs := s.coll.ctxs.map give } }
    s.pairAnswer (.ok [s.pair.unmirrored])
  else s

end Sys2Proof.Machine
end

