-- ==== Sys2Proof/Machine/FaultBox.lean ====
section
/-! DEFINITION. The fault commands and registers (R396, R443–R448), the interrupt's hold-off (R456), the records (R453, R455) and the black
box with its snapshot (R459–R461). -/

namespace Sys2Proof.Machine

/-- Code of a unit kind (R453). -/
def UnitKind.code : UnitKind → Nat
  | .none_ => 0
  | .port => 1
  | .core => 2
  | .fastCh => 3
  | .slowCh => 4
  | .buffer => 5
  | .pool => 6
  | .bridge => 7
  | .phase => 8
  | .marten => 9
  | .module => 10
  | .tier => 11
  | .slice => 12

/-- The twelve words of a record (R453). -/
def Record.words (r : Record) : List Nat :=
  [r.source % 256 + r.den % 4 * 2 ^ 8 + b2n r.module * 2 ^ 10 + r.cls % 8 * 2 ^ 11 + b2n r.masked * 2 ^ 14 + b2n r.forced * 2 ^ 15
     + b2n r.accepted * 2 ^ 16 + b2n r.job.isSome * 2 ^ 17 + b2n r.ctx.isSome * 2 ^ 18,
   r.fseq % 2 ^ 32, r.time % 2 ^ 32, r.time / 2 ^ 32 % 2 ^ 32, r.job.getD 0 % 4096 + r.ctx.getD 0 % 4096 * 2 ^ 12,
   r.unit % 256 + r.kind.code * 2 ^ 8 + r.status % 2 ^ 16 * 2 ^ 12 + r.cause % 16 * 2 ^ 28, r.addr % 2 ^ 32, r.addr / 2 ^ 32 % 2 ^ 32]
    ++ (List.range 4).map (fun i => r.detail.getD i 0 % 2 ^ 32)

/-- The 48 bytes of a record. -/
def Record.bytes (r : Record) : List Byte := r.words.flatMap (leBytes 4)

/-- The record that the log window shows for record numbers n with n mod 256 = k (R455): zeros where the ring holds none. -/
def State.ringSlot (s : State) (k : Nat) : List Byte :=
  match s.faults.ring.find? (fun r => r.fseq % 256 == k) with | some r => r.bytes | none => leBytes 48 0

/-- `n` records from the `first`-th newest of a list; a record beyond those held reads as zeros (R455). -/
def recordBlock (l : List Record) (first n : Nat) : List Byte :=
  (List.range n).flatMap (fun i => match l[first + i]? with | some r => r.bytes | none => leBytes 48 0)

/-- Word and source named by bits 0–10 of P0 (R396, R439). -/
def namedWord (p : Nat) : Nat := if bit p 10 then 4 else bits p 8 2
/-- The source number. -/
def namedSource (p : Nat) : Nat := bits p 0 8

/-- FAULT_READ (R396, R455). -/
def State.faultRead (s : State) (c : Cmd) : State :=
  let n := bits (c.p 0) 8 8
  s.runCmd { op := 0x0900, lens := lenIs 20, states := stWCRA, m := true } c (fun s =>
    Ans.check s [(0, 1 ≤ n && n ≤ 64 && bits (c.p 0) 16 16 == 0)] (s, { block := recordBlock s.faults.ring (bits (c.p 0) 0 8) n }))

/-- FAULT_CLEAR: a W1C write of one bit (R396, R443). A reserved source has no bit to clear. -/
def State.faultClear (s : State) (c : Cmd) : State :=
  s.runCmd { op := 0x0901, lens := lenIs 20, states := stCRA, m := true } c (fun s =>
    Ans.check s [(0, bits (c.p 0) 11 21 == 0)] (s.fswClear (namedWord (c.p 0)) (2 ^ namedSource (c.p 0)), .ok []))

/-- FAULT_CFG (R396, R446, R447): class and mask of a source within its floor and lock. -/
def State.faultCfg (s : State) (c : Cmd) : State :=
  let w := namedWord (c.p 0)
  let i := namedSource (c.p 0)
  let cls := bits (c.p 0) 11 3
  let msk := bit (c.p 0) 14
  s.runCmd { op := 0x0902, lens := lenIs 20, states := stCRA, m := true } c (fun s =>
    Ans.check s [(0, bits (c.p 0) 15 17 == 0 && cls ≤ 4
        && (match sourceInfo w i with | some x => if x.floor = 5 then cls == 4 && !msk else decide (x.floor ≤ cls) | none => true))] (
      if !sourceExists w i then (s, .ok [])
      else
        let a := faultReg w (8 + 4 * (i / 32))
        let s' := if sourceLocked w i then s else s.setFld (faultReg w (0x40 + 4 * i)) 0 3 cls
        ((s'.setFld a (i % 32) 1 (b2n msk)).pinFrom s, .ok [])))

/-- One forced event of a source (R448). -/
def State.forceEvent (s : State) (w i : Nat) : State := s.event { word := w, source := i, forced := true }

/-- FORCE is permitted: in SERVICE or under INSTRUMENT (R448). -/
def State.mayForce (s : State) : Bool := s.instrument

/-- FAULT_FORCE (R396, R448). -/
def State.faultForce (s : State) (c : Cmd) : State :=
  s.runCmd { op := 0x0903, lens := lenIs 20, states := stCRA, m := true, perm := fun s => s.mayForce } c (fun s =>
    Ans.check s [(0, bits (c.p 0) 11 21 == 0)] (s.forceEvent (namedWord (c.p 0)) (namedSource (c.p 0)), .ok []))

/-- BLACKBOX_READ clears UNREAD (R396, R459). -/
def State.blackboxRead (s : State) (c : Cmd) : State :=
  let n := bits (c.p 0) 6 7
  s.runCmd { op := 0x0906, lens := lenIs 20, states := stWCRA, m := true } c (fun s =>
    Ans.check s [(0, 1 ≤ n && n ≤ 64 && bits (c.p 0) 13 19 == 0)]
      ({ s with box := { s.box with unread := false } },
       { block := recordBlock s.box.records (bits (c.p 0) 0 6) n ++ (List.range 128).flatMap (fun i => leBytes 4 (s.box.snapshot.getD i 0)) }))

/-- A write of `m` to FORCE of word `w` (R448). -/
def State.forceWrite (s : State) (w m : Nat) : State :=
  if 4 < w || !s.mayForce then s
  else (below 64 (fun i => m.testBit i && sourceExists w i)).foldl (fun s i => s.forceEvent w i) s

/-- A W1C write of `m` to HALT[w] releases jobs (R444, R463). -/
def State.haltRelease (s : State) (w m : Nat) : State :=
  { s with faults := { s.faults with halted := s.faults.halted.filter (fun j => !(j / 32 == w && m.testBit (j % 32))) } }

/-- The hold-off ends: records written during it are signalled, which begins another (R456). -/
def State.holdoffEnd (s : State) : State :=
  if !s.faults.holdoff then s
  else if s.faults.irqWait && s.fld (baseFault + 0x2004) 0 1 = 1 then
    { (s.signal (s.fld (baseFault + 0x2004) 1 6)) with faults := { s.faults with irqWait := false } }
  else { s with faults := { s.faults with holdoff := false, irqWait := false } }

/-! ## The black box -/

/-- A temperature as the byte of a snapshot. -/
def State.tjByte (s : State) (d : Nat) : Nat := Tbl.get 0 s.power.tj d % 256

/-- The snapshot of R461: words W0–W23, then reserved ones. -/
def State.snapshotWords (s : State) : List Nat :=
  let b := s.box
  let (w, src) := b.reason.getD (0, 0)
  let stack := fun d => (s.tier d false).temp
  let pack := fun (f : Nat → Nat) => f 0 % 256 + f 1 % 256 * 2 ^ 8 + f 2 % 256 * 2 ^ 16 + f 3 % 256 * 2 ^ 24
  let running := (s.coll.ctxs.filter (fun e => e.2.state == .running)).length
  let regions := (s.mem.regions.filter (fun e => e.2.state != .free)).length
  let l := [s.dev.code + s.sec.lc * 2 ^ 4 + s.power.pstate % 4 * 2 ^ 8 + s.overlays % 16 * 2 ^ 10 + s.pair.st * 2 ^ 14,
    b2n b.pfWarn + b2n b.resetFault * 2 + src * 2 ^ 8 + (if w < 4 then w else 0) * 2 ^ 16 + b2n (w == 4 && b.reason.isSome) * 2 ^ 18,
    s.now % 2 ^ 32, s.now / 2 ^ 32]
    ++ (List.range 5).flatMap (fun d => [s.fsw d % 2 ^ 32, s.fsw d / 2 ^ 32])
    ++ [s.power.vin % 2 ^ 32, s.power.iin % 2 ^ 32, s.power.pload % 2 ^ 16 + s.power.cap % 4096 * 2 ^ 16, pack s.tjByte, pack stack,
        running % 8192 + regions % 8192 * 2 ^ 16, s.sett.visible % 256 + s.fencedCores % 256 * 2 ^ 8, s.fwRelease % 2 ^ 16 + 2 * 2 ^ 16,
        (s.clk - s.power.startAt) / ms % 2 ^ 32, (match b.owl with | r :: _ => r.fseq | [] => 0)]
  (List.range 128).map (fun i => l.getD i 0)

/-- 10 µs after the event, Owl captures the snapshot and begins the write (R460, step 4). -/
def State.snapshotCapture (s : State) : State :=
  if s.box.stage ≠ .waitCapture then s
  else { s with box := { s.box with stage := .writing, snap := s.snapshotWords } }

/-- The write to the bank not written last is complete (R459). The reset that follows is the row's other part. -/
def State.boxWritten (s : State) : State :=
  let b := s.box
  { s with box := { b with stage := .idle, oldRecords := b.records, oldSnapshot := b.snapshot, records := b.owl, snapshot := b.snap,
                           valid := true, unread := true, bank := if b.valid then 1 - b.bank else b.bank, seq := (b.seq + 1) % 2 ^ 16 } }

/-- A life-cycle change clears the black box (R459). -/
def State.boxClear (s : State) : State :=
  { s with box := { s.box with records := [], snapshot := [], oldRecords := [], oldSnapshot := [], valid := false, unread := false, bank := 0, seq := 0 } }

end Sys2Proof.Machine
end

