-- ==== Sys2Proof/Machine/Reset.lean ====
section
/-! DEFINITION. Module resets (R505–R508), start-up (R509–R513), and the life-cycle and key commands (R468–R473, group 0x0B of R398). -/

namespace Sys2Proof.Machine

/-! ## Resets -/

/-- What survives every module reset: flash, fuses, the black box, VAON's registers and stage one (R505, R506, R518, R520). -/
def State.resetCore (s : State) : State :=
  let r := State.reset
  { r with
    pending := s.pending, outs := s.outs, freeCtr := s.freeCtr, ck2l := s.ck2l, serial := s.serial,
    time := { r.time with clock := s.time.clock },
    box := { s.box with owl := [], frozen := false, stage := .idle, pfWarn := false, resetFault := false, reason := none, snap := [] },
    cfg := { flash := s.cfg.flash, bootBase := s.cfg.bootBase, bootOver := s.cfg.bootOver },
    sec := { s.sec with keeperUp := false, spdm := [], meas := [] },
    sett := { r.sett with fuse := s.sett.fuse, field := s.sett.field, badSpares := s.sett.badSpares, fences := if s.sec.lc = 3 then [] else s.sett.fences } }

/-- The power state after a reset: the reset registers, and what stage one and Owl keep. -/
def State.resetPower (s : State) (cause : Nat) (src : Option (Nat × Nat)) (bb : Bool) : PowerSt :=
  let w := s.power
  let (word, source) := src.getD (0, 0)
  { cause := cause, source := source, den := if word < 4 then word else 0, module := src.isSome && word == 4, bb := bb,
    resets := min (2 ^ 32 - 1) (w.resets + 1), tKeeper := w.tKeeper, tWipe := w.tWipe, tReady := w.tReady, startAt := s.clk, phase := 1,
    pfWarn := w.pfWarn, vin := w.vin, iin := w.iin, pin := w.pin, samples := w.samples, stage1 := w.stage1, v12 := w.v12,
    locked := w.locked, pinLow := w.pinLow }

/-- FATAL_N rises when the module re-enters BOOT, unless PF_WARN_N is asserted (R457); FAULT_N rises with FSW cleared. -/
def State.resetPins (s old : State) : State :=
  let s := if old.faultLow then s.emit (.pin 0 true) else s
  if old.faults.fatal && !old.power.pfWarn then s.emit (.pin 1 true)
  else { s with faults := { s.faults with fatal := old.faults.fatal } }

/-- A module reset (R505, R506): every memory, stream, context, region, binding, program, table, log and counter is gone. -/
def State.moduleReset (s : State) (cause : Nat) (src : Option (Nat × Nat)) (bb : Bool) : State :=
  State.resetPins { s.resetCore with power := s.resetPower cause src bb } s

/-- The reset that follows a black-box write (R505, R508, R517): the pin reset where RESET_N is low; after a power-fail warning, or where
stage one has stopped, the module is held until the Start condition; without power it is off. -/
def State.resetAfterBox (s : State) : State :=
  let b := s.box
  if s.power.pinLow then
    let s := s.moduleReset 3 none true
    { s with power := { s.power with inReset := true, phase := 0 } }
  else if b.pfWarn || s.power.locked then
    let s := s.moduleReset (if b.pfWarn then 1 else 2) (if b.pfWarn then none else b.reason) true
    { s with power := { s.power with waitStart := true, phase := 0 }, dev := if s.power.locked then .off else s.dev }
  else s.moduleReset 2 b.reason true

/-- The black-box write is complete, and Owl begins the reset (R459, R460). -/
def State.blackboxDone (s : State) : State :=
  if s.box.stage ≠ .writing then s
  else
    let b := s.box
    let s' := s.boxWritten
    State.resetAfterBox { s' with box := { s'.box with pfWarn := b.pfWarn, reason := b.reason } }

/-- RESET_N is low (R507, R508): during the sequence of R460 the write ends first. -/
def State.pinAssert (s : State) : State :=
  if s.power.pinLow then s
  else
    let s := { s with power := { s.power with pinLow := true } }
    if s.box.stage ≠ .idle || s.dev = .off then s
    else
      let w := s.power.waitStart
      let s := s.moduleReset 3 none false
      { s with power := { s.power with inReset := true, phase := 0, waitStart := w } }

/-- RESET_N returns high (R507): start-up begins at step 1, unless the module waits for the Start condition. -/
def State.pinRelease (s : State) : State :=
  if !s.power.pinLow then s
  else
    let w := { s.power with pinLow := false }
    if w.inReset then { s with power := { w with inReset := false, phase := if w.waitStart then 0 else 1, startAt := s.clk } }
    else { s with power := w }

/-- The Start condition (R480, R505, R517): a cold start where stage one had stopped, else the start-up that waited for it. -/
def State.startCondition (s : State) : State :=
  let pf := s.power.pfWarn
  let pins := fun (s : State) => if pf then (s.emit (.pin 2 true)).emit (.pin 1 true) else s
  let held := s.power.pinLow
  if s.dev = .off then
    let r := s.resetCore
    pins { r with power := { vin := s.power.vin, pinLow := held, inReset := held, phase := if held then 0 else 1, startAt := s.clk } }
  else if s.power.waitStart then
    pins { s with power := { s.power with waitStart := false, locked := false, pfWarn := false, inReset := held, phase := if held then 0 else 1,
                                          startAt := s.clk },
                  faults := { s.faults with fatal := if pf then false else s.faults.fatal } }
  else if s.power.phase = 0 && !s.power.inReset then { s with power := { s.power with phase := 1, startAt := s.clk } }
  else s

/-! ## Start-up (R509–R513) -/

/-- Milliseconds since `t`, saturated (R521). -/
def State.msSince (s : State) (t : Nat) : Nat := min 65535 ((s.clk - t) / ms)

/-- FW_RELEASE of the firmware in a slot (R465): of an image written by PLDM, or as delivered. -/
def State.releaseOf (s : State) (slot : Nat) (keeper : Bool) : Nat :=
  match (s.sec.fw.find? (fun e => e.1 == slot)).map (·.2) with
  | some (o, k) => imgField (if keeper then k else o) 24 4 % 2 ^ 16
  | none => Config.fwRelease slot % 2 ^ 16

/-- The boot chain of a slot has passed (R466, R510): Keeper is released into WIPE. -/
def State.bootChain (s : State) (slot key ctr : Nat) : State :=
  if s.dev ≠ .boot || s.power.phase = 0 || s.power.inReset || s.power.waitStart || 1 < slot || 3 < key || s.sec.revoke.testBit key || ctr < s.sec.ctr0
  then s
  else
    let sec := { s.sec with slot := slot, key := key, fwCtr := ctr, fallback := slot == 1 && s.sec.armed != some 1, armed := none, keeperUp := true,
                            owlRelease := s.releaseOf slot false }
    let pools := if s.cfg.bootBase = 0 then [] else poolsRec (Tbl.get [] s.cfg.flash s.cfg.bootBase)
    let s := { s with dev := .wipe, sec := sec, fwRelease := s.releaseOf slot true, cfg := { s.cfg with pools := pools },
                      power := { s.power with phase := 4, wipeAt := s.clk, tKeeper := s.msSince s.power.startAt, prog := 0 } }
    s.startIslands.copyMeasures

/-- A channel finishes start-up training, or fails and is fenced (R510, R359). -/
def State.channelTrained (s : State) (slow : Bool) (c : Nat) (ok : Bool) : State :=
  if s.dev ≠ .wipe || !s.chanExists slow c then s
  else if ok then s.setChan slow c { s.chan slow c with st := 0 }
  else
    let d := c / s.tierChans slow
    let i := c % s.tierChans slow
    let t := s.tier d slow
    if t.fenced.testBit i then s
    else
      let s := s.setChan slow c { s.chan slow c with st := 4 }
      let s := s.setTier d slow { t with fenced := t.fenced + 2 ^ i }
      s.condBegin { word := d, source := fChannelFenced, unit := c, kind := if slow then .slowCh else .fastCh }

/-- A den's set of a tier is chosen (R343, R361). -/
def State.chooseSet (s : State) (d : Nat) (slow : Bool) : State :=
  let t := s.tier d slow
  let healthy := (below (s.tierChans slow) (fun c => !t.fenced.testBit c)).length
  let n := s.setFor slow healthy
  let s := s.setTier d slow { t with setN := n, tierFenced := n == 0 }
  if n = 0 then
    let s := if slow then s else s.setPool d 2 { s.pool d 2 with size := 0 }
    s.condBegin { word := d, source := fTierFenced, unit := 2 * d + b2n slow, kind := .tier }
  else s

/-- Results of the start-up self-test: (core, result, row) of the cores that did not pass (R280, R510). -/
def State.startTests (s : State) (failed : List (Nat × Nat × Nat)) : State :=
  failed.foldl (fun s f => if f.1 < 128 then (s.selftestDone f.1 f.2.1 f.2.2).1 else s) s

/-- The repair load of every core, which builds the map of R281 (R279, R510). -/
def State.startRepairs (s : State) : State :=
  let s := (((List.range 128).foldl (fun s c => s.loadRepairs c) s).recount).remap
  -- the condition of a core that is still fenced goes on (R278)
  s.sett.fences.foldl (fun s c => s.condBegin { word := coreDen c, source := fSettFenced, unit := c, kind := .core }) s

/-- Training, self-test, repair load and zeroing are done (R510–R512): CONFIG. -/
def State.wipeDone (s : State) (failed : List (Nat × Nat × Nat)) : State :=
  if s.dev ≠ .wipe then s
  else
    let s := (s.startTests failed).startRepairs
    let s := [0, 1, 2, 3].foldl (fun s d => (s.chooseSet d false).chooseSet d true) s
    let s := s.layAreas
    let un := [0, 1, 2, 3].flatMap (fun d => (List.range (s.physFrames d true)).map (fun f => (d, f)))
    { s with dev := .config, mem := { s.mem with unclean := un },
             power := { s.power with phase := 5, prog := 1000, tWipe := s.msSince s.power.wipeAt } }

/-- A wake from HIBERNATE ends (R500): RUN, or a reset where a check failed. -/
def State.wakeComplete (s : State) (ok : Bool) : State :=
  if !s.power.busy || s.power.pstate ≠ 3 then s
  else if ok && s.power.hibMeas == s.fwMeasured true then s.hibernateWoken
  else s.moduleReset 5 none false

/-! ## Life cycle and keys (R464, R468–R473) -/

/-- Transitions of R471 with the keys that authorise them: 0 owner, 1 owner or Lichavo, 2 Lichavo; none for a pair not allowed. -/
def lcRule (a b : Nat) : Option Nat :=
  if (a, b) = (0, 1) || (a, b) = (1, 2) || (a, b) = (2, 1) || (a, b) = (2, 3) || (a, b) = (3, 2) then some 0
  else if (a = 1 || a = 2 || a = 3) && b = 4 then some 1
  else if (a, b) = (4, 0) then some 2
  else none

/-- The message that authorises a change to `target` (R472). -/
def State.lcMessage (s : State) (target : Nat) : List Byte :=
  leBytes 4 0x434C4B43 ++ leBytes 8 s.serial ++ leBytes 4 target ++ leBytes 4 s.sec.lcCtr

/-- What refuses a life-cycle change (R471–R473): a status, 0 for none. Of a change that R471 does not allow it names no key, so that none is
accepted. -/
def State.lcCheck (s : State) (target : Nat) (key sig : List Byte) : Nat :=
  let busy := s.cfg.pend.isSome || s.cmd.execs.any (fun e => e.op == 0x0100 || e.op == 0x0101 || e.op == 0x0800)
    || s.pair.st == 2 || s.pair.st == 3 || s.pair.st == 5
  if busy then 0x20
  else if s.sec.lcCtr = 127 then 0x21
  else match lcRule s.sec.lc target with
    | none => 0x30
    | some r => if !((r ≤ 1 && s.isOwner key) || (1 ≤ r && s.lichavo key)) || !Config.ed25519Verify key (s.lcMessage target) sig then 0x30 else 0

/-- The opcode row of LC_CHANGE. -/
def lcInfo : OpInfo := { op := 0x0B00, lens := lenIs 116, states := stR, m := true }

/-- The change is made (R473, steps 2–5): fuses, black box, what RETIRED and BLANK erase, the reset. -/
def State.lcBurn (s : State) (target : Nat) : State :=
  let sec := { s.sec with lc := target, lcCtr := s.sec.lcCtr + 1, owner := if target = 0 then none else s.sec.owner,
                          ownerSeq := if target = 0 then 0 else s.sec.ownerSeq }
  let s := ({ s with sec := sec }).boxClear
  let s := if target = 4 then { s with cfg := { s.cfg with flash := [], bootBase := 0, bootOver := [] } } else s
  s.moduleReset 4 none false

/-- LC_CHANGE (R398, R473): the final reply is written, then the change is made. -/
def State.lcChange (s : State) (c : Cmd) : State :=
  let target := bits (c.p 0) 0 3
  let good := bits (c.p 0) 3 29 == 0 && decide (target ≤ 4)
  let st := s.lcCheck target ((c.params.drop 4).take 32) ((c.params.drop 36).take 64)
  let i := lcInfo
  let s' := s.runCmd i c (fun s => Ans.check s [(0, good)] (if st ≠ 0 then (s, .no st) else (s, .ok [])))
  if s.serves c.src && (s.cmdBegin c).cmdCheck i c == none && good && st == 0 then s'.lcBurn target else s'

/-- The message that authorises an owner key (R472). -/
def State.ownerMessage (s : State) (key : List Byte) : List Byte :=
  leBytes 4 0x4B4F4B43 ++ leBytes 8 s.serial ++ key ++ leBytes 4 s.sec.lcCtr ++ leBytes 4 s.sec.ownerSeq

/-- The signature of an OWNER_KEY verifies under its implied signer (R470, R472). -/
def State.ownerAuth (s : State) (key sig : List Byte) : Bool :=
  if s.sec.lc = 0 then (List.range 4).any (fun k => !s.sec.revoke.testBit k && Config.ed25519Verify (Config.lichavoKey k) (s.ownerMessage key) sig)
  else match s.sec.owner with | some o => Config.ed25519Verify o (s.ownerMessage key) sig | none => false

/-- OWNER_KEY (R398, R472). -/
def State.ownerKey (s : State) (c : Cmd) : State :=
  let key := c.params.take 32
  s.runCmd { op := 0x0B01, lens := lenIs 112, states := stCRA, m := true, perm := fun s => s.sec.lc != 4 } c (fun s =>
    if !s.ownerAuth key ((c.params.drop 32).take 64) then (s, .no 0x30)
    else ({ s with sec := { s.sec with owner := some key, ownerSeq := (s.sec.ownerSeq + 1) % 2 ^ 32 } }, .ok []))

/-- ROLLBACK_ADVANCE (R398, R469). -/
def State.rollback (s : State) (c : Cmd) : State :=
  let n := bits (c.p 0) 0 4
  let v := c.p 1
  s.runCmd { op := 0x0B02, lens := lenIs 24, states := stR, m := true } c (fun s =>
    let now := if n = 0 then s.sec.ctr0 else s.sec.ctr1
    Ans.check s [(0, n < 2 && bits (c.p 0) 4 28 == 0), (1, now < v && v ≤ 255)] (
      let below := fun (l : List Byte) => decide (imgCtr l < v)
      let ovr := s.cfg.active.any (fun e => match e.2 with | some i => below i.bytes | none => false)
      let base := match s.cfg.base with | some b => below b.bytes | none => false
      let boot := s.cfg.bootBase != 0 && below (Tbl.get [] s.cfg.flash s.cfg.bootBase)
      if (if n = 0 then decide (s.sec.fwCtr < v) else ovr || base || boot) then (s, .no 0x20)
      else ({ s with sec := if n = 0 then { s.sec with ctr0 := v } else { s.sec with ctr1 := v } }, .ok [])))

end Sys2Proof.Machine
end

