-- ==== Sys2Proof/Machine/HostIf.lean ====
section
/-! DEFINITION. The PCI Express endpoint: link, resets, configuration space, MSI-X and BAR4_BASE (R542–R549, R557), and the management
sideband: I3C, MCTP and Owl's PLDM terminus (R550–R553). -/

namespace Sys2Proof.Machine

/-! ## PCI Express -/

/-- The host endpoint's state becomes `h`. -/
def State.setHost (s : State) (h : HostSt) : State := { s with host := h }

/-- Bus-master reads outstanding are refused: image loads and transfers end with INTERNAL (R546). -/
def State.readsRefused (s : State) : State :=
  (s.cmd.execs.filter (fun e => (e.op == 0x0606 && !bit (leWord e.params 4) 0) || ((e.op == 0x0100 || e.op == 0x0101) && e.data.headD 0 != 0))).foldl (fun s e => s.masterReadFails e.id) s

/-- Words of BAR0 that an endpoint reset returns to their reset values (R548): MSI-X table, BAR4_BASE, PCFG, SCFG and REPLY_BASE. -/
def endpointWord (a : Nat) : Bool :=
  (0x800000 ≤ a && a < 0x800400) || a == baseCmd + 0x400 || a == baseCmd + 0x404 || a == baseCmd + 0x40C
    || (baseCmd + 0x1000 ≤ a && a < baseCmd + 0x3000 && (a % 0x20 == 0 || a % 0x20 == 8 || a % 0x20 == 12))

/-- An endpoint reset: PERST#, hot reset or FLR (R505, R548). The link stays as it is. -/
def State.endpointReset (s : State) : State :=
  let h : HostSt := { linkUp := s.host.linkUp, rate := s.host.rate, width := s.host.width, flit := s.host.flit, l0p := s.host.l0p,
                      dynAddr := s.host.dynAddr, eid := s.host.eid, receiver := s.host.receiver }
  let s := { s.setHost h with regs := Tbl.clearWhere s.regs endpointWord }
  let s := s.setFld (baseFault + 0x2004) 0 1 0
  let slots := s.cmd.slots.map (fun (e : Nat × CmdSlot) => (e.1, if e.2.st = .filling then { e.2 with st := .idle, bytes := [], words := [] } else e.2))
  State.readsRefused { s with cmd := { s.cmd with slots := slots } }

/-- The PCI Express link goes down (R548, R557). -/
def State.linkDownPcie (s : State) : State :=
  if !s.host.linkUp then s
  else (s.setHost { s.host with linkUp := false, rate := 0, width := 0, flit := false, l0p := false }).bump (baseCmd + 0x42C)

/-- The PCI Express link comes up (R542, R565): 32 or 64 GT/s, ×4 or ×8, FLIT mode; outside HIBERNATE and pin reset. -/
def State.linkUpPcie (s : State) (rate width : Nat) (flit : Bool) : State :=
  if s.host.linkUp || s.power.inReset || s.dev = .off || s.power.pstate = 3 || (rate ≠ 5 && rate ≠ 6) || (width ≠ 4 && width ≠ 8) then s
  else s.setHost { s.host with linkUp := true, rate := rate, width := width, flit := flit, l0p := false }

/-- Pending MSI-X vectors that are no longer masked are sent (R547). -/
def State.sendPending (s : State) : State :=
  if !s.host.msixEn || !s.canMaster then s
  else
    (below 64 (fun v => s.host.pba.testBit v && !s.vecMasked v)).foldl (fun s v =>
      (s.setHost { s.host with pba := s.host.pba &&& (2 ^ 64 - 1 - 2 ^ v) }).emit (.msix v)) s

/-- A masked vector is unmasked by its Vector Control, and sent where it is pending (R547). -/
def State.msixUnmask (s : State) (v : Nat) : State :=
  if 63 < v then s else (s.setFld (0x800000 + 16 * v + 12) 0 1 0).sendPending

/-- A payload or request size of the range R546 gives. -/
def sizeOk (n hi : Nat) : Bool := [128, 256, 512, 1024, 2048, 4096].contains n && decide (n ≤ hi)

/-- The host writes configuration space (R546, R547, R557): sizes out of range leave the former ones. -/
def State.configSpace (s : State) (bme : Bool) (dstate : Nat) (msixEn fmask : Bool) (mps mrrs : Nat) : State :=
  if !s.host.linkUp then s
  else
    let h := s.host
    let h := { h with bme := bme, dstate := if dstate = 0 || dstate = 3 then dstate else h.dstate, msixEn := msixEn, fmask := fmask,
                      mps := if sizeOk mps 512 then mps else h.mps, mrrs := if sizeOk mrrs 4096 then mrrs else h.mrrs }
    (s.setHost h).sendPending

/-- A write to BAR4_BASE (R544, R557): bits 47–30 move the window for later TLPs. -/
def State.bar4Base (s : State) (v : Nat) : State :=
  let b := bits v 30 18 * 2 ^ 30
  (s.setReg (baseCmd + 0x400) (b % 2 ^ 32)).setReg (baseCmd + 0x404) (b / 2 ^ 32)

/-- 100 µs without a TLP: with L0P_EN the module requests narrowing to ×2 (R542). -/
def State.l0pIdle (s : State) : State :=
  if !s.host.linkUp || s.host.l0p || s.fld (baseCmd + 0x40C) 0 1 = 0 then s
  else (s.setHost { s.host with l0p := true, width := 2 }).emit (.pcie 2)

/-! ## Sideband (R550–R553) -/

/-- The sideband answers: VAON is up. -/
def State.sideband (s : State) : Bool := s.dev != .off

/-- The controller assigns the dynamic address (R550). -/
def State.dynAddress (s : State) (a : Nat) : State := if s.sideband && a < 128 then s.setHost { s.host with dynAddr := some a } else s

/-- The bus owner assigns the MCTP endpoint ID (R550). -/
def State.setEid (s : State) (e : Nat) : State := if s.sideband && e < 256 then s.setHost { s.host with eid := e } else s

/-- PLDM SetEventReceiver (R552). -/
def State.setReceiver (s : State) (e : Nat) : State := if s.sideband && e < 256 then s.setHost { s.host with receiver := some e } else s

/-- Keeper runs, so that its readings are available (R551). -/
def State.keeperRuns (s : State) : Bool := s.sec.keeperUp && s.power.pstate != 3 && !s.power.inReset

/-- States that Owl reports of themselves: highest class plus 1 (0 none), device, power, life cycle, pair, FAULT_N and FATAL_N low (R551). -/
def State.stateSensors (s : State) : List Nat :=
  let any := (List.range 5).any (fun w => !(s.unmaskedSet w).isEmpty)
  [if any then s.topClass + 1 else 0, s.dev.code, s.power.pstate, s.sec.lc, s.pair.st, b2n s.faultLow, b2n s.faults.fatal]

/-- A sensor's reading, and whether it is available (R551). Sensors in the order of the table: input voltage, current and power, 12 V bus,
stage one, den junction, stack, LP6, cap, fault summary, LOG_NEXT, SUPPRESSED, RESETS, device, power, life-cycle and pair state, FAULT_N, FATAL_N. -/
def State.sensor (s : State) (n d : Nat) : Bool × Nat :=
  let k := s.keeperRuns
  let temp := fun slow => (Tbl.get ({} : Tier) s.mem.tiers (2 * d + b2n slow)).temp
  let st := s.stateSensors
  match n with
  | 0 => (true, s.power.vin)
  | 1 => (true, s.power.iin)
  | 2 => (true, s.power.pin)
  | 3 => (true, s.power.v12)
  | 4 => (true, s.power.stage1)
  | 5 => (k, Tbl.get 0 s.power.tj d)
  | 6 => (k, temp false)
  | 7 => (k, temp true)
  | 8 => (k, s.power.cap)
  | 9 => (k, st.getD 0 0)
  | 10 => (k, s.faults.fseq)
  | 11 => (k, s.ctr (baseFault + 0x2014))
  | 12 => (true, s.power.resets)
  | 13 => (true, st.getD 1 0)
  | 14 => (true, st.getD 2 0)
  | 15 => (true, st.getD 3 0)
  | 16 => (k, st.getD 4 0)
  | 17 => (true, st.getD 5 0)
  | 18 => (true, st.getD 6 0)
  | _ => (false, 0)

/-- A PLDM request for a sensor reading (R551): the answer is kind 1 with sensor, den, whether available, and the reading. -/
def State.sensorReading (s : State) (n d : Nat) : State :=
  if !s.sideband || 18 < n || 3 < d then s
  else
    let (ok, v) := s.sensor n d
    s.emit (.pldm 1 [n, d, b2n ok, if ok then v else 0])

/-- The numeric sensors, each with its den (R551). -/
def numericSensors : List (Nat × Nat) :=
  [(0, 0), (1, 0), (2, 0), (3, 0), (4, 0), (8, 0), (10, 0), (11, 0), (12, 0)] ++ [5, 6, 7].flatMap (fun n => (List.range 4).map (fun d => (n, d)))

/-- Sensor `n` of den `d` is available before and after, and has crossed a threshold of its PDR (R552): a threshold is crossed where one
reading lies below it and the other does not. -/
def State.crossed (s old : State) (n d : Nat) : Bool :=
  let a := old.sensor n d
  let b := s.sensor n d
  a.1 && b.1 && a.2 != b.2 && (Config.pdrThresholds n d).any (fun t => decide (a.2 < t) != decide (b.2 < t))

/-- What an event receiver is told (R552): a change of a state sensor, as kind 2 with the newest states, and a numeric sensor that crosses
a threshold, as kind 6 with sensor, den and reading. -/
def State.reportStates (s old : State) : State :=
  match s.host.receiver with
  | none => s
  | some _ =>
    let t := if s.stateSensors = old.stateSensors then s else s.emit (.pldm 2 s.stateSensors)
    (numericSensors.filter (fun x => s.crossed old x.1 x.2)).foldl (fun t x => t.emit (.pldm 6 [x.1, x.2, (s.sensor x.1 x.2).2])) t

/-- A firmware image passes the checks of R466 as R465 lays it out: header, kind, signer, signature, counter 0. -/
def State.fwImageOk (s : State) (kind : Nat) (l : List Byte) : Bool :=
  let n := imgLen l
  l.length == n && 160 ≤ n && imgField l 56 4 + 96 == n && imgField l 0 4 == 0x57464B43 && imgField l 4 2 == 1 && imgField l 6 1 == kind
    && bit (imgField l 8 4) (b2n s.ck2l) && (imgField l 16 8 == 0 || imgField l 16 8 == s.serial) && n ≤ 64 + 2 ^ 21 + 96
    && s.lichavo (signerOf l) && signatureOk l && s.sec.ctr0 ≤ imgCtr l

/-- The slot that the module did not boot from (R467). -/
def State.otherSlot (s : State) : Nat := if s.sec.keeperUp then 1 - s.sec.slot else 0

/-- A PLDM firmware update writes that slot (R467, R553); refused, kind 4, while a change of the life cycle or a flash write is pending. -/
def State.fwUpdate (s : State) (owl keeper : List Byte) : State :=
  if !s.sideband then s
  else if s.cfg.pend.isSome || s.cmd.execs.any (fun e => e.op == 0x0100 || e.op == 0x0101 || e.op == 0x0800) then s.emit (.pldm 4 [])
  else
    let o := s.otherSlot
    let sec := { s.sec with fw := (o, owl, keeper) :: s.sec.fw.filter (fun e => e.1 != o), armed := none }
    State.emit { s with sec := sec } (.pldm 3 [o])

/-- ActivateFirmware (R553): the written slot's images pass R466 and it is armed for the next reset, kind 5; else kind 4. -/
def State.fwActivate (s : State) : State :=
  if !s.sideband then s
  else
    let o := s.otherSlot
    match (s.sec.fw.find? (fun e => e.1 == o)).map (·.2) with
    | some (w, k) =>
      if s.fwImageOk 0 w && s.fwImageOk 1 k && imgField w 24 4 == imgField k 24 4 then
        State.emit { s with sec := { s.sec with armed := some o } } (.pldm 5 [o])
      else s.emit (.pldm 4 [])
    | none => s.emit (.pldm 4 [])

end Sys2Proof.Machine
end

