-- ==== Sys2Proof/Machine/RegRead.lean ====
section
/-! DEFINITION. What each word of BAR0 reads as (R558, R573): RO fields are derived from the state, RW, W1C and counter words are kept in
`regs` and `ctrs`. An offset that no table lays out has no word (R560). -/

namespace Sys2Proof.Machine

/-- The low or high half of a 64-bit value, for an offset of the register at `base`. -/
def half (a base v : Nat) : Nat := if a = base then v % 2 ^ 32 else v / 2 ^ 32 % 2 ^ 32

/-- A 64-bit counter's half at offset `a`; its value is kept at the low half's offset. -/
def State.ctrHalf (s : State) (a : Nat) : Nat := half a (a / 8 * 8) (s.ctr (a / 8 * 8))

/-- IDENT (R567). -/
def State.readIdent (s : State) (o : Nat) : Option Nat :=
  let pl := s.pl
  let id := match s.cfg.base with | some b => imgId b.bytes | none => 0
  if o = 0x00 then some (1 + (if s.ck2l then 0xCA2E else 0xCA2F) * 2 ^ 16)
  else if o = 0x04 then some (b2n s.ck2l + 0xB0 * 2 ^ 4 + 4 * 2 ^ 12 + 8 * 2 ^ 20)
  else if o = 0x08 then some (768 + 192 * 2 ^ 10 + 128 * 2 ^ 18)
  else if o = 0x0C then some (256 + (if s.ck2l then 512 else 2048) * 2 ^ 16)
  else if o = 0x10 then some (s.fwRelease % 2 ^ 16 + 2 * 2 ^ 16)
  else if o = 0x14 then some (s.sec.owlRelease % 2 ^ 16 + 2 * 2 ^ 16)
  else if o = 0x18 || o = 0x1C then some (half o 0x18 s.serial)
  else if o = 0x20 then some (if s.place.isNone then 0 else s.placeWord + pl.partner * 2 ^ 22)
  else if o = 0x24 then some (if s.place.isNone then 0 else pl.x + pl.y * 2 ^ 4 + pl.rx * 2 ^ 8 + pl.ry * 2 ^ 11)
  else if o = 0x28 || o = 0x2C then some (half o 0x28 id)
  else if o = 0x100 || o = 0x104 then some (s.ctr o)
  else none

/-- CLASS[i] of a fault word (R446, R462). -/
def State.classWord (s : State) (w i : Nat) : Nat :=
  match sourceInfo w i with
  | some x => s.classOf w i + min x.floor 4 * 2 ^ 3 + b2n (sourceLocked w i) * 2 ^ 6 + b2n x.level * 2 ^ 7 + 2 ^ 8
  | none => 0

/-- FAULT.SUMMARY (R463). -/
def State.summaryWord (s : State) : Nat :=
  let any := (List.range 5).any (fun w => !(s.unmaskedSet w).isEmpty)
  maskOf 5 (fun w => s.fsw w != 0) + s.topClass * 2 ^ 8 + b2n any * 2 ^ 11

/-- FAULT (R455, R462, R463). -/
def State.readFault (s : State) (o : Nat) : Option Nat :=
  if o = 0x2000 then some s.summaryWord
  else if o = 0x2004 || o = 0x2008 then some (s.reg (baseFault + o))
  else if o = 0x200C then some (b2n s.faultLow + b2n s.faults.fatal * 2)
  else if o = 0x2010 then some s.faults.fseq
  else if o = 0x2014 then some (s.ctr (baseFault + o))
  else if o = 0x2018 then some (b2n s.box.valid + b2n s.box.unread * 2 + s.box.bank % 2 * 4 + s.box.seq % 2 ^ 16 * 2 ^ 16)
  else if 0x2100 ≤ o && o < 0x2300 then
    let w := (o - 0x2100) / 4
    some (maskOf 32 (fun b => s.faults.halted.contains (32 * w + b) && 32 * w + b != 0))
  else if 0x4000 ≤ o && o < 0x7000 then some (leWord (s.ringSlot ((o - 0x4000) / 0x30)) ((o - 0x4000) % 0x30 / 4))
  else match faultWord o with
    | none => none
    | some (w, r) =>
      if r = 0 || r = 4 then some (half r 0 (s.fsw w))
      else if r = 8 || r = 12 then some (s.reg (baseFault + o))
      else if r = 0x10 || r = 0x14 then some 0
      else if r = 0x18 then some (Tbl.get 0 s.faults.first w)
      else if 0x40 ≤ r && r < 0x140 then some (s.classWord w ((r - 0x40) / 4))
      else if 0x200 ≤ r && r < 0x300 then some (s.ctr (baseFault + o))
      else none

/-- Code of a slot's state (R401). -/
def SlotSt.code : SlotSt → Nat
  | .idle => 0
  | .filling => 1
  | .exec => 2

/-- PSTAT of the host registers (R557). -/
def State.pstatWord (s : State) : Nat :=
  let h := s.host
  h.rate % 8 + h.width % 32 * 2 ^ 3 + b2n h.flit * 2 ^ 8 + b2n h.l0p * 2 ^ 9 + b2n h.linkUp * 2 ^ 10 + b2n h.bme * 2 ^ 11 + h.dstate % 4 * 2 ^ 12

/-- CMD with the HOST registers (R400–R402, R557). -/
def State.readCmd (s : State) (o : Nat) : Option Nat :=
  if o = 0 || o = 0x400 || o = 0x404 || o = 0x40C then some (s.reg (baseCmd + o))
  else if o = 4 then some (s.dev.code + min 255 s.cmd.execs.length * 2 ^ 8)
  else if (0x100 ≤ o && o < 0x140) || (0x420 ≤ o && o < 0x430) then some (s.ctr (baseCmd + o))
  else if o = 0x408 then some s.pstatWord
  else if 0x410 ≤ o && o < 0x420 then some (s.ctrHalf (baseCmd + o))
  else if o = 0x440 then
    some (s.host.dynAddr.getD 0 % 128 + b2n s.host.dynAddr.isSome * 2 ^ 7 + s.host.eid % 256 * 2 ^ 8 + b2n s.host.receiver.isSome * 2 ^ 16)
  else if 0x1000 ≤ o && o < 0x3000 then
    let x := s.cslot ((o - 0x1000) / 0x20)
    let r := o % 0x20
    if r = 0 || r = 8 || r = 12 then some (s.reg (baseCmd + o))
    else if r = 0x10 then some (x.st.code + x.tag % 2 ^ 16 * 2 ^ 16)
    else if r = 0x14 then some x.rseq
    else if r = 0x18 then some (s.ctr (baseCmd + o))
    else none
  else none

/-- TIME (R568). -/
def State.readTime (s : State) (o : Nat) : Option Nat :=
  let t := s.time
  if o = 0x00 || o = 0x04 then some (half o 0 s.now)
  else if o = 0x08 || o = 0x0C then some (half o 8 s.domainNow)
  else if o = 0x10 then some t.period
  else if o = 0x18 || o = 0x1C then some (half o 0x18 t.load)
  else if o = 0x20 then some (ofSigned 32 t.err)
  else if o = 0x24 then some (b2n t.domainValid + b2n t.seen * 2 + b2n t.missing * 4 + b2n t.loadPend * 8)
  else if o = 0x28 || o = 0x2C then some (half o 0x28 (ofSigned 64 t.domainOff))
  else if o = 0x30 || o = 0x34 then some (half o 0x30 t.last)
  else if o = 0x38 then some t.count
  else if 0x40 ≤ o && o < 0x80 then
    let d := s.dirT ((o - 0x40) / 0x10)
    let r := o % 0x10
    if r = 0 then some (ofSigned 32 d.offset)
    else if r = 4 then some (ofSigned 32 d.delay)
    else if r = 8 then some (ofSigned 32 d.rate)
    else some (d.good + b2n (decide (8 ≤ d.good)) * 2 ^ 8)
  else none

/-- POWER.STATUS (R501). FLOOR_HELD: f_floor keeps some slice quarter's frequency up (R191, R492). -/
def State.powerStatus (s : State) : Nat :=
  let w := s.power
  let floor := !s.flows.isEmpty && (List.range 4).any (fun d => s.targetOf (128 + 4 * d) == s.entryFloor 2)
  b2n (!w.capSteps.isEmpty) + b2n w.unmet * 2 + b2n floor * 4 + b2n w.refLost * 8 + b2n w.pfWarn * 16
    + maskOf 4 (fun d => !(s.thermalOf d).isEmpty) * 2 ^ 5 + b2n (w.railSteps.any (fun e => e.2 != 0)) * 2 ^ 9

/-- An island's register (R503). -/
def State.islandWord (s : State) (i : Nat) : Nat :=
  let x := s.island i
  x.mhz % 2 ^ 11 + s.islandNeed i % 2 ^ 11 * 2 ^ 11 + x.temp % 256 * 2 ^ 22 + b2n x.gated * 2 ^ 30 + b2n x.stopped * 2 ^ 31

/-- POWER with the reset registers (R501–R504, R520). -/
def State.readPower (s : State) (o : Nat) : Option Nat :=
  let w := s.power
  if o = 0x00 then some w.cap
  else if o = 0x04 then some (w.pstate + w.target * 4 + b2n w.busy * 16)
  else if o = 0x08 then some s.powerStatus
  else if o = 0x0C then some (s.reg (powReg o))
  else if o = 0x10 then some (w.vin % 2 ^ 16)
  else if o = 0x14 then some (w.iin % 2 ^ 17)
  else if o = 0x18 then some (w.pin % 2 ^ 12)
  else if o = 0x1C then some (w.pload % 2 ^ 12)
  else if o = 0x20 then some (w.stage1 % 256)
  else if o = 0x24 then some (w.v12 % 2 ^ 16)
  else if 0x80 ≤ o && o < 0x98 then some (s.ctr (powReg o))
  else if 0x100 ≤ o && o < 0x200 then
    let d := (o - 0x100) / 0x40
    let r := o % 0x40
    if r = 0 then some (Tbl.get 0 w.tj d % 256 + (s.thermalOf d).length % 256 * 2 ^ 8)
    else if r = 4 then some (s.railMv d 0 % 2 ^ 10 + s.railMv d 1 % 2 ^ 10 * 2 ^ 10 + s.railMv d 2 % 2 ^ 10 * 2 ^ 20)
    else if r = 8 then some (maskOf 24 (fun l => !w.stopped.contains (24 * d + l)))
    else if r = 12 then some (Config.railWatts s.clk d 0 % 2 ^ 12 + Config.railWatts s.clk d 1 % 2 ^ 12 * 2 ^ 12)
    else none
  else if o = 0x200 then some (w.cause + w.source % 256 * 2 ^ 4 + w.den % 4 * 2 ^ 12 + b2n w.module * 2 ^ 14 + b2n w.bb * 2 ^ 15)
  else if o = 0x204 then some (w.phase % 8 + w.prog % 2 ^ 10 * 2 ^ 4)
  else if o = 0x208 then some w.tKeeper
  else if o = 0x20C then some w.tWipe
  else if o = 0x210 then some w.tReady
  else if o = 0x214 then some (sat32 w.resets)
  else if o = 0x218 then some (min 65535 s.uncleanCount)
  else if 0x1000 ≤ o && o < 0x1000 + 4 * 195 then
    let i := (o - 0x1000) / 4
    some (if s.ck2l && 180 ≤ i && i < 184 then 0 else s.islandWord i)
  else none

/-- PAIR (R437, R438). -/
def State.readPair (s : State) (o : Nat) : Option Nat :=
  if o = 0x00 then some (s.reg basePair)
  else if o = 0x04 then some s.pairStatusWord
  else if o = 0x08 then some s.pairCtxWord
  else if o = 0x10 || o = 0x14 then some (half o 0x10 s.pair.eventTime)
  else if o = 0x20 || o = 0x24 then some (s.ctrHalf (basePair + o))
  else if 0x28 ≤ o && o < 0x3C then some (s.ctr (basePair + o))
  else none

/-- SEC (R479). -/
def State.readSec (s : State) (o : Nat) : Option Nat :=
  let x := s.sec
  if o = 0x00 then some (x.lc % 8 + x.lcCtr % 128 * 2 ^ 4 + b2n x.owner.isSome * 2 ^ 11)
  else if o = 0x04 then some x.ownerSeq
  else if o = 0x08 then some (x.ctr0 % 256)
  else if o = 0x0C then some (x.ctr1 % 256)
  else if o = 0x10 then some (x.slot % 2 + b2n x.fallback * 2 + x.key % 4 * 4 + s.fwRelease % 2 ^ 16 * 2 ^ 16)
  else if o = 0x14 then some (x.revoke % 16)
  else if o = 0x20 || o = 0x24 then some (half o 0x20 s.serial)
  else if 0x40 ≤ o && o < 0x60 then some (leWord (x.owner.getD []) ((o - 0x40) / 4))
  else none

/-- LINK of port `p` (R96–R100, R131, R132, R170, R201). -/
def State.readLink (s : State) (p o : Nat) : Option Nat :=
  let x := s.port p
  let a := linkReg p o
  if o = 0x000 then some (s.reg a + b2n x.autoAccept * 2 ^ 8)
  else if o = 0x004 then some (s.linkStatus p)
  else if o = 0x008 || o = 0x010 || o = 0x014 || o = 0x040 || o = 0x048 then some (s.reg a)
  else if o = 0x020 || o = 0x024 then some (half o 0x20 x.peerSerial)
  else if o = 0x028 then some x.peerId
  else if o = 0x02C then some x.expId
  else if o = 0x030 then some x.peerFeat
  else if o = 0x044 then some (s.fcMask p % 256 + x.xoffRx % 256 * 2 ^ 8 + bits (s.reg a) 16 1 * 2 ^ 16)
  else if (0x060 ≤ o && o < 0x0C0) || (0x120 ≤ o && o < 0x160) || (0x180 ≤ o && o < 0x1E8) then some (s.ctr a)
  else if (0x0C0 ≤ o && o < 0x0E0) || (0x100 ≤ o && o < 0x120) then some (s.ctrHalf a)
  else none

/-- A pool's registers (R166). -/
def State.readPool (s : State) (d p r : Nat) : Option Nat :=
  let x := s.pool d p
  if r = 0x00 then some x.size
  else if r = 0x04 then some (s.reg (swReg d (0x20 * p + 4)))
  else if r = 0x08 then some (s.poolOcc d p)
  else if r = 0x0C then some (s.ctr (swReg d (0x20 * p + 0x0C)))
  else if r = 0x10 then some (x.level + x.events)
  else if r = 0x14 then some (min 65535 x.quar.length)
  else if r = 0x18 then some (s.poolRsv d p)
  else none

/-- A mirror session's registers (R169). -/
def State.readMirror (s : State) (d k r : Nat) : Option Nat :=
  let m : Mirror := Tbl.get {} s.sw.mirrors (8 * d + k)
  if r = 0x00 then some (b2n m.en + m.dir * 2 + b2n m.flow * 2 ^ 3 + m.port * 2 ^ 4 + m.job * 2 ^ 10 + b2n m.bad * 2 ^ 22)
  else if r = 0x04 then some (m.endpt + b2n m.endptDst * 2 ^ 14 + b2n m.endptEn * 2 ^ 15 + m.type * 2 ^ 16 + b2n m.typeEn * 2 ^ 22 + b2n m.ctxEn * 2 ^ 23)
  else if r = 0x08 then some m.ctx
  else if r = 0x0C then some (m.aport + m.snap16 * 2 ^ 8 + m.adst * 2 ^ 16)
  else if r = 0x10 || r = 0x14 then some (s.ctr (swReg d (0x600 + 0x20 * k + r)))
  else none

/-- Scheduler registers of local port `n` (R197). -/
def State.readSched (s : State) (d n r : Nat) : Option Nat :=
  let p := 48 * d + n
  let used := below 62 (fun q => q != 0 && (s.queue (portQ p q)).valid)
  if r = 0 || r = 4 then some (s.reg (swReg d (0x800 + 0x10 * n + r)))
  else if r = 8 then some (s.tc1Sum p)
  else some (used.length + (used.filter (fun q => (s.queue (portQ p q)).tc == 1)).length * 2 ^ 8)

/-- A queue's registers (R198): queue 0 is always assigned. -/
def State.readQueue (s : State) (d n q r : Nat) : Option Nat :=
  let p := 48 * d + n
  let x := s.queue (portQ p q)
  if r = 0 then
    some (x.job + x.tc * 2 ^ 12 + b2n x.transit * 2 ^ 14 + b2n (x.valid || q == 0) * 2 ^ 15 + s.weightOf p q % 256 * 2 ^ 16 + b2n x.shapeEn * 2 ^ 24
      + b2n x.atRisk * 2 ^ 25 + b2n x.revoked * 2 ^ 26)
  else if r = 4 then some x.rate
  else if r = 8 then some x.burst
  else some (s.ctr (swReg d (qReg n q + 12)))

/-- A policer's registers (R199). -/
def State.readPolicer (s : State) (d n i r : Nat) : Option Nat :=
  let x : Policer := Tbl.get {} s.sw.policers (32 * (48 * d + n) + i)
  if r = 0 then some (x.job + x.tc * 2 ^ 12 + b2n x.en * 2 ^ 14 + b2n x.regulate * 2 ^ 15)
  else if r = 4 then some x.cir
  else if r = 8 then some x.pir
  else some (x.cbs + x.pbs * 2 ^ 16)

/-- SWITCH of den `d` (R133, R134, R166–R169, R197–R200). -/
def State.readSwitch (s : State) (d o : Nat) : Option Nat :=
  let a := swReg d o
  let z : Sampler := Tbl.get {} s.sw.samplers d
  if o < 0x80 then s.readPool d (o / 0x20) (o % 0x20)
  else if o = 0x80 || o = 0x84 || o = 0x300 || o = 0x500 || o = 0xB00 then some (s.reg a)
  else if o = 0x200 then (if d = 0 then some (s.reg a) else none)
  else if o = 0x240 then (if d = 0 then some (s.reg a + s.floorMhz % 2 ^ 12 * 2 ^ 16) else none)
  else if (0x210 ≤ o && o < 0x230) || (0x504 ≤ o && o < 0x510) then some (s.ctr a)
  else if 0x400 ≤ o && o < 0x460 then (if o % 0x10 = 12 then none else some (s.reg a))
  else if 0x600 ≤ o && o < 0x700 then s.readMirror d ((o - 0x600) / 0x20) (o % 0x20)
  else if 0x800 ≤ o && o < 0xB00 then s.readSched d ((o - 0x800) / 0x10) (o % 0x10)
  else if o = 0xB04 then some (z.wptr % 256 + z.wraps % 2 ^ 24 * 2 ^ 8)
  else if 0x1000 ≤ o && o < 0x1800 then
    let k : Sample := Tbl.get {} z.ring ((o - 0x1000) / 8)
    some (if o % 8 = 0 then k.depth % 2 ^ 24 + k.seq % 256 * 2 ^ 24 else k.delay)
  else if 0x10000 ≤ o && o < 0x1C000 then s.readQueue d ((o - 0x10000) / 0x400) ((o - 0x10000) / 0x10 % 64) (o % 0x10)
  else if 0x20000 ≤ o && o < 0x26000 then s.readPolicer d ((o - 0x20000) / 0x200) ((o - 0x20000) / 0x10 % 32) (o % 0x10)
  else none

/-- COLL (R230–R232, R337). -/
def State.readColl (s : State) (o : Nat) : Option Nat :=
  if o = 0 then some (s.reg baseColl)
  else if o = 4 then
    some (s.liveCtxs.length + (s.coll.ctxs.filter (fun e => e.2.busyHold)).length * 2 ^ 16)
  else if 0x10 ≤ o && o < 0x3C then some (s.ctr (baseColl + o))
  else if 0x1000 ≤ o && o < 0x21000 then (s.ctxRecord ((o - 0x1000) / 0x20))[o % 0x20 / 4]?
  else none

/-- Chunk slots open at a Marten unit, with their contexts. -/
def State.slotsOf (s : State) (f : Slot → Bool) : List Slot := s.coll.ctxs.flatMap (fun e => e.2.slots.filter f)

/-- MARTEN (R258, R259): EXT_BASE and EXT_SIZE are 0 before a configuration lays the areas out; the escape adder of this model finishes
each addend within the command that brings it. -/
def State.readMarten (s : State) (o : Nat) : Option Nat :=
  if o < 0x1000 then
    let r := o % 0x100
    if r = 0 then some ((s.slotsOf (fun z => z.unit == o / 0x100)).length % 2 ^ 20)
    else if r = 8 || r = 12 then some (s.ctrHalf (baseMarten + o))
    else if 0x10 ≤ r && r < 0x30 then some (s.ctr (baseMarten + o))
    else none
  else if o < 0x1080 then
    let d := (o - 0x1000) / 0x20
    let r := o % 0x20
    let laid := Tbl.get 0 s.mem.rsvLen d != 0
    let b := Tbl.get 0 s.mem.p1Backing d
    if r = 0 || r = 4 then
      some (if laid then half r 0 (Tbl.get 0 s.mem.rsvFrom d * frameSize + extOffset b 0 0) else 0)
    else if r = 8 then some (if laid then 6144 * (16384 + b) / 2 ^ 20 else 0)
    else if r = 12 then
      some ((s.slotsOf (fun z => z.unit / 4 == d)).foldl (fun n z => n + (z.entries.filter (fun e => e.2.esc)).length) 0 % 2 ^ 32)
    else none
  else none

/-- Spare `q` as REPAIR[q] shows it (R284). -/
def Spare.word (x : Spare) : Nat := x.row % 128 + b2n x.used * 2 ^ 7 + b2n x.borrowed * 2 ^ 8 + b2n x.bad * 2 ^ 9 + b2n x.field * 2 ^ 10

/-- SETT registers of physical core `c` (R284, R285, R315, R316). -/
def State.readCore (s : State) (c o : Nat) : Option Nat :=
  let x := s.core c
  let a := settReg c o
  let busy := fun (r : Option Running) (q : List QCmd) => b2n r.isSome + q.length % 32 * 2
  if o = 0x000 then some (x.st.code + x.kind % 4 * 2 ^ 8)
  else if o = 0x004 then some x.binding
  else if o = 0x008 then some x.exitCode
  else if o = 0x010 || o = 0x014 then some (half o 0x10 x.faultPc)
  else if o = 0x018 then some (x.faultCause % 256)
  else if o = 0x020 || o = 0x024 then some (half o 0x20 x.faultTval)
  else if o = 0x100 then
    some (busy x.array x.arrayQ + b2n x.fenced * 2 ^ 6 + b2n x.repairPend * 2 ^ 7 + x.lat % 256 * 2 ^ 8 + x.bank % 2 * 2 ^ 16)
  else if 0x110 ≤ o && o < 0x120 then some (x.spares.getD ((o - 0x110) / 4) {}).word
  else if o = 0x120 then some x.lastTag
  else if o = 0x124 then some x.lastDone
  else if (0x140 ≤ o && o < 0x150) || (0x380 ≤ o && o < 0x398) then some (s.ctrHalf a)
  else if (0x150 ≤ o && o < 0x164) || (0x398 ≤ o && o < 0x3B0) then some (s.ctr a)
  else if o = 0x200 then some (busy x.vec x.vecQ + x.pred % 256 * 2 ^ 8)
  else if o = 0x204 then some x.vlast
  else if o = 0x300 then some (busy x.mov x.movQ)
  else if o = 0x304 then some x.mlast
  else if o = 0x308 then some (x.spillMib % 128)
  else none

/-- VMAP[v] (R281, R283, R286). -/
def State.vmapWord (s : State) (v : Nat) : Nat :=
  let home := if s.sett.charAll then v / 32 else min 3 (v / 30)
  match s.physOf v with
  | some c => c + 2 ^ 7 + home * 2 ^ 8 + b2n (coreDen c != home) * 2 ^ 10
  | none => 0

/-- SETT (R284–R286, R315, R316): VMAP of a visible core that does not exist is reserved (R560). -/
def State.readSett (s : State) (o : Nat) : Option Nat :=
  if o < 0x80000 then s.readCore (o / 0x1000) (o % 0x1000)
  else if o = 0x80000 then some (s.sett.visible + s.fencedCores * 2 ^ 8 + (128 - s.fencedCores) * 2 ^ 16 + b2n s.sett.charAll * 2 ^ 24)
  else if 0x80100 ≤ o && o < 0x80300 then
    let v := (o - 0x80100) / 4
    if (s.physOf v).isSome then some (s.vmapWord v) else none
  else none

/-- A den's memory registers (R363). The set sizes read as at reset until start-up has chosen the sets (R510). -/
def State.readMemDen (s : State) (d r : Nat) : Option Nat :=
  let f := s.tier d false
  let l := s.tier d true
  let early := decide (s.dev.code < 3)
  let n := fun (slow : Bool) => if early then s.tierChans slow else (s.tier d slow).setN
  let frames := fun (slow : Bool) => s.freeFrames d slow % 2 ^ 16 + (s.physFrames d slow - s.rsvFrames d slow) % 2 ^ 16 * 2 ^ 16
  if r = 0x00 then
    some (n false % 128 + n true % 64 * 2 ^ 8 + f.step % 4 * 2 ^ 14 + l.step % 4 * 2 ^ 16 + b2n f.tierFenced * 2 ^ 18 + b2n l.tierFenced * 2 ^ 19
      + b2n (f.rebuild || l.rebuild) * 2 ^ 20)
  else if r = 0x04 then some (f.temp % 256 + l.temp % 256 * 2 ^ 8)
  else if r = 0x08 then some (frames false)
  else if r = 0x0C then some (frames true)
  else if r = 0x10 then some (s.rsvFrames d false % 2 ^ 16)
  else if r = 0x18 || r = 0x1C then some (half r 0x18 f.fenced)
  else if r = 0x20 then some (l.fenced % 2 ^ 32)
  else none

/-- A channel's registers (R364). -/
def State.readChan (s : State) (slow : Bool) (c r : Nat) : Option Nat :=
  let x := s.chan slow c
  let n := s.tierChans slow
  let inSet := decide (s.dev.code < 3) || (s.chanSet (c / n) slow).contains (c % n)
  if !s.chanExists slow c then none
  else if r = 0x00 then some ((if x.st = 0 && !inSet then 5 else x.st % 8) + b2n inSet * 2 ^ 3)
  else if r = 0x18 then some (x.ueLine % 2 ^ 32)
  else some (s.ctr (memReg slow c r))

/-- MEM (R362–R365). -/
def State.readMem (s : State) (o : Nat) : Option Nat :=
  if o = 0 then some (s.reg baseMem)
  else if o = 4 then some (s.liveRegions.length % 2 ^ 13 + b2n (s.mem.chans.any (fun e => e.2.st == 3)) * 2 ^ 16)
  else if o = 0x10 || o = 0x14 then some (s.ctr (baseMem + o))
  else if 0x100 ≤ o && o < 0x200 then s.readMemDen ((o - 0x100) / 0x40) (o % 0x40)
  else if 0x1000 ≤ o && o < 0x3000 then s.readChan false ((o - 0x1000) / 0x20) (o % 0x20)
  else if 0x4000 ≤ o && o < 0x5000 then s.readChan true ((o - 0x4000) / 0x20) (o % 0x20)
  else if 0x10000 ≤ o && o < 0x30000 then (s.regionRecord ((o - 0x10000) / 0x20))[o % 0x20 / 4]?
  else none

/-- FOX (R539–R541). -/
def State.readFox (s : State) (o : Nat) : Option Nat :=
  let g := s.gold
  if o < 0xC0000 then
    let u := o / 0x8000
    let r := o % 0x8000
    let x := s.foxUnit u
    if r = 0 then some (b2n x.running + b2n x.claimed.isSome * 2 + x.claimed.getD 0 * 2 ^ 2 + maskOf 16 (fun i => (Tbl.get ({} : FoxStream) x.streams i).en) * 2 ^ 14)
    else if 0x40 ≤ r && r < 0x60 then some (s.reg (baseFox + o))
    else if (0x100 ≤ r && r < 0x200) || (0x400 ≤ r && r < 0x800 && r % 0x40 ≠ 0x3C) || (0x800 ≤ r && r < 0x1000) then some (s.foxWord u r)
    else none
  else if o = 0xC0000 then some (b2n g.en + b2n g.stopped * 2)
  else if 0xC0004 ≤ o && o < 0xC0014 then some (s.ctr (baseFox + o))
  else if o = 0xC0014 then some g.badChunk
  else if o = 0xC0018 then some g.badElem
  else if o = 0xC001C then some (g.expected % 2 ^ 16 + g.observed % 2 ^ 16 * 2 ^ 16)
  else if 0xC1000 ≤ o && o < 0xC1C00 then
    let k := (Tbl.get ({} : Inject) s.inject ((o - 0xC1000) / 0x10)).kind
    if o % 0x10 = 0 then some (k % 256 + b2n (k != 0) * 2 ^ 8) else if o % 0x10 = 4 then some (s.ctr (baseFox + o)) else none
  else none

/-- JOBSTAT of a job (R570, R571). -/
def State.jobStat (s : State) (j : Nat) : Nat :=
  let l := s.liveCtxs.filter (fun e => e.2.job == j)
  if j = 0 then 0 else b2n (l.any (fun e => e.2.fast)) + b2n (l.any (fun e => e.2.stoch)) * 2 + b2n (l.any (fun e => e.2.pkg)) * 4

/-- DET (R570–R572). -/
def State.readDet (s : State) (o : Nat) : Option Nat :=
  if o < 0x8000 then some (if o / 8 = 0 then 0 else half o (o / 8 * 8) (Tbl.get 0 s.coll.tdc (o / 8)))
  else if o < 0xC000 then some (s.jobStat ((o - 0x8000) / 4))
  else if 0x10000 ≤ o && o < 0x10090 then some (s.ctrHalf (baseDet + o))
  else none

/-- The word at BAR0 offset `a`, a multiple of 4; none where the offset is reserved (R558, R560, R573). -/
def State.word (s : State) (a : Nat) : Option Nat :=
  if a % 4 ≠ 0 then none
  else if a < baseFault then s.readIdent a
  else if a < baseCmd then s.readFault (a - baseFault)
  else if a < baseTime then s.readCmd (a - baseCmd)
  else if a < basePower then s.readTime (a - baseTime)
  else if a < basePair then s.readPower (a - basePower)
  else if a < baseSec then s.readPair (a - basePair)
  else if a < 0x70000 then s.readSec (a - baseSec)
  else if a < baseLink then none
  else if a < 0x98000 then s.readLink ((a - baseLink) / 0x200) ((a - baseLink) % 0x200)
  else if a < baseSwitch then none
  else if a < baseColl then s.readSwitch ((a - baseSwitch) / 0x40000) ((a - baseSwitch) % 0x40000)
  else if a < baseMarten then s.readColl (a - baseColl)
  else if a < baseSett then s.readMarten (a - baseMarten)
  else if a < baseMem then s.readSett (a - baseSett)
  else if a < baseFox then s.readMem (a - baseMem)
  else if a < baseDet then s.readFox (a - baseFox)
  else if a < 0x800000 then s.readDet (a - baseDet)
  else if a < 0x800400 then some (s.reg a)
  else if a = 0x800800 || a = 0x800804 then some (half a 0x800800 s.host.pba)
  else none

end Sys2Proof.Machine
end

