-- ==== Sys2Proof/Machine/Regs.lean ====
section
/-! DEFINITION. Access to BAR0 (R8–R10, R558–R566, R569): legal accesses, reads that clear, 64-bit registers by halves, writes by kind of
field, and what is served before Keeper runs. -/

namespace Sys2Proof.Machine

/-! ## Kinds of words -/

/-- Whole words of access RC (R573): their value is a counter that a BAR0 read clears (R564). -/
def rcWord (a : Nat) : Bool :=
  if a < baseFault then a == 0x100 || a == 0x104
  else if a < baseCmd then
    let o := a - baseFault
    o == 0x2014 || (match faultWord o with | some (_, r) => decide (0x200 ≤ r) && decide (r < 0x300) | none => false)
  else if a < baseTime then
    let o := a - baseCmd
    (decide (0x100 ≤ o) && decide (o < 0x140)) || (decide (0x420 ≤ o) && decide (o < 0x430)) || (decide (0x1000 ≤ o) && decide (o < 0x3000) && o % 0x20 == 0x18)
  else if a < basePower then false
  else if a < basePair then decide (powReg 0x80 ≤ a) && decide (a < powReg 0x98)
  else if a < baseSec then decide (basePair + 0x28 ≤ a) && decide (a < basePair + 0x3C)
  else if a < baseLink then false
  else if a < 0x98000 then
    let o := (a - baseLink) % 0x200
    (decide (0x060 ≤ o) && decide (o < 0x0C0)) || (decide (0x120 ≤ o) && decide (o < 0x160)) || (decide (0x180 ≤ o) && decide (o < 0x1E8))
  else if a < baseSwitch then false
  else if a < baseColl then
    let o := (a - baseSwitch) % 0x40000
    (decide (o < 0x80) && o % 0x20 == 0x0C) || (decide (0x210 ≤ o) && decide (o < 0x230)) || (decide (0x504 ≤ o) && decide (o < 0x510))
      || (decide (0x600 ≤ o) && decide (o < 0x700) && (o % 0x20 == 0x10 || o % 0x20 == 0x14))
      || (decide (0x10000 ≤ o) && decide (o < 0x1C000) && o % 0x10 == 12)
  else if a < baseMarten then
    let o := a - baseColl
    (decide (0x10 ≤ o) && decide (o < 0x3C)) || (decide (0x1000 ≤ o) && decide (o < 0x21000) && (o % 0x20 == 0x14 || o % 0x20 == 0x18))
  else if a < baseSett then decide (a < baseMarten + 0x1000) && decide (0x10 ≤ a % 0x100) && decide (a % 0x100 < 0x30)
  else if a < baseMem then
    let o := a % 0x1000
    decide (a < baseSett + 0x80000) && ((decide (0x150 ≤ o) && decide (o < 0x164)) || (decide (0x398 ≤ o) && decide (o < 0x3B0)))
  else if a < baseFox then
    let o := a - baseMem
    o == 0x10 || o == 0x14
      || (((decide (0x1000 ≤ o) && decide (o < 0x3000)) || (decide (0x4000 ≤ o) && decide (o < 0x5000)))
            && decide (0x04 ≤ o % 0x20) && o % 0x20 != 0x18)
      || (decide (0x10000 ≤ o) && decide (o < 0x30000) && (o % 0x20 == 0x14 || o % 0x20 == 0x18))
  else if a < baseDet then
    let o := a - baseFox
    let r := o % 0x8000
    if o < 0xC0000 then (decide (0x400 ≤ r) && decide (r < 0x800) && decide (0x10 ≤ r % 0x40) && decide (r % 0x40 < 0x38)) || (decide (0x800 ≤ r) && decide (r < 0x1000))
    else (decide (0xC0004 ≤ o) && decide (o < 0xC0014)) || (decide (0xC1000 ≤ o) && decide (o < 0xC1C00) && o % 0x10 == 4)
  else false

/-- Offsets of the low halves of 64-bit registers (R561). -/
def wideReg (a : Nat) : Bool :=
  a % 8 == 0 && (
    if a < baseFault then a == 0x18 || a == 0x28
    else if a < baseCmd then (match faultWord (a - baseFault) with | some (_, r) => r == 0 || r == 8 || r == 0x10 | none => false)
    else if a < baseTime then
      let o := a - baseCmd
      o == 0x400 || o == 0x410 || o == 0x418 || (decide (0x1000 ≤ o) && decide (o < 0x3000) && o % 0x20 == 8)
    else if a < basePower then
      let o := a - baseTime
      o == 0 || o == 8 || o == 0x18 || o == 0x28 || o == 0x30
    else if a < basePair then false
    else if a < baseSec then a == basePair + 0x10 || a == basePair + 0x20
    else if a < baseLink then a == baseSec + 0x20
    else if a < 0x98000 then
      let o := (a - baseLink) % 0x200
      o == 0x20 || (decide (0x0C0 ≤ o) && decide (o < 0x0E0)) || (decide (0x100 ≤ o) && decide (o < 0x120))
    else if a < baseMarten then false
    else if a < baseSett then (decide (a < baseMarten + 0x1000) && a % 0x100 == 8) || (decide (baseMarten + 0x1000 ≤ a) && decide (a < baseMarten + 0x1080) && a % 0x20 == 0)
    else if a < baseMem then
      let o := a % 0x1000
      decide (a < baseSett + 0x80000) && (o == 0x10 || o == 0x20 || o == 0x140 || o == 0x148 || o == 0x380 || o == 0x388 || o == 0x390)
    else if a < baseFox then
      let o := a - baseMem
      (decide (0x100 ≤ o) && decide (o < 0x200) && o % 0x40 == 0x18) || (decide (0x10000 ≤ o) && decide (o < 0x30000) && o % 0x20 == 8)
    else if a < baseDet then
      let o := a - baseFox
      let r := o % 0x8000
      decide (o < 0xC0000) && ((decide (0x100 ≤ r) && decide (r < 0x200)) || (decide (0x400 ≤ r) && decide (r < 0x800) && decide (r % 0x40 < 0x10)))
    else if a < 0x800000 then decide (a < baseDet + 0x8000) || (decide (baseDet + 0x10000 ≤ a) && decide (a < baseDet + 0x10090))
    else a == 0x800800)

/-- Before Keeper is released the module serves these offsets only (R565). -/
def bootServed (a : Nat) : Bool :=
  decide (a < baseFault) || (decide (baseSec ≤ a) && decide (a < 0x70000)) || (decide (powReg 0x200 ≤ a) && decide (a < powReg 0x21C))
    || (decide (baseFault + 0x2000 ≤ a) && decide (a < baseFault + 0x201C))

/-- The offset is served in the present state (R565). -/
def State.served (s : State) (a : Nat) : Bool := s.sec.keeperUp || bootServed a

/-- A legal access (R559). -/
def legalAccess (off size : Nat) : Bool := (size == 4 && off % 4 == 0) || (size == 8 && off % 8 == 0)

/-! ## Reads -/

/-- A BAR0 read of the word at `a` clears it where it is RC (R564); the smallest latency of a flow starts anew. -/
def State.rcClear (s : State) (a : Nat) : State :=
  if !rcWord a then s
  else
    let s := s.setCtr a 0
    let o := a - baseFox
    if baseFox ≤ a && o < 0xC0000 && 0x400 ≤ o % 0x8000 && o % 0x8000 < 0x800 && o % 0x40 = 0x30 then
      let u := o / 0x8000
      let k := (o % 0x8000 - 0x400) / 0x40
      s.setFlowK u k { s.flowK u k with lat := false }
    else s

/-- A reserved offset is accessed: counted in UNMAPPED (R560). -/
def State.unmapped (s : State) : State := s.bump 0x104

/-- One word as a BAR0 read returns it, with what the read changes (R560, R564, R565). -/
def State.readWord (s : State) (a : Nat) : State × Nat :=
  if !s.served a then (s, 0)
  else match s.word a with
    | some v => (s.rcClear a, v)
    | none => (s.unmapped, 0)

/-- The captured high half of the register at `a`, within 10 µs of its capture (R561). -/
def State.captured (s : State) (a : Nat) : Option Nat :=
  match s.host.capture with
  | some (b, v, t) => if b = a && s.clk ≤ t + 10 * us then some v else none
  | none => none

/-- A BAR0 read of 4 or 8 bytes and its completion (R559, R561). -/
def State.bar0Read (s : State) (off size : Nat) : State :=
  if !s.host.linkUp || !legalAccess off size then s
  else if size = 8 then
    let (s, lo) := s.readWord off
    let (s, hi) := s.readWord (off + 4)
    s.emit (.completion (leBytes 4 lo ++ leBytes 4 hi))
  else if wideReg off && s.served off then
    let (s, lo) := s.readWord off
    let hi := ((s.word (off + 4)).getD 0)
    (s.setHost { s.host with capture := some (off, hi, s.clk) }).emit (.completion (leBytes 4 lo))
  else if 4 ≤ off && wideReg (off - 4) && s.served off then
    let v := (s.captured (off - 4)).getD ((s.word off).getD 0)
    let s := match s.host.capture with
      | some (b, _, _) => if b = off - 4 then s.setHost { s.host with capture := none } else s
      | none => s
    s.emit (.completion (leBytes 4 v))
  else
    let (s, v) := s.readWord off
    s.emit (.completion (leBytes 4 v))

/-! ## Writes -/

/-- A write to EPOCH_LOAD (R55, R569). -/
def State.epochLoad (s : State) (v : Nat) : State :=
  { s with time := { s.time with load := v % 2 ^ 64, loadPend := s.time.seen } }

/-- A write to EPOCH_PERIOD (R569). -/
def State.epochPeriod (s : State) (v : Nat) : State :=
  if within v 15625 156250000 then { s with time := { s.time with period := v } } else s

/-- A write of 1s clears bits of a W1C word. -/
def State.w1c (s : State) (a v : Nat) : State := s.setReg a (s.reg a - (s.reg a &&& v))

/-- A write to LINK.CTRL (R97, R588): the RW fields, then RETRAIN. -/
def State.ctrlWrite (s : State) (p v : Nat) : State :=
  let a := linkReg p 0
  let w := mergeBits (s.rwWord a) (rwMask a) v
  if rwInRange a w && s.rwAllowed s.instrument a w then
    let s := s.rwSet a w
    if bit v 11 then s.retrainPort p else s
  else s

/-- Event bits 4–7 of POOL_STAT are cleared by writing 1 (R166). -/
def State.poolStatWrite (s : State) (d p v : Nat) : State :=
  let x := s.pool d p
  s.setPool d p { x with events := x.events - (x.events &&& (v &&& 0xF0)) }

/-- A 4-byte write of `v` to a register of 32 bits at `a`, by the access of its fields (R8, R562). -/
def State.writeWord (s : State) (a v : Nat) : State :=
  if a = baseTime + 0x10 then s.epochPeriod (v % 2 ^ 28)
  else if a = baseSett + 0x80000 then s.charAllWrite (bit v 24)
  else if baseFault + 0x2100 ≤ a && a < baseFault + 0x2300 then s.haltRelease ((a - baseFault - 0x2100) / 4) v
  else if baseLink ≤ a && a < 0x98000 && (a - baseLink) % 0x200 = 0 then s.ctrlWrite ((a - baseLink) / 0x200) v
  else if baseLink ≤ a && a < 0x98000 && (a - baseLink) % 0x200 = 8 then s.w1c a v
  else if baseLink ≤ a && a < 0x98000 && (a - baseLink) % 0x200 = 0x44 then s.w1c a (v &&& 0x10000)
  else if baseSwitch ≤ a && a < baseColl && (a - baseSwitch) % 0x40000 < 0x80 && a % 0x20 = 0x10 then
    s.poolStatWrite ((a - baseSwitch) / 0x40000) ((a - baseSwitch) % 0x40000 / 0x20) v
  else if 0x800000 ≤ a && a < 0x800400 then (s.setReg a (if a % 16 = 12 then v % 2 else v)).sendPending
  else s.rwWrite a v

/-- Both RW words of a 64-bit register take a value at once. -/
def State.rwWide (s : State) (a v : Nat) : State :=
  let s' := (s.setReg a (mergeBits (s.reg a) (rwMask a) v)).setReg (a + 4) (mergeBits (s.reg (a + 4)) (rwMask (a + 4)) (v / 2 ^ 32))
  if baseFault ≤ a && a < baseCmd then s'.pinFrom s else s'

/-- A write of `v` to the 64-bit register at `a` (R443, R447, R448, R544, R561, R569); `hi` is false where only the low half is written, and
the high half of `v` is then 0. -/
def State.writeWide (s : State) (a v : Nat) (hi : Bool) : State :=
  match (if baseFault ≤ a && a < baseCmd then faultWord (a - baseFault) else none) with
  | some (w, r) =>
    if r = 0 then s.fswClear w v
    else if r = 0x10 then s.forceWrite w v
    else if r = 8 then s.rwWide a (if hi then v else v % 2 ^ 32 + s.reg (a + 4) * 2 ^ 32)
    else s
  | none =>
    let keep := fun (old : Nat) => if hi then v else v % 2 ^ 32 + old / 2 ^ 32 * 2 ^ 32
    if a = baseTime + 0x18 then s.epochLoad (keep s.time.load)
    else if a = baseCmd + 0x400 then s.bar4Base (keep (s.reg a + s.reg (a + 4) * 2 ^ 32))
    else if rwMask a ≠ 0 && s.rwAllowed s.instrument a v then s.rwWide a (keep (s.reg a + s.reg (a + 4) * 2 ^ 32))
    else s

/-- A write to another offset discards a held high half (R561). -/
def State.dropHeld (s : State) (a : Nat) : State :=
  match s.host.highHeld with
  | some (b, _) => if b = a then s else s.setHost { s.host with highHeld := none }
  | none => s

/-- One 4-byte write (R560, R561). -/
def State.write4 (s : State) (a v : Nat) : State :=
  let s := s.dropHeld (if 4 ≤ a && wideReg (a - 4) then a - 4 else a)
  if wideReg a then
    match s.host.highHeld with
    | some (_, h) => (s.setHost { s.host with highHeld := none }).writeWide a (v % 2 ^ 32 + h * 2 ^ 32) true
    | none => s.writeWide a (v % 2 ^ 32) false
  else if 4 ≤ a && wideReg (a - 4) then s.setHost { s.host with highHeld := some (a - 4, v % 2 ^ 32) }
  else if (s.word a).isSome then s.writeWord a (v % 2 ^ 32)
  else s.unmapped

/-- A BAR0 write of 4 or 8 bytes (R559–R562, R565): an 8-byte write to two 32-bit registers acts as two writes, the lower first. -/
def State.bar0Write (s : State) (off size v : Nat) : State :=
  if !s.host.linkUp || !legalAccess off size || !s.served off then s
  else if size = 4 then s.write4 off v
  else if wideReg off then (s.setHost { s.host with highHeld := none }).writeWide off (v % 2 ^ 64) true
  else (s.write4 off v).write4 (off + 4) (v / 2 ^ 32)

/-! ## The rows -/

/-- REGISTER_WRITE (R562). -/
def State.registerWrite (s : State) (off size v : Nat) : State := s.bar0Write off size v

/-- RC_READ (R564): a BAR0 read, which clears the RC words it covers. -/
def State.rcRead (s : State) (off size : Nat) : State := s.bar0Read off size

/-- SPLIT_LOW_READ (R561). -/
def State.splitLowRead (s : State) (off : Nat) : State := if wideReg off then s.bar0Read off 4 else s

/-- SPLIT_HIGH_WRITE (R561). -/
def State.splitHighWrite (s : State) (off v : Nat) : State := if 4 ≤ off && wideReg (off - 4) then s.bar0Write off 4 v else s

/-- BAR0_ILLEGAL_ACCESS (R559): the byte enables are the access's own, so that every size and alignment may be illegal. -/
def State.illegalAccess (s : State) (wr : Bool) : State :=
  if !s.host.linkUp then s
  else
    let s := s.bump 0x100
    if wr then s else s.emit (.completionErr 1)

/-- UNMAPPED_ACCESS (R560, R565): an access of a reserved offset. -/
def State.unmappedAccess (s : State) (off : Nat) (wr : Bool) : State :=
  let a := off / 4 * 4
  if !s.host.linkUp || (s.served a && (s.word a).isSome) then s
  else
    let s := if s.served a then (if wr then s.dropHeld a else s).unmapped else s
    if wr then s else s.emit (.completion (leBytes 4 0))

/-- LINK_ENABLE (R74): a write that sets ENABLE. -/
def State.linkEnable (s : State) (p : Nat) : State := if s.portThere p then s.enablePort p else s

/-- LINK_DISABLE (R588). -/
def State.linkDisable (s : State) (p : Nat) : State := if s.portThere p && s.fld (linkReg p 0) 0 1 = 1 then s.disablePort p else s

/-- RETRAIN (R588). -/
def State.linkRetrainWrite (s : State) (p : Nat) : State := if s.portThere p then s.retrainPort p else s

/-- LOOPBACK (R97): a write of 1 or 2 without the instrument functions is ignored. -/
def State.loopbackWrite (s : State) (p v : Nat) : State :=
  if s.portThere p && v < 3 && (v = 0 || s.instrument) then s.setLoopback p v else s

end Sys2Proof.Machine
end

