-- ==== Sys2Proof/Machine/Timers.lean ====
section
/-! DEFINITION. Events of held packets (R120), of the sampling engines (R185) and of uncorrectable lines that internal readers meet
(R157, R257, R351). -/

namespace Sys2Proof.Machine

/-! ## The end of a hold (R120) -/

/-- The operation that a packet given up belongs to fails with `status` (R120, R228). -/
def State.failOp (s : State) (o : OutPkt) (status : Nat) : State :=
  let h := o.pkt.hdr
  match s.st.asks.find? (fun a => a.pkt.payload == o.pkt.payload && a.pkt.hdr == { h with seq := a.pkt.hdr.seq } && a.dst == h.dst) with
  | some a => if a.kind = .command then (s.askDone a).peerAnswer a status 0 0 else s.askDone a
  | none => if h.type = 0x09 || martenType h.type then s.failCtx h.ctx status .path else s

/-- The stream gives up its outstanding packets, and their operations fail. -/
def State.endHold (s : State) (dst tc status : Nat) : State :=
  let (s, l) := s.giveUp dst tc
  l.foldl (fun s o => s.failOp o status) s

/-- A packet of an operation without deadline has been held for 100 ms (R120). -/
def State.pathHold (s : State) (dst tc : Nat) : State :=
  if (s.txs dst tc).out.any (fun o => o.heldAt.isSome && o.deadline.isNone) then s.endHold dst tc 0x41 else s

/-- The deadline of a held packet's operation passes (R120). -/
def State.opDeadline (s : State) (dst tc : Nat) : State :=
  if (s.txs dst tc).out.any (fun o => o.heldAt.isSome && o.deadline.isSome) then s.endHold dst tc 0x40 else s

/-! ## Sampling (R185, R200) -/

/-- One sample of a den's engine. -/
def State.sampleQueue (s : State) (d : Nat) : State :=
  let a := swReg d 0xB00
  if 3 < d || s.fld a 0 1 = 0 then s
  else
    let n := s.fld a 1 6
    let q := s.fld a 7 6
    let z : Sampler := Tbl.get {} s.sw.samplers d
    let wait := match firstOf (s.inQueue d n q) with | some h => sat32 ((s.clk - h.enqAt) / 1000) | none => 0
    let e : Sample := { depth := min (s.queueCells d n q) (2 ^ 24 - 1), seq := z.count % 256, delay := wait }
    let z := { z with ring := Tbl.put {} z.ring z.wptr e, wptr := (z.wptr + 1) % 256, wraps := if z.wptr = 255 then (z.wraps + 1) % 2 ^ 24 else z.wraps,
                      count := (z.count + 1) % 256 }
    { s with sw := { s.sw with samplers := Tbl.put {} s.sw.samplers d z } }

/-! ## Uncorrectable lines in the reserved areas (R344, R351) -/

/-- An uncorrectable line in reserved area `i` of den `d` is met; the line within the area is a free value, since the model places no unit of an
area at an address. -/
def State.areaUe (s : State) (d i : Nat) : State :=
  let p1 := Tbl.get 0 s.mem.p1Backing d
  let sizes := [2 ^ 24, 2 ^ 26, 4096 * p1, 6144 * (16384 + p1), 65536 * (s.pool d 3).size, 2 ^ 26 * Tbl.get 0 s.mem.spillUnits d]
  let start := (sizes.take i).foldl (fun n z => ceilDiv (n + z) 65536 * 65536) 0
  let n := sizes.getD i 0
  s.used.meetUe ((Tbl.get 0 s.mem.rsvFrom d * frameSize + start) / 64 + s.free % max 1 (n / 64))

/-- A spilled slot is read back and an uncorrectable line is met: the chunk is not delivered, and the context fails with ERR_DATA, cause DATA
(R228, R351). -/
def State.readBackBad (s : State) (x k : Nat) : State :=
  match (s.ctx x).slot k with
  | none => s
  | some z => if !z.reading then s else (s.areaUe (z.unit / 4) 2).failCtx x 0x50 .data

/-- Cells taken from the oldest of a list of page counts. -/
def dropCells : Nat → List Nat → List Nat
  | _, [] => []
  | n, p :: l => (p - n) :: dropCells (n - p) l

/-- A page is read back and an uncorrectable line is met: the packet with a byte in the line, whose cell is a free value, is discarded and
counted in LOST_DOWN (R157, R351). -/
def State.readPageBad (s : State) (d att q : Nat) : State :=
  let k := qKey d att q
  let x := s.queue k
  match x.pages with
  | [] => s
  | n :: rest =>
    let cell := x.deepRead + s.free % max 1 n
    let s := s.areaUe d 4
    let ends := (s.deepOf d att q).foldl (fun (a : Nat × List (Held × Nat × Nat)) h => (a.1 + h.pkt.hdr.cells, a.2 ++ [(h, a.1, a.1 + h.pkt.hdr.cells)])) (0, [])
    match ends.2.find? (fun e => decide (e.2.1 ≤ cell) && decide (cell < e.2.2)) with
    | none => s.readPage d att q
    | some (h, lo, hi) =>
      -- the packet's cells leave the count of those read back, of this page and of those that follow
      let back := min hi x.deepRead - min lo x.deepRead
      let s := s.setQueue k { s.queue k with deepRead := x.deepRead - back, pages := dropCells (hi - lo - back) (n :: rest) }
      (s.lose h h.port 0x078).readPage d att q

end Sys2Proof.Machine
end

