-- ==== Sys2Proof/Machine/React.lean ====
section
/-! DEFINITION. What follows every command: the reactions that fault records call for (R444, R445), contexts that have come to an end, waits that
are over, and the platform events of changed states (R552). -/

namespace Sys2Proof.Machine

/-- JOB_HALT (R444): contexts fail with INTERNAL and cause ABORT, bindings halt, Fox units and mirror sessions stop. -/
def State.haltJob (s : State) (j : Nat) : State :=
  let f := s.faults
  let s := if f.halted.contains j then s
           else { s with faults := { f with halted := f.halted.filter (· < j) ++ [j] ++ f.halted.filter (j < ·) } }
  let s := (s.coll.ctxs.filter (fun e => e.2.job == j)).foldl (fun s e => s.failCtx e.1 0xFF .abort) s
  let s := (s.sett.bindings.filter (fun e => e.2.present && e.2.job == j)).foldl (fun s e => s.haltBinding (objHandle e.1 e.2.job e.2.gen)) s
  (s.foxRelease j).mirrorsEnd (some j)

/-- A core's binding is halted, and the contexts that its cores served fail as R225 states. -/
def State.haltUsers (s : State) (c : Nat) : State :=
  let h := (s.core c).binding
  let users := (s.sett.cores.filter (fun e => e.2.binding == h && h != 0 && e.2.live && (e.2.kind == 1 || e.2.kind == 2))).filterMap (fun e => e.2.user)
  let s := (s.haltCore c).haltBinding h
  users.foldl (fun s u => s.failCtx u 0xFF .epilogue) s

/-- A den's switch slice is held in reset: its ports leave routing and what they hold is lost (R30). -/
def State.holdSlice (s : State) (d : Nat) : State :=
  if 3 < d || s.sw.sliceReset.contains d then s
  else (portsOf d).foldl (fun s p => (s.flushPort p).leaveRouting p) { s with sw := { s.sw with sliceReset := d :: s.sw.sliceReset } }

/-- DEGRADE on the unit named (R140, R275, R444, R445, R484). -/
def State.degradeUnit (s : State) (r : Reaction) : State :=
  match r.kind with
  | .core => let s := s.haltUsers r.unit
             s.setCore r.unit { s.core r.unit with needTest := true }
  | .buffer => s.quarantine r.addr
  | .pool =>
    let x := (r.unit / 4, 64 * r.word + r.source)
    if s.faults.degraded.contains x then s else { s with faults := { s.faults with degraded := x :: s.faults.degraded } }
  | .phase => s.stopPhase r.unit
  | _ => s

/-- FENCE on the unit named (R278, R359, R361, R30, R432, R445). -/
def State.fenceUnit (s : State) (r : Reaction) : State :=
  match r.kind with
  | .core =>
    let s := s.haltUsers r.unit
    let s := if s.sett.fences.contains r.unit then s else { s with sett := { s.sett with fences := r.unit :: s.sett.fences } }
    let s := s.setCore r.unit { s.core r.unit with repairPend := true }
    s.condBegin { word := coreDen r.unit, source := fSettFenced, unit := r.unit, kind := .core }
  | .fastCh => s.fenceChan false r.unit
  | .slowCh => s.fenceChan true r.unit
  | .module => if s.pl.paired then s.selfFence else s
  | .tier => s.fenceTier (r.unit / 2) (r.unit % 2 == 1)
  | .slice => s.holdSlice r.unit
  | _ => s

/-- One reaction with every lower class's reaction that applies (R444). -/
def State.react (s : State) (r : Reaction) : State :=
  let s := if r.cls = clsHalt then (match r.job with | some j => s.haltJob j | none => s) else s
  let s := if clsFence ≤ r.cls then s.fenceUnit r else s
  if clsDegrade ≤ r.cls && !(clsFence ≤ r.cls && r.kind == .core) then s.degradeUnit r else s

/-- Every reaction owed is taken once, in the order in which the faults came. -/
def State.reactOnce (s : State) : State := s.faults.owed.foldl (fun s r => s.react r) { s with faults := { s.faults with owed := [] } }

/-- No reaction is owed any longer. -/
def State.owedNone (s : State) : State := { s with faults := { s.faults with owed := [] } }

/-- The reactions owed, and those that they call for in turn, at most `n` rounds of them (log 27). -/
def State.reactAll : Nat → State → State
  | 0, s => s.owedNone
  | n + 1, s => if s.faults.owed.isEmpty then s else State.reactAll n s.reactOnce

/-- Rounds of reactions that one command can call for (log 27). -/
def reactRounds : Nat := 64

/-- What follows a command before the last reactions: reactions, contexts that have come to an end, waits that are over. -/
def State.follow (s : State) : State := (((State.reactAll reactRounds s).collSettle).waitsEnd).admitsEnd

/-- What follows a command: `old` is the state before it. The queue of waiting commands is none of a command's business. -/
def settle (old s : State) : State :=
  { (State.reactAll reactRounds s.follow).reportStates old with pending := old.pending }

end Sys2Proof.Machine
end

