-- ==== Sys2Proof/Machine/Epoch.lean ====
section
/-! DEFINITION. The EPOCH boundary (R48, R55), at which pending changes take effect, and the passing of time on an empty queue. -/

namespace Sys2Proof.Machine

/-- Jobs that are no longer VALID stop being halted, and their Fox units are released (R444, R478). -/
def State.jobsGone (s : State) (old : List Nat) : State :=
  (old.filter (fun j => !s.jobValid j)).foldl (fun s j =>
    let s : State := { s with faults := { s.faults with halted := s.faults.halted.filter (· != j) } }
    s.foxRelease j) s

/-- What takes effect at the boundary of domain time `t` ns: overlays (R413), partitions (R46), the device state (R377), queues and weights
(R172, R175), TC1 flows (R187), changes of the pair (R435, R436), and the copies of the measurements (R475). -/
def State.boundary (s : State) (t : Nat) : State :=
  let old := s.validJobs
  let s := s.overBoundary t
  let s := s.overRestore
  let s := s.partBoundary t
  let s := (s.devBoundary).jobsGone old
  (((s.queueBoundary).flowBoundary t).pairBoundary).copyMeasures

/-- An EPOCH pulse arrives (R55): rack time is set or checked, and the boundary's changes take effect. A module in reset, off or in HIBERNATE
counts no pulse. -/
def State.epochPulse (s : State) : State :=
  if s.dev = .off || s.power.inReset || s.power.pstate = 3 then s
  else
    let s := s.pulseClock
    s.boundary (s.domainAt s.time.lastPs)

/-- One reference cycle passes: the clocks move on (R54, R56). -/
def State.clockOn (s : State) : State :=
  { s with time := { s.time with clock := s.time.clock + cyclePs, rackPs := (s.time.rackPs + cyclePs) % (1000 * 2 ^ 64) } }

/-- The counters of milliseconds of POWER (R504), when a millisecond of the clock has passed. -/
def State.powerMs (s : State) : State :=
  if s.clk / ms = (s.clk - cyclePs) / ms then s
  else
    let s := if s.power.capSteps.isEmpty then s else s.bump (powReg 0x080)
    let s := if s.power.unmet then s.bump (powReg 0x084) else s
    if s.power.thermal.isEmpty then s else s.bump (powReg 0x088)

/-- Delayed packets of injections are sent when their time has come (R537). -/
def State.delayedGo (s : State) : State :=
  ((s.inject.filter (fun e => !e.2.delayed.isEmpty)).map (·.1)).foldl (fun s p => s.sendDelayed p false) s

/-- Time passes while no command waits: one reference cycle (R54), with what falls due in it and has no row of its own. -/
def State.tick (s : State) : State := ((s.clockOn.powerMs).delayedGo).goldenTick

end Sys2Proof.Machine
end

