-- ==== Sys2Proof/Machine/RowOps.lean ====
section
/-! DEFINITION. Operations of rows that need a check of state around a shared operation. -/

namespace Sys2Proof.Machine

/-- Every 50 µs in IDENT, or in a check of R89, until the far end's identity has come (R90). -/
def State.identityRepeat (s : State) (p : Nat) : State :=
  let x := s.port p
  if (x.st = .ident || x.idCheck) && x.peer.isNone then s.sendIdentity p else s

/-- The 100 ms wait after a training failure ends (R75). -/
def State.retryOver (s : State) (p : Nat) : State :=
  if (s.port p).retryHold then s.setPort p { s.port p with retryHold := false } else s

/-- The 1 s flap hold-down ends, and the port hunts again (R75). -/
def State.holdDownOver (s : State) (p : Nat) : State :=
  if (s.port p).holdDown then (s.setPort p { s.port p with holdDown := false }).enterHunt p else s

/-- An event of Sett core `c`: nothing runs on the 128 cores while the module is in DROWSE or HIBERNATE (R496, R498). -/
def State.onCore (s : State) (c : Nat) (k : State → State) : State := if c < 128 && s.power.pstate < 2 then k s else s

/-- CHAR_ALL is bit 24 of the SETT_CFG word (R283). -/
def State.charAllRow (s : State) (v : Bool) : State := s.bar0Write (baseSett + 0x80000) 4 (b2n v * 2 ^ 24)

/-- A write of the bits `m` to FSW of word `w`, 0–4 (R443). -/
def State.fswRow (s : State) (w m : Nat) : State := if w ≤ 4 then s.bar0Write (faultReg w 0) 8 m else s

/-- A write of the bits `m` to FORCE of word `w`, 0–4 (R448). -/
def State.forceRow (s : State) (w m : Nat) : State := if w ≤ 4 then s.bar0Write (faultReg w 0x10) 8 m else s

/-- A write of the bits `m` to HALT word `w`, 0–127 (R444). -/
def State.haltRow (s : State) (w m : Nat) : State := if w < 128 then s.bar0Write (baseFault + 0x2100 + 4 * w) 4 m else s

/-- A write of EPOCH_LOAD (R569). -/
def State.epochLoadWrite (s : State) (v : Nat) : State := s.bar0Write (baseTime + 0x18) 8 v

/-- A write of EPOCH_PERIOD (R569). -/
def State.epochPeriodWrite (s : State) (v : Nat) : State := s.bar0Write (baseTime + 0x10) 4 v

/-- A write of BAR4_BASE (R544). -/
def State.bar4BaseWrite (s : State) (v : Nat) : State := s.bar0Write (baseCmd + 0x400) 8 v

end Sys2Proof.Machine
end

