-- ==== Sys2Proof/Machine/CollCmds.lean ====
section
/-! DEFINITION. The meanings of the commands of context, MoE and embedding commands: one for each row of the operation table. Each is the row's own effect, then what follows every command (`settle`). -/

namespace Sys2Proof.Machine

/-- CTX_CREATE (R207): Checks a descriptor, reserves items at every leaf and commits the context as ARMED. -/
def execCtxCreate (c : Cmd) (s : State) : Host.Outcome State Fault Refusal :=
  .next (settle s (s.ctxCreate c))

/-- CTX_REARM (R209): Re-arms a DONE context with a new deadline and seed. -/
def execCtxRearm (c : Cmd) (s : State) : Host.Outcome State Fault Refusal :=
  .next (settle s (s.ctxRearm c))

/-- CTX_RELEASE (R209): Releases a DONE or FAILED context to FREE with its reservations. -/
def execCtxRelease (c : Cmd) (s : State) : Host.Outcome State Fault Refusal :=
  .next (settle s (s.ctxRelease c))

/-- CTX_ABORT (R228): Fails a context with cause ABORT. -/
def execCtxAbort (c : Cmd) (s : State) : Host.Outcome State Fault Refusal :=
  .next (settle s (s.ctxAbort c))

/-- CTX_QUERY (R391): Returns the context's record at this leaf. -/
def execCtxQuery (c : Cmd) (s : State) : Host.Outcome State Fault Refusal :=
  .next (settle s (s.ctxQuery c))

/-- MOE_PLACE (R322): Writes entries of an expert placement table. -/
def execMoePlace (c : Cmd) (s : State) : Host.Outcome State Fault Refusal :=
  .next (settle s (s.moePlace c))

/-- MOE_PLACE_COMMIT (R391): Makes a fully written placement table usable. -/
def execMoePlaceCommit (c : Cmd) (s : State) : Host.Outcome State Fault Refusal :=
  .next (settle s (s.moePlaceCommit c))

/-- EMB_CREATE (R332): Sets up an embedding table and attaches its cores. -/
def execEmbCreate (c : Cmd) (s : State) : Host.Outcome State Fault Refusal :=
  .next (settle s (s.embCreate c))

/-- EMB_RELEASE (R391): Releases a table; its attached cores receive STOP. -/
def execEmbRelease (c : Cmd) (s : State) : Host.Outcome State Fault Refusal :=
  .next (settle s (s.embRelease c))

/-- CTX_PEER_HOLD (R207): A leaf holds a context reservation relayed by the coordinator. -/
def execCtxPeerHold (c : Cmd) (s : State) : Host.Outcome State Fault Refusal :=
  .next (settle s (s.ctxPeerHold c))

/-- CTX_PEER_COMMIT (R207): A leaf commits a held context to ARMED. -/
def execCtxPeerCommit (c : Cmd) (s : State) : Host.Outcome State Fault Refusal :=
  .next (settle s (s.ctxPeerCommit c))

/-- CTX_PEER_RELEASE (R207): A leaf releases a held reservation back to FREE. -/
def execCtxPeerRelease (c : Cmd) (s : State) : Host.Outcome State Fault Refusal :=
  .next (settle s (s.ctxPeerRelease c))

/-- CTX_PEER_REARM (R209): A leaf re-arms the context as relayed. -/
def execCtxPeerRearm (c : Cmd) (s : State) : Host.Outcome State Fault Refusal :=
  .next (settle s (s.ctxPeerRearm c))

/-- CTX_PEER_FREE (R209): A leaf releases the context as relayed. -/
def execCtxPeerFree (c : Cmd) (s : State) : Host.Outcome State Fault Refusal :=
  .next (settle s (s.ctxPeerFree c))

/-- CTX_PEER_ABORT (R228): A leaf aborts the context as relayed. -/
def execCtxPeerAbort (c : Cmd) (s : State) : Host.Outcome State Fault Refusal :=
  .next (settle s (s.ctxPeerAbort c))

/-- CTX_PEER_FAIL (R229): A failure notice from another leaf fails the context here with cause REMOTE. -/
def execCtxPeerFail (c : Cmd) (s : State) : Host.Outcome State Fault Refusal :=
  .next (settle s (s.ctxPeerFail c))

end Sys2Proof.Machine
end

