-- ==== Sys2Proof/Machine/CollRows.lean ====
section
/-! DEFINITION. The meanings of the commands of Marten: collectives, MoE and embedding packets and timers: one for each row of the operation table. Each is the row's own effect, then what follows every command (`settle`). -/

namespace Sys2Proof.Machine

/-- COLL_CONTRIB_RECEIVED (R222): Marten checks a contribution, sets its bitmap bit and accumulates it exactly. -/
def execCollContribReceived (p : Nat) (pkt : Pkt) (s : State) : Host.Outcome State Fault Refusal :=
  .next (settle s (if p < 192 then (if pkt.hdr.type = 0x08 then s.martenIn p pkt else s) else s))

/-- ACC_BLOCK_READBACK_COMPLETE (R257): A spilled accumulator block has been read back, and its waiting addends proceed. -/
def execAccBlockReadbackComplete (ctx : Nat) (chunk : Nat) (ok : Bool) (s : State) : Host.Outcome State Fault Refusal :=
  .next (settle s (if ok then s.readBack ctx chunk else s.readBackBad ctx chunk))

/-- COLL_PARTIAL_RECEIVED (R222): A ring partial is checked and combined in the fixed ring order; its owner rounds the segment. -/
def execCollPartialReceived (p : Nat) (pkt : Pkt) (s : State) : Host.Outcome State Fault Refusal :=
  .next (settle s (if p < 192 then (if pkt.hdr.type = 0x0A then s.martenIn p pkt else s) else s))

/-- MOE_DISPATCH_RECEIVED (R323): A token packet is accepted; once a token is whole a TOKEN item is posted to its gating core. -/
def execMoeDispatchReceived (p : Nat) (pkt : Pkt) (s : State) : Host.Outcome State Fault Refusal :=
  .next (settle s (if p < 192 then s.dispatchIn p pkt else s))

/-- MOE_RETURN_RECEIVED (R330): An expert return is checked and combined weighted by its gate; a complete token is finished and sent to its origin. -/
def execMoeReturnReceived (p : Nat) (pkt : Pkt) (s : State) : Host.Outcome State Fault Refusal :=
  .next (settle s (if p < 192 then s.returnIn p pkt else s))

/-- EMB_LOOKUP_RECEIVED (R332): A lookup is checked for table ownership and posted as a LOOKUP item to the least-loaded core. -/
def execEmbLookupReceived (p : Nat) (pkt : Pkt) (s : State) : Host.Outcome State Fault Refusal :=
  .next (settle s (if p < 192 then s.lookupIn p pkt else s))

/-- NOTICE_TIMER (R219): Every NOTICE_US while the context is RUNNING, the H notice is repeated to local members. -/
def execNoticeTimer (ctx : Nat) (s : State) : Host.Outcome State Fault Refusal :=
  .next (settle s (if (s.ctx ctx).state = .running then s.notice ctx else s))

/-- STEP_TIMEOUT (R218): A ring step exceeds STEP_US; the context fails with DEADLINE_MISS and cause STEP. -/
def execStepTimeout (ctx : Nat) (chunk : Nat) (phase : Nat) (rdir : Nat) (s : State) : Host.Outcome State Fault Refusal :=
  .next (settle s (s.stepTimeout ctx chunk phase rdir))

/-- CTX_DEADLINE_EXPIRY (R208): A context's DEADLINE passes before DONE; it fails with DEADLINE_MISS. -/
def execCtxDeadlineExpiry (ctx : Nat) (s : State) : Host.Outcome State Fault Refusal :=
  .next (settle s (if (s.ctx ctx).op = 5 then s.moeExpire ctx else s.ctxExpire ctx))

/-- FAILURE_NOTICE_REPEAT (R229): The failure STATUS is resent to local members, three times at 1 µs intervals. -/
def execFailureNoticeRepeat (ctx : Nat) (s : State) : Host.Outcome State Fault Refusal :=
  .next (settle s (s.failRepeat ctx))

/-- CTX_RELEASE_HOLD_EXPIRY (R209): 16 ms after release and the old deadline, a released CTX may be given out again. -/
def execCtxReleaseHoldExpiry (ctx : Nat) (s : State) : Host.Outcome State Fault Refusal :=
  .next (settle s (s.ctxHoldOver ctx))

end Sys2Proof.Machine
end

