-- ==== Sys2Proof/Machine/CtlCmds.lean ====
section
/-! DEFINITION. The meanings of the commands of pair, fault, power and security commands: one for each row of the operation table. Each is the row's own effect, then what follows every command (`settle`). -/

namespace Sys2Proof.Machine

/-- PAIR_FORM (R420): Starts pair formation checks over the mirror ports. -/
def execPairForm (c : Cmd) (s : State) : Host.Outcome State Fault Refusal :=
  .next (settle s (s.pairForm c))

/-- PAIR_BREAK (R436): Breaks the pair at both members at the next boundary. -/
def execPairBreak (c : Cmd) (s : State) : Host.Outcome State Fault Refusal :=
  .next (settle s (s.pairBreak c))

/-- PAIR_STATUS (R395): Returns the PAIR block's status. -/
def execPairStatus (c : Cmd) (s : State) : Host.Outcome State Fault Refusal :=
  .next (settle s (s.pairStatus c))

/-- PAIR_RESYNC (R435): Starts resynchronisation of a returning member. -/
def execPairResync (c : Cmd) (s : State) : Host.Outcome State Fault Refusal :=
  .next (settle s (s.pairResync c))

/-- FAULT_READ (R455): Returns fault records, newest first. -/
def execFaultRead (c : Cmd) (s : State) : Host.Outcome State Fault Refusal :=
  .next (settle s (s.faultRead c))

/-- FAULT_CLEAR (R443): Clears one fault status bit as a W1C write. -/
def execFaultClear (c : Cmd) (s : State) : Host.Outcome State Fault Refusal :=
  .next (settle s (s.faultClear c))

/-- FAULT_CFG (R446): Sets a source's class and mask within its floor and lock. -/
def execFaultCfg (c : Cmd) (s : State) : Host.Outcome State Fault Refusal :=
  .next (settle s (s.faultCfg c))

/-- FAULT_FORCE (R448): Forces one event of a source in SERVICE or under INSTRUMENT. -/
def execFaultForce (c : Cmd) (s : State) : Host.Outcome State Fault Refusal :=
  .next (settle s (s.faultForce c))

/-- SELFTEST (R280): Runs the array self-test on an unbound core. -/
def execSelftest (c : Cmd) (s : State) : Host.Outcome State Fault Refusal :=
  .next (settle s (s.selftest c))

/-- REPAIR_RESET (R279): Clears the flash repair record in SERVICE. -/
def execRepairReset (c : Cmd) (s : State) : Host.Outcome State Fault Refusal :=
  .next (settle s (s.repairReset c))

/-- BLACKBOX_READ (R459): Returns black-box records and snapshot, clearing UNREAD. -/
def execBlackboxRead (c : Cmd) (s : State) : Host.Outcome State Fault Refusal :=
  .next (settle s (s.blackboxRead c))

/-- POWER_CAP (R491): Sets the input power cap. -/
def execPowerCap (c : Cmd) (s : State) : Host.Outcome State Fault Refusal :=
  .next (settle s (s.powerCap c))

/-- POWER_STATE_RUN (R495): Moves the module to RUN, waking from TRIM or DROWSE. -/
def execPowerStateRun (c : Cmd) (s : State) : Host.Outcome State Fault Refusal :=
  .next (settle s (s.powerState 0 c))

/-- POWER_STATE_TRIM (R497): Moves the module to TRIM, gating unbound cores. -/
def execPowerStateTrim (c : Cmd) (s : State) : Host.Outcome State Fault Refusal :=
  .next (settle s (s.powerState 1 c))

/-- POWER_STATE_DROWSE (R498): Starts DROWSE entry: ACCEPT = 0, forwarding, flush, clock stops. -/
def execPowerStateDrowse (c : Cmd) (s : State) : Host.Outcome State Fault Refusal :=
  .next (settle s (s.powerState 2 c))

/-- POWER_STATE_HIBERNATE (R499): Starts HIBERNATE entry, ending with DRAM self-refresh under Owl. -/
def execPowerStateHibernate (c : Cmd) (s : State) : Host.Outcome State Fault Refusal :=
  .next (settle s (s.powerState 3 c))

/-- POWER_READ (R397): Returns input power, voltage, load, cap and hottest den. -/
def execPowerRead (c : Cmd) (s : State) : Host.Outcome State Fault Refusal :=
  .next (settle s (s.powerRead c))

/-- LC_CHANGE (R473): Verifies an authorisation, burns the new life-cycle state and resets the module. -/
def execLcChange (c : Cmd) (s : State) : Host.Outcome State Fault Refusal :=
  .next (settle s (s.lcChange c))

/-- OWNER_KEY (R472): Installs a new owner key under an authorisation and advances OWNER_SEQ. -/
def execOwnerKey (c : Cmd) (s : State) : Host.Outcome State Fault Refusal :=
  .next (settle s (s.ownerKey c))

/-- ROLLBACK_ADVANCE (R469): Burns anti-rollback counter 0 or 1 up to a new value. -/
def execRollbackAdvance (c : Cmd) (s : State) : Host.Outcome State Fault Refusal :=
  .next (settle s (s.rollback c))

/-- MEASURE_READ (R475): Returns the measurement blocks without signature. -/
def execMeasureRead (c : Cmd) (s : State) : Host.Outcome State Fault Refusal :=
  .next (settle s (s.measureRead c))

end Sys2Proof.Machine
end

