-- ==== Sys2Proof/Machine/FaultRows.lean ====
section
/-! DEFINITION. The meanings of the commands of fault registers, black box: one for each row of the operation table. Each is the row's own effect, then what follows every command (`settle`). -/

namespace Sys2Proof.Machine

/-- FSW_CLEAR (R443): A W1C write to a fault status word clears bits, which an L source sets again next cycle. -/
def execFswClear (w : Nat) (m : Nat) (s : State) : Host.Outcome State Fault Refusal :=
  .next (settle s (s.fswRow w m))

/-- FORCE_WRITE (R448): A write to FORCE causes one forced event per set bit where permitted. -/
def execForceWrite (w : Nat) (m : Nat) (s : State) : Host.Outcome State Fault Refusal :=
  .next (settle s (s.forceRow w m))

/-- HALT_RELEASE (R444): A W1C write to HALT releases a halted job. -/
def execHaltRelease (w : Nat) (m : Nat) (s : State) : Host.Outcome State Fault Refusal :=
  .next (settle s (s.haltRow w m))

/-- IRQ_HOLDOFF_EXPIRY (R456): The MSI-X hold-off ends, and records written during it are signalled. -/
def execIrqHoldoffExpiry (s : State) : Host.Outcome State Fault Refusal :=
  .next (settle s (s.holdoffEnd))

/-- KEEPER_WDOG (R441): A Keeper core misses its watchdog for 1 ms, a MODULE_RESET event. -/
def execKeeperWdog (s : State) : Host.Outcome State Fault Refusal :=
  .next (settle s (s.raiseMod mKeeperWdog))

/-- SNAPSHOT_CAPTURE (R460): 10 µs after a black-box event, Owl captures the snapshot and writes the black box. -/
def execSnapshotCapture (s : State) : Host.Outcome State Fault Refusal :=
  .next (settle s (s.snapshotCapture))

/-- BLACKBOX_WRITE_COMPLETE (R459): The black-box write to the alternate MRAM bank completes, and Owl begins the reset. -/
def execBlackboxWriteComplete (s : State) : Host.Outcome State Fault Refusal :=
  .next (settle s (s.blackboxDone))

/-- OWL_WATCHDOG_EXPIRY (R441): Owl's watchdog expires and raises OWL_ERR, a locked MODULE_RESET event. -/
def execOwlWatchdogExpiry (s : State) : Host.Outcome State Fault Refusal :=
  .next (settle s (s.raiseMod mOwlErr))

end Sys2Proof.Machine
end

