-- ==== Sys2Proof/Machine/HostRows.lean ====
section
/-! DEFINITION. The meanings of the commands of the host interface and management: one for each row of the operation table. Each is the row's own effect, then what follows every command (`settle`). -/

namespace Sys2Proof.Machine

/-- BAR4_READ (R545): A host read through BAR4 is checked and completed with data or an error. -/
def execBar4Read (addr : Nat) (len : Nat) (s : State) : Host.Outcome State Fault Refusal :=
  .next (settle s (s.bar4Read addr len))

/-- BAR4_WRITE (R545): A host write through BAR4 is checked and applied through the write-combining buffer, or discarded. -/
def execBar4Write (addr : Nat) (bytes : List Byte) (poisoned : Bool) (s : State) : Host.Outcome State Fault Refusal :=
  .next (settle s (s.bar4Write addr bytes poisoned))

/-- BAR4_BASE_WRITE (R544): A write to BAR4_BASE moves the BAR4 window for later TLPs. -/
def execBar4BaseWrite (v : Nat) (s : State) : Host.Outcome State Fault Refusal :=
  .next (settle s (s.bar4BaseWrite v))

/-- BUS_MASTER_READ_TIMEOUT (R546): A bus-master read is refused or not completed in 10 ms; the transfer ends with INTERNAL. -/
def execBusMasterReadTimeout (id : Nat) (s : State) : Host.Outcome State Fault Refusal :=
  .next (settle s (s.masterReadFails id))

/-- MSIX_UNMASK (R547): A masked MSI-X vector with its pending bit set is unmasked and sent. -/
def execMsixUnmask (v : Nat) (s : State) : Host.Outcome State Fault Refusal :=
  .next (settle s (s.msixUnmask v))

/-- L0P_IDLE_TIMER (R542): After 100 µs without a TLP, with L0P_EN set, the module requests L0p narrowing. -/
def execL0pIdleTimer (s : State) : Host.Outcome State Fault Refusal :=
  .next (settle s (s.l0pIdle))

/-- I3C_DYNAMIC_ADDRESS_ASSIGN (R550): The I3C controller assigns the module's dynamic address. -/
def execI3cDynamicAddressAssign (a : Nat) (s : State) : Host.Outcome State Fault Refusal :=
  .next (settle s (s.dynAddress a))

/-- SET_ENDPOINT_ID (R550): The MCTP bus owner assigns the endpoint ID. -/
def execSetEndpointId (eid : Nat) (s : State) : Host.Outcome State Fault Refusal :=
  .next (settle s (s.setEid eid))

/-- SET_EVENT_RECEIVER (R552): A PLDM SetEventReceiver sets where Owl sends platform events. -/
def execSetEventReceiver (eid : Nat) (s : State) : Host.Outcome State Fault Refusal :=
  .next (settle s (s.setReceiver eid))

/-- GET_SENSOR_READING (R551): A PLDM request for a sensor reading is answered by Owl. -/
def execGetSensorReading (sensor : Nat) (den : Nat) (s : State) : Host.Outcome State Fault Refusal :=
  .next (settle s (s.sensorReading sensor den))

/-- PLDM_FIRMWARE_UPDATE (R553): A PLDM firmware update writes the slot the module did not boot from. -/
def execPldmFirmwareUpdate (owl : List Byte) (keeper : List Byte) (s : State) : Host.Outcome State Fault Refusal :=
  .next (settle s (s.fwUpdate owl keeper))

/-- ACTIVATE_FIRMWARE (R553): ActivateFirmware checks the written slot and arms it for the next reset. -/
def execActivateFirmware (s : State) : Host.Outcome State Fault Refusal :=
  .next (settle s (s.fwActivate))

/-- GET_VERSION (R474): SPDM GET_VERSION is answered by Owl. -/
def execGetVersion (path : Nat) (s : State) : Host.Outcome State Fault Refusal :=
  .next (settle s (s.spdmVersion path))

/-- GET_CAPABILITIES (R474): SPDM GET_CAPABILITIES is answered by Owl. -/
def execGetCapabilities (path : Nat) (s : State) : Host.Outcome State Fault Refusal :=
  .next (settle s (s.spdmCaps path))

/-- NEGOTIATE_ALGORITHMS (R474): SPDM NEGOTIATE_ALGORITHMS fixes Ed25519 and SHA-512. -/
def execNegotiateAlgorithms (path : Nat) (s : State) : Host.Outcome State Fault Refusal :=
  .next (settle s (s.spdmAlgs path))

/-- GET_DIGESTS (R474): SPDM GET_DIGESTS returns certificate slot digests. -/
def execGetDigests (path : Nat) (s : State) : Host.Outcome State Fault Refusal :=
  .next (settle s (s.spdmDigests path))

/-- GET_CERTIFICATE (R474): SPDM GET_CERTIFICATE returns the slot 0 chain. -/
def execGetCertificate (path : Nat) (off : Nat) (len : Nat) (s : State) : Host.Outcome State Fault Refusal :=
  .next (settle s (s.spdmCert path off len))

/-- CHALLENGE (R474): SPDM CHALLENGE is answered with an alias-key signature. -/
def execChallenge (path : Nat) (nonce : List Byte) (s : State) : Host.Outcome State Fault Refusal :=
  .next (settle s (s.spdmChallenge path nonce))

/-- GET_MEASUREMENTS (R476): SPDM GET_MEASUREMENTS returns one consistent signed set of measurement blocks. -/
def execGetMeasurements (path : Nat) (idx : Nat) (nonce : List Byte) (s : State) : Host.Outcome State Fault Refusal :=
  .next (settle s (s.spdmMeasure path idx nonce))

/-- REGISTER_WRITE (R562): A BAR0 write to a register without a row of its own sets RW, W1C or W1S fields, or is ignored as a whole. -/
def execRegisterWrite (off : Nat) (size : Nat) (v : Nat) (s : State) : Host.Outcome State Fault Refusal :=
  .next (settle s (s.registerWrite off size v))

/-- RC_READ (R564): A BAR0 read of an RC field returns its value and clears it. -/
def execRcRead (off : Nat) (size : Nat) (s : State) : Host.Outcome State Fault Refusal :=
  .next (settle s (s.rcRead off size))

/-- SPLIT_LOW_READ (R561): A 4-byte read of a 64-bit register's low half captures its high half. -/
def execSplitLowRead (off : Nat) (s : State) : Host.Outcome State Fault Refusal :=
  .next (settle s (s.splitLowRead off))

/-- SPLIT_HIGH_WRITE (R561): A 4-byte write to a 64-bit register's high half is held until the next low-half write. -/
def execSplitHighWrite (off : Nat) (v : Nat) (s : State) : Host.Outcome State Fault Refusal :=
  .next (settle s (s.splitHighWrite off v))

/-- BAR0_ILLEGAL_ACCESS (R559): A BAR0 access of a bad size, alignment or byte enable is refused and counted. -/
def execBar0IllegalAccess (_off : Nat) (_size : Nat) (wr : Bool) (s : State) : Host.Outcome State Fault Refusal :=
  .next (settle s (s.illegalAccess wr))

/-- UNMAPPED_ACCESS (R560): An access to a reserved BAR0 offset reads 0 or is ignored, and is counted. -/
def execUnmappedAccess (off : Nat) (wr : Bool) (s : State) : Host.Outcome State Fault Refusal :=
  .next (settle s (s.unmappedAccess off wr))

/-- PCIE_LINK_UP (R565): The PCI Express link comes up, and BAR0 service begins, or resumes after a wake from HIBERNATE. -/
def execPcieLinkUp (rate : Nat) (width : Nat) (flit : Bool) (s : State) : Host.Outcome State Fault Refusal :=
  .next (settle s (s.linkUpPcie rate width flit))

/-- CONFIG_SPACE_WRITE (R546): The host writes configuration space, changing Bus Master Enable, the D state or the MSI-X function mask, which gates bus mastering, reply writes and MSI-X messages. -/
def execConfigSpaceWrite (bme : Bool) (dstate : Nat) (msixEn : Bool) (fmask : Bool) (mps : Nat) (mrrs : Nat) (s : State) : Host.Outcome State Fault Refusal :=
  .next (settle s (s.configSpace bme dstate msixEn fmask mps mrrs))

end Sys2Proof.Machine
end

