-- ==== Sys2Proof/Machine/InstCmds.lean ====
section
/-! DEFINITION. The meanings of the commands of mirror, Fox, golden and injection commands, and their events: one for each row of the operation table. Each is the row's own effect, then what follows every command (`settle`). -/

namespace Sys2Proof.Machine

/-- MIRROR_SET (R159): Configures and enables a mirror session for a job. -/
def execMirrorSet (c : Cmd) (s : State) : Host.Outcome State Fault Refusal :=
  .next (settle s (s.mirrorSet c))

/-- MIRROR_CLEAR (R399): Clears a mirror session. -/
def execMirrorClear (c : Cmd) (s : State) : Host.Outcome State Fault Refusal :=
  .next (settle s (s.mirrorClear c))

/-- FOX_CFG_STREAM (R523): Configures one generator stream of a Fox unit. -/
def execFoxCfgStream (c : Cmd) (s : State) : Host.Outcome State Fault Refusal :=
  .next (settle s (s.foxCfgStream c))

/-- FOX_CFG_CHECKER (R528): Configures one checker flow of a Fox unit. -/
def execFoxCfgChecker (c : Cmd) (s : State) : Host.Outcome State Fault Refusal :=
  .next (settle s (s.foxCfgChecker c))

/-- FOX_CFG_CLEAR (R523): Clears every stream and flow of a Fox unit and its 64-bit counters. -/
def execFoxCfgClear (c : Cmd) (s : State) : Host.Outcome State Fault Refusal :=
  .next (settle s (s.foxCfgClear c))

/-- FOX_START (R527): Arms a Fox unit to start its enabled streams and flows at a rack time. -/
def execFoxStart (c : Cmd) (s : State) : Host.Outcome State Fault Refusal :=
  .next (settle s (s.foxStart c))

/-- FOX_STOP (R527): Stops a Fox unit's streams after their current packets. -/
def execFoxStop (c : Cmd) (s : State) : Host.Outcome State Fault Refusal :=
  .next (settle s (s.foxStop c))

/-- FOX_READ (R527): Returns a Fox unit's checker counts and histograms at one instant. -/
def execFoxRead (c : Cmd) (s : State) : Host.Outcome State Fault Refusal :=
  .next (settle s (s.foxRead c))

/-- GOLDEN_SET (R532): Configures the golden end point and retrains its emulation ports. -/
def execGoldenSet (c : Cmd) (s : State) : Host.Outcome State Fault Refusal :=
  .next (settle s (s.goldenSet c))

/-- INJECT_DISARM (R537): Ends the armed injection on a port. -/
def execInjectDisarm (c : Cmd) (s : State) : Host.Outcome State Fault Refusal :=
  .next (settle s (s.injectDisarm c))

/-- INJECT_SYMBOL (R537): Arms symbol corruption of transmitted codewords. -/
def execInjectSymbol (c : Cmd) (s : State) : Host.Outcome State Fault Refusal :=
  .next (settle s (s.injectSymbol c))

/-- INJECT_SYNC (R537): Arms transmission of invalid sync headers for a time. -/
def execInjectSync (c : Cmd) (s : State) : Host.Outcome State Fault Refusal :=
  .next (settle s (s.injectSync c))

/-- INJECT_TRAILER (R537): Arms trailer corruption of matching packets. -/
def execInjectTrailer (c : Cmd) (s : State) : Host.Outcome State Fault Refusal :=
  .next (settle s (s.injectTrailer c))

/-- INJECT_DROP (R537): Arms discarding of matching packets. -/
def execInjectDrop (c : Cmd) (s : State) : Host.Outcome State Fault Refusal :=
  .next (settle s (s.injectDrop c))

/-- INJECT_DUPLICATE (R537): Arms double sending of matching packets. -/
def execInjectDuplicate (c : Cmd) (s : State) : Host.Outcome State Fault Refusal :=
  .next (settle s (s.injectDuplicate c))

/-- INJECT_DELAY (R537): Arms delaying of matching packets. -/
def execInjectDelay (c : Cmd) (s : State) : Host.Outcome State Fault Refusal :=
  .next (settle s (s.injectDelay c))

/-- INJECT_XOFF (R537): Arms ORing a VC mask into sent FC_STATE blocks. -/
def execInjectXoff (c : Cmd) (s : State) : Host.Outcome State Fault Refusal :=
  .next (settle s (s.injectXoff c))

/-- INJECT_SILENCE (R537): Arms silence on the port's transmitter for a time. -/
def execInjectSilence (c : Cmd) (s : State) : Host.Outcome State Fault Refusal :=
  .next (settle s (s.injectSilence c))

/-- INJECTION_EXPIRY (R538): An injection's count or time is spent, and it ends. -/
def execInjectionExpiry (p : Nat) (s : State) : Host.Outcome State Fault Refusal :=
  .next (settle s (if p < 192 then s.injectExpire p else s))

/-- FOX_START_TIME (R527): The start time of an armed Fox unit is reached, and its streams and flows run. -/
def execFoxStartTime (u : Nat) (s : State) : Host.Outcome State Fault Refusal :=
  .next (settle s (s.foxStartTime u))

/-- FOX_STREAM_PACKET (R524): A generator stream emits its next TEST packet when its shaper allows. -/
def execFoxStreamPacket (u : Nat) (i : Nat) (s : State) : Host.Outcome State Fault Refusal :=
  .next (settle s (s.foxEmit u i))

/-- FOX_CHECKER_SETTLE (R527): 20 µs after FOX_STOP the checkers drain and settle their LOST counts. -/
def execFoxCheckerSettle (u : Nat) (s : State) : Host.Outcome State Fault Refusal :=
  .next (settle s (s.foxSettle u))

/-- GOLDEN_RESULT_RECEIVED (R536): A result for an emulated member is compared with the reference, counting CHUNKS_OK or CHUNKS_BAD. -/
def execGoldenResultReceived (p : Nat) (pkt : Pkt) (s : State) : Host.Outcome State Fault Refusal :=
  .next (settle s (if p < 192 then s.goldenIn p pkt else s))

end Sys2Proof.Machine
end

