-- ==== Sys2Proof/Machine/LinkRows.lean ====
section
/-! DEFINITION. The meanings of the commands of links and link management: one for each row of the operation table. Each is the row's own effect, then what follows every command (`settle`). -/

namespace Sys2Proof.Machine

/-- CODEWORD_RECEIVED (R73): A lane receives one codeword, which is decoded and drives the lane's HUNT, TEST and LOCKED lock machine. -/
def execCodewordReceived (lane : Nat) (syms : List Nat) (ovf : Bool) (s : State) : Host.Outcome State Fault Refusal :=
  .next (settle s (s.codeword lane syms ovf))

/-- HUNT_DEGRADE_TIMEOUT (R74): After 2 ms in HUNT with some lanes LOCKED and DEGRADE_EN set, the port goes to EQ at the reduced width. -/
def execHuntDegradeTimeout (p : Nat) (s : State) : Host.Outcome State Fault Refusal :=
  .next (settle s (if p < 192 then s.huntDegrade p else s))

/-- TS_BLOCK_RECEIVED (R76): A training block is received; equaliser requests are applied and answered in STAT, and PRESET, RX_READY and WIDTH are noted. -/
def execTsBlockReceived (lane : Nat) (t : TsBlock) (s : State) : Host.Outcome State Fault Refusal :=
  .next (settle s (s.tsBlock lane t))

/-- EQ_COMPLETE (R75): Equalisation and the pre-FEC error-ratio measurement complete; when both ends are ready and every lane passes, the port goes to DESKEW. -/
def execEqComplete (p : Nat) (pass : Nat) (offset : Nat) (s : State) : Host.Outcome State Fault Refusal :=
  .next (settle s (if p < 192 then s.eqComplete p pass offset else s))

/-- EQ_TIMEOUT (R74): EQ lasts 10 ms without completing; the port returns to HUNT with TRAIN_FAIL. -/
def execEqTimeout (p : Nat) (s : State) : Host.Outcome State Fault Refusal :=
  .next (settle s (if p < 192 then (if (s.port p).st = .eq then s.trainFail p false else s) else s))

/-- DESKEW_COMPLETE (R79): The lanes are aligned by GROUP and LANE, and the port enters IDENT. -/
def execDeskewComplete (p : Nat) (ids : List Nat) (s : State) : Host.Outcome State Fault Refusal :=
  .next (settle s (if p < 192 then s.deskewDone p ids else s))

/-- DESKEW_TIMEOUT (R74): DESKEW lasts 100 µs without alignment; the port returns to HUNT with TRAIN_FAIL. -/
def execDeskewTimeout (p : Nat) (s : State) : Host.Outcome State Fault Refusal :=
  .next (settle s (if p < 192 then (if (s.port p).st = .deskew then s.trainFail p false else s) else s))

/-- IDENT_TIMEOUT (R74): IDENT lasts 1 ms without a match; the port returns to HUNT with TRAIN_FAIL. -/
def execIdentTimeout (p : Nat) (s : State) : Host.Outcome State Fault Refusal :=
  .next (settle s (if p < 192 then (if (s.port p).st = .ident then s.trainFail p false else s) else s))

/-- IDENTITY_REPEAT_TIMER (R90): Every 50 µs the port resends its identity until it has received the far end's. -/
def execIdentityRepeatTimer (p : Nat) (s : State) : Host.Outcome State Fault Refusal :=
  .next (settle s (if p < 192 then s.identityRepeat p else s))

/-- IDENTITY_MESSAGE_RECEIVED (R91): A LINK_MGMT identity message is taken; the version is negotiated and identity is matched, accepted or quarantined. -/
def execIdentityMessageReceived (p : Nat) (pkt : Pkt) (s : State) : Host.Outcome State Fault Refusal :=
  .next (settle s (if p < 192 then s.identityIn p pkt else s))

/-- TRAIN_RETRY_HOLD_EXPIRY (R75): The 100 ms wait after a training failure ends, and the port hunts again. -/
def execTrainRetryHoldExpiry (p : Nat) (s : State) : Host.Outcome State Fault Refusal :=
  .next (settle s (if p < 192 then s.retryOver p else s))

/-- HOLD_DOWN_EXPIRY (R75): The 1 s flap hold-down ends, and the port hunts again. -/
def execHoldDownExpiry (p : Nat) (s : State) : Host.Outcome State Fault Refusal :=
  .next (settle s (if p < 192 then s.holdDownOver p else s))

/-- DOWN_HOLD_EXPIRY (R89): Lock has not returned within DOWN_HOLD; the port enters DOWN and its queued packets are lost. -/
def execDownHoldExpiry (p : Nat) (s : State) : Host.Outcome State Fault Refusal :=
  .next (settle s (if p < 192 then (if (s.port p).loss then s.enterDown p else s) else s))

/-- IDENTITY_CHECK_TIMEOUT (R89): The far end's identity has not arrived within 1 ms after lock returned; the port goes to DOWN. -/
def execIdentityCheckTimeout (p : Nat) (s : State) : Host.Outcome State Fault Refusal :=
  .next (settle s (if p < 192 then (if (s.port p).idCheck then s.enterDown p else s) else s))

/-- FC_STATE_RECEIVED (R111): An FC_STATE block is received; its XOFF mask replaces the earlier one for choosing packets. -/
def execFcStateReceived (p : Nat) (m : Nat) (s : State) : Host.Outcome State Fault Refusal :=
  .next (settle s (if p < 192 then s.fcIn p m else s))

/-- WIDTH_REQ_RECEIVED (R83): A WIDTH_REQ is received and answered with WIDTH_ACK carrying the AND with the own proposed or healthy mask. -/
def execWidthReqReceived (p : Nat) (m : Nat) (s : State) : Host.Outcome State Fault Refusal :=
  .next (settle s (if p < 192 then s.widthReq p m else s))

/-- WIDTH_ACK_RECEIVED (R83): A WIDTH_ACK is received, fixing the agreed mask for the next codeword group boundary. -/
def execWidthAckReceived (p : Nat) (m : Nat) (s : State) : Host.Outcome State Fault Refusal :=
  .next (settle s (if p < 192 then s.widthAck p m else s))

/-- WIDTH_SWITCH (R83): At the first codeword group boundary after the WIDTH_ACK, both sides switch to the agreed mask and report DEGRADED or RESTORED. -/
def execWidthSwitch (p : Nat) (s : State) : Host.Outcome State Fault Refusal :=
  .next (settle s (if p < 192 then s.widthSwitch p else s))

/-- WIDTH_CHANGE_TIMEOUT (R84): A width reduction is not complete within DOWN_HOLD; the port enters DOWN. -/
def execWidthChangeTimeout (p : Nat) (s : State) : Host.Outcome State Fault Refusal :=
  .next (settle s (if p < 192 then s.widthTimeout p else s))

/-- WIDEN_PROPOSAL_LAPSE (R84): A widening proposal is not agreed within DOWN_HOLD; it lapses and the soak starts again. -/
def execWidenProposalLapse (p : Nat) (s : State) : Host.Outcome State Fault Refusal :=
  .next (settle s (if p < 192 then s.widenLapse p else s))

/-- LANE_RETRAIN_RECEIVED (R88): A LANE_RETRAIN block is received; the named lanes leave the stripe, and the block is answered. -/
def execLaneRetrainReceived (p : Nat) (m : Nat) (s : State) : Host.Outcome State Fault Refusal :=
  .next (settle s (if p < 192 then s.laneRetrainIn p m else s))

/-- SOAK_COMPLETE (R87): A restored lane has held LOCKED for SOAK; the module proposes the wider mask, at most once per 10 s. -/
def execSoakComplete (p : Nat) (i : Nat) (s : State) : Host.Outcome State Fault Refusal :=
  .next (settle s (if p < 192 then s.soakDone p i else s))

/-- LANE_RETRAIN_COMPLETE (R88): A lane retrained alone passes training and becomes healthy for restore. -/
def execLaneRetrainComplete (p : Nat) (i : Nat) (s : State) : Host.Outcome State Fault Refusal :=
  .next (settle s (if p < 192 then s.laneRetrained p i else s))

/-- LANE_ERROR_LIMIT_EXCEEDED (R88): A lane's pre-FEC error ratio over a 100 ms window exceeds the in-service limit; the lane is retrained, or a ×1 port is taken DOWN. -/
def execLaneErrorLimitExceeded (p : Nat) (i : Nat) (s : State) : Host.Outcome State Fault Refusal :=
  .next (settle s (if p < 192 then s.laneErrors p i else s))

/-- TS_SYNC_TIMER (R58): Every 100 µs on a connected up port the module opens a timestamp exchange with TS_SYNC. -/
def execTsSyncTimer (p : Nat) (s : State) : Host.Outcome State Fault Refusal :=
  .next (settle s (if p < 192 then s.tsSync p else s))

/-- TS_SYNC_RECEIVED (R81): A TS_SYNC is received and answered with TS_RX and TS_TX timestamps. -/
def execTsSyncReceived (p : Nat) (s : State) : Host.Outcome State Fault Refusal :=
  .next (settle s (if p < 192 then s.tsSyncIn p else s))

/-- TS_RX_RECEIVED (R81): The neighbour's receive timestamp t2 of an open exchange is received. -/
def execTsRxReceived (p : Nat) (t : Nat) (s : State) : Host.Outcome State Fault Refusal :=
  .next (settle s (if p < 192 then s.tsRxIn p t else s))

/-- TS_TX_RECEIVED (R58): The neighbour's send timestamp t3 completes an exchange; offset, delay and rate are updated. -/
def execTsTxReceived (p : Nat) (t : Nat) (s : State) : Host.Outcome State Fault Refusal :=
  .next (settle s (if p < 192 then s.tsTxIn p t else s))

/-- TS_EXCHANGE_TIMEOUT (R81): An exchange is not answered within 10 µs; it is abandoned and counted in TS_LOST. -/
def execTsExchangeTimeout (p : Nat) (s : State) : Host.Outcome State Fault Refusal :=
  .next (settle s (if p < 192 then s.tsLost p else s))

/-- DRAIN_RECEIVED (R80): A DRAIN block is received; the receiver stops choosing new packets for the link, or resumes. -/
def execDrainReceived (p : Nat) (b : Bool) (s : State) : Host.Outcome State Fault Refusal :=
  .next (settle s (if p < 192 then s.drainIn p b else s))

/-- FC_STATE_REPEAT_TIMER (R111): Every 1 µs the port resends its current XOFF mask. -/
def execFcStateRepeatTimer (p : Nat) (s : State) : Host.Outcome State Fault Refusal :=
  .next (settle s (if p < 192 then s.fcRepeat p else s))

/-- XOFF_STUCK (R113): The far end has held a lossless VC stopped longer than STUCK; XOFF_STUCK is raised. -/
def execXoffStuck (p : Nat) (s : State) : Host.Outcome State Fault Refusal :=
  .next (settle s (if p < 192 then s.xoffStuck p else s))

/-- ROUTING_REPEAT_TIMER (R129): Every 100 µs the module resends ROUTING with its ACCEPT state. -/
def execRoutingRepeatTimer (s : State) : Host.Outcome State Fault Refusal :=
  .next (settle s (s.sendRoutings))

/-- ROUTING_RECEIVED (R129): A ROUTING message is received; the link enters or leaves routing according to ACCEPT. -/
def execRoutingReceived (p : Nat) (pkt : Pkt) (s : State) : Host.Outcome State Fault Refusal :=
  .next (settle s (if p < 192 then s.routingIn p pkt else s))

/-- PORT_DRAINED (R41): A draining port's queues become empty; DRAINED is set and LINK_DRAIN gets its final reply. -/
def execPortDrained (p : Nat) (s : State) : Host.Outcome State Fault Refusal :=
  .next (settle s (if p < 192 then s.portDrained p else s))

/-- LINK_ENABLE (R74): Setting LINK.CTRL.ENABLE takes a DISABLED port to HUNT. -/
def execLinkEnable (p : Nat) (s : State) : Host.Outcome State Fault Refusal :=
  .next (settle s (if p < 192 then s.linkEnable p else s))

/-- LINK_DISABLE (R588): Clearing ENABLE takes a port out of routing to DISABLED, losing its queued packets. -/
def execLinkDisable (p : Nat) (s : State) : Host.Outcome State Fault Refusal :=
  .next (settle s (if p < 192 then s.linkDisable p else s))

/-- RETRAIN (R588): Writing LINK.CTRL.RETRAIN retrains a port fully from HUNT, losing its queued packets. -/
def execRetrain (p : Nat) (s : State) : Host.Outcome State Fault Refusal :=
  .next (settle s (if p < 192 then s.linkRetrainWrite p else s))

/-- LOOPBACK (R97): Setting LOOPBACK takes a port out of routing, and returning it to 0 retrains it. -/
def execLoopback (p : Nat) (v : Nat) (s : State) : Host.Outcome State Fault Refusal :=
  .next (settle s (if p < 192 then s.loopbackWrite p v else s))

end Sys2Proof.Machine
end

