-- ==== Sys2Proof/Machine/MemCmds.lean ====
section
/-! DEFINITION. The meanings of the commands of memory commands: one for each row of the operation table. Each is the row's own effect, then what follows every command (`settle`). -/

namespace Sys2Proof.Machine

/-- REGION_CREATE (R345): Places a region on free frames and wipes it to READY. -/
def execRegionCreate (c : Cmd) (s : State) : Host.Outcome State Fault Refusal :=
  .next (settle s (s.regionCreate c))

/-- REGION_RELEASE (R346): Wipes a region and frees it. -/
def execRegionRelease (c : Cmd) (s : State) : Host.Outcome State Fault Refusal :=
  .next (settle s (s.regionRelease c))

/-- REGION_RELOAD (R346): Maps a LOST region onto free physical frames and wipes it. -/
def execRegionReload (c : Cmd) (s : State) : Host.Outcome State Fault Refusal :=
  .next (settle s (s.regionReload c))

/-- REGION_QUERY (R392): Returns a region's record. -/
def execRegionQuery (c : Cmd) (s : State) : Host.Outcome State Fault Refusal :=
  .next (settle s (s.regionQuery c))

/-- MEM_FLUSH (R353): Flushes the write-combining entries of one channel. -/
def execMemFlush (c : Cmd) (s : State) : Host.Outcome State Fault Refusal :=
  .next (settle s (s.memFlush c))

/-- MEM_FLUSH_ALL (R392): Flushes the write-combining entries of every channel of one tier. -/
def execMemFlushAll (c : Cmd) (s : State) : Host.Outcome State Fault Refusal :=
  .next (settle s (s.memFlushAll c))

/-- MEM_RETRAIN (R358): Starts a commanded full retrain of a channel after the admission check. -/
def execMemRetrain (c : Cmd) (s : State) : Host.Outcome State Fault Refusal :=
  .next (settle s (s.memRetrain c))

/-- BULK_XFER_TO_MODULE (R392): Moves host memory into module memory by bus-master reads. -/
def execBulkXferToModule (c : Cmd) (s : State) : Host.Outcome State Fault Refusal :=
  .next (settle s (s.bulkToModule c))

/-- BULK_XFER_TO_HOST (R392): Moves module memory to the host by bus-master writes. -/
def execBulkXferToHost (c : Cmd) (s : State) : Host.Outcome State Fault Refusal :=
  .next (settle s (s.bulkToHost c))

end Sys2Proof.Machine
end

