-- ==== Sys2Proof/Machine/MemRows.lean ====
section
/-! DEFINITION. The meanings of the commands of memory tiers: one for each row of the operation table. Each is the row's own effect, then what follows every command (`settle`). -/

namespace Sys2Proof.Machine

/-- WCB_AGE_EXPIRY (R353): A write-combining entry reaches WCB_AGE and is flushed by read, merge and write. -/
def execWcbAgeExpiry (line : Nat) (s : State) : Host.Outcome State Fault Refusal :=
  .next (settle s (s.wcbAge line))

/-- PATROL_SCRUB (R352): The patrol scrub reads a line, writing back corrections and recording uncorrectable lines. -/
def execPatrolScrub (line : Nat) (res : Nat) (s : State) : Host.Outcome State Fault Refusal :=
  .next (settle s (s.scrub line res))

/-- CE_RATE_WINDOW (R352): Each second, a channel's corrected errors are compared with CE_TH, raising MEM_CE_RATE. -/
def execCeRateWindow (slow : Bool) (ch : Nat) (s : State) : Host.Outcome State Fault Refusal :=
  .next (settle s (s.ceWindow slow ch))

/-- MEM_TEMP_SAMPLE (R356): Stack and LP6 temperatures are sampled, and throttle steps are entered or left. -/
def execMemTempSample (den : Nat) (stack : Nat) (lp6 : Nat) (s : State) : Host.Outcome State Fault Refusal :=
  .next (settle s (if den < 4 then s.memTemp den stack lp6 else s))

/-- BANK_REFRESH (R357): A per-bank refresh falls due on a channel. -/
def execBankRefresh (slow : Bool) (ch : Nat) (s : State) : Host.Outcome State Fault Refusal :=
  .next (settle s (s.bankRefresh slow ch))

/-- IMPEDANCE_CALIBRATION (R357): Every 100 ms a channel runs impedance calibration, stalling at most 1 µs. -/
def execImpedanceCalibration (slow : Bool) (ch : Nat) (s : State) : Host.Outcome State Fault Refusal :=
  .next (settle s (s.calibrate slow ch))

/-- SHORT_RETRAIN (R357): Every 10 ms, or on drift, a channel retrains read and write timing, stalling at most 2 µs. -/
def execShortRetrain (slow : Bool) (ch : Nat) (ok : Bool) (s : State) : Host.Outcome State Fault Refusal :=
  .next (settle s (s.shortRetrain slow ch ok))

/-- FORCED_FULL_RETRAIN (R358): A failed short retrain or repeated CA parity errors start a full retrain, raising MEM_RETRAIN and applying R192. -/
def execForcedFullRetrain (slow : Bool) (ch : Nat) (s : State) : Host.Outcome State Fault Refusal :=
  .next (settle s (s.forcedRetrain slow ch))

/-- FULL_RETRAIN_COMPLETE (R358): A full retrain ends; the channel's queue resumes, or the channel is fenced. -/
def execFullRetrainComplete (slow : Bool) (ch : Nat) (ok : Bool) (s : State) : Host.Outcome State Fault Refusal :=
  .next (settle s (s.retrainDone slow ch ok))

/-- TIER_REBUILD_COMPLETE (R360): The rebuild of a den's tier completes, and creations and reloads may touch it again. -/
def execTierRebuildComplete (den : Nat) (slow : Bool) (s : State) : Host.Outcome State Fault Refusal :=
  .next (settle s (if den < 4 then s.rebuilt den slow else s))

/-- REGION_WIPE_COMPLETE (R346): A region's wipe ends; it becomes READY or FREE and its LONG command replies. -/
def execRegionWipeComplete (region : Nat) (s : State) : Host.Outcome State Fault Refusal :=
  .next (settle s (s.regionWiped region))

/-- UNCLEAN_FRAME_CLEAR (R512): A slow controller finishes zeroing an unclean frame, which becomes clean. -/
def execUncleanFrameClear (den : Nat) (frame : Nat) (s : State) : Host.Outcome State Fault Refusal :=
  .next (settle s (if den < 4 then s.frameCleared den frame else s))

end Sys2Proof.Machine
end

