-- ==== Sys2Proof/Machine/ModuleCmds.lean ====
section
/-! DEFINITION. The meanings of the commands of module, configuration, link, partition, queue and TC1 commands: one for each row of the operation table. Each is the row's own effect, then what follows every command (`settle`). -/

namespace Sys2Proof.Machine

/-- ECHO (R386): Returns the command's parameters unchanged in a result block. -/
def execEcho (c : Cmd) (s : State) : Host.Outcome State Fault Refusal :=
  .next (settle s (s.echo c))

/-- GET_INFO (R386): Returns variant, stepping, firmware, serial and placement. -/
def execGetInfo (c : Cmd) (s : State) : Host.Outcome State Fault Refusal :=
  .next (settle s (s.getInfo c))

/-- GET_STATE (R386): Returns device, life-cycle, power and overlay state and object counts. -/
def execGetState (c : Cmd) (s : State) : Host.Outcome State Fault Refusal :=
  .next (settle s (s.getState c))

/-- GET_JOB (R386): Returns a job's state and counts of its objects. -/
def execGetJob (c : Cmd) (s : State) : Host.Outcome State Fault Refusal :=
  .next (settle s (s.getJob c))

/-- GET_STATS (R386): Returns the command counters without clearing them. -/
def execGetStats (c : Cmd) (s : State) : Host.Outcome State Fault Refusal :=
  .next (settle s (s.getStats c))

/-- BASE_LOAD (R412): Loads, verifies and applies a base configuration image. -/
def execBaseLoad (c : Cmd) (s : State) : Host.Outcome State Fault Refusal :=
  .next (settle s (s.baseLoad c))

/-- OVERLAY_STAGE (R410): Verifies an overlay image and replaces the staged image of its kind. -/
def execOverlayStage (c : Cmd) (s : State) : Host.Outcome State Fault Refusal :=
  .next (settle s (s.overlayStage c))

/-- OVERLAY_APPLY (R413): Schedules the named set of overlays to become active at an EPOCH boundary. -/
def execOverlayApply (c : Cmd) (s : State) : Host.Outcome State Fault Refusal :=
  .next (settle s (s.overlayApply c))

/-- CONFIG_QUERY (R387): Returns identifiers and measurements of the base and the overlays. -/
def execConfigQuery (c : Cmd) (s : State) : Host.Outcome State Fault Refusal :=
  .next (settle s (s.configQuery c))

/-- LINK_SET (R388): Sets a port's LINK.CTRL fields under the rules of R97. -/
def execLinkSet (c : Cmd) (s : State) : Host.Outcome State Fault Refusal :=
  .next (settle s (s.linkSet c))

/-- LINK_DRAIN (R41): Drains a port; the final reply follows when DRAINED is 1. -/
def execLinkDrain (c : Cmd) (s : State) : Host.Outcome State Fault Refusal :=
  .next (settle s (s.linkDrain c))

/-- LINK_RESUME (R388): Ends a drain on a port, replying at once. -/
def execLinkResume (c : Cmd) (s : State) : Host.Outcome State Fault Refusal :=
  .next (settle s (s.linkResume c))

/-- LINK_RECHECK (R92): Returns a quarantined port to IDENT. -/
def execLinkRecheck (c : Cmd) (s : State) : Host.Outcome State Fault Refusal :=
  .next (settle s (s.linkRecheck c))

/-- LINK_RETRAIN (R588): Retrains a port fully from HUNT, taking it out of routing. -/
def execLinkRetrain (c : Cmd) (s : State) : Host.Outcome State Fault Refusal :=
  .next (settle s (s.linkRetrain c))

/-- LINK_QUERY (R388): Returns a port's status, events and identities. -/
def execLinkQuery (c : Cmd) (s : State) : Host.Outcome State Fault Refusal :=
  .next (settle s (s.linkQuery c))

/-- PART_WRITE (R46): Checks a partition entry and schedules it for an EPOCH boundary. -/
def execPartWrite (c : Cmd) (s : State) : Host.Outcome State Fault Refusal :=
  .next (settle s (s.partWrite c))

/-- PART_READ (R389): Returns a partition entry and any pending change. -/
def execPartRead (c : Cmd) (s : State) : Host.Outcome State Fault Refusal :=
  .next (settle s (s.partRead c))

/-- ROUTE_NOTICE (R130): Peer notice of a broken or restored hop; routes change at one instant within 50 µs. -/
def execRouteNotice (c : Cmd) (s : State) : Host.Outcome State Fault Refusal :=
  .next (settle s (s.routeNoticeIn c))

/-- QUEUE_CFG (R172): Assigns or reweights a job's TC2 or TC3 queue on a port, effective at the next boundary. -/
def execQueueCfg (c : Cmd) (s : State) : Host.Outcome State Fault Refusal :=
  .next (settle s (s.queueCfg c))

/-- QUEUE_RELEASE (R390): Releases a job's queue on a port after serving its packets. -/
def execQueueRelease (c : Cmd) (s : State) : Host.Outcome State Fault Refusal :=
  .next (settle s (s.queueRelease c))

/-- SHAPER_SET (R182): Sets or enables a weighted queue's shaper. -/
def execShaperSet (c : Cmd) (s : State) : Host.Outcome State Fault Refusal :=
  .next (settle s (s.shaperSet c))

/-- POLICER_SET (R181): Configures a down port's policer. -/
def execPolicerSet (c : Cmd) (s : State) : Host.Outcome State Fault Refusal :=
  .next (settle s (s.policerSet c))

/-- TC1_ADMIT (R187): Computes the route, holds reservations on every hop and commits them at one boundary, or releases them. -/
def execTc1Admit (c : Cmd) (s : State) : Host.Outcome State Fault Refusal :=
  .next (settle s (s.tc1Admit c))

/-- TC1_RELEASE (R390): Releases a flow's reservations on every hop at the next boundary. -/
def execTc1Release (c : Cmd) (s : State) : Host.Outcome State Fault Refusal :=
  .next (settle s (s.tc1Release c))

/-- TC1_QUERY (R390): Returns a flow's AT_RISK and REVOKED flags, bound and hop count. -/
def execTc1Query (c : Cmd) (s : State) : Host.Outcome State Fault Refusal :=
  .next (settle s (s.tc1Query c))

/-- TC1_HOP_HOLD (R187): A peer reservation is checked and held at this hop, returning its hop bound. -/
def execTc1HopHold (c : Cmd) (s : State) : Host.Outcome State Fault Refusal :=
  .next (settle s (s.tc1HopHold c))

/-- TC1_HOP_COMMIT (R187): A held hop reservation is committed at the named boundary. -/
def execTc1HopCommit (c : Cmd) (s : State) : Host.Outcome State Fault Refusal :=
  .next (settle s (s.tc1HopCommit c))

/-- TC1_HOP_RELEASE (R187): A held or committed hop reservation is released. -/
def execTc1HopRelease (c : Cmd) (s : State) : Host.Outcome State Fault Refusal :=
  .next (settle s (s.tc1HopRelease c))

end Sys2Proof.Machine
end

