-- ==== Sys2Proof/Machine/PairRows.lean ====
section
/-! DEFINITION. The meanings of the commands of the mirrored pair: one for each row of the operation table. Each is the row's own effect, then what follows every command (`settle`). -/

namespace Sys2Proof.Machine

/-- HEARTBEAT_TIMER (R430): Every 2 µs a member sends HEARTBEAT on each active mirror port. -/
def execHeartbeatTimer (s : State) : Host.Outcome State Fault Refusal :=
  .next (settle s (s.heartbeatSend))

/-- HEARTBEAT_RECEIVED (R430): A partner heartbeat is received, renewing contact. -/
def execHeartbeatReceived (p : Nat) (pkt : Pkt) (s : State) : Host.Outcome State Fault Refusal :=
  .next (settle s (if p < 192 then s.heartbeatIn p pkt else s))

/-- LOSS_OF_CONTACT (R430): No heartbeat for 10 µs; PAIR_LOST is raised and arbitration begins. -/
def execLossOfContact (s : State) : Host.Outcome State Fault Refusal :=
  .next (settle s (s.loseContact))

/-- ARBITRATION_TEST (R432): At its arbitration time a member tests the chips' HOME_STATE reports and takes over or self-fences. -/
def execArbitrationTest (s : State) : Host.Outcome State Fault Refusal :=
  .next (settle s (s.arbitrate))

/-- HOME_STATE_RECEIVED (R431): A dual-homed chip's HOME_STATE report is recorded. -/
def execHomeStateReceived (p : Nat) (pkt : Pkt) (s : State) : Host.Outcome State Fault Refusal :=
  .next (settle s (if p < 192 then s.homeStateIn p pkt else s))

/-- PAIR_AUTO_FORM (R420): With AUTO_FORM and paired IDENTITY, a READY module begins formation by itself. -/
def execPairAutoForm (s : State) : Host.Outcome State Fault Refusal :=
  .next (settle s (s.pairAutoForm))

/-- PAIR_FORMATION_COMPLETE (R420): The formation checks end; the members enter PAIRED or REFUSED. -/
def execPairFormationComplete (info : PairInfo) (s : State) : Host.Outcome State Fault Refusal :=
  .next (settle s (s.pairFormation info))

/-- RESYNC_COPY_COMPLETE (R435): Mirrored objects, protected regions and standby reservations are copied to the returning member. -/
def execResyncCopyComplete (failed : Nat) (s : State) : Host.Outcome State Fault Refusal :=
  .next (settle s (s.resyncDone failed))

end Sys2Proof.Machine
end

