-- ==== Sys2Proof/Machine/PowerRows.lean ====
section
/-! DEFINITION. The meanings of the commands of power, clocks, temperature, power states: one for each row of the operation table. Each is the row's own effect, then what follows every command (`settle`). -/

namespace Sys2Proof.Machine

/-- START_CONDITION (R480): The input holds 42 V for 10 ms; stage one starts and start-up begins (cold start). -/
def execStartCondition (s : State) : Host.Outcome State Fault Refusal :=
  .next (settle s (s.startCondition))

/-- PF_WARN (R480): The input falls below 38 V; PF_WARN_N asserts and the power-fail sequence begins. -/
def execPfWarn (s : State) : Host.Outcome State Fault Refusal :=
  .next (settle s (s.pfWarnIn))

/-- POWER_SAMPLE (R481): Every 10 µs stage one's input voltage, current and temperature are read. -/
def execPowerSample (mv : Nat) (ma : Nat) (temp : Nat) (s : State) : Host.Outcome State Fault Refusal :=
  .next (settle s (s.powerReading mv ma temp))

/-- CAPPING_LOOP (R492): Every 50 µs Keeper lowers or raises one island class by a step to hold the power cap. -/
def execCappingLoop (watts : Nat) (s : State) : Host.Outcome State Fault Refusal :=
  .next (settle s (s.capLoop watts))

/-- DEN_THERMAL_LOOP (R494): A hot den takes a thermal step each 50 µs, or gives one back each 1 ms below 97 °C. -/
def execDenThermalLoop (den : Nat) (temp : Nat) (s : State) : Host.Outcome State Fault Refusal :=
  .next (settle s (if den < 4 then s.thermalLoop den temp else s))

/-- AVS_ADJUST (R486): Every second Keeper compares ring oscillators and may raise an island's voltage point. -/
def execAvsAdjust (islands : List Nat) (s : State) : Host.Outcome State Fault Refusal :=
  .next (settle s (s.avs islands))

/-- ISLAND_STEP_COMPLETE (R487): An island's voltage and frequency step completes. -/
def execIslandStepComplete (i : Nat) (s : State) : Host.Outcome State Fault Refusal :=
  .next (settle s (s.islandStep i))

/-- PHASE_FAULT (R484): A phase exceeds its current or temperature limit; it is stopped and its rail limited. -/
def execPhaseFault (phase : Nat) (s : State) : Host.Outcome State Fault Refusal :=
  .next (settle s (s.phaseFaultIn phase))

/-- RAIL_FAULT (R484): A core rail leaves regulation, raising RAIL_FAULT and resetting the module. -/
def execRailFault (den : Nat) (s : State) : Host.Outcome State Fault Refusal :=
  .next (settle s (if den < 4 then s.railOut den else s))

/-- REF_LOST (R489): No reference edge for 100 ns; island generators run free and REF_LOST is set. -/
def execRefLost (s : State) : Host.Outcome State Fault Refusal :=
  .next (settle s (s.refLostIn))

/-- REF_RELOCK (R489): The reference returns, and the generators relock. -/
def execRefRelock (s : State) : Host.Outcome State Fault Refusal :=
  .next (settle s (s.refBack))

/-- DROWSE_DRAIN_TIMEOUT (R498): The 1 ms forwarding window of DROWSE entry ends; remaining packets are discarded and entry completes. -/
def execDrowseDrainTimeout (s : State) : Host.Outcome State Fault Refusal :=
  .next (settle s (s.drainOut))

/-- HIBERNATE_ENTRY_COMPLETE (R499): Keeper's SRAM is saved, DRAM is in self-refresh and rails except VAON, VSTACK and VLP6 are lowered. -/
def execHibernateEntryComplete (s : State) : Host.Outcome State Fault Refusal :=
  .next (settle s (s.hibernated))

/-- WAKE_N (R500): WAKE_N held low 1 µs in HIBERNATE starts a wake. -/
def execWakeN (s : State) : Host.Outcome State Fault Refusal :=
  .next (settle s (s.wakeRequest))

/-- I3C_WAKE_REQUEST (R500): A wake request over I3C starts a wake from HIBERNATE. -/
def execI3cWakeRequest (s : State) : Host.Outcome State Fault Refusal :=
  .next (settle s (s.wakeRequest))

/-- WAKE_COMPLETE (R500): A wake from HIBERNATE reaches RUN, or becomes a reset when a check fails. -/
def execWakeComplete (ok : Bool) (s : State) : Host.Outcome State Fault Refusal :=
  .next (settle s (s.wakeComplete ok))

/-- CORE_POWER_ON_COMPLETE (R497): A gated core in TRIM finishes powering on for the command that needs it. -/
def execCorePowerOnComplete (core : Nat) (s : State) : Host.Outcome State Fault Refusal :=
  .next (settle s (if core < 128 then s.powerOn core else s))

/-- DEN_JUNCTION_TEMPERATURE (R494): A den's junction temperature crosses 100 °C, 97 °C or 105 °C, or a Sett island runs 22 °C hotter than a neighbour, starting or ending DEN_HOT throttling, throttling that island, or raising DEN_OVERTEMP. -/
def execDenJunctionTemperature (den : Nat) (temp : Nat) (isl : List (Nat × Nat)) (s : State) : Host.Outcome State Fault Refusal :=
  .next (settle s (if den < 4 then s.denTemp den temp isl else s))

/-- DROWSE_WAKE_COMPLETE (R498): The reversal of the DROWSE steps completes; the module sends ROUTING ACCEPT = 1, attached cores resume, and POWER_STATE gets its final reply in RUN. -/
def execDrowseWakeComplete (s : State) : Host.Outcome State Fault Refusal :=
  .next (settle s (s.drowseWoken))

end Sys2Proof.Machine
end

