-- ==== Sys2Proof/Machine/ResetRows.lean ====
section
/-! DEFINITION. The meanings of the commands of reset, start-up and time: one for each row of the operation table. Each is the row's own effect, then what follows every command (`settle`). -/

namespace Sys2Proof.Machine

/-- PIN_RESET_ASSERT (R507): RESET_N low for 1 µs holds every block but Owl in reset and lowers rails. -/
def execPinResetAssert (s : State) : Host.Outcome State Fault Refusal :=
  .next (settle s (s.pinAssert))

/-- PIN_RESET_RELEASE (R507): RESET_N returns high, and start-up begins at step 1. -/
def execPinResetRelease (s : State) : Host.Outcome State Fault Refusal :=
  .next (settle s (s.pinRelease))

/-- ENDPOINT_RESET (R548): PERST#, hot reset or FLR resets configuration space, MSI-X, slots and host registers only. -/
def execEndpointReset (s : State) : Host.Outcome State Fault Refusal :=
  .next (settle s (s.endpointReset))

/-- PCIE_LINK_DOWN (R548): The PCI Express link goes down; reply writes are discarded and counted. -/
def execPcieLinkDown (s : State) : Host.Outcome State Fault Refusal :=
  .next (settle s (s.linkDownPcie))

/-- BOOT_CHAIN_VERIFIED (R466): The boot chain of one slot passes; the alias key is derived and Keeper is released into WIPE. -/
def execBootChainVerified (slot : Nat) (key : Nat) (ctr : Nat) (s : State) : Host.Outcome State Fault Refusal :=
  .next (settle s (s.bootChain slot key ctr))

/-- CHANNEL_TRAINING_COMPLETE (R510): A channel finishes start-up training, or fails and is fenced. -/
def execChannelTrainingComplete (slow : Bool) (ch : Nat) (ok : Bool) (s : State) : Host.Outcome State Fault Refusal :=
  .next (settle s (s.channelTrained slow ch ok))

/-- WIPE_COMPLETE (R511): Training, self-test, repair load and zeroing are done; the module leaves WIPE for CONFIG. -/
def execWipeComplete (failed : List (Nat × Nat × Nat)) (s : State) : Host.Outcome State Fault Refusal :=
  .next (settle s (s.wipeDone failed))

/-- BOOT_RECORD_BASE_LOAD (R409): In CONFIG Keeper loads and applies the base named by the boot record, falling back to others. -/
def execBootRecordBaseLoad (areasOk : Bool) (s : State) : Host.Outcome State Fault Refusal :=
  .next (settle s (s.bootBaseLoad areasOk))

/-- EPOCH_PULSE (R55): An EPOCH pulse sets or checks rack time and applies changes pending for the boundary. -/
def execEpochPulse (s : State) : Host.Outcome State Fault Refusal :=
  .next (settle s (s.epochPulse))

/-- EPOCH_MISSING (R55): 1.5 periods pass without a pulse, and the EPOCH_MISSING condition begins. -/
def execEpochMissing (s : State) : Host.Outcome State Fault Refusal :=
  .next (settle s (s.epochMissing))

/-- EPOCH_LOAD_WRITE (R569): A write to EPOCH_LOAD sets the rack time for the next pulse and sets LOAD_PEND. -/
def execEpochLoadWrite (v : Nat) (s : State) : Host.Outcome State Fault Refusal :=
  .next (settle s (s.epochLoadWrite v))

/-- EPOCH_PERIOD_WRITE (R569): A valid write to EPOCH_PERIOD governs the expected time of the next pulse. -/
def execEpochPeriodWrite (v : Nat) (s : State) : Host.Outcome State Fault Refusal :=
  .next (settle s (s.epochPeriodWrite v))

/-- DIR_STAT_TIMEOUT (R569): No exchange succeeds on a direction for 1 ms; its GOOD count returns to 0. -/
def execDirStatTimeout (dir : Nat) (s : State) : Host.Outcome State Fault Refusal :=
  .next (settle s (if dir < 4 then s.dirStale dir else s))

end Sys2Proof.Machine
end

