-- ==== Sys2Proof/Machine/SettCmds.lean ====
section
/-! DEFINITION. The meanings of the commands of core, program and binding commands: one for each row of the operation table. Each is the row's own effect, then what follows every command (`settle`). -/

namespace Sys2Proof.Machine

/-- CORE_ASSIGN (R393): Gives visible cores to a job. -/
def execCoreAssign (c : Cmd) (s : State) : Host.Outcome State Fault Refusal :=
  .next (settle s (s.coreAssign c))

/-- CORE_RETURN (R393): Takes visible cores back from their job. -/
def execCoreReturn (c : Cmd) (s : State) : Host.Outcome State Fault Refusal :=
  .next (settle s (s.coreReturn c))

/-- PROG_LOAD_REGION (R311): Loads and checks a program image taken from a region. -/
def execProgLoadRegion (c : Cmd) (s : State) : Host.Outcome State Fault Refusal :=
  .next (settle s (s.progLoadRegion c))

/-- PROG_LOAD_PART (R394): Stages one part of an image and checks it when IMAGE_LEN is reached. -/
def execProgLoadPart (c : Cmd) (s : State) : Host.Outcome State Fault Refusal :=
  .next (settle s (s.progLoadPart c))

/-- PROG_UNLOAD (R393): Unloads a program no binding names. -/
def execProgUnload (c : Cmd) (s : State) : Host.Outcome State Fault Refusal :=
  .next (settle s (s.progUnload c))

/-- BIND (R312): Creates a binding with parameters and, for PROGRAM, its cores. -/
def execBind (c : Cmd) (s : State) : Host.Outcome State Fault Refusal :=
  .next (settle s (s.bind c))

/-- UNBIND (R313): Removes a binding that has no running or attached cores. -/
def execUnbind (c : Cmd) (s : State) : Host.Outcome State Fault Refusal :=
  .next (settle s (s.unbind c))

/-- LAUNCH (R312): Starts every core of an IDLE PROGRAM binding at ENTRY. -/
def execLaunch (c : Cmd) (s : State) : Host.Outcome State Fault Refusal :=
  .next (settle s (s.launch c))

/-- PROG_WAIT (R393): Replies when the binding is DONE, with exit codes. -/
def execProgWait (c : Cmd) (s : State) : Host.Outcome State Fault Refusal :=
  .next (settle s (s.progWait c))

/-- PROG_STOP (R313): Halts a binding's cores without raising a fault. -/
def execProgStop (c : Cmd) (s : State) : Host.Outcome State Fault Refusal :=
  .next (settle s (s.progStop c))

/-- PROG_QUERY (R393): Returns a binding's core states. -/
def execProgQuery (c : Cmd) (s : State) : Host.Outcome State Fault Refusal :=
  .next (settle s (s.progQuery c))

end Sys2Proof.Machine
end

