-- ==== Sys2Proof/Machine/SettRows.lean ====
section
/-! DEFINITION. The meanings of the commands of Sett cores: one for each row of the operation table. Each is the row's own effect, then what follows every command (`settle`). -/

namespace Sys2Proof.Machine

/-- AQ_COMMIT (R305): The control core enqueues the staged array command, holding while the queue is full. -/
def execAqCommit (core : Nat) (words : List Nat) (s : State) : Host.Outcome State Fault Refusal :=
  .next (settle s (s.onCore core (fun s => s.setCore core ((s.core core).aqCommit words))))

/-- MATMUL (R269): An array MATMUL command starts after the interlock clears and runs its panels through the array. -/
def execMatmul (core : Nat) (err : Option (Nat × Nat)) (s : State) : Host.Outcome State Fault Refusal :=
  .next (settle s (s.onCore core (fun s => s.arrayStart core 1 err)))

/-- ELEM (R273): An array ELEM command starts and computes element-wise products into accumulators. -/
def execElem (core : Nat) (err : Option (Nat × Nat)) (s : State) : Host.Outcome State Fault Refusal :=
  .next (settle s (s.onCore core (fun s => s.arrayStart core 2 err)))

/-- ARRAY_COMPLETION (R266): An array command completes after its last accumulator write, posting status and flags. -/
def execArrayCompletion (core : Nat) (s : State) : Host.Outcome State Fault Refusal :=
  .next (settle s (s.onCore core (fun s => if (s.core core).array.isSome then (s.arrayDone core).noteIdle core else s)))

/-- VQ_COMMIT (R305): The control core enqueues the staged vector command, whose descriptors are read. -/
def execVqCommit (core : Nat) (words : List Nat) (s : State) : Host.Outcome State Fault Refusal :=
  .next (settle s (s.onCore core (fun s => s.setCore core ((s.core core).vqCommit words))))

/-- CHAIN (R296): A vector CHAIN command starts after its predecessor and the interlock, running fused stages and reductions. -/
def execChain (core : Nat) (err : Option (Nat × Nat)) (s : State) : Host.Outcome State Fault Refusal :=
  .next (settle s (s.onCore core (fun s => s.setCore core ((s.core core).chainStart err))))

/-- SETPRED (R299): A SETPRED command writes all eight predicates at its turn in the queue. -/
def execSetpred (core : Nat) (s : State) : Host.Outcome State Fault Refusal :=
  .next (settle s (s.onCore core (fun s => s.setPred core)))

/-- VECTOR_COMPLETION (R298): A chain completes; the summary is formed, posted and may set a predicate. -/
def execVectorCompletion (core : Nat) (s : State) : Host.Outcome State Fault Refusal :=
  .next (settle s (s.onCore core (fun s => s.vecDone core)))

/-- MQ_COMMIT (R305): The control core enqueues the staged mover command. -/
def execMqCommit (core : Nat) (words : List Nat) (s : State) : Host.Outcome State Fault Refusal :=
  .next (settle s (s.onCore core (fun s => s.setCore core ((s.core core).mqCommit words))))

/-- GET (R307): A mover GET copies remote bytes into local SRAM after the ownership checks. -/
def execMovGet (core : Nat) (s : State) : Host.Outcome State Fault Refusal :=
  .next (settle s (s.onCore core (fun s => s.movGet core)))

/-- PUT (R307): A mover PUT copies local bytes to a remote space after the ownership checks. -/
def execMovPut (core : Nat) (bad : List Nat) (s : State) : Host.Outcome State Fault Refusal :=
  .next (settle s (s.onCore core (fun s => s.movPut core bad)))

/-- GATHER (R307): A mover GATHER reads listed 64-byte sectors into local SRAM. -/
def execGather (core : Nat) (s : State) : Host.Outcome State Fault Refusal :=
  .next (settle s (s.onCore core (fun s => s.movGather core)))

/-- SEND (R307): A mover SEND builds a packet from a local header and payload and hands it, or a multicast, to the slice. -/
def execSend (core : Nat) (s : State) : Host.Outcome State Fault Refusal :=
  .next (settle s (s.onCore core (fun s => s.movSend core)))

/-- MOVER_COMPLETION (R309): A mover command completes with its status and byte count. -/
def execMoverCompletion (core : Nat) (s : State) : Host.Outcome State Fault Refusal :=
  .next (settle s (s.onCore core (fun s => s.movDone core)))

/-- ACOMP_POP (R305): A read of ACOMP_POP moves the oldest array completion into its record area. -/
def execAcompPop (core : Nat) (s : State) : Host.Outcome State Fault Refusal :=
  .next (settle s (s.onCore core (fun s => s.acompPop core)))

/-- VSUM_POP (R305): A read of VSUM_POP moves the oldest vector summary into its record area. -/
def execVsumPop (core : Nat) (s : State) : Host.Outcome State Fault Refusal :=
  .next (settle s (s.onCore core (fun s => s.vsumPop core)))

/-- MCOMP_POP (R305): A read of MCOMP_POP moves the oldest mover completion into its record area. -/
def execMcompPop (core : Nat) (s : State) : Host.Outcome State Fault Refusal :=
  .next (settle s (s.onCore core (fun s => s.mcompPop core)))

/-- INBOX_POP (R305): A read of INBOX_POP moves the oldest work item into INBOX. -/
def execInboxPop (core : Nat) (s : State) : Host.Outcome State Fault Refusal :=
  .next (settle s (s.onCore core (fun s => s.inboxPop core)))

/-- SEGMENT_FINISHED (R312): An OUTBOX item of KIND 1 finishes a SEGMENT, and its chunk slot is freed. -/
def execSegmentFinished (core : Nat) (item : Nat) (s : State) : Host.Outcome State Fault Refusal :=
  .next (settle s (s.onCore core (fun s => s.segFinished core item)))

/-- ITEM_RELEASE (R312): An OUTBOX item of KIND 2 releases a TOKEN or LOOKUP item and frees its cells. -/
def execItemRelease (core : Nat) (item : Nat) (s : State) : Host.Outcome State Fault Refusal :=
  .next (settle s (s.onCore core (fun s => s.itemRelease core item)))

/-- DISPATCH (R324): An OUTBOX DISPATCH item hands a token's probabilities to the dispatch unit, which selects, weights, decides capacity and sends copies. -/
def execDispatch (core : Nat) (words : List Nat) (s : State) : Host.Outcome State Fault Refusal :=
  .next (settle s (s.onCore core (fun s => s.dispatchOut core words)))

/-- EXIT (R313): A write to EXIT ends the program on its core, and the core is wiped. -/
def execProgExit (core : Nat) (code : Nat) (s : State) : Host.Outcome State Fault Refusal :=
  .next (settle s (s.onCore core (fun s => s.progExit core code)))

/-- CONTROL_TIMER_EXPIRY (R305): CYCLE reaches TIMER, and the timer event is raised. -/
def execControlTimerExpiry (core : Nat) (s : State) : Host.Outcome State Fault Refusal :=
  .next (settle s (s.onCore core (fun s => s.timerExpiry core)))

/-- SETT_PROG_FAULT (R306): An unhandled trap or TCM error halts the control core, its engines and the binding's other cores. -/
def execSettProgFault (core : Nat) (cause : Nat) (pc : Nat) (tval : Nat) (s : State) : Host.Outcome State Fault Refusal :=
  .next (settle s (s.onCore core (fun s => s.progFault core cause pc tval)))

/-- STOP_TIMEOUT (R313): An attached core has not written EXIT 100 µs after STOP; it is halted. -/
def execStopTimeout (core : Nat) (s : State) : Host.Outcome State Fault Refusal :=
  .next (settle s (s.onCore core (fun s => s.stopTimeout core)))

/-- REPAIR_LOAD (R279): A waiting repair load runs once its core is unbound and idle, applying repairs, LAT and the visible map. -/
def execRepairLoad (core : Nat) (s : State) : Host.Outcome State Fault Refusal :=
  .next (settle s (if core < 128 then s.repairLoad core else s))

/-- SELFTEST_COMPLETE (R280): The array self-test ends, adding field repairs or fencing the core. -/
def execSelftestComplete (core : Nat) (res : Nat) (row : Nat) (s : State) : Host.Outcome State Fault Refusal :=
  .next (settle s (if core < 128 then s.selftestEnd core res row else s))

/-- CHAR_ALL_WRITE (R283): A write to CHAR_ALL in SERVICE schedules a repair load of every core under the new map. -/
def execCharAllWrite (v : Bool) (s : State) : Host.Outcome State Fault Refusal :=
  .next (settle s (s.charAllRow v))

/-- SETT_START_LIMIT (R485): A Sett array held back by the current-step limit may start in the next 100 ns window. -/
def execSettStartLimit (core : Nat) (s : State) : Host.Outcome State Fault Refusal :=
  .next (settle s (if core < 128 then s.startLimitEnds core else s))

end Sys2Proof.Machine
end

