-- ==== Sys2Proof/Machine/SlotRows.lean ====
section
/-! DEFINITION. The meanings of the commands of the command interface, replies and stagings: one for each row of the operation table. Each is the row's own effect, then what follows every command (`settle`). -/

namespace Sys2Proof.Machine

/-- APERTURE_WRITE (R371): A host write to a command slot is recorded, and the command is accepted once its header and LEN are complete. -/
def execApertureWrite (slot : Nat) (off : Nat) (bytes : List Byte) (s : State) : Host.Outcome State Fault Refusal :=
  .next (settle s (s.apertureWrite slot off bytes))

/-- SLOT_FILL_TIMEOUT (R371): A slot stays FILLING for FILL_MS; it returns to IDLE with a BAD_LENGTH reply. -/
def execSlotFillTimeout (slot : Nat) (s : State) : Host.Outcome State Fault Refusal :=
  .next (settle s (s.slotFillTimeout slot))

/-- PROGRESS_REPLY_TIMER (R382): Every PROGRESS_MS a LONG command without QUIET sends an ACCEPTED progress reply. -/
def execProgressReplyTimer (id : Nat) (s : State) : Host.Outcome State Fault Refusal :=
  .next (settle s (s.progressReply id))

/-- REPLY_WRITE_REFUSED (R373): The host refuses a reply write; CMD_REPLY_FAIL is raised and the command's effect stands. -/
def execReplyWriteRefused (_slot : Nat) (s : State) : Host.Outcome State Fault Refusal :=
  .next (settle s (s.replyRefused))

/-- PEER_COMMAND_TIMEOUT (R385): A relayed leaf does not act within the class bound; the command fails with INTERNAL and is undone. -/
def execPeerCommandTimeout (dst : Nat) (tag : Nat) (s : State) : Host.Outcome State Fault Refusal :=
  .next (settle s (s.peerTimeout dst tag))

/-- IMAGE_VERIFY_COMPLETE (R405): Verification of a configuration image ends, and the image is applied, staged or discarded. -/
def execImageVerifyComplete (id : Nat) (image : List Byte) (flashOk : Bool) (areasOk : Bool) (s : State) : Host.Outcome State Fault Refusal :=
  .next (settle s (s.imageVerified id image flashOk areasOk))

/-- PROG_STAGING_TIMEOUT (R394): A program staging receives no part for 100 ms and is discarded. -/
def execProgStagingTimeout (src : Src) (s : State) : Host.Outcome State Fault Refusal :=
  .next (settle s (s.stagingTimeout src))

/-- PROG_IMAGE_VERIFY_COMPLETE (R311): The checks of a Sett program image end; the program is loaded with its handle and measurement, or the LONG command fails. -/
def execProgImageVerifyComplete (id : Nat) (s : State) : Host.Outcome State Fault Refusal :=
  .next (settle s (s.progVerified id))

/-- BULK_XFER_COMPLETE (R392): The bus-master transfer of a BULK_XFER ends, and the final reply reports the bytes moved, or ERR_DATA. -/
def execBulkXferComplete (id : Nat) (data : List Byte) (s : State) : Host.Outcome State Fault Refusal :=
  .next (settle s (s.bulkDone id data))

end Sys2Proof.Machine
end

