-- ==== Sys2Proof/Machine/StreamRows.lean ====
section
/-! DEFINITION. The meanings of the commands of streams, completions and packets to the module itself: one for each row of the operation table. Each is the row's own effect, then what follows every command (`settle`). -/

namespace Sys2Proof.Machine

/-- RESEND_TIMEOUT (R120): A tracked packet has been outstanding for RTO; it is resent on another port, or held. -/
def execResendTimeout (dst : Nat) (tc : Nat) (seq : Nat) (s : State) : Host.Outcome State Fault Refusal :=
  .next (settle s (s.resendTimeout dst tc seq))

/-- PATH_HOLD_TIMEOUT (R120): A packet of an operation without deadline has been held 100 ms; the operation fails with PATH_LOST and the stream reopens. -/
def execPathHoldTimeout (dst : Nat) (tc : Nat) (s : State) : Host.Outcome State Fault Refusal :=
  .next (settle s (s.pathHold dst tc))

/-- OPERATION_DEADLINE (R120): A held operation's deadline passes; it fails with DEADLINE_MISS and the stream reopens. -/
def execOperationDeadline (dst : Nat) (tc : Nat) (s : State) : Host.Outcome State Fault Refusal :=
  .next (settle s (s.opDeadline dst tc))

/-- ACK_TIMER (R118): 1 µs after the first unacknowledged arrival, the destination sends an ACK. -/
def execAckTimer (src : Nat) (tc : Nat) (s : State) : Host.Outcome State Fault Refusal :=
  .next (settle s (s.ackTimer src tc))

/-- RATE_INCREASE_TIMER (R127): After 10 µs without an ECE completion, a source raises its rate toward the port rate. -/
def execRateIncreaseTimer (dst : Nat) (tc : Nat) (s : State) : Host.Outcome State Fault Refusal :=
  .next (settle s (s.rateUp dst tc))

/-- ACK_RECEIVED (R116): A COMPLETION of kind ACK releases acknowledged packets, updates ACK_SEQ and WIN, and applies the rate response. -/
def execAckReceived (p : Nat) (pkt : Pkt) (s : State) : Host.Outcome State Fault Refusal :=
  .next (settle s (if p < 192 then s.ackPkt p pkt else s))

/-- OPEN_RECEIVED (R114): A COMPLETION of kind OPEN sets the stream base, or is treated as a repeat, and is answered with OPEN_ACK. -/
def execOpenReceived (p : Nat) (pkt : Pkt) (s : State) : Host.Outcome State Fault Refusal :=
  .next (settle s (if p < 192 then s.openPkt p pkt else s))

/-- OPEN_ACK_RECEIVED (R114): An OPEN_ACK lets the source send data, or a new INCARNATION makes it reopen and resend. -/
def execOpenAckReceived (p : Nat) (pkt : Pkt) (s : State) : Host.Outcome State Fault Refusal :=
  .next (settle s (if p < 192 then s.openAckPkt p pkt else s))

/-- RESYNC_RECEIVED (R114): A RESYNC makes the source reopen the stream at its lowest unacknowledged SEQ. -/
def execResyncReceived (p : Nat) (pkt : Pkt) (s : State) : Host.Outcome State Fault Refusal :=
  .next (settle s (if p < 192 then s.resyncPkt p pkt else s))

/-- STATUS_COMPLETION_RECEIVED (R592): A STATUS COMPLETION is routed to the issuing block, or discarded and counted when it matches nothing. -/
def execStatusCompletionReceived (p : Nat) (pkt : Pkt) (s : State) : Host.Outcome State Fault Refusal :=
  .next (settle s (if p < 192 then s.statusPkt p pkt else s))

/-- WRITE_RECEIVED (R347): A WRITE is checked against regions and applied through the write-combining buffer, or refused with a STATUS. -/
def execWriteReceived (p : Nat) (pkt : Pkt) (s : State) : Host.Outcome State Fault Refusal :=
  .next (settle s (if p < 192 then s.writePkt p pkt else s))

/-- READ_REQ_RECEIVED (R347): A READ_REQ is checked and answered with READ_RESP, or with a STATUS such as ERR_DATA. -/
def execReadReqReceived (p : Nat) (pkt : Pkt) (s : State) : Host.Outcome State Fault Refusal :=
  .next (settle s (if p < 192 then s.readReqPkt p pkt else s))

/-- READ_RESP_RECEIVED (R20): A READ_RESP is delivered to the block that issued the read. -/
def execReadRespReceived (p : Nat) (pkt : Pkt) (s : State) : Host.Outcome State Fault Refusal :=
  .next (settle s (if p < 192 then s.readRespPkt p pkt else s))

/-- CMD_PACKET_RECEIVED (R374): A CMD packet's command is checked, de-duplicated by TAG, and accepted or answered. -/
def execCmdPacketReceived (p : Nat) (pkt : Pkt) (s : State) : Host.Outcome State Fault Refusal :=
  .next (settle s (if p < 192 then s.cmdPacket p pkt else s))

/-- CMD_REPLY_RECEIVED (R20): A CMD_REPLY is matched by TAG to a peer command this module issued, or discarded. -/
def execCmdReplyReceived (p : Nat) (pkt : Pkt) (s : State) : Host.Outcome State Fault Refusal :=
  .next (settle s (if p < 192 then s.replyPkt p pkt else s))

/-- RESEND_REQ_RECEIVED (R123): A RESEND_REQ is answered from the held result or slot, or ignored and counted. -/
def execResendReqReceived (p : Nat) (pkt : Pkt) (s : State) : Host.Outcome State Fault Refusal :=
  .next (settle s (if p < 192 then s.resendPkt p pkt else s))

/-- TEST_PACKET_RECEIVED (R529): A TEST packet reaches a Fox checker flow, which counts sequence, payload and latency. -/
def execTestPacketReceived (p : Nat) (pkt : Pkt) (s : State) : Host.Outcome State Fault Refusal :=
  .next (settle s (if p < 192 then s.testPkt p pkt else s))

/-- OPEN_REPEAT_TIMER (R114): An OPEN unanswered for RTO, or answered RESOURCE_BUSY 100 µs earlier, is sent again. -/
def execOpenRepeatTimer (dst : Nat) (tc : Nat) (s : State) : Host.Outcome State Fault Refusal :=
  .next (settle s (s.openRepeat dst tc))

/-- RESPONSE_TIMEOUT (R122): A request or peer command that the module issued has had no response within RTO, or a RESEND_REQ no answer, and is sent again. -/
def execResponseTimeout (i : Nat) (s : State) : Host.Outcome State Fault Refusal :=
  .next (settle s (s.responseTimeout i))

end Sys2Proof.Machine
end

