-- ==== Sys2Proof/Machine/SwitchRows.lean ====
section
/-! DEFINITION. The meanings of the commands of the switch: packets, queues, buffers, policers: one for each row of the operation table. Each is the row's own effect, then what follows every command (`settle`). -/

namespace Sys2Proof.Machine

/-- PACKET_HEADER_RECEIVED (R136): A packet header arrives and passes ingress stages 1–8: checks, partition, hops, route, policing, mirror match, allocation and release. -/
def execPacketHeaderReceived (p : Nat) (h : Hdr) (s : State) : Host.Outcome State Fault Refusal :=
  .next (settle s (if p < 192 then s.headerIn p h else s))

/-- PACKET_TRAILER_RECEIVED (R108): A packet's last byte and trailer arrive; the CRC is checked and a store-and-forward packet is released. -/
def execPacketTrailerReceived (p : Nat) (payload : List Byte) (trailer : Nat) (cwOk : Bool) (aborted : Bool) (s : State) : Host.Outcome State Fault Refusal :=
  .next (settle s (if p < 192 then s.trailerIn p payload trailer cwOk aborted else s))

/-- RESIDENCE_TIMEOUT (R105): A packet has been held more than 1 ms; it is discarded, counted and, on TC1, raises TC1_RESIDENCE. -/
def execResidenceTimeout (id : Nat) (s : State) : Host.Outcome State Fault Refusal :=
  .next (settle s (s.residenceOut id))

/-- SCHEDULER_SLOT (R148): Once per slot the central scheduler matches inputs to outputs by the service order and moves granted cells. -/
def execSchedulerSlot (den : Nat) (s : State) : Host.Outcome State Fault Refusal :=
  .next (settle s (if den < 4 then s.schedSlot den else s))

/-- PACKET_TRANSMIT_COMPLETE (R176): A packet finishes leaving an egress attachment; virtual time and shaper tokens are updated and its chain reference is released. -/
def execPacketTransmitComplete (den : Nat) (att : Nat) (s : State) : Host.Outcome State Fault Refusal :=
  .next (settle s (if den < 4 && att < 64 then s.transmitDone den att else s))

/-- BRIDGE_ARRIVAL (R150): A packet arrives through a bridge and passes stages 7 and 8 again in the egress den. -/
def execBridgeArrival (src : Nat) (dst : Nat) (s : State) : Host.Outcome State Fault Refusal :=
  .next (settle s (s.bridgeIn src dst))

/-- DEEP_PAGE_OPEN_TIMEOUT (R157): A deep-buffer page has been open for 2 µs and is written to the fast tier. -/
def execDeepPageOpenTimeout (den : Nat) (att : Nat) (q : Nat) (s : State) : Host.Outcome State Fault Refusal :=
  .next (settle s (if den < 4 && att < 64 then s.writePage den att q else s))

/-- DEEP_PAGE_READ_COMPLETE (R157): A page read back from the fast tier refills the queue's on-die head; the page is freed when its last cell is read back. -/
def execDeepPageReadComplete (den : Nat) (att : Nat) (q : Nat) (ok : Bool) (s : State) : Host.Outcome State Fault Refusal :=
  .next (settle s (if !(den < 4 && att < 64) then s else if ok then s.readPage den att q else s.readPageBad den att q))

/-- ALLOC (R139): The buffer pool manager allocates a buffer after checking range and levels. -/
def execAlloc (den : Nat) (pool : Nat) (reqDen : Nat) (s : State) : Host.Outcome State Fault Refusal :=
  .next (settle s (if den < 4 then s.bpmAlloc den pool reqDen else s))

/-- FREE (R139): The buffer pool manager frees a buffer after checks, or refuses it and raises a BPM fault. -/
def execBufFree (den : Nat) (b : BufName) (s : State) : Host.Outcome State Fault Refusal :=
  .next (settle s (if den < 4 then s.bpmOp den 1 b else s))

/-- REF_INC (R143): A chain's reference count is incremented atomically, within the limit of 255. -/
def execRefInc (den : Nat) (b : BufName) (s : State) : Host.Outcome State Fault Refusal :=
  .next (settle s (if den < 4 then s.bpmOp den 2 b else s))

/-- REF_DEC (R143): A chain's reference count is decremented, and the chain is freed when it reaches zero. -/
def execRefDec (den : Nat) (b : BufName) (s : State) : Host.Outcome State Fault Refusal :=
  .next (settle s (if den < 4 then s.bpmOp den 3 b else s))

/-- POLICER_RELEASE (R180): A packet held by a regulating policer becomes green and is passed on. -/
def execPolicerRelease (p : Nat) (i : Nat) (s : State) : Host.Outcome State Fault Refusal :=
  .next (settle s (if p < 192 then s.policerRelease p i else s))

/-- SAMPLE_TIMER (R185): Every PERIOD × 64 ns the sampling engine records one queue's depth and head wait in the ring. -/
def execSampleTimer (den : Nat) (s : State) : Host.Outcome State Fault Refusal :=
  .next (settle s (if den < 4 then s.sampleQueue den else s))

end Sys2Proof.Machine
end

