-- ==== Sys2Proof/Machine/Dispatch.lean ====
section
/-! DEFINITION. The command chooses its meaning. -/

namespace Sys2Proof.Machine

def exec (i : Instr) (s : State) : Host.Outcome State Fault Refusal :=
  match i with
  | .codewordReceived lane syms ovf => Sys2Proof.Machine.execCodewordReceived lane syms ovf s
  | .huntDegradeTimeout p => Sys2Proof.Machine.execHuntDegradeTimeout p s
  | .tsBlockReceived lane t => Sys2Proof.Machine.execTsBlockReceived lane t s
  | .eqComplete p pass offset => Sys2Proof.Machine.execEqComplete p pass offset s
  | .eqTimeout p => Sys2Proof.Machine.execEqTimeout p s
  | .deskewComplete p ids => Sys2Proof.Machine.execDeskewComplete p ids s
  | .deskewTimeout p => Sys2Proof.Machine.execDeskewTimeout p s
  | .identTimeout p => Sys2Proof.Machine.execIdentTimeout p s
  | .identityRepeatTimer p => Sys2Proof.Machine.execIdentityRepeatTimer p s
  | .identityMessageReceived p pkt => Sys2Proof.Machine.execIdentityMessageReceived p pkt s
  | .trainRetryHoldExpiry p => Sys2Proof.Machine.execTrainRetryHoldExpiry p s
  | .holdDownExpiry p => Sys2Proof.Machine.execHoldDownExpiry p s
  | .downHoldExpiry p => Sys2Proof.Machine.execDownHoldExpiry p s
  | .identityCheckTimeout p => Sys2Proof.Machine.execIdentityCheckTimeout p s
  | .fcStateReceived p m => Sys2Proof.Machine.execFcStateReceived p m s
  | .widthReqReceived p m => Sys2Proof.Machine.execWidthReqReceived p m s
  | .widthAckReceived p m => Sys2Proof.Machine.execWidthAckReceived p m s
  | .widthSwitch p => Sys2Proof.Machine.execWidthSwitch p s
  | .widthChangeTimeout p => Sys2Proof.Machine.execWidthChangeTimeout p s
  | .widenProposalLapse p => Sys2Proof.Machine.execWidenProposalLapse p s
  | .laneRetrainReceived p m => Sys2Proof.Machine.execLaneRetrainReceived p m s
  | .soakComplete p k => Sys2Proof.Machine.execSoakComplete p k s
  | .laneRetrainComplete p k => Sys2Proof.Machine.execLaneRetrainComplete p k s
  | .laneErrorLimitExceeded p k => Sys2Proof.Machine.execLaneErrorLimitExceeded p k s
  | .tsSyncTimer p => Sys2Proof.Machine.execTsSyncTimer p s
  | .tsSyncReceived p => Sys2Proof.Machine.execTsSyncReceived p s
  | .tsRxReceived p t => Sys2Proof.Machine.execTsRxReceived p t s
  | .tsTxReceived p t => Sys2Proof.Machine.execTsTxReceived p t s
  | .tsExchangeTimeout p => Sys2Proof.Machine.execTsExchangeTimeout p s
  | .drainReceived p b => Sys2Proof.Machine.execDrainReceived p b s
  | .fcStateRepeatTimer p => Sys2Proof.Machine.execFcStateRepeatTimer p s
  | .xoffStuck p => Sys2Proof.Machine.execXoffStuck p s
  | .routingRepeatTimer => Sys2Proof.Machine.execRoutingRepeatTimer s
  | .routingReceived p pkt => Sys2Proof.Machine.execRoutingReceived p pkt s
  | .portDrained p => Sys2Proof.Machine.execPortDrained p s
  | .packetHeaderReceived p h => Sys2Proof.Machine.execPacketHeaderReceived p h s
  | .packetTrailerReceived p payload trailer cwOk aborted => Sys2Proof.Machine.execPacketTrailerReceived p payload trailer cwOk aborted s
  | .residenceTimeout id => Sys2Proof.Machine.execResidenceTimeout id s
  | .schedulerSlot den => Sys2Proof.Machine.execSchedulerSlot den s
  | .packetTransmitComplete den att => Sys2Proof.Machine.execPacketTransmitComplete den att s
  | .bridgeArrival src dst => Sys2Proof.Machine.execBridgeArrival src dst s
  | .deepPageOpenTimeout den att q => Sys2Proof.Machine.execDeepPageOpenTimeout den att q s
  | .deepPageReadComplete den att q ok => Sys2Proof.Machine.execDeepPageReadComplete den att q ok s
  | .alloc den pool reqDen => Sys2Proof.Machine.execAlloc den pool reqDen s
  | .bufFree den b => Sys2Proof.Machine.execBufFree den b s
  | .refInc den b => Sys2Proof.Machine.execRefInc den b s
  | .refDec den b => Sys2Proof.Machine.execRefDec den b s
  | .policerRelease p k => Sys2Proof.Machine.execPolicerRelease p k s
  | .sampleTimer den => Sys2Proof.Machine.execSampleTimer den s
  | .resendTimeout dst tc seq => Sys2Proof.Machine.execResendTimeout dst tc seq s
  | .pathHoldTimeout dst tc => Sys2Proof.Machine.execPathHoldTimeout dst tc s
  | .operationDeadline dst tc => Sys2Proof.Machine.execOperationDeadline dst tc s
  | .ackTimer src tc => Sys2Proof.Machine.execAckTimer src tc s
  | .rateIncreaseTimer dst tc => Sys2Proof.Machine.execRateIncreaseTimer dst tc s
  | .ackReceived p pkt => Sys2Proof.Machine.execAckReceived p pkt s
  | .openReceived p pkt => Sys2Proof.Machine.execOpenReceived p pkt s
  | .openAckReceived p pkt => Sys2Proof.Machine.execOpenAckReceived p pkt s
  | .resyncReceived p pkt => Sys2Proof.Machine.execResyncReceived p pkt s
  | .statusCompletionReceived p pkt => Sys2Proof.Machine.execStatusCompletionReceived p pkt s
  | .writeReceived p pkt => Sys2Proof.Machine.execWriteReceived p pkt s
  | .readReqReceived p pkt => Sys2Proof.Machine.execReadReqReceived p pkt s
  | .readRespReceived p pkt => Sys2Proof.Machine.execReadRespReceived p pkt s
  | .collContribReceived p pkt => Sys2Proof.Machine.execCollContribReceived p pkt s
  | .accBlockReadbackComplete ctx chunk ok => Sys2Proof.Machine.execAccBlockReadbackComplete ctx chunk ok s
  | .collPartialReceived p pkt => Sys2Proof.Machine.execCollPartialReceived p pkt s
  | .moeDispatchReceived p pkt => Sys2Proof.Machine.execMoeDispatchReceived p pkt s
  | .moeReturnReceived p pkt => Sys2Proof.Machine.execMoeReturnReceived p pkt s
  | .embLookupReceived p pkt => Sys2Proof.Machine.execEmbLookupReceived p pkt s
  | .cmdPacketReceived p pkt => Sys2Proof.Machine.execCmdPacketReceived p pkt s
  | .cmdReplyReceived p pkt => Sys2Proof.Machine.execCmdReplyReceived p pkt s
  | .resendReqReceived p pkt => Sys2Proof.Machine.execResendReqReceived p pkt s
  | .testPacketReceived p pkt => Sys2Proof.Machine.execTestPacketReceived p pkt s
  | .noticeTimer ctx => Sys2Proof.Machine.execNoticeTimer ctx s
  | .stepTimeout ctx chunk phase rdir => Sys2Proof.Machine.execStepTimeout ctx chunk phase rdir s
  | .ctxDeadlineExpiry ctx => Sys2Proof.Machine.execCtxDeadlineExpiry ctx s
  | .failureNoticeRepeat ctx => Sys2Proof.Machine.execFailureNoticeRepeat ctx s
  | .ctxReleaseHoldExpiry ctx => Sys2Proof.Machine.execCtxReleaseHoldExpiry ctx s
  | .aqCommit core words => Sys2Proof.Machine.execAqCommit core words s
  | .matmul core err => Sys2Proof.Machine.execMatmul core err s
  | .elem core err => Sys2Proof.Machine.execElem core err s
  | .arrayCompletion core => Sys2Proof.Machine.execArrayCompletion core s
  | .vqCommit core words => Sys2Proof.Machine.execVqCommit core words s
  | .chain core err => Sys2Proof.Machine.execChain core err s
  | .setpred core => Sys2Proof.Machine.execSetpred core s
  | .vectorCompletion core => Sys2Proof.Machine.execVectorCompletion core s
  | .mqCommit core words => Sys2Proof.Machine.execMqCommit core words s
  | .movGet core => Sys2Proof.Machine.execMovGet core s
  | .movPut core bad => Sys2Proof.Machine.execMovPut core bad s
  | .gather core => Sys2Proof.Machine.execGather core s
  | .send core => Sys2Proof.Machine.execSend core s
  | .moverCompletion core => Sys2Proof.Machine.execMoverCompletion core s
  | .acompPop core => Sys2Proof.Machine.execAcompPop core s
  | .vsumPop core => Sys2Proof.Machine.execVsumPop core s
  | .mcompPop core => Sys2Proof.Machine.execMcompPop core s
  | .inboxPop core => Sys2Proof.Machine.execInboxPop core s
  | .segmentFinished core item => Sys2Proof.Machine.execSegmentFinished core item s
  | .itemRelease core item => Sys2Proof.Machine.execItemRelease core item s
  | .dispatch core words => Sys2Proof.Machine.execDispatch core words s
  | .progExit core code => Sys2Proof.Machine.execProgExit core code s
  | .controlTimerExpiry core => Sys2Proof.Machine.execControlTimerExpiry core s
  | .settProgFault core cause pc tval => Sys2Proof.Machine.execSettProgFault core cause pc tval s
  | .stopTimeout core => Sys2Proof.Machine.execStopTimeout core s
  | .repairLoad core => Sys2Proof.Machine.execRepairLoad core s
  | .selftestComplete core res row => Sys2Proof.Machine.execSelftestComplete core res row s
  | .charAllWrite v => Sys2Proof.Machine.execCharAllWrite v s
  | .settStartLimit core => Sys2Proof.Machine.execSettStartLimit core s
  | .wcbAgeExpiry line => Sys2Proof.Machine.execWcbAgeExpiry line s
  | .patrolScrub line res => Sys2Proof.Machine.execPatrolScrub line res s
  | .ceRateWindow slow ch => Sys2Proof.Machine.execCeRateWindow slow ch s
  | .memTempSample den stack lp6 => Sys2Proof.Machine.execMemTempSample den stack lp6 s
  | .bankRefresh slow ch => Sys2Proof.Machine.execBankRefresh slow ch s
  | .impedanceCalibration slow ch => Sys2Proof.Machine.execImpedanceCalibration slow ch s
  | .shortRetrain slow ch ok => Sys2Proof.Machine.execShortRetrain slow ch ok s
  | .forcedFullRetrain slow ch => Sys2Proof.Machine.execForcedFullRetrain slow ch s
  | .fullRetrainComplete slow ch ok => Sys2Proof.Machine.execFullRetrainComplete slow ch ok s
  | .tierRebuildComplete den slow => Sys2Proof.Machine.execTierRebuildComplete den slow s
  | .regionWipeComplete region => Sys2Proof.Machine.execRegionWipeComplete region s
  | .uncleanFrameClear den frame => Sys2Proof.Machine.execUncleanFrameClear den frame s
  | .apertureWrite slot off bytes => Sys2Proof.Machine.execApertureWrite slot off bytes s
  | .slotFillTimeout slot => Sys2Proof.Machine.execSlotFillTimeout slot s
  | .progressReplyTimer id => Sys2Proof.Machine.execProgressReplyTimer id s
  | .replyWriteRefused slot => Sys2Proof.Machine.execReplyWriteRefused slot s
  | .peerCommandTimeout dst tag => Sys2Proof.Machine.execPeerCommandTimeout dst tag s
  | .imageVerifyComplete id image flashOk areasOk => Sys2Proof.Machine.execImageVerifyComplete id image flashOk areasOk s
  | .progStagingTimeout src => Sys2Proof.Machine.execProgStagingTimeout src s
  | .echo c => Sys2Proof.Machine.execEcho c s
  | .getInfo c => Sys2Proof.Machine.execGetInfo c s
  | .getState c => Sys2Proof.Machine.execGetState c s
  | .getJob c => Sys2Proof.Machine.execGetJob c s
  | .getStats c => Sys2Proof.Machine.execGetStats c s
  | .baseLoad c => Sys2Proof.Machine.execBaseLoad c s
  | .overlayStage c => Sys2Proof.Machine.execOverlayStage c s
  | .overlayApply c => Sys2Proof.Machine.execOverlayApply c s
  | .configQuery c => Sys2Proof.Machine.execConfigQuery c s
  | .linkSet c => Sys2Proof.Machine.execLinkSet c s
  | .linkDrain c => Sys2Proof.Machine.execLinkDrain c s
  | .linkResume c => Sys2Proof.Machine.execLinkResume c s
  | .linkRecheck c => Sys2Proof.Machine.execLinkRecheck c s
  | .linkRetrain c => Sys2Proof.Machine.execLinkRetrain c s
  | .linkQuery c => Sys2Proof.Machine.execLinkQuery c s
  | .partWrite c => Sys2Proof.Machine.execPartWrite c s
  | .partRead c => Sys2Proof.Machine.execPartRead c s
  | .routeNotice c => Sys2Proof.Machine.execRouteNotice c s
  | .queueCfg c => Sys2Proof.Machine.execQueueCfg c s
  | .queueRelease c => Sys2Proof.Machine.execQueueRelease c s
  | .shaperSet c => Sys2Proof.Machine.execShaperSet c s
  | .policerSet c => Sys2Proof.Machine.execPolicerSet c s
  | .tc1Admit c => Sys2Proof.Machine.execTc1Admit c s
  | .tc1Release c => Sys2Proof.Machine.execTc1Release c s
  | .tc1Query c => Sys2Proof.Machine.execTc1Query c s
  | .tc1HopHold c => Sys2Proof.Machine.execTc1HopHold c s
  | .tc1HopCommit c => Sys2Proof.Machine.execTc1HopCommit c s
  | .tc1HopRelease c => Sys2Proof.Machine.execTc1HopRelease c s
  | .ctxCreate c => Sys2Proof.Machine.execCtxCreate c s
  | .ctxRearm c => Sys2Proof.Machine.execCtxRearm c s
  | .ctxRelease c => Sys2Proof.Machine.execCtxRelease c s
  | .ctxAbort c => Sys2Proof.Machine.execCtxAbort c s
  | .ctxQuery c => Sys2Proof.Machine.execCtxQuery c s
  | .moePlace c => Sys2Proof.Machine.execMoePlace c s
  | .moePlaceCommit c => Sys2Proof.Machine.execMoePlaceCommit c s
  | .embCreate c => Sys2Proof.Machine.execEmbCreate c s
  | .embRelease c => Sys2Proof.Machine.execEmbRelease c s
  | .ctxPeerHold c => Sys2Proof.Machine.execCtxPeerHold c s
  | .ctxPeerCommit c => Sys2Proof.Machine.execCtxPeerCommit c s
  | .ctxPeerRelease c => Sys2Proof.Machine.execCtxPeerRelease c s
  | .ctxPeerRearm c => Sys2Proof.Machine.execCtxPeerRearm c s
  | .ctxPeerFree c => Sys2Proof.Machine.execCtxPeerFree c s
  | .ctxPeerAbort c => Sys2Proof.Machine.execCtxPeerAbort c s
  | .ctxPeerFail c => Sys2Proof.Machine.execCtxPeerFail c s
  | .regionCreate c => Sys2Proof.Machine.execRegionCreate c s
  | .regionRelease c => Sys2Proof.Machine.execRegionRelease c s
  | .regionReload c => Sys2Proof.Machine.execRegionReload c s
  | .regionQuery c => Sys2Proof.Machine.execRegionQuery c s
  | .memFlush c => Sys2Proof.Machine.execMemFlush c s
  | .memFlushAll c => Sys2Proof.Machine.execMemFlushAll c s
  | .memRetrain c => Sys2Proof.Machine.execMemRetrain c s
  | .bulkXferToModule c => Sys2Proof.Machine.execBulkXferToModule c s
  | .bulkXferToHost c => Sys2Proof.Machine.execBulkXferToHost c s
  | .coreAssign c => Sys2Proof.Machine.execCoreAssign c s
  | .coreReturn c => Sys2Proof.Machine.execCoreReturn c s
  | .progLoadRegion c => Sys2Proof.Machine.execProgLoadRegion c s
  | .progLoadPart c => Sys2Proof.Machine.execProgLoadPart c s
  | .progUnload c => Sys2Proof.Machine.execProgUnload c s
  | .bind c => Sys2Proof.Machine.execBind c s
  | .unbind c => Sys2Proof.Machine.execUnbind c s
  | .launch c => Sys2Proof.Machine.execLaunch c s
  | .progWait c => Sys2Proof.Machine.execProgWait c s
  | .progStop c => Sys2Proof.Machine.execProgStop c s
  | .progQuery c => Sys2Proof.Machine.execProgQuery c s
  | .pairForm c => Sys2Proof.Machine.execPairForm c s
  | .pairBreak c => Sys2Proof.Machine.execPairBreak c s
  | .pairStatus c => Sys2Proof.Machine.execPairStatus c s
  | .pairResync c => Sys2Proof.Machine.execPairResync c s
  | .faultRead c => Sys2Proof.Machine.execFaultRead c s
  | .faultClear c => Sys2Proof.Machine.execFaultClear c s
  | .faultCfg c => Sys2Proof.Machine.execFaultCfg c s
  | .faultForce c => Sys2Proof.Machine.execFaultForce c s
  | .selftest c => Sys2Proof.Machine.execSelftest c s
  | .repairReset c => Sys2Proof.Machine.execRepairReset c s
  | .blackboxRead c => Sys2Proof.Machine.execBlackboxRead c s
  | .powerCap c => Sys2Proof.Machine.execPowerCap c s
  | .powerStateRun c => Sys2Proof.Machine.execPowerStateRun c s
  | .powerStateTrim c => Sys2Proof.Machine.execPowerStateTrim c s
  | .powerStateDrowse c => Sys2Proof.Machine.execPowerStateDrowse c s
  | .powerStateHibernate c => Sys2Proof.Machine.execPowerStateHibernate c s
  | .powerRead c => Sys2Proof.Machine.execPowerRead c s
  | .lcChange c => Sys2Proof.Machine.execLcChange c s
  | .ownerKey c => Sys2Proof.Machine.execOwnerKey c s
  | .rollbackAdvance c => Sys2Proof.Machine.execRollbackAdvance c s
  | .measureRead c => Sys2Proof.Machine.execMeasureRead c s
  | .mirrorSet c => Sys2Proof.Machine.execMirrorSet c s
  | .mirrorClear c => Sys2Proof.Machine.execMirrorClear c s
  | .foxCfgStream c => Sys2Proof.Machine.execFoxCfgStream c s
  | .foxCfgChecker c => Sys2Proof.Machine.execFoxCfgChecker c s
  | .foxCfgClear c => Sys2Proof.Machine.execFoxCfgClear c s
  | .foxStart c => Sys2Proof.Machine.execFoxStart c s
  | .foxStop c => Sys2Proof.Machine.execFoxStop c s
  | .foxRead c => Sys2Proof.Machine.execFoxRead c s
  | .goldenSet c => Sys2Proof.Machine.execGoldenSet c s
  | .injectDisarm c => Sys2Proof.Machine.execInjectDisarm c s
  | .injectSymbol c => Sys2Proof.Machine.execInjectSymbol c s
  | .injectSync c => Sys2Proof.Machine.execInjectSync c s
  | .injectTrailer c => Sys2Proof.Machine.execInjectTrailer c s
  | .injectDrop c => Sys2Proof.Machine.execInjectDrop c s
  | .injectDuplicate c => Sys2Proof.Machine.execInjectDuplicate c s
  | .injectDelay c => Sys2Proof.Machine.execInjectDelay c s
  | .injectXoff c => Sys2Proof.Machine.execInjectXoff c s
  | .injectSilence c => Sys2Proof.Machine.execInjectSilence c s
  | .injectionExpiry p => Sys2Proof.Machine.execInjectionExpiry p s
  | .foxStartTime u => Sys2Proof.Machine.execFoxStartTime u s
  | .foxStreamPacket u k => Sys2Proof.Machine.execFoxStreamPacket u k s
  | .foxCheckerSettle u => Sys2Proof.Machine.execFoxCheckerSettle u s
  | .goldenResultReceived p pkt => Sys2Proof.Machine.execGoldenResultReceived p pkt s
  | .fswClear w m => Sys2Proof.Machine.execFswClear w m s
  | .forceWrite w m => Sys2Proof.Machine.execForceWrite w m s
  | .haltRelease w m => Sys2Proof.Machine.execHaltRelease w m s
  | .irqHoldoffExpiry => Sys2Proof.Machine.execIrqHoldoffExpiry s
  | .keeperWdog => Sys2Proof.Machine.execKeeperWdog s
  | .snapshotCapture => Sys2Proof.Machine.execSnapshotCapture s
  | .blackboxWriteComplete => Sys2Proof.Machine.execBlackboxWriteComplete s
  | .startCondition => Sys2Proof.Machine.execStartCondition s
  | .pfWarn => Sys2Proof.Machine.execPfWarn s
  | .powerSample mv ma temp => Sys2Proof.Machine.execPowerSample mv ma temp s
  | .cappingLoop watts => Sys2Proof.Machine.execCappingLoop watts s
  | .denThermalLoop den temp => Sys2Proof.Machine.execDenThermalLoop den temp s
  | .avsAdjust islands => Sys2Proof.Machine.execAvsAdjust islands s
  | .islandStepComplete k => Sys2Proof.Machine.execIslandStepComplete k s
  | .phaseFault phase => Sys2Proof.Machine.execPhaseFault phase s
  | .railFault den => Sys2Proof.Machine.execRailFault den s
  | .refLost => Sys2Proof.Machine.execRefLost s
  | .refRelock => Sys2Proof.Machine.execRefRelock s
  | .drowseDrainTimeout => Sys2Proof.Machine.execDrowseDrainTimeout s
  | .hibernateEntryComplete => Sys2Proof.Machine.execHibernateEntryComplete s
  | .wakeN => Sys2Proof.Machine.execWakeN s
  | .i3cWakeRequest => Sys2Proof.Machine.execI3cWakeRequest s
  | .wakeComplete ok => Sys2Proof.Machine.execWakeComplete ok s
  | .corePowerOnComplete core => Sys2Proof.Machine.execCorePowerOnComplete core s
  | .pinResetAssert => Sys2Proof.Machine.execPinResetAssert s
  | .pinResetRelease => Sys2Proof.Machine.execPinResetRelease s
  | .endpointReset => Sys2Proof.Machine.execEndpointReset s
  | .pcieLinkDown => Sys2Proof.Machine.execPcieLinkDown s
  | .bootChainVerified slot key ctr => Sys2Proof.Machine.execBootChainVerified slot key ctr s
  | .channelTrainingComplete slow ch ok => Sys2Proof.Machine.execChannelTrainingComplete slow ch ok s
  | .wipeComplete failed => Sys2Proof.Machine.execWipeComplete failed s
  | .bootRecordBaseLoad areasOk => Sys2Proof.Machine.execBootRecordBaseLoad areasOk s
  | .epochPulse => Sys2Proof.Machine.execEpochPulse s
  | .epochMissing => Sys2Proof.Machine.execEpochMissing s
  | .epochLoadWrite v => Sys2Proof.Machine.execEpochLoadWrite v s
  | .epochPeriodWrite v => Sys2Proof.Machine.execEpochPeriodWrite v s
  | .dirStatTimeout dir => Sys2Proof.Machine.execDirStatTimeout dir s
  | .heartbeatTimer => Sys2Proof.Machine.execHeartbeatTimer s
  | .heartbeatReceived p pkt => Sys2Proof.Machine.execHeartbeatReceived p pkt s
  | .lossOfContact => Sys2Proof.Machine.execLossOfContact s
  | .arbitrationTest => Sys2Proof.Machine.execArbitrationTest s
  | .homeStateReceived p pkt => Sys2Proof.Machine.execHomeStateReceived p pkt s
  | .pairAutoForm => Sys2Proof.Machine.execPairAutoForm s
  | .pairFormationComplete info => Sys2Proof.Machine.execPairFormationComplete info s
  | .resyncCopyComplete failed => Sys2Proof.Machine.execResyncCopyComplete failed s
  | .bar4Read addr len => Sys2Proof.Machine.execBar4Read addr len s
  | .bar4Write addr bytes poisoned => Sys2Proof.Machine.execBar4Write addr bytes poisoned s
  | .bar4BaseWrite v => Sys2Proof.Machine.execBar4BaseWrite v s
  | .busMasterReadTimeout id => Sys2Proof.Machine.execBusMasterReadTimeout id s
  | .msixUnmask v => Sys2Proof.Machine.execMsixUnmask v s
  | .l0pIdleTimer => Sys2Proof.Machine.execL0pIdleTimer s
  | .i3cDynamicAddressAssign a => Sys2Proof.Machine.execI3cDynamicAddressAssign a s
  | .setEndpointId eid => Sys2Proof.Machine.execSetEndpointId eid s
  | .setEventReceiver eid => Sys2Proof.Machine.execSetEventReceiver eid s
  | .getSensorReading sensor den => Sys2Proof.Machine.execGetSensorReading sensor den s
  | .pldmFirmwareUpdate owl keeper => Sys2Proof.Machine.execPldmFirmwareUpdate owl keeper s
  | .activateFirmware => Sys2Proof.Machine.execActivateFirmware s
  | .getVersion path => Sys2Proof.Machine.execGetVersion path s
  | .getCapabilities path => Sys2Proof.Machine.execGetCapabilities path s
  | .negotiateAlgorithms path => Sys2Proof.Machine.execNegotiateAlgorithms path s
  | .getDigests path => Sys2Proof.Machine.execGetDigests path s
  | .getCertificate path off len => Sys2Proof.Machine.execGetCertificate path off len s
  | .challenge path nonce => Sys2Proof.Machine.execChallenge path nonce s
  | .getMeasurements path idx nonce => Sys2Proof.Machine.execGetMeasurements path idx nonce s
  | .linkEnable p => Sys2Proof.Machine.execLinkEnable p s
  | .linkDisable p => Sys2Proof.Machine.execLinkDisable p s
  | .retrain p => Sys2Proof.Machine.execRetrain p s
  | .loopback p v => Sys2Proof.Machine.execLoopback p v s
  | .registerWrite off size v => Sys2Proof.Machine.execRegisterWrite off size v s
  | .rcRead off size => Sys2Proof.Machine.execRcRead off size s
  | .splitLowRead off => Sys2Proof.Machine.execSplitLowRead off s
  | .splitHighWrite off v => Sys2Proof.Machine.execSplitHighWrite off v s
  | .bar0IllegalAccess off size wr => Sys2Proof.Machine.execBar0IllegalAccess off size wr s
  | .unmappedAccess off wr => Sys2Proof.Machine.execUnmappedAccess off wr s
  | .denJunctionTemperature den temp isl => Sys2Proof.Machine.execDenJunctionTemperature den temp isl s
  | .owlWatchdogExpiry => Sys2Proof.Machine.execOwlWatchdogExpiry s
  | .openRepeatTimer dst tc => Sys2Proof.Machine.execOpenRepeatTimer dst tc s
  | .responseTimeout k => Sys2Proof.Machine.execResponseTimeout k s
  | .pcieLinkUp rate width flit => Sys2Proof.Machine.execPcieLinkUp rate width flit s
  | .configSpaceWrite bme dstate msixEn fmask mps mrrs => Sys2Proof.Machine.execConfigSpaceWrite bme dstate msixEn fmask mps mrrs s
  | .drowseWakeComplete => Sys2Proof.Machine.execDrowseWakeComplete s
  | .progImageVerifyComplete id => Sys2Proof.Machine.execProgImageVerifyComplete id s
  | .bulkXferComplete id data => Sys2Proof.Machine.execBulkXferComplete id data s

end Sys2Proof.Machine
end

