-- ==== Sys2Proof/Laws/Table.lean ====
section
/-! SUPPORT. Sparse tables: read after write, the frame of a write, and that every operation keeps the canonical form. -/

namespace Sys2Proof.Machine.Tbl

variable {α : Type} [DecidableEq α]

/-- Every listed key lies above `lo`, and no value is the default. -/
theorem wfFrom_mem (d : α) (t : Tbl α) (lo : Option Nat) (h : wfFrom d lo t = true) :
    ∀ e ∈ t, (∀ l, lo = some l → l < e.1) ∧ e.2 ≠ d := by
  induction t generalizing lo with
  | nil => intro e he; cases he
  | cons x t ih =>
    obtain ⟨k, v⟩ := x
    simp only [wfFrom, Bool.and_eq_true, decide_eq_true_eq] at h
    obtain ⟨⟨h1, h2⟩, h3⟩ := h
    intro e he
    rcases List.mem_cons.1 he with rfl | he
    · refine ⟨?_, h2⟩
      rintro l rfl
      simpa using h1
    · obtain ⟨g1, g2⟩ := ih (some k) h3 e he
      refine ⟨?_, g2⟩
      rintro l rfl
      have hk : l < k := by simpa using h1
      exact Nat.lt_trans hk (g1 k rfl)

/-- A lower bound that lies under every key may replace another. -/
theorem wfFrom_bound (d : α) (t : Tbl α) (lo lo' : Option Nat) (h : wfFrom d lo t = true)
    (hb : ∀ e ∈ t, ∀ l, lo' = some l → l < e.1) : wfFrom d lo' t = true := by
  cases t with
  | nil => rfl
  | cons x t =>
    obtain ⟨k, v⟩ := x
    simp only [wfFrom, Bool.and_eq_true, decide_eq_true_eq] at h ⊢
    refine ⟨⟨?_, h.1.2⟩, h.2⟩
    cases lo' with
    | none => rfl
    | some l => simpa using hb (k, v) (List.mem_cons_self) l rfl

/-- Entries left out keep the canonical form. -/
theorem wfFrom_filter (d : α) (p : Nat × α → Bool) (t : Tbl α) (lo : Option Nat) (h : wfFrom d lo t = true) :
    wfFrom d lo (t.filter p) = true := by
  induction t generalizing lo with
  | nil => rfl
  | cons x t ih =>
    obtain ⟨k, v⟩ := x
    have h' := h
    simp only [wfFrom, Bool.and_eq_true, decide_eq_true_eq] at h
    obtain ⟨⟨h1, h2⟩, h3⟩ := h
    by_cases hp : p (k, v) = true
    · rw [List.filter_cons_of_pos hp]
      simp only [wfFrom, Bool.and_eq_true, decide_eq_true_eq]
      exact ⟨⟨h1, h2⟩, ih (some k) h3⟩
    · rw [List.filter_cons_of_neg hp]
      refine ih lo (wfFrom_bound d t (some k) lo h3 ?_)
      intro e he l hl
      exact (wfFrom_mem d ((k, v) :: t) lo h' e (List.mem_cons_of_mem _ he)).1 l hl

/-- An entry with a new key put at its place keeps the canonical form. -/
theorem wfFrom_insert (d : α) (t : Tbl α) (lo : Option Nat) (i : Nat) (v : α) (h : wfFrom d lo t = true) (hv : v ≠ d)
    (hl : ∀ l, lo = some l → l < i) (hi : ∀ e ∈ t, e.1 ≠ i) : wfFrom d lo (insert i v t) = true := by
  induction t generalizing lo with
  | nil =>
    simp only [insert, wfFrom, Bool.and_eq_true, decide_eq_true_eq, and_true]
    refine ⟨?_, hv⟩
    cases lo with
    | none => rfl
    | some l => simpa using hl l rfl
  | cons x t ih =>
    obtain ⟨k, w⟩ := x
    have hne : k ≠ i := hi (k, w) List.mem_cons_self
    have hh := h
    simp only [wfFrom, Bool.and_eq_true, decide_eq_true_eq] at h
    obtain ⟨⟨h1, h2⟩, h3⟩ := h
    by_cases hik : i < k
    · simp only [insert, hik, if_true, wfFrom, Bool.and_eq_true, decide_eq_true_eq]
      refine ⟨⟨?_, hv⟩, ⟨?_, h2⟩, h3⟩
      · cases lo with
        | none => rfl
        | some l => simpa using hl l rfl
      · trivial
    · simp only [insert, hik, if_false, wfFrom, Bool.and_eq_true, decide_eq_true_eq]
      refine ⟨⟨h1, h2⟩, ih (some k) h3 ?_ (fun e he => hi e (List.mem_cons_of_mem _ he))⟩
      rintro l hl'
      obtain rfl : k = l := by simpa using hl'
      omega

/-- A write keeps the canonical form. -/
theorem wf_put (d : α) (t : Tbl α) (i : Nat) (v : α) (h : wf d t = true) : wf d (put d t i v) = true := by
  unfold wf put at *
  split
  · exact wfFrom_filter d _ t none h
  · refine wfFrom_insert d _ none i v (wfFrom_filter d _ t none h) (by assumption) (by simp) ?_
    intro e he
    have := (List.mem_filter.1 he).2
    simpa using this

/-- Writes at consecutive keys keep the canonical form. -/
theorem wf_putMany (d : α) (t : Tbl α) (i : Nat) (l : List α) (h : wf d t = true) : wf d (putMany d t i l) = true := by
  induction l generalizing t i with
  | nil => exact h
  | cons v l ih => exact ih _ _ (wf_put d t i v h)

/-- Keys cleared keep the canonical form. -/
theorem wf_clearWhere (d : α) (t : Tbl α) (f : Nat → Bool) (h : wf d t = true) : wf d (clearWhere t f) = true :=
  wfFrom_filter d _ t none h

omit [DecidableEq α] in
/-- What a key left out of a table holds: the default. -/
theorem get_erase_self (d : α) (t : Tbl α) (i : Nat) : get d (erase t i) i = d := by
  induction t with
  | nil => rfl
  | cons x t ih =>
    obtain ⟨k, v⟩ := x
    by_cases hk : k = i
    · subst hk
      simpa [erase] using ih
    · have : (erase ((k, v) :: t) i) = (k, v) :: erase t i := by simp [erase, hk]
      rw [this, get, if_neg hk, ih]

omit [DecidableEq α] in
/-- The other keys keep what they hold. -/
theorem get_erase_ne (d : α) (t : Tbl α) (i j : Nat) (h : j ≠ i) : get d (erase t i) j = get d t j := by
  induction t with
  | nil => rfl
  | cons x t ih =>
    obtain ⟨k, v⟩ := x
    by_cases hk : k = i
    · subst hk
      have : (erase ((k, v) :: t) k) = erase t k := by simp [erase]
      rw [this, ih, get, if_neg (Ne.symm h)]
    · have : (erase ((k, v) :: t) i) = (k, v) :: erase t i := by simp [erase, hk]
      rw [this, get, get, ih]

omit [DecidableEq α] in
/-- The new entry is found under its key. -/
theorem get_insert_self (d : α) (t : Tbl α) (i : Nat) (v : α) (hi : ∀ e ∈ t, e.1 ≠ i) : get d (insert i v t) i = v := by
  induction t with
  | nil => simp [insert, get]
  | cons x t ih =>
    obtain ⟨k, w⟩ := x
    have hk : k ≠ i := hi (k, w) List.mem_cons_self
    by_cases hlt : i < k
    · simp [insert, hlt, get]
    · rw [insert, if_neg hlt, get, if_neg hk]
      exact ih (fun e he => hi e (List.mem_cons_of_mem _ he))

omit [DecidableEq α] in
/-- The other keys keep what they hold. -/
theorem get_insert_ne (d : α) (t : Tbl α) (i j : Nat) (v : α) (h : j ≠ i) : get d (insert i v t) j = get d t j := by
  induction t with
  | nil => simp [insert, get, Ne.symm h]
  | cons x t ih =>
    obtain ⟨k, w⟩ := x
    by_cases hlt : i < k
    · rw [insert, if_pos hlt, get, if_neg (Ne.symm h)]
    · rw [insert, if_neg hlt, get, get, ih]

/-- A read after a write to the same key. -/
@[simp] theorem get_put_self (d : α) (t : Tbl α) (i : Nat) (v : α) : get d (put d t i v) i = v := by
  unfold put
  split
  · next h => rw [get_erase_self, h]
  · refine get_insert_self d _ i v ?_
    intro e he
    simpa using (List.mem_filter.1 he).2

/-- A write leaves every other key alone, whatever default that key has. -/
theorem get_put_other (d e : α) (t : Tbl α) (i j : Nat) (v : α) (h : j ≠ i) : get e (put d t i v) j = get e t j := by
  unfold put
  split
  · exact get_erase_ne e t i j h
  · rw [get_insert_ne e _ i j v h, get_erase_ne e t i j h]

/-- A write leaves every other key alone. -/
theorem get_put_ne (d : α) (t : Tbl α) (i j : Nat) (v : α) (h : j ≠ i) : get d (put d t i v) j = get d t j :=
  get_put_other d d t i j v h

omit [DecidableEq α] in
/-- An entry put in and left out again. -/
theorem erase_insert (t : Tbl α) (i : Nat) (v : α) : erase (insert i v t) i = erase t i := by
  induction t with
  | nil => simp [insert, erase]
  | cons x t ih =>
    obtain ⟨k, w⟩ := x
    by_cases hlt : i < k
    · simp [insert, hlt, erase]
    · have h : insert i v ((k, w) :: t) = (k, w) :: insert i v t := by simp [insert, hlt]
      rw [h]
      unfold erase at *
      by_cases hk : k = i
      · simp [hk, ih]
      · simp [hk, ih]

/-- The later of two writes to one key stands. -/
@[simp] theorem put_put (d : α) (t : Tbl α) (i : Nat) (v w : α) : put d (put d t i v) i w = put d t i w := by
  have h : erase (put d t i v) i = erase t i := by
    unfold put
    split
    · simp [erase]
    · rw [erase_insert]; simp [erase]
  unfold put at *
  rw [h]

/-- Keys outside those written keep what they hold. -/
theorem get_putMany_out (d : α) (l : List α) (t : Tbl α) (i j : Nat) (h : j < i ∨ i + l.length ≤ j) :
    get d (putMany d t i l) j = get d t j := by
  induction l generalizing t i with
  | nil => rfl
  | cons v l ih =>
    simp only [List.length_cons] at h
    rw [putMany, ih _ _ (by omega), get_put_ne d t i j v (by omega)]

/-- A key among those written holds its value of the list. -/
theorem get_putMany_in (d : α) (l : List α) (t : Tbl α) (i j : Nat) (h : j < l.length) :
    get d (putMany d t i l) (i + j) = l.getD j d := by
  induction l generalizing t i j with
  | nil => simp at h
  | cons v l ih =>
    cases j with
    | zero =>
      show get d (putMany d (put d t i v) (i + 1) l) i = v
      rw [get_putMany_out d l _ (i + 1) i (by omega), get_put_self]
    | succ j =>
      have hj : j < l.length := by simpa using h
      rw [putMany, show i + (j + 1) = i + 1 + j by omega, ih _ _ _ hj]; rfl

end Sys2Proof.Machine.Tbl
end

