-- ==== Sys2Proof/Laws/State.lean ====
section
/-! SUPPORT. What each update of one unit leaves as it was, and what a read of the unit finds after it. -/

namespace Sys2Proof.Machine

variable (s : State)

/-! `setReg` changes `regs` only. -/

@[simp] theorem State.setReg_pending (a v : Nat) : (s.setReg a v).pending = s.pending := rfl
@[simp] theorem State.setReg_ctrs (a v : Nat) : (s.setReg a v).ctrs = s.ctrs := rfl
@[simp] theorem State.setReg_dev (a v : Nat) : (s.setReg a v).dev = s.dev := rfl
@[simp] theorem State.setReg_ck2l (a v : Nat) : (s.setReg a v).ck2l = s.ck2l := rfl
@[simp] theorem State.setReg_time (a v : Nat) : (s.setReg a v).time = s.time := rfl
@[simp] theorem State.setReg_lanes (a v : Nat) : (s.setReg a v).lanes = s.lanes := rfl
@[simp] theorem State.setReg_ports (a v : Nat) : (s.setReg a v).ports = s.ports := rfl
@[simp] theorem State.setReg_place (a v : Nat) : (s.setReg a v).place = s.place := rfl
@[simp] theorem State.setReg_parts (a v : Nat) : (s.setReg a v).parts = s.parts := rfl
@[simp] theorem State.setReg_partPend (a v : Nat) : (s.setReg a v).partPend = s.partPend := rfl
@[simp] theorem State.setReg_broken (a v : Nat) : (s.setReg a v).broken = s.broken := rfl
@[simp] theorem State.setReg_sw (a v : Nat) : (s.setReg a v).sw = s.sw := rfl
@[simp] theorem State.setReg_st (a v : Nat) : (s.setReg a v).st = s.st := rfl
@[simp] theorem State.setReg_flows (a v : Nat) : (s.setReg a v).flows = s.flows := rfl
@[simp] theorem State.setReg_floorMhz (a v : Nat) : (s.setReg a v).floorMhz = s.floorMhz := rfl
@[simp] theorem State.setReg_inject (a v : Nat) : (s.setReg a v).inject = s.inject := rfl
@[simp] theorem State.setReg_coll (a v : Nat) : (s.setReg a v).coll = s.coll := rfl
@[simp] theorem State.setReg_mem (a v : Nat) : (s.setReg a v).mem = s.mem := rfl
@[simp] theorem State.setReg_cmd (a v : Nat) : (s.setReg a v).cmd = s.cmd := rfl
@[simp] theorem State.setReg_sett (a v : Nat) : (s.setReg a v).sett = s.sett := rfl
@[simp] theorem State.setReg_accepting (a v : Nat) : (s.setReg a v).accepting = s.accepting := rfl
@[simp] theorem State.setReg_noticed (a v : Nat) : (s.setReg a v).noticed = s.noticed := rfl
@[simp] theorem State.setReg_serial (a v : Nat) : (s.setReg a v).serial = s.serial := rfl
@[simp] theorem State.setReg_fwRelease (a v : Nat) : (s.setReg a v).fwRelease = s.fwRelease := rfl
@[simp] theorem State.setReg_faults (a v : Nat) : (s.setReg a v).faults = s.faults := rfl
@[simp] theorem State.setReg_box (a v : Nat) : (s.setReg a v).box = s.box := rfl
@[simp] theorem State.setReg_cfg (a v : Nat) : (s.setReg a v).cfg = s.cfg := rfl
@[simp] theorem State.setReg_sec (a v : Nat) : (s.setReg a v).sec = s.sec := rfl
@[simp] theorem State.setReg_power (a v : Nat) : (s.setReg a v).power = s.power := rfl
@[simp] theorem State.setReg_pair (a v : Nat) : (s.setReg a v).pair = s.pair := rfl
@[simp] theorem State.setReg_inst (a v : Nat) : (s.setReg a v).inst = s.inst := rfl
@[simp] theorem State.setReg_host (a v : Nat) : (s.setReg a v).host = s.host := rfl
@[simp] theorem State.setReg_outs (a v : Nat) : (s.setReg a v).outs = s.outs := rfl
@[simp] theorem State.setReg_freeCtr (a v : Nat) : (s.setReg a v).freeCtr = s.freeCtr := rfl

/-! `setCtr` changes `ctrs` only. -/

@[simp] theorem State.setCtr_pending (a v : Nat) : (s.setCtr a v).pending = s.pending := rfl
@[simp] theorem State.setCtr_regs (a v : Nat) : (s.setCtr a v).regs = s.regs := rfl
@[simp] theorem State.setCtr_dev (a v : Nat) : (s.setCtr a v).dev = s.dev := rfl
@[simp] theorem State.setCtr_ck2l (a v : Nat) : (s.setCtr a v).ck2l = s.ck2l := rfl
@[simp] theorem State.setCtr_time (a v : Nat) : (s.setCtr a v).time = s.time := rfl
@[simp] theorem State.setCtr_lanes (a v : Nat) : (s.setCtr a v).lanes = s.lanes := rfl
@[simp] theorem State.setCtr_ports (a v : Nat) : (s.setCtr a v).ports = s.ports := rfl
@[simp] theorem State.setCtr_place (a v : Nat) : (s.setCtr a v).place = s.place := rfl
@[simp] theorem State.setCtr_parts (a v : Nat) : (s.setCtr a v).parts = s.parts := rfl
@[simp] theorem State.setCtr_partPend (a v : Nat) : (s.setCtr a v).partPend = s.partPend := rfl
@[simp] theorem State.setCtr_broken (a v : Nat) : (s.setCtr a v).broken = s.broken := rfl
@[simp] theorem State.setCtr_sw (a v : Nat) : (s.setCtr a v).sw = s.sw := rfl
@[simp] theorem State.setCtr_st (a v : Nat) : (s.setCtr a v).st = s.st := rfl
@[simp] theorem State.setCtr_flows (a v : Nat) : (s.setCtr a v).flows = s.flows := rfl
@[simp] theorem State.setCtr_floorMhz (a v : Nat) : (s.setCtr a v).floorMhz = s.floorMhz := rfl
@[simp] theorem State.setCtr_inject (a v : Nat) : (s.setCtr a v).inject = s.inject := rfl
@[simp] theorem State.setCtr_coll (a v : Nat) : (s.setCtr a v).coll = s.coll := rfl
@[simp] theorem State.setCtr_mem (a v : Nat) : (s.setCtr a v).mem = s.mem := rfl
@[simp] theorem State.setCtr_cmd (a v : Nat) : (s.setCtr a v).cmd = s.cmd := rfl
@[simp] theorem State.setCtr_sett (a v : Nat) : (s.setCtr a v).sett = s.sett := rfl
@[simp] theorem State.setCtr_accepting (a v : Nat) : (s.setCtr a v).accepting = s.accepting := rfl
@[simp] theorem State.setCtr_noticed (a v : Nat) : (s.setCtr a v).noticed = s.noticed := rfl
@[simp] theorem State.setCtr_serial (a v : Nat) : (s.setCtr a v).serial = s.serial := rfl
@[simp] theorem State.setCtr_fwRelease (a v : Nat) : (s.setCtr a v).fwRelease = s.fwRelease := rfl
@[simp] theorem State.setCtr_faults (a v : Nat) : (s.setCtr a v).faults = s.faults := rfl
@[simp] theorem State.setCtr_box (a v : Nat) : (s.setCtr a v).box = s.box := rfl
@[simp] theorem State.setCtr_cfg (a v : Nat) : (s.setCtr a v).cfg = s.cfg := rfl
@[simp] theorem State.setCtr_sec (a v : Nat) : (s.setCtr a v).sec = s.sec := rfl
@[simp] theorem State.setCtr_power (a v : Nat) : (s.setCtr a v).power = s.power := rfl
@[simp] theorem State.setCtr_pair (a v : Nat) : (s.setCtr a v).pair = s.pair := rfl
@[simp] theorem State.setCtr_inst (a v : Nat) : (s.setCtr a v).inst = s.inst := rfl
@[simp] theorem State.setCtr_host (a v : Nat) : (s.setCtr a v).host = s.host := rfl
@[simp] theorem State.setCtr_outs (a v : Nat) : (s.setCtr a v).outs = s.outs := rfl
@[simp] theorem State.setCtr_freeCtr (a v : Nat) : (s.setCtr a v).freeCtr = s.freeCtr := rfl

/-! `used` changes `freeCtr` only. -/

@[simp] theorem State.used_pending : (s.used).pending = s.pending := rfl
@[simp] theorem State.used_regs : (s.used).regs = s.regs := rfl
@[simp] theorem State.used_ctrs : (s.used).ctrs = s.ctrs := rfl
@[simp] theorem State.used_dev : (s.used).dev = s.dev := rfl
@[simp] theorem State.used_ck2l : (s.used).ck2l = s.ck2l := rfl
@[simp] theorem State.used_time : (s.used).time = s.time := rfl
@[simp] theorem State.used_lanes : (s.used).lanes = s.lanes := rfl
@[simp] theorem State.used_ports : (s.used).ports = s.ports := rfl
@[simp] theorem State.used_place : (s.used).place = s.place := rfl
@[simp] theorem State.used_parts : (s.used).parts = s.parts := rfl
@[simp] theorem State.used_partPend : (s.used).partPend = s.partPend := rfl
@[simp] theorem State.used_broken : (s.used).broken = s.broken := rfl
@[simp] theorem State.used_sw : (s.used).sw = s.sw := rfl
@[simp] theorem State.used_st : (s.used).st = s.st := rfl
@[simp] theorem State.used_flows : (s.used).flows = s.flows := rfl
@[simp] theorem State.used_floorMhz : (s.used).floorMhz = s.floorMhz := rfl
@[simp] theorem State.used_inject : (s.used).inject = s.inject := rfl
@[simp] theorem State.used_coll : (s.used).coll = s.coll := rfl
@[simp] theorem State.used_mem : (s.used).mem = s.mem := rfl
@[simp] theorem State.used_cmd : (s.used).cmd = s.cmd := rfl
@[simp] theorem State.used_sett : (s.used).sett = s.sett := rfl
@[simp] theorem State.used_accepting : (s.used).accepting = s.accepting := rfl
@[simp] theorem State.used_noticed : (s.used).noticed = s.noticed := rfl
@[simp] theorem State.used_serial : (s.used).serial = s.serial := rfl
@[simp] theorem State.used_fwRelease : (s.used).fwRelease = s.fwRelease := rfl
@[simp] theorem State.used_faults : (s.used).faults = s.faults := rfl
@[simp] theorem State.used_box : (s.used).box = s.box := rfl
@[simp] theorem State.used_cfg : (s.used).cfg = s.cfg := rfl
@[simp] theorem State.used_sec : (s.used).sec = s.sec := rfl
@[simp] theorem State.used_power : (s.used).power = s.power := rfl
@[simp] theorem State.used_pair : (s.used).pair = s.pair := rfl
@[simp] theorem State.used_inst : (s.used).inst = s.inst := rfl
@[simp] theorem State.used_host : (s.used).host = s.host := rfl
@[simp] theorem State.used_outs : (s.used).outs = s.outs := rfl

/-! `setLane` changes `lanes` only. -/

@[simp] theorem State.setLane_pending (l : Nat) (x : Lane) : (s.setLane l x).pending = s.pending := rfl
@[simp] theorem State.setLane_regs (l : Nat) (x : Lane) : (s.setLane l x).regs = s.regs := rfl
@[simp] theorem State.setLane_ctrs (l : Nat) (x : Lane) : (s.setLane l x).ctrs = s.ctrs := rfl
@[simp] theorem State.setLane_dev (l : Nat) (x : Lane) : (s.setLane l x).dev = s.dev := rfl
@[simp] theorem State.setLane_ck2l (l : Nat) (x : Lane) : (s.setLane l x).ck2l = s.ck2l := rfl
@[simp] theorem State.setLane_time (l : Nat) (x : Lane) : (s.setLane l x).time = s.time := rfl
@[simp] theorem State.setLane_ports (l : Nat) (x : Lane) : (s.setLane l x).ports = s.ports := rfl
@[simp] theorem State.setLane_place (l : Nat) (x : Lane) : (s.setLane l x).place = s.place := rfl
@[simp] theorem State.setLane_parts (l : Nat) (x : Lane) : (s.setLane l x).parts = s.parts := rfl
@[simp] theorem State.setLane_partPend (l : Nat) (x : Lane) : (s.setLane l x).partPend = s.partPend := rfl
@[simp] theorem State.setLane_broken (l : Nat) (x : Lane) : (s.setLane l x).broken = s.broken := rfl
@[simp] theorem State.setLane_sw (l : Nat) (x : Lane) : (s.setLane l x).sw = s.sw := rfl
@[simp] theorem State.setLane_st (l : Nat) (x : Lane) : (s.setLane l x).st = s.st := rfl
@[simp] theorem State.setLane_flows (l : Nat) (x : Lane) : (s.setLane l x).flows = s.flows := rfl
@[simp] theorem State.setLane_floorMhz (l : Nat) (x : Lane) : (s.setLane l x).floorMhz = s.floorMhz := rfl
@[simp] theorem State.setLane_inject (l : Nat) (x : Lane) : (s.setLane l x).inject = s.inject := rfl
@[simp] theorem State.setLane_coll (l : Nat) (x : Lane) : (s.setLane l x).coll = s.coll := rfl
@[simp] theorem State.setLane_mem (l : Nat) (x : Lane) : (s.setLane l x).mem = s.mem := rfl
@[simp] theorem State.setLane_cmd (l : Nat) (x : Lane) : (s.setLane l x).cmd = s.cmd := rfl
@[simp] theorem State.setLane_sett (l : Nat) (x : Lane) : (s.setLane l x).sett = s.sett := rfl
@[simp] theorem State.setLane_accepting (l : Nat) (x : Lane) : (s.setLane l x).accepting = s.accepting := rfl
@[simp] theorem State.setLane_noticed (l : Nat) (x : Lane) : (s.setLane l x).noticed = s.noticed := rfl
@[simp] theorem State.setLane_serial (l : Nat) (x : Lane) : (s.setLane l x).serial = s.serial := rfl
@[simp] theorem State.setLane_fwRelease (l : Nat) (x : Lane) : (s.setLane l x).fwRelease = s.fwRelease := rfl
@[simp] theorem State.setLane_faults (l : Nat) (x : Lane) : (s.setLane l x).faults = s.faults := rfl
@[simp] theorem State.setLane_box (l : Nat) (x : Lane) : (s.setLane l x).box = s.box := rfl
@[simp] theorem State.setLane_cfg (l : Nat) (x : Lane) : (s.setLane l x).cfg = s.cfg := rfl
@[simp] theorem State.setLane_sec (l : Nat) (x : Lane) : (s.setLane l x).sec = s.sec := rfl
@[simp] theorem State.setLane_power (l : Nat) (x : Lane) : (s.setLane l x).power = s.power := rfl
@[simp] theorem State.setLane_pair (l : Nat) (x : Lane) : (s.setLane l x).pair = s.pair := rfl
@[simp] theorem State.setLane_inst (l : Nat) (x : Lane) : (s.setLane l x).inst = s.inst := rfl
@[simp] theorem State.setLane_host (l : Nat) (x : Lane) : (s.setLane l x).host = s.host := rfl
@[simp] theorem State.setLane_outs (l : Nat) (x : Lane) : (s.setLane l x).outs = s.outs := rfl
@[simp] theorem State.setLane_freeCtr (l : Nat) (x : Lane) : (s.setLane l x).freeCtr = s.freeCtr := rfl

/-! `setPort` changes `ports` only. -/

@[simp] theorem State.setPort_pending (p : Nat) (x : Port) : (s.setPort p x).pending = s.pending := rfl
@[simp] theorem State.setPort_regs (p : Nat) (x : Port) : (s.setPort p x).regs = s.regs := rfl
@[simp] theorem State.setPort_ctrs (p : Nat) (x : Port) : (s.setPort p x).ctrs = s.ctrs := rfl
@[simp] theorem State.setPort_dev (p : Nat) (x : Port) : (s.setPort p x).dev = s.dev := rfl
@[simp] theorem State.setPort_ck2l (p : Nat) (x : Port) : (s.setPort p x).ck2l = s.ck2l := rfl
@[simp] theorem State.setPort_time (p : Nat) (x : Port) : (s.setPort p x).time = s.time := rfl
@[simp] theorem State.setPort_lanes (p : Nat) (x : Port) : (s.setPort p x).lanes = s.lanes := rfl
@[simp] theorem State.setPort_place (p : Nat) (x : Port) : (s.setPort p x).place = s.place := rfl
@[simp] theorem State.setPort_parts (p : Nat) (x : Port) : (s.setPort p x).parts = s.parts := rfl
@[simp] theorem State.setPort_partPend (p : Nat) (x : Port) : (s.setPort p x).partPend = s.partPend := rfl
@[simp] theorem State.setPort_broken (p : Nat) (x : Port) : (s.setPort p x).broken = s.broken := rfl
@[simp] theorem State.setPort_sw (p : Nat) (x : Port) : (s.setPort p x).sw = s.sw := rfl
@[simp] theorem State.setPort_st (p : Nat) (x : Port) : (s.setPort p x).st = s.st := rfl
@[simp] theorem State.setPort_flows (p : Nat) (x : Port) : (s.setPort p x).flows = s.flows := rfl
@[simp] theorem State.setPort_floorMhz (p : Nat) (x : Port) : (s.setPort p x).floorMhz = s.floorMhz := rfl
@[simp] theorem State.setPort_inject (p : Nat) (x : Port) : (s.setPort p x).inject = s.inject := rfl
@[simp] theorem State.setPort_coll (p : Nat) (x : Port) : (s.setPort p x).coll = s.coll := rfl
@[simp] theorem State.setPort_mem (p : Nat) (x : Port) : (s.setPort p x).mem = s.mem := rfl
@[simp] theorem State.setPort_cmd (p : Nat) (x : Port) : (s.setPort p x).cmd = s.cmd := rfl
@[simp] theorem State.setPort_sett (p : Nat) (x : Port) : (s.setPort p x).sett = s.sett := rfl
@[simp] theorem State.setPort_accepting (p : Nat) (x : Port) : (s.setPort p x).accepting = s.accepting := rfl
@[simp] theorem State.setPort_noticed (p : Nat) (x : Port) : (s.setPort p x).noticed = s.noticed := rfl
@[simp] theorem State.setPort_serial (p : Nat) (x : Port) : (s.setPort p x).serial = s.serial := rfl
@[simp] theorem State.setPort_fwRelease (p : Nat) (x : Port) : (s.setPort p x).fwRelease = s.fwRelease := rfl
@[simp] theorem State.setPort_faults (p : Nat) (x : Port) : (s.setPort p x).faults = s.faults := rfl
@[simp] theorem State.setPort_box (p : Nat) (x : Port) : (s.setPort p x).box = s.box := rfl
@[simp] theorem State.setPort_cfg (p : Nat) (x : Port) : (s.setPort p x).cfg = s.cfg := rfl
@[simp] theorem State.setPort_sec (p : Nat) (x : Port) : (s.setPort p x).sec = s.sec := rfl
@[simp] theorem State.setPort_power (p : Nat) (x : Port) : (s.setPort p x).power = s.power := rfl
@[simp] theorem State.setPort_pair (p : Nat) (x : Port) : (s.setPort p x).pair = s.pair := rfl
@[simp] theorem State.setPort_inst (p : Nat) (x : Port) : (s.setPort p x).inst = s.inst := rfl
@[simp] theorem State.setPort_host (p : Nat) (x : Port) : (s.setPort p x).host = s.host := rfl
@[simp] theorem State.setPort_outs (p : Nat) (x : Port) : (s.setPort p x).outs = s.outs := rfl
@[simp] theorem State.setPort_freeCtr (p : Nat) (x : Port) : (s.setPort p x).freeCtr = s.freeCtr := rfl

/-! `setQueue` changes `sw` only. -/

@[simp] theorem State.setQueue_pending (k : Nat) (x : Queue) : (s.setQueue k x).pending = s.pending := rfl
@[simp] theorem State.setQueue_regs (k : Nat) (x : Queue) : (s.setQueue k x).regs = s.regs := rfl
@[simp] theorem State.setQueue_ctrs (k : Nat) (x : Queue) : (s.setQueue k x).ctrs = s.ctrs := rfl
@[simp] theorem State.setQueue_dev (k : Nat) (x : Queue) : (s.setQueue k x).dev = s.dev := rfl
@[simp] theorem State.setQueue_ck2l (k : Nat) (x : Queue) : (s.setQueue k x).ck2l = s.ck2l := rfl
@[simp] theorem State.setQueue_time (k : Nat) (x : Queue) : (s.setQueue k x).time = s.time := rfl
@[simp] theorem State.setQueue_lanes (k : Nat) (x : Queue) : (s.setQueue k x).lanes = s.lanes := rfl
@[simp] theorem State.setQueue_ports (k : Nat) (x : Queue) : (s.setQueue k x).ports = s.ports := rfl
@[simp] theorem State.setQueue_place (k : Nat) (x : Queue) : (s.setQueue k x).place = s.place := rfl
@[simp] theorem State.setQueue_parts (k : Nat) (x : Queue) : (s.setQueue k x).parts = s.parts := rfl
@[simp] theorem State.setQueue_partPend (k : Nat) (x : Queue) : (s.setQueue k x).partPend = s.partPend := rfl
@[simp] theorem State.setQueue_broken (k : Nat) (x : Queue) : (s.setQueue k x).broken = s.broken := rfl
@[simp] theorem State.setQueue_st (k : Nat) (x : Queue) : (s.setQueue k x).st = s.st := rfl
@[simp] theorem State.setQueue_flows (k : Nat) (x : Queue) : (s.setQueue k x).flows = s.flows := rfl
@[simp] theorem State.setQueue_floorMhz (k : Nat) (x : Queue) : (s.setQueue k x).floorMhz = s.floorMhz := rfl
@[simp] theorem State.setQueue_inject (k : Nat) (x : Queue) : (s.setQueue k x).inject = s.inject := rfl
@[simp] theorem State.setQueue_coll (k : Nat) (x : Queue) : (s.setQueue k x).coll = s.coll := rfl
@[simp] theorem State.setQueue_mem (k : Nat) (x : Queue) : (s.setQueue k x).mem = s.mem := rfl
@[simp] theorem State.setQueue_cmd (k : Nat) (x : Queue) : (s.setQueue k x).cmd = s.cmd := rfl
@[simp] theorem State.setQueue_sett (k : Nat) (x : Queue) : (s.setQueue k x).sett = s.sett := rfl
@[simp] theorem State.setQueue_accepting (k : Nat) (x : Queue) : (s.setQueue k x).accepting = s.accepting := rfl
@[simp] theorem State.setQueue_noticed (k : Nat) (x : Queue) : (s.setQueue k x).noticed = s.noticed := rfl
@[simp] theorem State.setQueue_serial (k : Nat) (x : Queue) : (s.setQueue k x).serial = s.serial := rfl
@[simp] theorem State.setQueue_fwRelease (k : Nat) (x : Queue) : (s.setQueue k x).fwRelease = s.fwRelease := rfl
@[simp] theorem State.setQueue_faults (k : Nat) (x : Queue) : (s.setQueue k x).faults = s.faults := rfl
@[simp] theorem State.setQueue_box (k : Nat) (x : Queue) : (s.setQueue k x).box = s.box := rfl
@[simp] theorem State.setQueue_cfg (k : Nat) (x : Queue) : (s.setQueue k x).cfg = s.cfg := rfl
@[simp] theorem State.setQueue_sec (k : Nat) (x : Queue) : (s.setQueue k x).sec = s.sec := rfl
@[simp] theorem State.setQueue_power (k : Nat) (x : Queue) : (s.setQueue k x).power = s.power := rfl
@[simp] theorem State.setQueue_pair (k : Nat) (x : Queue) : (s.setQueue k x).pair = s.pair := rfl
@[simp] theorem State.setQueue_inst (k : Nat) (x : Queue) : (s.setQueue k x).inst = s.inst := rfl
@[simp] theorem State.setQueue_host (k : Nat) (x : Queue) : (s.setQueue k x).host = s.host := rfl
@[simp] theorem State.setQueue_outs (k : Nat) (x : Queue) : (s.setQueue k x).outs = s.outs := rfl
@[simp] theorem State.setQueue_freeCtr (k : Nat) (x : Queue) : (s.setQueue k x).freeCtr = s.freeCtr := rfl

/-! `setPolicer` changes `sw` only. -/

@[simp] theorem State.setPolicer_pending (k : Nat) (x : Policer) : (s.setPolicer k x).pending = s.pending := rfl
@[simp] theorem State.setPolicer_regs (k : Nat) (x : Policer) : (s.setPolicer k x).regs = s.regs := rfl
@[simp] theorem State.setPolicer_ctrs (k : Nat) (x : Policer) : (s.setPolicer k x).ctrs = s.ctrs := rfl
@[simp] theorem State.setPolicer_dev (k : Nat) (x : Policer) : (s.setPolicer k x).dev = s.dev := rfl
@[simp] theorem State.setPolicer_ck2l (k : Nat) (x : Policer) : (s.setPolicer k x).ck2l = s.ck2l := rfl
@[simp] theorem State.setPolicer_time (k : Nat) (x : Policer) : (s.setPolicer k x).time = s.time := rfl
@[simp] theorem State.setPolicer_lanes (k : Nat) (x : Policer) : (s.setPolicer k x).lanes = s.lanes := rfl
@[simp] theorem State.setPolicer_ports (k : Nat) (x : Policer) : (s.setPolicer k x).ports = s.ports := rfl
@[simp] theorem State.setPolicer_place (k : Nat) (x : Policer) : (s.setPolicer k x).place = s.place := rfl
@[simp] theorem State.setPolicer_parts (k : Nat) (x : Policer) : (s.setPolicer k x).parts = s.parts := rfl
@[simp] theorem State.setPolicer_partPend (k : Nat) (x : Policer) : (s.setPolicer k x).partPend = s.partPend := rfl
@[simp] theorem State.setPolicer_broken (k : Nat) (x : Policer) : (s.setPolicer k x).broken = s.broken := rfl
@[simp] theorem State.setPolicer_st (k : Nat) (x : Policer) : (s.setPolicer k x).st = s.st := rfl
@[simp] theorem State.setPolicer_flows (k : Nat) (x : Policer) : (s.setPolicer k x).flows = s.flows := rfl
@[simp] theorem State.setPolicer_floorMhz (k : Nat) (x : Policer) : (s.setPolicer k x).floorMhz = s.floorMhz := rfl
@[simp] theorem State.setPolicer_inject (k : Nat) (x : Policer) : (s.setPolicer k x).inject = s.inject := rfl
@[simp] theorem State.setPolicer_coll (k : Nat) (x : Policer) : (s.setPolicer k x).coll = s.coll := rfl
@[simp] theorem State.setPolicer_mem (k : Nat) (x : Policer) : (s.setPolicer k x).mem = s.mem := rfl
@[simp] theorem State.setPolicer_cmd (k : Nat) (x : Policer) : (s.setPolicer k x).cmd = s.cmd := rfl
@[simp] theorem State.setPolicer_sett (k : Nat) (x : Policer) : (s.setPolicer k x).sett = s.sett := rfl
@[simp] theorem State.setPolicer_accepting (k : Nat) (x : Policer) : (s.setPolicer k x).accepting = s.accepting := rfl
@[simp] theorem State.setPolicer_noticed (k : Nat) (x : Policer) : (s.setPolicer k x).noticed = s.noticed := rfl
@[simp] theorem State.setPolicer_serial (k : Nat) (x : Policer) : (s.setPolicer k x).serial = s.serial := rfl
@[simp] theorem State.setPolicer_fwRelease (k : Nat) (x : Policer) : (s.setPolicer k x).fwRelease = s.fwRelease := rfl
@[simp] theorem State.setPolicer_faults (k : Nat) (x : Policer) : (s.setPolicer k x).faults = s.faults := rfl
@[simp] theorem State.setPolicer_box (k : Nat) (x : Policer) : (s.setPolicer k x).box = s.box := rfl
@[simp] theorem State.setPolicer_cfg (k : Nat) (x : Policer) : (s.setPolicer k x).cfg = s.cfg := rfl
@[simp] theorem State.setPolicer_sec (k : Nat) (x : Policer) : (s.setPolicer k x).sec = s.sec := rfl
@[simp] theorem State.setPolicer_power (k : Nat) (x : Policer) : (s.setPolicer k x).power = s.power := rfl
@[simp] theorem State.setPolicer_pair (k : Nat) (x : Policer) : (s.setPolicer k x).pair = s.pair := rfl
@[simp] theorem State.setPolicer_inst (k : Nat) (x : Policer) : (s.setPolicer k x).inst = s.inst := rfl
@[simp] theorem State.setPolicer_host (k : Nat) (x : Policer) : (s.setPolicer k x).host = s.host := rfl
@[simp] theorem State.setPolicer_outs (k : Nat) (x : Policer) : (s.setPolicer k x).outs = s.outs := rfl
@[simp] theorem State.setPolicer_freeCtr (k : Nat) (x : Policer) : (s.setPolicer k x).freeCtr = s.freeCtr := rfl

/-! `setTxs` changes `st` only. -/

@[simp] theorem State.setTxs_pending (d tc : Nat) (x : TxStream) : (s.setTxs d tc x).pending = s.pending := rfl
@[simp] theorem State.setTxs_regs (d tc : Nat) (x : TxStream) : (s.setTxs d tc x).regs = s.regs := rfl
@[simp] theorem State.setTxs_ctrs (d tc : Nat) (x : TxStream) : (s.setTxs d tc x).ctrs = s.ctrs := rfl
@[simp] theorem State.setTxs_dev (d tc : Nat) (x : TxStream) : (s.setTxs d tc x).dev = s.dev := rfl
@[simp] theorem State.setTxs_ck2l (d tc : Nat) (x : TxStream) : (s.setTxs d tc x).ck2l = s.ck2l := rfl
@[simp] theorem State.setTxs_time (d tc : Nat) (x : TxStream) : (s.setTxs d tc x).time = s.time := rfl
@[simp] theorem State.setTxs_lanes (d tc : Nat) (x : TxStream) : (s.setTxs d tc x).lanes = s.lanes := rfl
@[simp] theorem State.setTxs_ports (d tc : Nat) (x : TxStream) : (s.setTxs d tc x).ports = s.ports := rfl
@[simp] theorem State.setTxs_place (d tc : Nat) (x : TxStream) : (s.setTxs d tc x).place = s.place := rfl
@[simp] theorem State.setTxs_parts (d tc : Nat) (x : TxStream) : (s.setTxs d tc x).parts = s.parts := rfl
@[simp] theorem State.setTxs_partPend (d tc : Nat) (x : TxStream) : (s.setTxs d tc x).partPend = s.partPend := rfl
@[simp] theorem State.setTxs_broken (d tc : Nat) (x : TxStream) : (s.setTxs d tc x).broken = s.broken := rfl
@[simp] theorem State.setTxs_sw (d tc : Nat) (x : TxStream) : (s.setTxs d tc x).sw = s.sw := rfl
@[simp] theorem State.setTxs_flows (d tc : Nat) (x : TxStream) : (s.setTxs d tc x).flows = s.flows := rfl
@[simp] theorem State.setTxs_floorMhz (d tc : Nat) (x : TxStream) : (s.setTxs d tc x).floorMhz = s.floorMhz := rfl
@[simp] theorem State.setTxs_inject (d tc : Nat) (x : TxStream) : (s.setTxs d tc x).inject = s.inject := rfl
@[simp] theorem State.setTxs_coll (d tc : Nat) (x : TxStream) : (s.setTxs d tc x).coll = s.coll := rfl
@[simp] theorem State.setTxs_mem (d tc : Nat) (x : TxStream) : (s.setTxs d tc x).mem = s.mem := rfl
@[simp] theorem State.setTxs_cmd (d tc : Nat) (x : TxStream) : (s.setTxs d tc x).cmd = s.cmd := rfl
@[simp] theorem State.setTxs_sett (d tc : Nat) (x : TxStream) : (s.setTxs d tc x).sett = s.sett := rfl
@[simp] theorem State.setTxs_accepting (d tc : Nat) (x : TxStream) : (s.setTxs d tc x).accepting = s.accepting := rfl
@[simp] theorem State.setTxs_noticed (d tc : Nat) (x : TxStream) : (s.setTxs d tc x).noticed = s.noticed := rfl
@[simp] theorem State.setTxs_serial (d tc : Nat) (x : TxStream) : (s.setTxs d tc x).serial = s.serial := rfl
@[simp] theorem State.setTxs_fwRelease (d tc : Nat) (x : TxStream) : (s.setTxs d tc x).fwRelease = s.fwRelease := rfl
@[simp] theorem State.setTxs_faults (d tc : Nat) (x : TxStream) : (s.setTxs d tc x).faults = s.faults := rfl
@[simp] theorem State.setTxs_box (d tc : Nat) (x : TxStream) : (s.setTxs d tc x).box = s.box := rfl
@[simp] theorem State.setTxs_cfg (d tc : Nat) (x : TxStream) : (s.setTxs d tc x).cfg = s.cfg := rfl
@[simp] theorem State.setTxs_sec (d tc : Nat) (x : TxStream) : (s.setTxs d tc x).sec = s.sec := rfl
@[simp] theorem State.setTxs_power (d tc : Nat) (x : TxStream) : (s.setTxs d tc x).power = s.power := rfl
@[simp] theorem State.setTxs_pair (d tc : Nat) (x : TxStream) : (s.setTxs d tc x).pair = s.pair := rfl
@[simp] theorem State.setTxs_inst (d tc : Nat) (x : TxStream) : (s.setTxs d tc x).inst = s.inst := rfl
@[simp] theorem State.setTxs_host (d tc : Nat) (x : TxStream) : (s.setTxs d tc x).host = s.host := rfl
@[simp] theorem State.setTxs_outs (d tc : Nat) (x : TxStream) : (s.setTxs d tc x).outs = s.outs := rfl
@[simp] theorem State.setTxs_freeCtr (d tc : Nat) (x : TxStream) : (s.setTxs d tc x).freeCtr = s.freeCtr := rfl

/-! `setRxs` changes `st` only. -/

@[simp] theorem State.setRxs_pending (d tc : Nat) (x : RxStream) : (s.setRxs d tc x).pending = s.pending := rfl
@[simp] theorem State.setRxs_regs (d tc : Nat) (x : RxStream) : (s.setRxs d tc x).regs = s.regs := rfl
@[simp] theorem State.setRxs_ctrs (d tc : Nat) (x : RxStream) : (s.setRxs d tc x).ctrs = s.ctrs := rfl
@[simp] theorem State.setRxs_dev (d tc : Nat) (x : RxStream) : (s.setRxs d tc x).dev = s.dev := rfl
@[simp] theorem State.setRxs_ck2l (d tc : Nat) (x : RxStream) : (s.setRxs d tc x).ck2l = s.ck2l := rfl
@[simp] theorem State.setRxs_time (d tc : Nat) (x : RxStream) : (s.setRxs d tc x).time = s.time := rfl
@[simp] theorem State.setRxs_lanes (d tc : Nat) (x : RxStream) : (s.setRxs d tc x).lanes = s.lanes := rfl
@[simp] theorem State.setRxs_ports (d tc : Nat) (x : RxStream) : (s.setRxs d tc x).ports = s.ports := rfl
@[simp] theorem State.setRxs_place (d tc : Nat) (x : RxStream) : (s.setRxs d tc x).place = s.place := rfl
@[simp] theorem State.setRxs_parts (d tc : Nat) (x : RxStream) : (s.setRxs d tc x).parts = s.parts := rfl
@[simp] theorem State.setRxs_partPend (d tc : Nat) (x : RxStream) : (s.setRxs d tc x).partPend = s.partPend := rfl
@[simp] theorem State.setRxs_broken (d tc : Nat) (x : RxStream) : (s.setRxs d tc x).broken = s.broken := rfl
@[simp] theorem State.setRxs_sw (d tc : Nat) (x : RxStream) : (s.setRxs d tc x).sw = s.sw := rfl
@[simp] theorem State.setRxs_flows (d tc : Nat) (x : RxStream) : (s.setRxs d tc x).flows = s.flows := rfl
@[simp] theorem State.setRxs_floorMhz (d tc : Nat) (x : RxStream) : (s.setRxs d tc x).floorMhz = s.floorMhz := rfl
@[simp] theorem State.setRxs_inject (d tc : Nat) (x : RxStream) : (s.setRxs d tc x).inject = s.inject := rfl
@[simp] theorem State.setRxs_coll (d tc : Nat) (x : RxStream) : (s.setRxs d tc x).coll = s.coll := rfl
@[simp] theorem State.setRxs_mem (d tc : Nat) (x : RxStream) : (s.setRxs d tc x).mem = s.mem := rfl
@[simp] theorem State.setRxs_cmd (d tc : Nat) (x : RxStream) : (s.setRxs d tc x).cmd = s.cmd := rfl
@[simp] theorem State.setRxs_sett (d tc : Nat) (x : RxStream) : (s.setRxs d tc x).sett = s.sett := rfl
@[simp] theorem State.setRxs_accepting (d tc : Nat) (x : RxStream) : (s.setRxs d tc x).accepting = s.accepting := rfl
@[simp] theorem State.setRxs_noticed (d tc : Nat) (x : RxStream) : (s.setRxs d tc x).noticed = s.noticed := rfl
@[simp] theorem State.setRxs_serial (d tc : Nat) (x : RxStream) : (s.setRxs d tc x).serial = s.serial := rfl
@[simp] theorem State.setRxs_fwRelease (d tc : Nat) (x : RxStream) : (s.setRxs d tc x).fwRelease = s.fwRelease := rfl
@[simp] theorem State.setRxs_faults (d tc : Nat) (x : RxStream) : (s.setRxs d tc x).faults = s.faults := rfl
@[simp] theorem State.setRxs_box (d tc : Nat) (x : RxStream) : (s.setRxs d tc x).box = s.box := rfl
@[simp] theorem State.setRxs_cfg (d tc : Nat) (x : RxStream) : (s.setRxs d tc x).cfg = s.cfg := rfl
@[simp] theorem State.setRxs_sec (d tc : Nat) (x : RxStream) : (s.setRxs d tc x).sec = s.sec := rfl
@[simp] theorem State.setRxs_power (d tc : Nat) (x : RxStream) : (s.setRxs d tc x).power = s.power := rfl
@[simp] theorem State.setRxs_pair (d tc : Nat) (x : RxStream) : (s.setRxs d tc x).pair = s.pair := rfl
@[simp] theorem State.setRxs_inst (d tc : Nat) (x : RxStream) : (s.setRxs d tc x).inst = s.inst := rfl
@[simp] theorem State.setRxs_host (d tc : Nat) (x : RxStream) : (s.setRxs d tc x).host = s.host := rfl
@[simp] theorem State.setRxs_outs (d tc : Nat) (x : RxStream) : (s.setRxs d tc x).outs = s.outs := rfl
@[simp] theorem State.setRxs_freeCtr (d tc : Nat) (x : RxStream) : (s.setRxs d tc x).freeCtr = s.freeCtr := rfl

/-! `setSlot` changes `cmd` only. -/

@[simp] theorem State.setSlot_pending (n : Nat) (x : CmdSlot) : (s.setSlot n x).pending = s.pending := rfl
@[simp] theorem State.setSlot_regs (n : Nat) (x : CmdSlot) : (s.setSlot n x).regs = s.regs := rfl
@[simp] theorem State.setSlot_ctrs (n : Nat) (x : CmdSlot) : (s.setSlot n x).ctrs = s.ctrs := rfl
@[simp] theorem State.setSlot_dev (n : Nat) (x : CmdSlot) : (s.setSlot n x).dev = s.dev := rfl
@[simp] theorem State.setSlot_ck2l (n : Nat) (x : CmdSlot) : (s.setSlot n x).ck2l = s.ck2l := rfl
@[simp] theorem State.setSlot_time (n : Nat) (x : CmdSlot) : (s.setSlot n x).time = s.time := rfl
@[simp] theorem State.setSlot_lanes (n : Nat) (x : CmdSlot) : (s.setSlot n x).lanes = s.lanes := rfl
@[simp] theorem State.setSlot_ports (n : Nat) (x : CmdSlot) : (s.setSlot n x).ports = s.ports := rfl
@[simp] theorem State.setSlot_place (n : Nat) (x : CmdSlot) : (s.setSlot n x).place = s.place := rfl
@[simp] theorem State.setSlot_parts (n : Nat) (x : CmdSlot) : (s.setSlot n x).parts = s.parts := rfl
@[simp] theorem State.setSlot_partPend (n : Nat) (x : CmdSlot) : (s.setSlot n x).partPend = s.partPend := rfl
@[simp] theorem State.setSlot_broken (n : Nat) (x : CmdSlot) : (s.setSlot n x).broken = s.broken := rfl
@[simp] theorem State.setSlot_sw (n : Nat) (x : CmdSlot) : (s.setSlot n x).sw = s.sw := rfl
@[simp] theorem State.setSlot_st (n : Nat) (x : CmdSlot) : (s.setSlot n x).st = s.st := rfl
@[simp] theorem State.setSlot_flows (n : Nat) (x : CmdSlot) : (s.setSlot n x).flows = s.flows := rfl
@[simp] theorem State.setSlot_floorMhz (n : Nat) (x : CmdSlot) : (s.setSlot n x).floorMhz = s.floorMhz := rfl
@[simp] theorem State.setSlot_inject (n : Nat) (x : CmdSlot) : (s.setSlot n x).inject = s.inject := rfl
@[simp] theorem State.setSlot_coll (n : Nat) (x : CmdSlot) : (s.setSlot n x).coll = s.coll := rfl
@[simp] theorem State.setSlot_mem (n : Nat) (x : CmdSlot) : (s.setSlot n x).mem = s.mem := rfl
@[simp] theorem State.setSlot_sett (n : Nat) (x : CmdSlot) : (s.setSlot n x).sett = s.sett := rfl
@[simp] theorem State.setSlot_accepting (n : Nat) (x : CmdSlot) : (s.setSlot n x).accepting = s.accepting := rfl
@[simp] theorem State.setSlot_noticed (n : Nat) (x : CmdSlot) : (s.setSlot n x).noticed = s.noticed := rfl
@[simp] theorem State.setSlot_serial (n : Nat) (x : CmdSlot) : (s.setSlot n x).serial = s.serial := rfl
@[simp] theorem State.setSlot_fwRelease (n : Nat) (x : CmdSlot) : (s.setSlot n x).fwRelease = s.fwRelease := rfl
@[simp] theorem State.setSlot_faults (n : Nat) (x : CmdSlot) : (s.setSlot n x).faults = s.faults := rfl
@[simp] theorem State.setSlot_box (n : Nat) (x : CmdSlot) : (s.setSlot n x).box = s.box := rfl
@[simp] theorem State.setSlot_cfg (n : Nat) (x : CmdSlot) : (s.setSlot n x).cfg = s.cfg := rfl
@[simp] theorem State.setSlot_sec (n : Nat) (x : CmdSlot) : (s.setSlot n x).sec = s.sec := rfl
@[simp] theorem State.setSlot_power (n : Nat) (x : CmdSlot) : (s.setSlot n x).power = s.power := rfl
@[simp] theorem State.setSlot_pair (n : Nat) (x : CmdSlot) : (s.setSlot n x).pair = s.pair := rfl
@[simp] theorem State.setSlot_inst (n : Nat) (x : CmdSlot) : (s.setSlot n x).inst = s.inst := rfl
@[simp] theorem State.setSlot_host (n : Nat) (x : CmdSlot) : (s.setSlot n x).host = s.host := rfl
@[simp] theorem State.setSlot_outs (n : Nat) (x : CmdSlot) : (s.setSlot n x).outs = s.outs := rfl
@[simp] theorem State.setSlot_freeCtr (n : Nat) (x : CmdSlot) : (s.setSlot n x).freeCtr = s.freeCtr := rfl

/-! `setDups` changes `cmd` only. -/

@[simp] theorem State.setDups_pending (e : Nat) (l : List DupEntry) : (s.setDups e l).pending = s.pending := rfl
@[simp] theorem State.setDups_regs (e : Nat) (l : List DupEntry) : (s.setDups e l).regs = s.regs := rfl
@[simp] theorem State.setDups_ctrs (e : Nat) (l : List DupEntry) : (s.setDups e l).ctrs = s.ctrs := rfl
@[simp] theorem State.setDups_dev (e : Nat) (l : List DupEntry) : (s.setDups e l).dev = s.dev := rfl
@[simp] theorem State.setDups_ck2l (e : Nat) (l : List DupEntry) : (s.setDups e l).ck2l = s.ck2l := rfl
@[simp] theorem State.setDups_time (e : Nat) (l : List DupEntry) : (s.setDups e l).time = s.time := rfl
@[simp] theorem State.setDups_lanes (e : Nat) (l : List DupEntry) : (s.setDups e l).lanes = s.lanes := rfl
@[simp] theorem State.setDups_ports (e : Nat) (l : List DupEntry) : (s.setDups e l).ports = s.ports := rfl
@[simp] theorem State.setDups_place (e : Nat) (l : List DupEntry) : (s.setDups e l).place = s.place := rfl
@[simp] theorem State.setDups_parts (e : Nat) (l : List DupEntry) : (s.setDups e l).parts = s.parts := rfl
@[simp] theorem State.setDups_partPend (e : Nat) (l : List DupEntry) : (s.setDups e l).partPend = s.partPend := rfl
@[simp] theorem State.setDups_broken (e : Nat) (l : List DupEntry) : (s.setDups e l).broken = s.broken := rfl
@[simp] theorem State.setDups_sw (e : Nat) (l : List DupEntry) : (s.setDups e l).sw = s.sw := rfl
@[simp] theorem State.setDups_st (e : Nat) (l : List DupEntry) : (s.setDups e l).st = s.st := rfl
@[simp] theorem State.setDups_flows (e : Nat) (l : List DupEntry) : (s.setDups e l).flows = s.flows := rfl
@[simp] theorem State.setDups_floorMhz (e : Nat) (l : List DupEntry) : (s.setDups e l).floorMhz = s.floorMhz := rfl
@[simp] theorem State.setDups_inject (e : Nat) (l : List DupEntry) : (s.setDups e l).inject = s.inject := rfl
@[simp] theorem State.setDups_coll (e : Nat) (l : List DupEntry) : (s.setDups e l).coll = s.coll := rfl
@[simp] theorem State.setDups_mem (e : Nat) (l : List DupEntry) : (s.setDups e l).mem = s.mem := rfl
@[simp] theorem State.setDups_sett (e : Nat) (l : List DupEntry) : (s.setDups e l).sett = s.sett := rfl
@[simp] theorem State.setDups_accepting (e : Nat) (l : List DupEntry) : (s.setDups e l).accepting = s.accepting := rfl
@[simp] theorem State.setDups_noticed (e : Nat) (l : List DupEntry) : (s.setDups e l).noticed = s.noticed := rfl
@[simp] theorem State.setDups_serial (e : Nat) (l : List DupEntry) : (s.setDups e l).serial = s.serial := rfl
@[simp] theorem State.setDups_fwRelease (e : Nat) (l : List DupEntry) : (s.setDups e l).fwRelease = s.fwRelease := rfl
@[simp] theorem State.setDups_faults (e : Nat) (l : List DupEntry) : (s.setDups e l).faults = s.faults := rfl
@[simp] theorem State.setDups_box (e : Nat) (l : List DupEntry) : (s.setDups e l).box = s.box := rfl
@[simp] theorem State.setDups_cfg (e : Nat) (l : List DupEntry) : (s.setDups e l).cfg = s.cfg := rfl
@[simp] theorem State.setDups_sec (e : Nat) (l : List DupEntry) : (s.setDups e l).sec = s.sec := rfl
@[simp] theorem State.setDups_power (e : Nat) (l : List DupEntry) : (s.setDups e l).power = s.power := rfl
@[simp] theorem State.setDups_pair (e : Nat) (l : List DupEntry) : (s.setDups e l).pair = s.pair := rfl
@[simp] theorem State.setDups_inst (e : Nat) (l : List DupEntry) : (s.setDups e l).inst = s.inst := rfl
@[simp] theorem State.setDups_host (e : Nat) (l : List DupEntry) : (s.setDups e l).host = s.host := rfl
@[simp] theorem State.setDups_outs (e : Nat) (l : List DupEntry) : (s.setDups e l).outs = s.outs := rfl
@[simp] theorem State.setDups_freeCtr (e : Nat) (l : List DupEntry) : (s.setDups e l).freeCtr = s.freeCtr := rfl

/-! `setCtx` changes `coll` only. -/

@[simp] theorem State.setCtx_pending (k : Nat) (x : Ctx) : (s.setCtx k x).pending = s.pending := rfl
@[simp] theorem State.setCtx_regs (k : Nat) (x : Ctx) : (s.setCtx k x).regs = s.regs := rfl
@[simp] theorem State.setCtx_ctrs (k : Nat) (x : Ctx) : (s.setCtx k x).ctrs = s.ctrs := rfl
@[simp] theorem State.setCtx_dev (k : Nat) (x : Ctx) : (s.setCtx k x).dev = s.dev := rfl
@[simp] theorem State.setCtx_ck2l (k : Nat) (x : Ctx) : (s.setCtx k x).ck2l = s.ck2l := rfl
@[simp] theorem State.setCtx_time (k : Nat) (x : Ctx) : (s.setCtx k x).time = s.time := rfl
@[simp] theorem State.setCtx_lanes (k : Nat) (x : Ctx) : (s.setCtx k x).lanes = s.lanes := rfl
@[simp] theorem State.setCtx_ports (k : Nat) (x : Ctx) : (s.setCtx k x).ports = s.ports := rfl
@[simp] theorem State.setCtx_place (k : Nat) (x : Ctx) : (s.setCtx k x).place = s.place := rfl
@[simp] theorem State.setCtx_parts (k : Nat) (x : Ctx) : (s.setCtx k x).parts = s.parts := rfl
@[simp] theorem State.setCtx_partPend (k : Nat) (x : Ctx) : (s.setCtx k x).partPend = s.partPend := rfl
@[simp] theorem State.setCtx_broken (k : Nat) (x : Ctx) : (s.setCtx k x).broken = s.broken := rfl
@[simp] theorem State.setCtx_sw (k : Nat) (x : Ctx) : (s.setCtx k x).sw = s.sw := rfl
@[simp] theorem State.setCtx_st (k : Nat) (x : Ctx) : (s.setCtx k x).st = s.st := rfl
@[simp] theorem State.setCtx_flows (k : Nat) (x : Ctx) : (s.setCtx k x).flows = s.flows := rfl
@[simp] theorem State.setCtx_floorMhz (k : Nat) (x : Ctx) : (s.setCtx k x).floorMhz = s.floorMhz := rfl
@[simp] theorem State.setCtx_inject (k : Nat) (x : Ctx) : (s.setCtx k x).inject = s.inject := rfl
@[simp] theorem State.setCtx_mem (k : Nat) (x : Ctx) : (s.setCtx k x).mem = s.mem := rfl
@[simp] theorem State.setCtx_cmd (k : Nat) (x : Ctx) : (s.setCtx k x).cmd = s.cmd := rfl
@[simp] theorem State.setCtx_sett (k : Nat) (x : Ctx) : (s.setCtx k x).sett = s.sett := rfl
@[simp] theorem State.setCtx_accepting (k : Nat) (x : Ctx) : (s.setCtx k x).accepting = s.accepting := rfl
@[simp] theorem State.setCtx_noticed (k : Nat) (x : Ctx) : (s.setCtx k x).noticed = s.noticed := rfl
@[simp] theorem State.setCtx_serial (k : Nat) (x : Ctx) : (s.setCtx k x).serial = s.serial := rfl
@[simp] theorem State.setCtx_fwRelease (k : Nat) (x : Ctx) : (s.setCtx k x).fwRelease = s.fwRelease := rfl
@[simp] theorem State.setCtx_faults (k : Nat) (x : Ctx) : (s.setCtx k x).faults = s.faults := rfl
@[simp] theorem State.setCtx_box (k : Nat) (x : Ctx) : (s.setCtx k x).box = s.box := rfl
@[simp] theorem State.setCtx_cfg (k : Nat) (x : Ctx) : (s.setCtx k x).cfg = s.cfg := rfl
@[simp] theorem State.setCtx_sec (k : Nat) (x : Ctx) : (s.setCtx k x).sec = s.sec := rfl
@[simp] theorem State.setCtx_power (k : Nat) (x : Ctx) : (s.setCtx k x).power = s.power := rfl
@[simp] theorem State.setCtx_pair (k : Nat) (x : Ctx) : (s.setCtx k x).pair = s.pair := rfl
@[simp] theorem State.setCtx_inst (k : Nat) (x : Ctx) : (s.setCtx k x).inst = s.inst := rfl
@[simp] theorem State.setCtx_host (k : Nat) (x : Ctx) : (s.setCtx k x).host = s.host := rfl
@[simp] theorem State.setCtx_outs (k : Nat) (x : Ctx) : (s.setCtx k x).outs = s.outs := rfl
@[simp] theorem State.setCtx_freeCtr (k : Nat) (x : Ctx) : (s.setCtx k x).freeCtr = s.freeCtr := rfl

/-! `setRegion` changes `mem` only. -/

@[simp] theorem State.setRegion_pending (k : Nat) (x : Region) : (s.setRegion k x).pending = s.pending := rfl
@[simp] theorem State.setRegion_regs (k : Nat) (x : Region) : (s.setRegion k x).regs = s.regs := rfl
@[simp] theorem State.setRegion_ctrs (k : Nat) (x : Region) : (s.setRegion k x).ctrs = s.ctrs := rfl
@[simp] theorem State.setRegion_dev (k : Nat) (x : Region) : (s.setRegion k x).dev = s.dev := rfl
@[simp] theorem State.setRegion_ck2l (k : Nat) (x : Region) : (s.setRegion k x).ck2l = s.ck2l := rfl
@[simp] theorem State.setRegion_time (k : Nat) (x : Region) : (s.setRegion k x).time = s.time := rfl
@[simp] theorem State.setRegion_lanes (k : Nat) (x : Region) : (s.setRegion k x).lanes = s.lanes := rfl
@[simp] theorem State.setRegion_ports (k : Nat) (x : Region) : (s.setRegion k x).ports = s.ports := rfl
@[simp] theorem State.setRegion_place (k : Nat) (x : Region) : (s.setRegion k x).place = s.place := rfl
@[simp] theorem State.setRegion_parts (k : Nat) (x : Region) : (s.setRegion k x).parts = s.parts := rfl
@[simp] theorem State.setRegion_partPend (k : Nat) (x : Region) : (s.setRegion k x).partPend = s.partPend := rfl
@[simp] theorem State.setRegion_broken (k : Nat) (x : Region) : (s.setRegion k x).broken = s.broken := rfl
@[simp] theorem State.setRegion_sw (k : Nat) (x : Region) : (s.setRegion k x).sw = s.sw := rfl
@[simp] theorem State.setRegion_st (k : Nat) (x : Region) : (s.setRegion k x).st = s.st := rfl
@[simp] theorem State.setRegion_flows (k : Nat) (x : Region) : (s.setRegion k x).flows = s.flows := rfl
@[simp] theorem State.setRegion_floorMhz (k : Nat) (x : Region) : (s.setRegion k x).floorMhz = s.floorMhz := rfl
@[simp] theorem State.setRegion_inject (k : Nat) (x : Region) : (s.setRegion k x).inject = s.inject := rfl
@[simp] theorem State.setRegion_coll (k : Nat) (x : Region) : (s.setRegion k x).coll = s.coll := rfl
@[simp] theorem State.setRegion_cmd (k : Nat) (x : Region) : (s.setRegion k x).cmd = s.cmd := rfl
@[simp] theorem State.setRegion_sett (k : Nat) (x : Region) : (s.setRegion k x).sett = s.sett := rfl
@[simp] theorem State.setRegion_accepting (k : Nat) (x : Region) : (s.setRegion k x).accepting = s.accepting := rfl
@[simp] theorem State.setRegion_noticed (k : Nat) (x : Region) : (s.setRegion k x).noticed = s.noticed := rfl
@[simp] theorem State.setRegion_serial (k : Nat) (x : Region) : (s.setRegion k x).serial = s.serial := rfl
@[simp] theorem State.setRegion_fwRelease (k : Nat) (x : Region) : (s.setRegion k x).fwRelease = s.fwRelease := rfl
@[simp] theorem State.setRegion_faults (k : Nat) (x : Region) : (s.setRegion k x).faults = s.faults := rfl
@[simp] theorem State.setRegion_box (k : Nat) (x : Region) : (s.setRegion k x).box = s.box := rfl
@[simp] theorem State.setRegion_cfg (k : Nat) (x : Region) : (s.setRegion k x).cfg = s.cfg := rfl
@[simp] theorem State.setRegion_sec (k : Nat) (x : Region) : (s.setRegion k x).sec = s.sec := rfl
@[simp] theorem State.setRegion_power (k : Nat) (x : Region) : (s.setRegion k x).power = s.power := rfl
@[simp] theorem State.setRegion_pair (k : Nat) (x : Region) : (s.setRegion k x).pair = s.pair := rfl
@[simp] theorem State.setRegion_inst (k : Nat) (x : Region) : (s.setRegion k x).inst = s.inst := rfl
@[simp] theorem State.setRegion_host (k : Nat) (x : Region) : (s.setRegion k x).host = s.host := rfl
@[simp] theorem State.setRegion_outs (k : Nat) (x : Region) : (s.setRegion k x).outs = s.outs := rfl
@[simp] theorem State.setRegion_freeCtr (k : Nat) (x : Region) : (s.setRegion k x).freeCtr = s.freeCtr := rfl

/-! `setChan` changes `mem` only. -/

@[simp] theorem State.setChan_pending (b : Bool) (c : Nat) (x : Channel) : (s.setChan b c x).pending = s.pending := rfl
@[simp] theorem State.setChan_regs (b : Bool) (c : Nat) (x : Channel) : (s.setChan b c x).regs = s.regs := rfl
@[simp] theorem State.setChan_ctrs (b : Bool) (c : Nat) (x : Channel) : (s.setChan b c x).ctrs = s.ctrs := rfl
@[simp] theorem State.setChan_dev (b : Bool) (c : Nat) (x : Channel) : (s.setChan b c x).dev = s.dev := rfl
@[simp] theorem State.setChan_ck2l (b : Bool) (c : Nat) (x : Channel) : (s.setChan b c x).ck2l = s.ck2l := rfl
@[simp] theorem State.setChan_time (b : Bool) (c : Nat) (x : Channel) : (s.setChan b c x).time = s.time := rfl
@[simp] theorem State.setChan_lanes (b : Bool) (c : Nat) (x : Channel) : (s.setChan b c x).lanes = s.lanes := rfl
@[simp] theorem State.setChan_ports (b : Bool) (c : Nat) (x : Channel) : (s.setChan b c x).ports = s.ports := rfl
@[simp] theorem State.setChan_place (b : Bool) (c : Nat) (x : Channel) : (s.setChan b c x).place = s.place := rfl
@[simp] theorem State.setChan_parts (b : Bool) (c : Nat) (x : Channel) : (s.setChan b c x).parts = s.parts := rfl
@[simp] theorem State.setChan_partPend (b : Bool) (c : Nat) (x : Channel) : (s.setChan b c x).partPend = s.partPend := rfl
@[simp] theorem State.setChan_broken (b : Bool) (c : Nat) (x : Channel) : (s.setChan b c x).broken = s.broken := rfl
@[simp] theorem State.setChan_sw (b : Bool) (c : Nat) (x : Channel) : (s.setChan b c x).sw = s.sw := rfl
@[simp] theorem State.setChan_st (b : Bool) (c : Nat) (x : Channel) : (s.setChan b c x).st = s.st := rfl
@[simp] theorem State.setChan_flows (b : Bool) (c : Nat) (x : Channel) : (s.setChan b c x).flows = s.flows := rfl
@[simp] theorem State.setChan_floorMhz (b : Bool) (c : Nat) (x : Channel) : (s.setChan b c x).floorMhz = s.floorMhz := rfl
@[simp] theorem State.setChan_inject (b : Bool) (c : Nat) (x : Channel) : (s.setChan b c x).inject = s.inject := rfl
@[simp] theorem State.setChan_coll (b : Bool) (c : Nat) (x : Channel) : (s.setChan b c x).coll = s.coll := rfl
@[simp] theorem State.setChan_cmd (b : Bool) (c : Nat) (x : Channel) : (s.setChan b c x).cmd = s.cmd := rfl
@[simp] theorem State.setChan_sett (b : Bool) (c : Nat) (x : Channel) : (s.setChan b c x).sett = s.sett := rfl
@[simp] theorem State.setChan_accepting (b : Bool) (c : Nat) (x : Channel) : (s.setChan b c x).accepting = s.accepting := rfl
@[simp] theorem State.setChan_noticed (b : Bool) (c : Nat) (x : Channel) : (s.setChan b c x).noticed = s.noticed := rfl
@[simp] theorem State.setChan_serial (b : Bool) (c : Nat) (x : Channel) : (s.setChan b c x).serial = s.serial := rfl
@[simp] theorem State.setChan_fwRelease (b : Bool) (c : Nat) (x : Channel) : (s.setChan b c x).fwRelease = s.fwRelease := rfl
@[simp] theorem State.setChan_faults (b : Bool) (c : Nat) (x : Channel) : (s.setChan b c x).faults = s.faults := rfl
@[simp] theorem State.setChan_box (b : Bool) (c : Nat) (x : Channel) : (s.setChan b c x).box = s.box := rfl
@[simp] theorem State.setChan_cfg (b : Bool) (c : Nat) (x : Channel) : (s.setChan b c x).cfg = s.cfg := rfl
@[simp] theorem State.setChan_sec (b : Bool) (c : Nat) (x : Channel) : (s.setChan b c x).sec = s.sec := rfl
@[simp] theorem State.setChan_power (b : Bool) (c : Nat) (x : Channel) : (s.setChan b c x).power = s.power := rfl
@[simp] theorem State.setChan_pair (b : Bool) (c : Nat) (x : Channel) : (s.setChan b c x).pair = s.pair := rfl
@[simp] theorem State.setChan_inst (b : Bool) (c : Nat) (x : Channel) : (s.setChan b c x).inst = s.inst := rfl
@[simp] theorem State.setChan_host (b : Bool) (c : Nat) (x : Channel) : (s.setChan b c x).host = s.host := rfl
@[simp] theorem State.setChan_outs (b : Bool) (c : Nat) (x : Channel) : (s.setChan b c x).outs = s.outs := rfl
@[simp] theorem State.setChan_freeCtr (b : Bool) (c : Nat) (x : Channel) : (s.setChan b c x).freeCtr = s.freeCtr := rfl

/-! `setCore` changes `sett` only. -/

@[simp] theorem State.setCore_pending (c : Nat) (x : SettCore) : (s.setCore c x).pending = s.pending := rfl
@[simp] theorem State.setCore_regs (c : Nat) (x : SettCore) : (s.setCore c x).regs = s.regs := rfl
@[simp] theorem State.setCore_ctrs (c : Nat) (x : SettCore) : (s.setCore c x).ctrs = s.ctrs := rfl
@[simp] theorem State.setCore_dev (c : Nat) (x : SettCore) : (s.setCore c x).dev = s.dev := rfl
@[simp] theorem State.setCore_ck2l (c : Nat) (x : SettCore) : (s.setCore c x).ck2l = s.ck2l := rfl
@[simp] theorem State.setCore_time (c : Nat) (x : SettCore) : (s.setCore c x).time = s.time := rfl
@[simp] theorem State.setCore_lanes (c : Nat) (x : SettCore) : (s.setCore c x).lanes = s.lanes := rfl
@[simp] theorem State.setCore_ports (c : Nat) (x : SettCore) : (s.setCore c x).ports = s.ports := rfl
@[simp] theorem State.setCore_place (c : Nat) (x : SettCore) : (s.setCore c x).place = s.place := rfl
@[simp] theorem State.setCore_parts (c : Nat) (x : SettCore) : (s.setCore c x).parts = s.parts := rfl
@[simp] theorem State.setCore_partPend (c : Nat) (x : SettCore) : (s.setCore c x).partPend = s.partPend := rfl
@[simp] theorem State.setCore_broken (c : Nat) (x : SettCore) : (s.setCore c x).broken = s.broken := rfl
@[simp] theorem State.setCore_sw (c : Nat) (x : SettCore) : (s.setCore c x).sw = s.sw := rfl
@[simp] theorem State.setCore_st (c : Nat) (x : SettCore) : (s.setCore c x).st = s.st := rfl
@[simp] theorem State.setCore_flows (c : Nat) (x : SettCore) : (s.setCore c x).flows = s.flows := rfl
@[simp] theorem State.setCore_floorMhz (c : Nat) (x : SettCore) : (s.setCore c x).floorMhz = s.floorMhz := rfl
@[simp] theorem State.setCore_inject (c : Nat) (x : SettCore) : (s.setCore c x).inject = s.inject := rfl
@[simp] theorem State.setCore_coll (c : Nat) (x : SettCore) : (s.setCore c x).coll = s.coll := rfl
@[simp] theorem State.setCore_mem (c : Nat) (x : SettCore) : (s.setCore c x).mem = s.mem := rfl
@[simp] theorem State.setCore_cmd (c : Nat) (x : SettCore) : (s.setCore c x).cmd = s.cmd := rfl
@[simp] theorem State.setCore_accepting (c : Nat) (x : SettCore) : (s.setCore c x).accepting = s.accepting := rfl
@[simp] theorem State.setCore_noticed (c : Nat) (x : SettCore) : (s.setCore c x).noticed = s.noticed := rfl
@[simp] theorem State.setCore_serial (c : Nat) (x : SettCore) : (s.setCore c x).serial = s.serial := rfl
@[simp] theorem State.setCore_fwRelease (c : Nat) (x : SettCore) : (s.setCore c x).fwRelease = s.fwRelease := rfl
@[simp] theorem State.setCore_faults (c : Nat) (x : SettCore) : (s.setCore c x).faults = s.faults := rfl
@[simp] theorem State.setCore_box (c : Nat) (x : SettCore) : (s.setCore c x).box = s.box := rfl
@[simp] theorem State.setCore_cfg (c : Nat) (x : SettCore) : (s.setCore c x).cfg = s.cfg := rfl
@[simp] theorem State.setCore_sec (c : Nat) (x : SettCore) : (s.setCore c x).sec = s.sec := rfl
@[simp] theorem State.setCore_power (c : Nat) (x : SettCore) : (s.setCore c x).power = s.power := rfl
@[simp] theorem State.setCore_pair (c : Nat) (x : SettCore) : (s.setCore c x).pair = s.pair := rfl
@[simp] theorem State.setCore_inst (c : Nat) (x : SettCore) : (s.setCore c x).inst = s.inst := rfl
@[simp] theorem State.setCore_host (c : Nat) (x : SettCore) : (s.setCore c x).host = s.host := rfl
@[simp] theorem State.setCore_outs (c : Nat) (x : SettCore) : (s.setCore c x).outs = s.outs := rfl
@[simp] theorem State.setCore_freeCtr (c : Nat) (x : SettCore) : (s.setCore c x).freeCtr = s.freeCtr := rfl

/-! `setBinding` changes `sett` only. -/

@[simp] theorem State.setBinding_pending (k : Nat) (x : Binding) : (s.setBinding k x).pending = s.pending := rfl
@[simp] theorem State.setBinding_regs (k : Nat) (x : Binding) : (s.setBinding k x).regs = s.regs := rfl
@[simp] theorem State.setBinding_ctrs (k : Nat) (x : Binding) : (s.setBinding k x).ctrs = s.ctrs := rfl
@[simp] theorem State.setBinding_dev (k : Nat) (x : Binding) : (s.setBinding k x).dev = s.dev := rfl
@[simp] theorem State.setBinding_ck2l (k : Nat) (x : Binding) : (s.setBinding k x).ck2l = s.ck2l := rfl
@[simp] theorem State.setBinding_time (k : Nat) (x : Binding) : (s.setBinding k x).time = s.time := rfl
@[simp] theorem State.setBinding_lanes (k : Nat) (x : Binding) : (s.setBinding k x).lanes = s.lanes := rfl
@[simp] theorem State.setBinding_ports (k : Nat) (x : Binding) : (s.setBinding k x).ports = s.ports := rfl
@[simp] theorem State.setBinding_place (k : Nat) (x : Binding) : (s.setBinding k x).place = s.place := rfl
@[simp] theorem State.setBinding_parts (k : Nat) (x : Binding) : (s.setBinding k x).parts = s.parts := rfl
@[simp] theorem State.setBinding_partPend (k : Nat) (x : Binding) : (s.setBinding k x).partPend = s.partPend := rfl
@[simp] theorem State.setBinding_broken (k : Nat) (x : Binding) : (s.setBinding k x).broken = s.broken := rfl
@[simp] theorem State.setBinding_sw (k : Nat) (x : Binding) : (s.setBinding k x).sw = s.sw := rfl
@[simp] theorem State.setBinding_st (k : Nat) (x : Binding) : (s.setBinding k x).st = s.st := rfl
@[simp] theorem State.setBinding_flows (k : Nat) (x : Binding) : (s.setBinding k x).flows = s.flows := rfl
@[simp] theorem State.setBinding_floorMhz (k : Nat) (x : Binding) : (s.setBinding k x).floorMhz = s.floorMhz := rfl
@[simp] theorem State.setBinding_inject (k : Nat) (x : Binding) : (s.setBinding k x).inject = s.inject := rfl
@[simp] theorem State.setBinding_coll (k : Nat) (x : Binding) : (s.setBinding k x).coll = s.coll := rfl
@[simp] theorem State.setBinding_mem (k : Nat) (x : Binding) : (s.setBinding k x).mem = s.mem := rfl
@[simp] theorem State.setBinding_cmd (k : Nat) (x : Binding) : (s.setBinding k x).cmd = s.cmd := rfl
@[simp] theorem State.setBinding_accepting (k : Nat) (x : Binding) : (s.setBinding k x).accepting = s.accepting := rfl
@[simp] theorem State.setBinding_noticed (k : Nat) (x : Binding) : (s.setBinding k x).noticed = s.noticed := rfl
@[simp] theorem State.setBinding_serial (k : Nat) (x : Binding) : (s.setBinding k x).serial = s.serial := rfl
@[simp] theorem State.setBinding_fwRelease (k : Nat) (x : Binding) : (s.setBinding k x).fwRelease = s.fwRelease := rfl
@[simp] theorem State.setBinding_faults (k : Nat) (x : Binding) : (s.setBinding k x).faults = s.faults := rfl
@[simp] theorem State.setBinding_box (k : Nat) (x : Binding) : (s.setBinding k x).box = s.box := rfl
@[simp] theorem State.setBinding_cfg (k : Nat) (x : Binding) : (s.setBinding k x).cfg = s.cfg := rfl
@[simp] theorem State.setBinding_sec (k : Nat) (x : Binding) : (s.setBinding k x).sec = s.sec := rfl
@[simp] theorem State.setBinding_power (k : Nat) (x : Binding) : (s.setBinding k x).power = s.power := rfl
@[simp] theorem State.setBinding_pair (k : Nat) (x : Binding) : (s.setBinding k x).pair = s.pair := rfl
@[simp] theorem State.setBinding_inst (k : Nat) (x : Binding) : (s.setBinding k x).inst = s.inst := rfl
@[simp] theorem State.setBinding_host (k : Nat) (x : Binding) : (s.setBinding k x).host = s.host := rfl
@[simp] theorem State.setBinding_outs (k : Nat) (x : Binding) : (s.setBinding k x).outs = s.outs := rfl
@[simp] theorem State.setBinding_freeCtr (k : Nat) (x : Binding) : (s.setBinding k x).freeCtr = s.freeCtr := rfl

/-! `setHost` changes `host` only. -/

@[simp] theorem State.setHost_pending (x : HostSt) : (s.setHost x).pending = s.pending := rfl
@[simp] theorem State.setHost_regs (x : HostSt) : (s.setHost x).regs = s.regs := rfl
@[simp] theorem State.setHost_ctrs (x : HostSt) : (s.setHost x).ctrs = s.ctrs := rfl
@[simp] theorem State.setHost_dev (x : HostSt) : (s.setHost x).dev = s.dev := rfl
@[simp] theorem State.setHost_ck2l (x : HostSt) : (s.setHost x).ck2l = s.ck2l := rfl
@[simp] theorem State.setHost_time (x : HostSt) : (s.setHost x).time = s.time := rfl
@[simp] theorem State.setHost_lanes (x : HostSt) : (s.setHost x).lanes = s.lanes := rfl
@[simp] theorem State.setHost_ports (x : HostSt) : (s.setHost x).ports = s.ports := rfl
@[simp] theorem State.setHost_place (x : HostSt) : (s.setHost x).place = s.place := rfl
@[simp] theorem State.setHost_parts (x : HostSt) : (s.setHost x).parts = s.parts := rfl
@[simp] theorem State.setHost_partPend (x : HostSt) : (s.setHost x).partPend = s.partPend := rfl
@[simp] theorem State.setHost_broken (x : HostSt) : (s.setHost x).broken = s.broken := rfl
@[simp] theorem State.setHost_sw (x : HostSt) : (s.setHost x).sw = s.sw := rfl
@[simp] theorem State.setHost_st (x : HostSt) : (s.setHost x).st = s.st := rfl
@[simp] theorem State.setHost_flows (x : HostSt) : (s.setHost x).flows = s.flows := rfl
@[simp] theorem State.setHost_floorMhz (x : HostSt) : (s.setHost x).floorMhz = s.floorMhz := rfl
@[simp] theorem State.setHost_inject (x : HostSt) : (s.setHost x).inject = s.inject := rfl
@[simp] theorem State.setHost_coll (x : HostSt) : (s.setHost x).coll = s.coll := rfl
@[simp] theorem State.setHost_mem (x : HostSt) : (s.setHost x).mem = s.mem := rfl
@[simp] theorem State.setHost_cmd (x : HostSt) : (s.setHost x).cmd = s.cmd := rfl
@[simp] theorem State.setHost_sett (x : HostSt) : (s.setHost x).sett = s.sett := rfl
@[simp] theorem State.setHost_accepting (x : HostSt) : (s.setHost x).accepting = s.accepting := rfl
@[simp] theorem State.setHost_noticed (x : HostSt) : (s.setHost x).noticed = s.noticed := rfl
@[simp] theorem State.setHost_serial (x : HostSt) : (s.setHost x).serial = s.serial := rfl
@[simp] theorem State.setHost_fwRelease (x : HostSt) : (s.setHost x).fwRelease = s.fwRelease := rfl
@[simp] theorem State.setHost_faults (x : HostSt) : (s.setHost x).faults = s.faults := rfl
@[simp] theorem State.setHost_box (x : HostSt) : (s.setHost x).box = s.box := rfl
@[simp] theorem State.setHost_cfg (x : HostSt) : (s.setHost x).cfg = s.cfg := rfl
@[simp] theorem State.setHost_sec (x : HostSt) : (s.setHost x).sec = s.sec := rfl
@[simp] theorem State.setHost_power (x : HostSt) : (s.setHost x).power = s.power := rfl
@[simp] theorem State.setHost_pair (x : HostSt) : (s.setHost x).pair = s.pair := rfl
@[simp] theorem State.setHost_inst (x : HostSt) : (s.setHost x).inst = s.inst := rfl
@[simp] theorem State.setHost_outs (x : HostSt) : (s.setHost x).outs = s.outs := rfl
@[simp] theorem State.setHost_freeCtr (x : HostSt) : (s.setHost x).freeCtr = s.freeCtr := rfl

/-! `setIsland` changes `power` only. -/

@[simp] theorem State.setIsland_pending (k : Nat) (x : Island) : (s.setIsland k x).pending = s.pending := rfl
@[simp] theorem State.setIsland_regs (k : Nat) (x : Island) : (s.setIsland k x).regs = s.regs := rfl
@[simp] theorem State.setIsland_ctrs (k : Nat) (x : Island) : (s.setIsland k x).ctrs = s.ctrs := rfl
@[simp] theorem State.setIsland_dev (k : Nat) (x : Island) : (s.setIsland k x).dev = s.dev := rfl
@[simp] theorem State.setIsland_ck2l (k : Nat) (x : Island) : (s.setIsland k x).ck2l = s.ck2l := rfl
@[simp] theorem State.setIsland_time (k : Nat) (x : Island) : (s.setIsland k x).time = s.time := rfl
@[simp] theorem State.setIsland_lanes (k : Nat) (x : Island) : (s.setIsland k x).lanes = s.lanes := rfl
@[simp] theorem State.setIsland_ports (k : Nat) (x : Island) : (s.setIsland k x).ports = s.ports := rfl
@[simp] theorem State.setIsland_place (k : Nat) (x : Island) : (s.setIsland k x).place = s.place := rfl
@[simp] theorem State.setIsland_parts (k : Nat) (x : Island) : (s.setIsland k x).parts = s.parts := rfl
@[simp] theorem State.setIsland_partPend (k : Nat) (x : Island) : (s.setIsland k x).partPend = s.partPend := rfl
@[simp] theorem State.setIsland_broken (k : Nat) (x : Island) : (s.setIsland k x).broken = s.broken := rfl
@[simp] theorem State.setIsland_sw (k : Nat) (x : Island) : (s.setIsland k x).sw = s.sw := rfl
@[simp] theorem State.setIsland_st (k : Nat) (x : Island) : (s.setIsland k x).st = s.st := rfl
@[simp] theorem State.setIsland_flows (k : Nat) (x : Island) : (s.setIsland k x).flows = s.flows := rfl
@[simp] theorem State.setIsland_floorMhz (k : Nat) (x : Island) : (s.setIsland k x).floorMhz = s.floorMhz := rfl
@[simp] theorem State.setIsland_inject (k : Nat) (x : Island) : (s.setIsland k x).inject = s.inject := rfl
@[simp] theorem State.setIsland_coll (k : Nat) (x : Island) : (s.setIsland k x).coll = s.coll := rfl
@[simp] theorem State.setIsland_mem (k : Nat) (x : Island) : (s.setIsland k x).mem = s.mem := rfl
@[simp] theorem State.setIsland_cmd (k : Nat) (x : Island) : (s.setIsland k x).cmd = s.cmd := rfl
@[simp] theorem State.setIsland_sett (k : Nat) (x : Island) : (s.setIsland k x).sett = s.sett := rfl
@[simp] theorem State.setIsland_accepting (k : Nat) (x : Island) : (s.setIsland k x).accepting = s.accepting := rfl
@[simp] theorem State.setIsland_noticed (k : Nat) (x : Island) : (s.setIsland k x).noticed = s.noticed := rfl
@[simp] theorem State.setIsland_serial (k : Nat) (x : Island) : (s.setIsland k x).serial = s.serial := rfl
@[simp] theorem State.setIsland_fwRelease (k : Nat) (x : Island) : (s.setIsland k x).fwRelease = s.fwRelease := rfl
@[simp] theorem State.setIsland_faults (k : Nat) (x : Island) : (s.setIsland k x).faults = s.faults := rfl
@[simp] theorem State.setIsland_box (k : Nat) (x : Island) : (s.setIsland k x).box = s.box := rfl
@[simp] theorem State.setIsland_cfg (k : Nat) (x : Island) : (s.setIsland k x).cfg = s.cfg := rfl
@[simp] theorem State.setIsland_sec (k : Nat) (x : Island) : (s.setIsland k x).sec = s.sec := rfl
@[simp] theorem State.setIsland_pair (k : Nat) (x : Island) : (s.setIsland k x).pair = s.pair := rfl
@[simp] theorem State.setIsland_inst (k : Nat) (x : Island) : (s.setIsland k x).inst = s.inst := rfl
@[simp] theorem State.setIsland_host (k : Nat) (x : Island) : (s.setIsland k x).host = s.host := rfl
@[simp] theorem State.setIsland_outs (k : Nat) (x : Island) : (s.setIsland k x).outs = s.outs := rfl
@[simp] theorem State.setIsland_freeCtr (k : Nat) (x : Island) : (s.setIsland k x).freeCtr = s.freeCtr := rfl

/-! Units of one kind are as they were after an update of another. -/

@[simp] theorem State.port_setReg (a v : Nat) (i : Nat) : (s.setReg a v).port i = s.port i := rfl
@[simp] theorem State.lane_setReg (a v : Nat) (i : Nat) : (s.setReg a v).lane i = s.lane i := rfl
@[simp] theorem State.queue_setReg (a v : Nat) (i : Nat) : (s.setReg a v).queue i = s.queue i := rfl
@[simp] theorem State.policer_setReg (a v : Nat) (i : Nat) : (s.setReg a v).policer i = s.policer i := rfl
@[simp] theorem State.cslot_setReg (a v : Nat) (i : Nat) : (s.setReg a v).cslot i = s.cslot i := rfl
@[simp] theorem State.ctx_setReg (a v : Nat) (i : Nat) : (s.setReg a v).ctx i = s.ctx i := rfl
@[simp] theorem State.region_setReg (a v : Nat) (i : Nat) : (s.setReg a v).region i = s.region i := rfl
@[simp] theorem State.core_setReg (a v : Nat) (i : Nat) : (s.setReg a v).core i = s.core i := rfl
@[simp] theorem State.island_setReg (a v : Nat) (i : Nat) : (s.setReg a v).island i = s.island i := rfl
@[simp] theorem State.ctr_setReg (a v : Nat) (i : Nat) : (s.setReg a v).ctr i = s.ctr i := rfl
@[simp] theorem State.clk_setReg (a v : Nat) : (s.setReg a v).clk = s.clk := rfl
@[simp] theorem State.now_setReg (a v : Nat) : (s.setReg a v).now = s.now := rfl
@[simp] theorem State.port_setCtr (a v : Nat) (i : Nat) : (s.setCtr a v).port i = s.port i := rfl
@[simp] theorem State.lane_setCtr (a v : Nat) (i : Nat) : (s.setCtr a v).lane i = s.lane i := rfl
@[simp] theorem State.queue_setCtr (a v : Nat) (i : Nat) : (s.setCtr a v).queue i = s.queue i := rfl
@[simp] theorem State.policer_setCtr (a v : Nat) (i : Nat) : (s.setCtr a v).policer i = s.policer i := rfl
@[simp] theorem State.cslot_setCtr (a v : Nat) (i : Nat) : (s.setCtr a v).cslot i = s.cslot i := rfl
@[simp] theorem State.ctx_setCtr (a v : Nat) (i : Nat) : (s.setCtr a v).ctx i = s.ctx i := rfl
@[simp] theorem State.region_setCtr (a v : Nat) (i : Nat) : (s.setCtr a v).region i = s.region i := rfl
@[simp] theorem State.core_setCtr (a v : Nat) (i : Nat) : (s.setCtr a v).core i = s.core i := rfl
@[simp] theorem State.island_setCtr (a v : Nat) (i : Nat) : (s.setCtr a v).island i = s.island i := rfl
@[simp] theorem State.reg_setCtr (a v : Nat) (i : Nat) : (s.setCtr a v).reg i = s.reg i := rfl
@[simp] theorem State.fld_setCtr (a v : Nat) (i lo w : Nat) : (s.setCtr a v).fld i lo w = s.fld i lo w := rfl
@[simp] theorem State.clk_setCtr (a v : Nat) : (s.setCtr a v).clk = s.clk := rfl
@[simp] theorem State.now_setCtr (a v : Nat) : (s.setCtr a v).now = s.now := rfl
@[simp] theorem State.port_used (i : Nat) : s.used.port i = s.port i := rfl
@[simp] theorem State.lane_used (i : Nat) : s.used.lane i = s.lane i := rfl
@[simp] theorem State.queue_used (i : Nat) : s.used.queue i = s.queue i := rfl
@[simp] theorem State.policer_used (i : Nat) : s.used.policer i = s.policer i := rfl
@[simp] theorem State.cslot_used (i : Nat) : s.used.cslot i = s.cslot i := rfl
@[simp] theorem State.ctx_used (i : Nat) : s.used.ctx i = s.ctx i := rfl
@[simp] theorem State.region_used (i : Nat) : s.used.region i = s.region i := rfl
@[simp] theorem State.core_used (i : Nat) : s.used.core i = s.core i := rfl
@[simp] theorem State.island_used (i : Nat) : s.used.island i = s.island i := rfl
@[simp] theorem State.reg_used (i : Nat) : s.used.reg i = s.reg i := rfl
@[simp] theorem State.fld_used (i lo w : Nat) : s.used.fld i lo w = s.fld i lo w := rfl
@[simp] theorem State.ctr_used (i : Nat) : s.used.ctr i = s.ctr i := rfl
@[simp] theorem State.clk_used  : s.used.clk = s.clk := rfl
@[simp] theorem State.now_used  : s.used.now = s.now := rfl
@[simp] theorem State.port_setLane (l : Nat) (x : Lane) (i : Nat) : (s.setLane l x).port i = s.port i := rfl
@[simp] theorem State.queue_setLane (l : Nat) (x : Lane) (i : Nat) : (s.setLane l x).queue i = s.queue i := rfl
@[simp] theorem State.policer_setLane (l : Nat) (x : Lane) (i : Nat) : (s.setLane l x).policer i = s.policer i := rfl
@[simp] theorem State.cslot_setLane (l : Nat) (x : Lane) (i : Nat) : (s.setLane l x).cslot i = s.cslot i := rfl
@[simp] theorem State.ctx_setLane (l : Nat) (x : Lane) (i : Nat) : (s.setLane l x).ctx i = s.ctx i := rfl
@[simp] theorem State.region_setLane (l : Nat) (x : Lane) (i : Nat) : (s.setLane l x).region i = s.region i := rfl
@[simp] theorem State.core_setLane (l : Nat) (x : Lane) (i : Nat) : (s.setLane l x).core i = s.core i := rfl
@[simp] theorem State.island_setLane (l : Nat) (x : Lane) (i : Nat) : (s.setLane l x).island i = s.island i := rfl
@[simp] theorem State.reg_setLane (l : Nat) (x : Lane) (i : Nat) : (s.setLane l x).reg i = s.reg i := rfl
@[simp] theorem State.fld_setLane (l : Nat) (x : Lane) (i lo w : Nat) : (s.setLane l x).fld i lo w = s.fld i lo w := rfl
@[simp] theorem State.ctr_setLane (l : Nat) (x : Lane) (i : Nat) : (s.setLane l x).ctr i = s.ctr i := rfl
@[simp] theorem State.clk_setLane (l : Nat) (x : Lane) : (s.setLane l x).clk = s.clk := rfl
@[simp] theorem State.now_setLane (l : Nat) (x : Lane) : (s.setLane l x).now = s.now := rfl
@[simp] theorem State.lane_setPort (p : Nat) (x : Port) (i : Nat) : (s.setPort p x).lane i = s.lane i := rfl
@[simp] theorem State.queue_setPort (p : Nat) (x : Port) (i : Nat) : (s.setPort p x).queue i = s.queue i := rfl
@[simp] theorem State.policer_setPort (p : Nat) (x : Port) (i : Nat) : (s.setPort p x).policer i = s.policer i := rfl
@[simp] theorem State.cslot_setPort (p : Nat) (x : Port) (i : Nat) : (s.setPort p x).cslot i = s.cslot i := rfl
@[simp] theorem State.ctx_setPort (p : Nat) (x : Port) (i : Nat) : (s.setPort p x).ctx i = s.ctx i := rfl
@[simp] theorem State.region_setPort (p : Nat) (x : Port) (i : Nat) : (s.setPort p x).region i = s.region i := rfl
@[simp] theorem State.core_setPort (p : Nat) (x : Port) (i : Nat) : (s.setPort p x).core i = s.core i := rfl
@[simp] theorem State.island_setPort (p : Nat) (x : Port) (i : Nat) : (s.setPort p x).island i = s.island i := rfl
@[simp] theorem State.reg_setPort (p : Nat) (x : Port) (i : Nat) : (s.setPort p x).reg i = s.reg i := rfl
@[simp] theorem State.fld_setPort (p : Nat) (x : Port) (i lo w : Nat) : (s.setPort p x).fld i lo w = s.fld i lo w := rfl
@[simp] theorem State.ctr_setPort (p : Nat) (x : Port) (i : Nat) : (s.setPort p x).ctr i = s.ctr i := rfl
@[simp] theorem State.clk_setPort (p : Nat) (x : Port) : (s.setPort p x).clk = s.clk := rfl
@[simp] theorem State.now_setPort (p : Nat) (x : Port) : (s.setPort p x).now = s.now := rfl
@[simp] theorem State.port_setQueue (k : Nat) (x : Queue) (i : Nat) : (s.setQueue k x).port i = s.port i := rfl
@[simp] theorem State.lane_setQueue (k : Nat) (x : Queue) (i : Nat) : (s.setQueue k x).lane i = s.lane i := rfl
@[simp] theorem State.cslot_setQueue (k : Nat) (x : Queue) (i : Nat) : (s.setQueue k x).cslot i = s.cslot i := rfl
@[simp] theorem State.ctx_setQueue (k : Nat) (x : Queue) (i : Nat) : (s.setQueue k x).ctx i = s.ctx i := rfl
@[simp] theorem State.region_setQueue (k : Nat) (x : Queue) (i : Nat) : (s.setQueue k x).region i = s.region i := rfl
@[simp] theorem State.core_setQueue (k : Nat) (x : Queue) (i : Nat) : (s.setQueue k x).core i = s.core i := rfl
@[simp] theorem State.island_setQueue (k : Nat) (x : Queue) (i : Nat) : (s.setQueue k x).island i = s.island i := rfl
@[simp] theorem State.reg_setQueue (k : Nat) (x : Queue) (i : Nat) : (s.setQueue k x).reg i = s.reg i := rfl
@[simp] theorem State.fld_setQueue (k : Nat) (x : Queue) (i lo w : Nat) : (s.setQueue k x).fld i lo w = s.fld i lo w := rfl
@[simp] theorem State.ctr_setQueue (k : Nat) (x : Queue) (i : Nat) : (s.setQueue k x).ctr i = s.ctr i := rfl
@[simp] theorem State.clk_setQueue (k : Nat) (x : Queue) : (s.setQueue k x).clk = s.clk := rfl
@[simp] theorem State.now_setQueue (k : Nat) (x : Queue) : (s.setQueue k x).now = s.now := rfl
@[simp] theorem State.port_setPolicer (k : Nat) (x : Policer) (i : Nat) : (s.setPolicer k x).port i = s.port i := rfl
@[simp] theorem State.lane_setPolicer (k : Nat) (x : Policer) (i : Nat) : (s.setPolicer k x).lane i = s.lane i := rfl
@[simp] theorem State.cslot_setPolicer (k : Nat) (x : Policer) (i : Nat) : (s.setPolicer k x).cslot i = s.cslot i := rfl
@[simp] theorem State.ctx_setPolicer (k : Nat) (x : Policer) (i : Nat) : (s.setPolicer k x).ctx i = s.ctx i := rfl
@[simp] theorem State.region_setPolicer (k : Nat) (x : Policer) (i : Nat) : (s.setPolicer k x).region i = s.region i := rfl
@[simp] theorem State.core_setPolicer (k : Nat) (x : Policer) (i : Nat) : (s.setPolicer k x).core i = s.core i := rfl
@[simp] theorem State.island_setPolicer (k : Nat) (x : Policer) (i : Nat) : (s.setPolicer k x).island i = s.island i := rfl
@[simp] theorem State.reg_setPolicer (k : Nat) (x : Policer) (i : Nat) : (s.setPolicer k x).reg i = s.reg i := rfl
@[simp] theorem State.fld_setPolicer (k : Nat) (x : Policer) (i lo w : Nat) : (s.setPolicer k x).fld i lo w = s.fld i lo w := rfl
@[simp] theorem State.ctr_setPolicer (k : Nat) (x : Policer) (i : Nat) : (s.setPolicer k x).ctr i = s.ctr i := rfl
@[simp] theorem State.clk_setPolicer (k : Nat) (x : Policer) : (s.setPolicer k x).clk = s.clk := rfl
@[simp] theorem State.now_setPolicer (k : Nat) (x : Policer) : (s.setPolicer k x).now = s.now := rfl
@[simp] theorem State.port_setTxs (d tc : Nat) (x : TxStream) (i : Nat) : (s.setTxs d tc x).port i = s.port i := rfl
@[simp] theorem State.lane_setTxs (d tc : Nat) (x : TxStream) (i : Nat) : (s.setTxs d tc x).lane i = s.lane i := rfl
@[simp] theorem State.queue_setTxs (d tc : Nat) (x : TxStream) (i : Nat) : (s.setTxs d tc x).queue i = s.queue i := rfl
@[simp] theorem State.policer_setTxs (d tc : Nat) (x : TxStream) (i : Nat) : (s.setTxs d tc x).policer i = s.policer i := rfl
@[simp] theorem State.cslot_setTxs (d tc : Nat) (x : TxStream) (i : Nat) : (s.setTxs d tc x).cslot i = s.cslot i := rfl
@[simp] theorem State.ctx_setTxs (d tc : Nat) (x : TxStream) (i : Nat) : (s.setTxs d tc x).ctx i = s.ctx i := rfl
@[simp] theorem State.region_setTxs (d tc : Nat) (x : TxStream) (i : Nat) : (s.setTxs d tc x).region i = s.region i := rfl
@[simp] theorem State.core_setTxs (d tc : Nat) (x : TxStream) (i : Nat) : (s.setTxs d tc x).core i = s.core i := rfl
@[simp] theorem State.island_setTxs (d tc : Nat) (x : TxStream) (i : Nat) : (s.setTxs d tc x).island i = s.island i := rfl
@[simp] theorem State.reg_setTxs (d tc : Nat) (x : TxStream) (i : Nat) : (s.setTxs d tc x).reg i = s.reg i := rfl
@[simp] theorem State.fld_setTxs (d tc : Nat) (x : TxStream) (i lo w : Nat) : (s.setTxs d tc x).fld i lo w = s.fld i lo w := rfl
@[simp] theorem State.ctr_setTxs (d tc : Nat) (x : TxStream) (i : Nat) : (s.setTxs d tc x).ctr i = s.ctr i := rfl
@[simp] theorem State.clk_setTxs (d tc : Nat) (x : TxStream) : (s.setTxs d tc x).clk = s.clk := rfl
@[simp] theorem State.now_setTxs (d tc : Nat) (x : TxStream) : (s.setTxs d tc x).now = s.now := rfl
@[simp] theorem State.port_setRxs (d tc : Nat) (x : RxStream) (i : Nat) : (s.setRxs d tc x).port i = s.port i := rfl
@[simp] theorem State.lane_setRxs (d tc : Nat) (x : RxStream) (i : Nat) : (s.setRxs d tc x).lane i = s.lane i := rfl
@[simp] theorem State.queue_setRxs (d tc : Nat) (x : RxStream) (i : Nat) : (s.setRxs d tc x).queue i = s.queue i := rfl
@[simp] theorem State.policer_setRxs (d tc : Nat) (x : RxStream) (i : Nat) : (s.setRxs d tc x).policer i = s.policer i := rfl
@[simp] theorem State.cslot_setRxs (d tc : Nat) (x : RxStream) (i : Nat) : (s.setRxs d tc x).cslot i = s.cslot i := rfl
@[simp] theorem State.ctx_setRxs (d tc : Nat) (x : RxStream) (i : Nat) : (s.setRxs d tc x).ctx i = s.ctx i := rfl
@[simp] theorem State.region_setRxs (d tc : Nat) (x : RxStream) (i : Nat) : (s.setRxs d tc x).region i = s.region i := rfl
@[simp] theorem State.core_setRxs (d tc : Nat) (x : RxStream) (i : Nat) : (s.setRxs d tc x).core i = s.core i := rfl
@[simp] theorem State.island_setRxs (d tc : Nat) (x : RxStream) (i : Nat) : (s.setRxs d tc x).island i = s.island i := rfl
@[simp] theorem State.reg_setRxs (d tc : Nat) (x : RxStream) (i : Nat) : (s.setRxs d tc x).reg i = s.reg i := rfl
@[simp] theorem State.fld_setRxs (d tc : Nat) (x : RxStream) (i lo w : Nat) : (s.setRxs d tc x).fld i lo w = s.fld i lo w := rfl
@[simp] theorem State.ctr_setRxs (d tc : Nat) (x : RxStream) (i : Nat) : (s.setRxs d tc x).ctr i = s.ctr i := rfl
@[simp] theorem State.clk_setRxs (d tc : Nat) (x : RxStream) : (s.setRxs d tc x).clk = s.clk := rfl
@[simp] theorem State.now_setRxs (d tc : Nat) (x : RxStream) : (s.setRxs d tc x).now = s.now := rfl
@[simp] theorem State.port_setSlot (n : Nat) (x : CmdSlot) (i : Nat) : (s.setSlot n x).port i = s.port i := rfl
@[simp] theorem State.lane_setSlot (n : Nat) (x : CmdSlot) (i : Nat) : (s.setSlot n x).lane i = s.lane i := rfl
@[simp] theorem State.queue_setSlot (n : Nat) (x : CmdSlot) (i : Nat) : (s.setSlot n x).queue i = s.queue i := rfl
@[simp] theorem State.policer_setSlot (n : Nat) (x : CmdSlot) (i : Nat) : (s.setSlot n x).policer i = s.policer i := rfl
@[simp] theorem State.ctx_setSlot (n : Nat) (x : CmdSlot) (i : Nat) : (s.setSlot n x).ctx i = s.ctx i := rfl
@[simp] theorem State.region_setSlot (n : Nat) (x : CmdSlot) (i : Nat) : (s.setSlot n x).region i = s.region i := rfl
@[simp] theorem State.core_setSlot (n : Nat) (x : CmdSlot) (i : Nat) : (s.setSlot n x).core i = s.core i := rfl
@[simp] theorem State.island_setSlot (n : Nat) (x : CmdSlot) (i : Nat) : (s.setSlot n x).island i = s.island i := rfl
@[simp] theorem State.reg_setSlot (n : Nat) (x : CmdSlot) (i : Nat) : (s.setSlot n x).reg i = s.reg i := rfl
@[simp] theorem State.fld_setSlot (n : Nat) (x : CmdSlot) (i lo w : Nat) : (s.setSlot n x).fld i lo w = s.fld i lo w := rfl
@[simp] theorem State.ctr_setSlot (n : Nat) (x : CmdSlot) (i : Nat) : (s.setSlot n x).ctr i = s.ctr i := rfl
@[simp] theorem State.clk_setSlot (n : Nat) (x : CmdSlot) : (s.setSlot n x).clk = s.clk := rfl
@[simp] theorem State.now_setSlot (n : Nat) (x : CmdSlot) : (s.setSlot n x).now = s.now := rfl
@[simp] theorem State.port_setDups (e : Nat) (l : List DupEntry) (i : Nat) : (s.setDups e l).port i = s.port i := rfl
@[simp] theorem State.lane_setDups (e : Nat) (l : List DupEntry) (i : Nat) : (s.setDups e l).lane i = s.lane i := rfl
@[simp] theorem State.queue_setDups (e : Nat) (l : List DupEntry) (i : Nat) : (s.setDups e l).queue i = s.queue i := rfl
@[simp] theorem State.policer_setDups (e : Nat) (l : List DupEntry) (i : Nat) : (s.setDups e l).policer i = s.policer i := rfl
@[simp] theorem State.ctx_setDups (e : Nat) (l : List DupEntry) (i : Nat) : (s.setDups e l).ctx i = s.ctx i := rfl
@[simp] theorem State.region_setDups (e : Nat) (l : List DupEntry) (i : Nat) : (s.setDups e l).region i = s.region i := rfl
@[simp] theorem State.core_setDups (e : Nat) (l : List DupEntry) (i : Nat) : (s.setDups e l).core i = s.core i := rfl
@[simp] theorem State.island_setDups (e : Nat) (l : List DupEntry) (i : Nat) : (s.setDups e l).island i = s.island i := rfl
@[simp] theorem State.reg_setDups (e : Nat) (l : List DupEntry) (i : Nat) : (s.setDups e l).reg i = s.reg i := rfl
@[simp] theorem State.fld_setDups (e : Nat) (l : List DupEntry) (i lo w : Nat) : (s.setDups e l).fld i lo w = s.fld i lo w := rfl
@[simp] theorem State.ctr_setDups (e : Nat) (l : List DupEntry) (i : Nat) : (s.setDups e l).ctr i = s.ctr i := rfl
@[simp] theorem State.clk_setDups (e : Nat) (l : List DupEntry) : (s.setDups e l).clk = s.clk := rfl
@[simp] theorem State.now_setDups (e : Nat) (l : List DupEntry) : (s.setDups e l).now = s.now := rfl
@[simp] theorem State.port_setCtx (k : Nat) (x : Ctx) (i : Nat) : (s.setCtx k x).port i = s.port i := rfl
@[simp] theorem State.lane_setCtx (k : Nat) (x : Ctx) (i : Nat) : (s.setCtx k x).lane i = s.lane i := rfl
@[simp] theorem State.queue_setCtx (k : Nat) (x : Ctx) (i : Nat) : (s.setCtx k x).queue i = s.queue i := rfl
@[simp] theorem State.policer_setCtx (k : Nat) (x : Ctx) (i : Nat) : (s.setCtx k x).policer i = s.policer i := rfl
@[simp] theorem State.cslot_setCtx (k : Nat) (x : Ctx) (i : Nat) : (s.setCtx k x).cslot i = s.cslot i := rfl
@[simp] theorem State.region_setCtx (k : Nat) (x : Ctx) (i : Nat) : (s.setCtx k x).region i = s.region i := rfl
@[simp] theorem State.core_setCtx (k : Nat) (x : Ctx) (i : Nat) : (s.setCtx k x).core i = s.core i := rfl
@[simp] theorem State.island_setCtx (k : Nat) (x : Ctx) (i : Nat) : (s.setCtx k x).island i = s.island i := rfl
@[simp] theorem State.reg_setCtx (k : Nat) (x : Ctx) (i : Nat) : (s.setCtx k x).reg i = s.reg i := rfl
@[simp] theorem State.fld_setCtx (k : Nat) (x : Ctx) (i lo w : Nat) : (s.setCtx k x).fld i lo w = s.fld i lo w := rfl
@[simp] theorem State.ctr_setCtx (k : Nat) (x : Ctx) (i : Nat) : (s.setCtx k x).ctr i = s.ctr i := rfl
@[simp] theorem State.clk_setCtx (k : Nat) (x : Ctx) : (s.setCtx k x).clk = s.clk := rfl
@[simp] theorem State.now_setCtx (k : Nat) (x : Ctx) : (s.setCtx k x).now = s.now := rfl
@[simp] theorem State.port_setRegion (k : Nat) (x : Region) (i : Nat) : (s.setRegion k x).port i = s.port i := rfl
@[simp] theorem State.lane_setRegion (k : Nat) (x : Region) (i : Nat) : (s.setRegion k x).lane i = s.lane i := rfl
@[simp] theorem State.queue_setRegion (k : Nat) (x : Region) (i : Nat) : (s.setRegion k x).queue i = s.queue i := rfl
@[simp] theorem State.policer_setRegion (k : Nat) (x : Region) (i : Nat) : (s.setRegion k x).policer i = s.policer i := rfl
@[simp] theorem State.cslot_setRegion (k : Nat) (x : Region) (i : Nat) : (s.setRegion k x).cslot i = s.cslot i := rfl
@[simp] theorem State.ctx_setRegion (k : Nat) (x : Region) (i : Nat) : (s.setRegion k x).ctx i = s.ctx i := rfl
@[simp] theorem State.core_setRegion (k : Nat) (x : Region) (i : Nat) : (s.setRegion k x).core i = s.core i := rfl
@[simp] theorem State.island_setRegion (k : Nat) (x : Region) (i : Nat) : (s.setRegion k x).island i = s.island i := rfl
@[simp] theorem State.reg_setRegion (k : Nat) (x : Region) (i : Nat) : (s.setRegion k x).reg i = s.reg i := rfl
@[simp] theorem State.fld_setRegion (k : Nat) (x : Region) (i lo w : Nat) : (s.setRegion k x).fld i lo w = s.fld i lo w := rfl
@[simp] theorem State.ctr_setRegion (k : Nat) (x : Region) (i : Nat) : (s.setRegion k x).ctr i = s.ctr i := rfl
@[simp] theorem State.clk_setRegion (k : Nat) (x : Region) : (s.setRegion k x).clk = s.clk := rfl
@[simp] theorem State.now_setRegion (k : Nat) (x : Region) : (s.setRegion k x).now = s.now := rfl
@[simp] theorem State.port_setChan (b : Bool) (c : Nat) (x : Channel) (i : Nat) : (s.setChan b c x).port i = s.port i := rfl
@[simp] theorem State.lane_setChan (b : Bool) (c : Nat) (x : Channel) (i : Nat) : (s.setChan b c x).lane i = s.lane i := rfl
@[simp] theorem State.queue_setChan (b : Bool) (c : Nat) (x : Channel) (i : Nat) : (s.setChan b c x).queue i = s.queue i := rfl
@[simp] theorem State.policer_setChan (b : Bool) (c : Nat) (x : Channel) (i : Nat) : (s.setChan b c x).policer i = s.policer i := rfl
@[simp] theorem State.cslot_setChan (b : Bool) (c : Nat) (x : Channel) (i : Nat) : (s.setChan b c x).cslot i = s.cslot i := rfl
@[simp] theorem State.ctx_setChan (b : Bool) (c : Nat) (x : Channel) (i : Nat) : (s.setChan b c x).ctx i = s.ctx i := rfl
@[simp] theorem State.core_setChan (b : Bool) (c : Nat) (x : Channel) (i : Nat) : (s.setChan b c x).core i = s.core i := rfl
@[simp] theorem State.island_setChan (b : Bool) (c : Nat) (x : Channel) (i : Nat) : (s.setChan b c x).island i = s.island i := rfl
@[simp] theorem State.reg_setChan (b : Bool) (c : Nat) (x : Channel) (i : Nat) : (s.setChan b c x).reg i = s.reg i := rfl
@[simp] theorem State.fld_setChan (b : Bool) (c : Nat) (x : Channel) (i lo w : Nat) : (s.setChan b c x).fld i lo w = s.fld i lo w := rfl
@[simp] theorem State.ctr_setChan (b : Bool) (c : Nat) (x : Channel) (i : Nat) : (s.setChan b c x).ctr i = s.ctr i := rfl
@[simp] theorem State.clk_setChan (b : Bool) (c : Nat) (x : Channel) : (s.setChan b c x).clk = s.clk := rfl
@[simp] theorem State.now_setChan (b : Bool) (c : Nat) (x : Channel) : (s.setChan b c x).now = s.now := rfl
@[simp] theorem State.port_setCore (c : Nat) (x : SettCore) (i : Nat) : (s.setCore c x).port i = s.port i := rfl
@[simp] theorem State.lane_setCore (c : Nat) (x : SettCore) (i : Nat) : (s.setCore c x).lane i = s.lane i := rfl
@[simp] theorem State.queue_setCore (c : Nat) (x : SettCore) (i : Nat) : (s.setCore c x).queue i = s.queue i := rfl
@[simp] theorem State.policer_setCore (c : Nat) (x : SettCore) (i : Nat) : (s.setCore c x).policer i = s.policer i := rfl
@[simp] theorem State.cslot_setCore (c : Nat) (x : SettCore) (i : Nat) : (s.setCore c x).cslot i = s.cslot i := rfl
@[simp] theorem State.ctx_setCore (c : Nat) (x : SettCore) (i : Nat) : (s.setCore c x).ctx i = s.ctx i := rfl
@[simp] theorem State.region_setCore (c : Nat) (x : SettCore) (i : Nat) : (s.setCore c x).region i = s.region i := rfl
@[simp] theorem State.island_setCore (c : Nat) (x : SettCore) (i : Nat) : (s.setCore c x).island i = s.island i := rfl
@[simp] theorem State.reg_setCore (c : Nat) (x : SettCore) (i : Nat) : (s.setCore c x).reg i = s.reg i := rfl
@[simp] theorem State.fld_setCore (c : Nat) (x : SettCore) (i lo w : Nat) : (s.setCore c x).fld i lo w = s.fld i lo w := rfl
@[simp] theorem State.ctr_setCore (c : Nat) (x : SettCore) (i : Nat) : (s.setCore c x).ctr i = s.ctr i := rfl
@[simp] theorem State.clk_setCore (c : Nat) (x : SettCore) : (s.setCore c x).clk = s.clk := rfl
@[simp] theorem State.now_setCore (c : Nat) (x : SettCore) : (s.setCore c x).now = s.now := rfl
@[simp] theorem State.port_setBinding (k : Nat) (x : Binding) (i : Nat) : (s.setBinding k x).port i = s.port i := rfl
@[simp] theorem State.lane_setBinding (k : Nat) (x : Binding) (i : Nat) : (s.setBinding k x).lane i = s.lane i := rfl
@[simp] theorem State.queue_setBinding (k : Nat) (x : Binding) (i : Nat) : (s.setBinding k x).queue i = s.queue i := rfl
@[simp] theorem State.policer_setBinding (k : Nat) (x : Binding) (i : Nat) : (s.setBinding k x).policer i = s.policer i := rfl
@[simp] theorem State.cslot_setBinding (k : Nat) (x : Binding) (i : Nat) : (s.setBinding k x).cslot i = s.cslot i := rfl
@[simp] theorem State.ctx_setBinding (k : Nat) (x : Binding) (i : Nat) : (s.setBinding k x).ctx i = s.ctx i := rfl
@[simp] theorem State.region_setBinding (k : Nat) (x : Binding) (i : Nat) : (s.setBinding k x).region i = s.region i := rfl
@[simp] theorem State.island_setBinding (k : Nat) (x : Binding) (i : Nat) : (s.setBinding k x).island i = s.island i := rfl
@[simp] theorem State.reg_setBinding (k : Nat) (x : Binding) (i : Nat) : (s.setBinding k x).reg i = s.reg i := rfl
@[simp] theorem State.fld_setBinding (k : Nat) (x : Binding) (i lo w : Nat) : (s.setBinding k x).fld i lo w = s.fld i lo w := rfl
@[simp] theorem State.ctr_setBinding (k : Nat) (x : Binding) (i : Nat) : (s.setBinding k x).ctr i = s.ctr i := rfl
@[simp] theorem State.clk_setBinding (k : Nat) (x : Binding) : (s.setBinding k x).clk = s.clk := rfl
@[simp] theorem State.now_setBinding (k : Nat) (x : Binding) : (s.setBinding k x).now = s.now := rfl
@[simp] theorem State.port_setHost (x : HostSt) (i : Nat) : (s.setHost x).port i = s.port i := rfl
@[simp] theorem State.lane_setHost (x : HostSt) (i : Nat) : (s.setHost x).lane i = s.lane i := rfl
@[simp] theorem State.queue_setHost (x : HostSt) (i : Nat) : (s.setHost x).queue i = s.queue i := rfl
@[simp] theorem State.policer_setHost (x : HostSt) (i : Nat) : (s.setHost x).policer i = s.policer i := rfl
@[simp] theorem State.cslot_setHost (x : HostSt) (i : Nat) : (s.setHost x).cslot i = s.cslot i := rfl
@[simp] theorem State.ctx_setHost (x : HostSt) (i : Nat) : (s.setHost x).ctx i = s.ctx i := rfl
@[simp] theorem State.region_setHost (x : HostSt) (i : Nat) : (s.setHost x).region i = s.region i := rfl
@[simp] theorem State.core_setHost (x : HostSt) (i : Nat) : (s.setHost x).core i = s.core i := rfl
@[simp] theorem State.island_setHost (x : HostSt) (i : Nat) : (s.setHost x).island i = s.island i := rfl
@[simp] theorem State.reg_setHost (x : HostSt) (i : Nat) : (s.setHost x).reg i = s.reg i := rfl
@[simp] theorem State.fld_setHost (x : HostSt) (i lo w : Nat) : (s.setHost x).fld i lo w = s.fld i lo w := rfl
@[simp] theorem State.ctr_setHost (x : HostSt) (i : Nat) : (s.setHost x).ctr i = s.ctr i := rfl
@[simp] theorem State.clk_setHost (x : HostSt) : (s.setHost x).clk = s.clk := rfl
@[simp] theorem State.now_setHost (x : HostSt) : (s.setHost x).now = s.now := rfl
@[simp] theorem State.port_setIsland (k : Nat) (x : Island) (i : Nat) : (s.setIsland k x).port i = s.port i := rfl
@[simp] theorem State.lane_setIsland (k : Nat) (x : Island) (i : Nat) : (s.setIsland k x).lane i = s.lane i := rfl
@[simp] theorem State.queue_setIsland (k : Nat) (x : Island) (i : Nat) : (s.setIsland k x).queue i = s.queue i := rfl
@[simp] theorem State.policer_setIsland (k : Nat) (x : Island) (i : Nat) : (s.setIsland k x).policer i = s.policer i := rfl
@[simp] theorem State.cslot_setIsland (k : Nat) (x : Island) (i : Nat) : (s.setIsland k x).cslot i = s.cslot i := rfl
@[simp] theorem State.ctx_setIsland (k : Nat) (x : Island) (i : Nat) : (s.setIsland k x).ctx i = s.ctx i := rfl
@[simp] theorem State.region_setIsland (k : Nat) (x : Island) (i : Nat) : (s.setIsland k x).region i = s.region i := rfl
@[simp] theorem State.core_setIsland (k : Nat) (x : Island) (i : Nat) : (s.setIsland k x).core i = s.core i := rfl
@[simp] theorem State.reg_setIsland (k : Nat) (x : Island) (i : Nat) : (s.setIsland k x).reg i = s.reg i := rfl
@[simp] theorem State.fld_setIsland (k : Nat) (x : Island) (i lo w : Nat) : (s.setIsland k x).fld i lo w = s.fld i lo w := rfl
@[simp] theorem State.ctr_setIsland (k : Nat) (x : Island) (i : Nat) : (s.setIsland k x).ctr i = s.ctr i := rfl
@[simp] theorem State.clk_setIsland (k : Nat) (x : Island) : (s.setIsland k x).clk = s.clk := rfl
@[simp] theorem State.now_setIsland (k : Nat) (x : Island) : (s.setIsland k x).now = s.now := rfl

/-! A unit read after it is written holds what was written; its neighbours are as they were. -/

@[simp] theorem State.port_setPort_self (p : Nat) (x : Port) : (s.setPort p x).port p = x := Tbl.get_put_self _ _ _ _
theorem State.port_setPort_ne (p : Nat) (x : Port) (q : Nat) (h : q ≠ p) : (s.setPort p x).port q = s.port q := Tbl.get_put_other _ _ _ _ _ _ h
@[simp] theorem State.lane_setLane_self (p : Nat) (x : Lane) : (s.setLane p x).lane p = x := Tbl.get_put_self _ _ _ _
theorem State.lane_setLane_ne (p : Nat) (x : Lane) (q : Nat) (h : q ≠ p) : (s.setLane p x).lane q = s.lane q := Tbl.get_put_other _ _ _ _ _ _ h
@[simp] theorem State.queue_setQueue_self (p : Nat) (x : Queue) : (s.setQueue p x).queue p = x := Tbl.get_put_self _ _ _ _
theorem State.queue_setQueue_ne (p : Nat) (x : Queue) (q : Nat) (h : q ≠ p) : (s.setQueue p x).queue q = s.queue q := Tbl.get_put_other _ _ _ _ _ _ h
@[simp] theorem State.policer_setPolicer_self (p : Nat) (x : Policer) : (s.setPolicer p x).policer p = x := Tbl.get_put_self _ _ _ _
theorem State.policer_setPolicer_ne (p : Nat) (x : Policer) (q : Nat) (h : q ≠ p) : (s.setPolicer p x).policer q = s.policer q := Tbl.get_put_other _ _ _ _ _ _ h
@[simp] theorem State.cslot_setSlot_self (p : Nat) (x : CmdSlot) : (s.setSlot p x).cslot p = x := Tbl.get_put_self _ _ _ _
theorem State.cslot_setSlot_ne (p : Nat) (x : CmdSlot) (q : Nat) (h : q ≠ p) : (s.setSlot p x).cslot q = s.cslot q := Tbl.get_put_other _ _ _ _ _ _ h
@[simp] theorem State.ctx_setCtx_self (p : Nat) (x : Ctx) : (s.setCtx p x).ctx p = x := Tbl.get_put_self _ _ _ _
theorem State.ctx_setCtx_ne (p : Nat) (x : Ctx) (q : Nat) (h : q ≠ p) : (s.setCtx p x).ctx q = s.ctx q := Tbl.get_put_other _ _ _ _ _ _ h
@[simp] theorem State.region_setRegion_self (p : Nat) (x : Region) : (s.setRegion p x).region p = x := Tbl.get_put_self _ _ _ _
theorem State.region_setRegion_ne (p : Nat) (x : Region) (q : Nat) (h : q ≠ p) : (s.setRegion p x).region q = s.region q := Tbl.get_put_other _ _ _ _ _ _ h
@[simp] theorem State.core_setCore_self (p : Nat) (x : SettCore) : (s.setCore p x).core p = x := Tbl.get_put_self _ _ _ _
theorem State.core_setCore_ne (p : Nat) (x : SettCore) (q : Nat) (h : q ≠ p) : (s.setCore p x).core q = s.core q := Tbl.get_put_other _ _ _ _ _ _ h
@[simp] theorem State.island_setIsland_self (p : Nat) (x : Island) : (s.setIsland p x).island p = x := Tbl.get_put_self _ _ _ _
theorem State.island_setIsland_ne (p : Nat) (x : Island) (q : Nat) (h : q ≠ p) : (s.setIsland p x).island q = s.island q := Tbl.get_put_other _ _ _ _ _ _ h
@[simp] theorem State.reg_setReg_self (p x : Nat) : (s.setReg p x).reg p = x := Tbl.get_put_self _ _ _ _
theorem State.reg_setReg_ne (p x : Nat) (q : Nat) (h : q ≠ p) : (s.setReg p x).reg q = s.reg q := Tbl.get_put_other _ _ _ _ _ _ h
@[simp] theorem State.ctr_setCtr_self (p x : Nat) : (s.setCtr p x).ctr p = x := Tbl.get_put_self _ _ _ _
theorem State.ctr_setCtr_ne (p x : Nat) (q : Nat) (h : q ≠ p) : (s.setCtr p x).ctr q = s.ctr q := Tbl.get_put_other _ _ _ _ _ _ h
/-! The later of two updates of one unit stands. -/

@[simp] theorem State.setPort_setPort (p : Nat) (x y : Port) : (s.setPort p x).setPort p y = s.setPort p y := by simp [State.setPort]
@[simp] theorem State.setLane_setLane (p : Nat) (x y : Lane) : (s.setLane p x).setLane p y = s.setLane p y := by simp [State.setLane]
@[simp] theorem State.setQueue_setQueue (p : Nat) (x y : Queue) : (s.setQueue p x).setQueue p y = s.setQueue p y := by simp [State.setQueue]
@[simp] theorem State.setPolicer_setPolicer (p : Nat) (x y : Policer) : (s.setPolicer p x).setPolicer p y = s.setPolicer p y := by simp [State.setPolicer]
@[simp] theorem State.setSlot_setSlot (p : Nat) (x y : CmdSlot) : (s.setSlot p x).setSlot p y = s.setSlot p y := by simp [State.setSlot]
@[simp] theorem State.setCtx_setCtx (p : Nat) (x y : Ctx) : (s.setCtx p x).setCtx p y = s.setCtx p y := by simp [State.setCtx]
@[simp] theorem State.setRegion_setRegion (p : Nat) (x y : Region) : (s.setRegion p x).setRegion p y = s.setRegion p y := by simp [State.setRegion]
@[simp] theorem State.setCore_setCore (p : Nat) (x y : SettCore) : (s.setCore p x).setCore p y = s.setCore p y := by simp [State.setCore]
@[simp] theorem State.setIsland_setIsland (p : Nat) (x y : Island) : (s.setIsland p x).setIsland p y = s.setIsland p y := by simp [State.setIsland]
@[simp] theorem State.setReg_setReg (p : Nat) (x y : Nat) : (s.setReg p x).setReg p y = s.setReg p y := by simp [State.setReg]
@[simp] theorem State.setCtr_setCtr (p : Nat) (x y : Nat) : (s.setCtr p x).setCtr p y = s.setCtr p y := by simp [State.setCtr]

end Sys2Proof.Machine
end

