-- ==== Sys2Proof/Laws/Ops.lean ====
section
/-! SUPPORT. All that an output, a counter and a fault event can do to the state. -/

namespace Sys2Proof.Machine

/-- `t` differs from `s` in counters, fault state, black box, MSI-X pending bits and outputs at most: all that an event of a fault source can
change (R442–R447, R455–R457, R460). -/
def EventFrame (s t : State) : Prop :=
  ∃ c f b h o, t = { s with ctrs := c, faults := f, box := b, host := h, outs := o }

theorem EventFrame.refl (s : State) : EventFrame s s := ⟨_, _, _, _, _, rfl⟩

theorem EventFrame.trans {s t u : State} (h : EventFrame s t) (g : EventFrame t u) : EventFrame s u := by
  obtain ⟨c, f, b, k, o, rfl⟩ := h
  obtain ⟨c', f', b', k', o', rfl⟩ := g
  exact ⟨c', f', b', k', o', rfl⟩

/-- An output changes outputs only. -/
theorem State.emit_eq (s : State) (o : Out) : ∃ l, s.emit o = { s with outs := l } := by
  cases o <;> (simp only [State.emit]; split <;> exact ⟨_, rfl⟩)

theorem State.emit_frame (s : State) (o : Out) : EventFrame s (s.emit o) := by
  obtain ⟨l, h⟩ := s.emit_eq o
  rw [h]; exact ⟨_, _, _, _, _, rfl⟩

/-- A counter and its summary change counters only. -/
theorem State.bumpBy_eq (s : State) (a n : Nat) : ∃ c, s.bumpBy a n = { s with ctrs := c } := by
  unfold State.bumpBy State.bumpSumOf
  split <;> exact ⟨_, rfl⟩

theorem State.bump_eq (s : State) (a : Nat) : ∃ c, s.bump a = { s with ctrs := c } := s.bumpBy_eq a 1

theorem State.bump64_eq (s : State) (a n : Nat) : ∃ c, s.bump64 a n = { s with ctrs := c } := by
  unfold State.bump64 State.bumpSumOf
  split <;> exact ⟨_, rfl⟩

theorem State.bump_frame (s : State) (a : Nat) : EventFrame s (s.bump a) := by
  obtain ⟨c, h⟩ := s.bump_eq a
  rw [h]; exact ⟨_, _, _, _, _, rfl⟩

/-- A message changes outputs and pending bits only. -/
theorem State.signal_eq (s : State) (v : Nat) : ∃ h o, s.signal v = { s with host := h, outs := o } := by
  unfold State.signal
  split
  · exact ⟨_, _, rfl⟩
  · split
    · exact ⟨_, _, rfl⟩
    · split
      · obtain ⟨l, h⟩ := s.emit_eq (.msix v)
        exact ⟨_, l, h⟩
      · exact ⟨_, _, rfl⟩

theorem State.signal_frame (s : State) (v : Nat) : EventFrame s (s.signal v) := by
  obtain ⟨h, o, e⟩ := s.signal_eq v
  rw [e]; exact ⟨_, _, _, _, _, rfl⟩

/-- The same state with other fault state. -/
theorem EventFrame.faults (s : State) (f : FaultSt) : EventFrame s { s with faults := f } := ⟨_, _, _, _, _, rfl⟩

theorem EventFrame.faults' {s t : State} (h : EventFrame s t) (f : FaultSt) : EventFrame s { t with faults := f } :=
  h.trans (EventFrame.faults t f)

theorem State.writeRecord_frame (s : State) (r : Record) : EventFrame s (s.writeRecord r) := ⟨_, _, _, _, _, rfl⟩

theorem State.recordIrq_frame (s : State) (cls : Nat) (m : Bool) : EventFrame s (s.recordIrq cls m) := by
  unfold State.recordIrq
  dsimp only
  split
  · split
    · exact EventFrame.faults s _
    · exact (s.signal_frame _).faults' _
  · exact EventFrame.refl s

theorem State.pinFrom_frame (s t : State) : EventFrame s (s.pinFrom t) := by
  unfold State.pinFrom
  split
  · exact EventFrame.refl s
  · exact s.emit_frame _

theorem State.boxEvent_frame (s : State) (pf : Bool) (src : Option (Nat × Nat)) : EventFrame s (s.boxEvent pf src) := by
  unfold State.boxEvent
  dsimp only
  split
  · split
    · exact ⟨_, _, _, _, _, rfl⟩
    · exact ((s.emit_frame _).faults' _).trans ⟨_, _, _, _, _, rfl⟩
  · exact ⟨_, _, _, _, _, rfl⟩
  · exact EventFrame.refl s

theorem EventFrame.ite {s a b : State} {c : Prop} [Decidable c] (h : EventFrame s a) (g : EventFrame s b) :
    EventFrame s (if c then a else b) := by
  split
  · exact h
  · exact g

/-- An event of a fault source changes no more than its frame. -/
theorem State.event_frame (s : State) (e : Event) : EventFrame s (s.event e) := by
  unfold State.event
  split
  · exact EventFrame.refl s
  · dsimp only
    generalize hA : State.bump _ _ = A
    have fA : EventFrame s A := hA ▸ (EventFrame.faults s _).trans (State.bump_frame _ _)
    have fB : ∀ B : State, EventFrame s B → EventFrame s (B.pinFrom s) := fun B h => h.trans (State.pinFrom_frame _ _)
    refine EventFrame.ite ((fB _ ?_).trans (State.boxEvent_frame _ _ _)) (EventFrame.ite (fB _ ?_) ((fB _ ?_).faults' _))
    all_goals
      exact EventFrame.ite (fA.trans (State.bump_frame _ _))
        ((fA.faults' _).trans ((State.writeRecord_frame _ _).trans (State.recordIrq_frame _ _ _)))

/-- The condition of an L source begins or ends: no more than an event's frame. -/
theorem State.condBegin_frame (s : State) (e : Event) : EventFrame s (s.condBegin e) := by
  unfold State.condBegin
  dsimp only
  split
  · exact EventFrame.refl s
  · exact (EventFrame.faults s _).trans (State.event_frame _ _)

theorem State.condEnd_frame (s : State) (w i u : Nat) : EventFrame s (s.condEnd w i u) := EventFrame.faults s _

/-- Memory, regions and write-combining entries are none of an event's business. -/
theorem EventFrame.mem {s t : State} (h : EventFrame s t) : t.mem = s.mem := by obtain ⟨_, _, _, _, _, rfl⟩ := h; rfl

/-- Nor is what the switch holds. -/
theorem EventFrame.sw {s t : State} (h : EventFrame s t) : t.sw = s.sw := by obtain ⟨_, _, _, _, _, rfl⟩ := h; rfl

@[simp] theorem State.event_sw (s : State) (e : Event) : (s.event e).sw = s.sw := (s.event_frame e).sw
@[simp] theorem State.bump_sw (s : State) (a : Nat) : (s.bump a).sw = s.sw := (s.bump_frame a).sw
@[simp] theorem State.event_mem (s : State) (e : Event) : (s.event e).mem = s.mem := (s.event_frame e).mem
@[simp] theorem State.bump_mem (s : State) (a : Nat) : (s.bump a).mem = s.mem := (s.bump_frame a).mem
@[simp] theorem State.emit_mem (s : State) (o : Out) : (s.emit o).mem = s.mem := (s.emit_frame o).mem

end Sys2Proof.Machine
end

