-- ==== Sys2Proof/WellFormed.lean ====
section
/-! DEFINITION. Well-formed commands: every operand within the range the spec gives it, and a command packet of a row that shares its
opcode with others selects its own row (R381–R399). -/

namespace Sys2Proof

/-- A source within range (R370, R376). -/
def Src.ok : Src → Bool
  | .slot n => decide (n < 256)
  | .fabric e => decide (e < 16384)

/-- A command packet's fields fit their places (R366). -/
def Cmd.ok (c : Cmd) : Bool := c.src.ok && decide (c.tag < 65536) && decide (c.job < 4096) && decide (c.len < 65536)

/-- A training block's fields fit their places (R76). -/
def TsBlock.ok (t : TsBlock) : Bool := decide (t.lane < 8) && decide (t.width < 4) && decide (t.req < 64) && decide (t.stat < 64) && decide (t.presetNum < 16)

/-- A buffer's name (R139). -/
def BufName.ok : BufName → Bool
  | .handle h => decide (h < 2 ^ 32)
  | .address pool a => decide (pool < 4) && decide (a < 2 ^ 48)

/-- MOE_PLACE with COMMIT (R391). -/
def placeCommits (c : Cmd) : Bool := bit (c.p 0) 8

/-- The command is well formed. -/
def Instr.wf : Instr → Bool
  | .codewordReceived lane syms _ => decide (lane < 768) && syms.all (· < 1024)
  | .huntDegradeTimeout p => decide (p < 192)
  | .tsBlockReceived lane t => decide (lane < 768) && TsBlock.ok t
  | .eqComplete p pass _ => decide (p < 192) && decide (pass < 256)
  | .eqTimeout p => decide (p < 192)
  | .deskewComplete p ids => decide (p < 192) && ids.all (· < 8)
  | .deskewTimeout p => decide (p < 192)
  | .identTimeout p => decide (p < 192)
  | .identityRepeatTimer p => decide (p < 192)
  | .identityMessageReceived p pkt => decide (p < 192) && Pkt.ok pkt
  | .trainRetryHoldExpiry p => decide (p < 192)
  | .holdDownExpiry p => decide (p < 192)
  | .downHoldExpiry p => decide (p < 192)
  | .identityCheckTimeout p => decide (p < 192)
  | .fcStateReceived p m => decide (p < 192) && decide (m < 256)
  | .widthReqReceived p m => decide (p < 192) && decide (m < 256)
  | .widthAckReceived p m => decide (p < 192) && decide (m < 256)
  | .widthSwitch p => decide (p < 192)
  | .widthChangeTimeout p => decide (p < 192)
  | .widenProposalLapse p => decide (p < 192)
  | .laneRetrainReceived p m => decide (p < 192) && decide (m < 256)
  | .soakComplete p i => decide (p < 192) && decide (i < 8)
  | .laneRetrainComplete p i => decide (p < 192) && decide (i < 8)
  | .laneErrorLimitExceeded p i => decide (p < 192) && decide (i < 8)
  | .tsSyncTimer p => decide (p < 192)
  | .tsSyncReceived p => decide (p < 192)
  | .tsRxReceived p t => decide (p < 192) && decide (t < 2 ^ 48)
  | .tsTxReceived p t => decide (p < 192) && decide (t < 2 ^ 48)
  | .tsExchangeTimeout p => decide (p < 192)
  | .drainReceived p _ => decide (p < 192)
  | .fcStateRepeatTimer p => decide (p < 192)
  | .xoffStuck p => decide (p < 192)
  | .routingRepeatTimer => true
  | .routingReceived p pkt => decide (p < 192) && Pkt.ok pkt
  | .portDrained p => decide (p < 192)
  | .packetHeaderReceived p h => decide (p < 192) && Hdr.ok h
  | .packetTrailerReceived p _ trailer _ _ => decide (p < 192) && decide (trailer < 2 ^ 32)
  | .residenceTimeout _ => true
  | .schedulerSlot den => decide (den < 4)
  | .packetTransmitComplete den att => decide (den < 4) && decide (att < 64)
  | .bridgeArrival src dst => decide (src < 4) && decide (dst < 4)
  | .deepPageOpenTimeout den att q => decide (den < 4) && decide (att < 64) && decide (q < 64)
  | .deepPageReadComplete den att q _ => decide (den < 4) && decide (att < 64) && decide (q < 64)
  | .alloc den pool reqDen => decide (den < 4) && decide (pool < 4) && decide (reqDen < 4)
  | .bufFree den b => decide (den < 4) && BufName.ok b
  | .refInc den b => decide (den < 4) && BufName.ok b
  | .refDec den b => decide (den < 4) && BufName.ok b
  | .policerRelease p i => decide (p < 192) && decide (i < 32)
  | .sampleTimer den => decide (den < 4)
  | .resendTimeout dst tc seq => decide (dst < 16384) && decide (tc < 4) && decide (seq < 2 ^ 32)
  | .pathHoldTimeout dst tc => decide (dst < 16384) && decide (tc < 4)
  | .operationDeadline dst tc => decide (dst < 16384) && decide (tc < 4)
  | .ackTimer src tc => decide (src < 16384) && decide (tc < 4)
  | .rateIncreaseTimer dst tc => decide (dst < 16384) && decide (tc < 4)
  | .ackReceived p pkt => decide (p < 192) && Pkt.ok pkt
  | .openReceived p pkt => decide (p < 192) && Pkt.ok pkt
  | .openAckReceived p pkt => decide (p < 192) && Pkt.ok pkt
  | .resyncReceived p pkt => decide (p < 192) && Pkt.ok pkt
  | .statusCompletionReceived p pkt => decide (p < 192) && Pkt.ok pkt
  | .writeReceived p pkt => decide (p < 192) && Pkt.ok pkt
  | .readReqReceived p pkt => decide (p < 192) && Pkt.ok pkt
  | .readRespReceived p pkt => decide (p < 192) && Pkt.ok pkt
  | .collContribReceived p pkt => decide (p < 192) && Pkt.ok pkt
  | .accBlockReadbackComplete ctx chunk _ => decide (ctx < 4096) && decide (chunk < 65536)
  | .collPartialReceived p pkt => decide (p < 192) && Pkt.ok pkt
  | .moeDispatchReceived p pkt => decide (p < 192) && Pkt.ok pkt
  | .moeReturnReceived p pkt => decide (p < 192) && Pkt.ok pkt
  | .embLookupReceived p pkt => decide (p < 192) && Pkt.ok pkt
  | .cmdPacketReceived p pkt => decide (p < 192) && Pkt.ok pkt
  | .cmdReplyReceived p pkt => decide (p < 192) && Pkt.ok pkt
  | .resendReqReceived p pkt => decide (p < 192) && Pkt.ok pkt
  | .testPacketReceived p pkt => decide (p < 192) && Pkt.ok pkt
  | .noticeTimer ctx => decide (ctx < 4096)
  | .stepTimeout ctx chunk phase rdir => decide (ctx < 4096) && decide (chunk < 65536) && decide (phase < 16) && decide (rdir < 2)
  | .ctxDeadlineExpiry ctx => decide (ctx < 4096)
  | .failureNoticeRepeat ctx => decide (ctx < 4096)
  | .ctxReleaseHoldExpiry ctx => decide (ctx < 4096)
  | .aqCommit core words => decide (core < 128) && words.length == 8 && words.all (· < 2 ^ 32)
  | .matmul core _ => decide (core < 128)
  | .elem core _ => decide (core < 128)
  | .arrayCompletion core => decide (core < 128)
  | .vqCommit core words => decide (core < 128) && words.length == 16 && words.all (· < 2 ^ 32)
  | .chain core _ => decide (core < 128)
  | .setpred core => decide (core < 128)
  | .vectorCompletion core => decide (core < 128)
  | .mqCommit core words => decide (core < 128) && words.length == 8 && words.all (· < 2 ^ 32)
  | .movGet core => decide (core < 128)
  | .movPut core _ => decide (core < 128)
  | .gather core => decide (core < 128)
  | .send core => decide (core < 128)
  | .moverCompletion core => decide (core < 128)
  | .acompPop core => decide (core < 128)
  | .vsumPop core => decide (core < 128)
  | .mcompPop core => decide (core < 128)
  | .inboxPop core => decide (core < 128)
  | .segmentFinished core _ => decide (core < 128)
  | .itemRelease core _ => decide (core < 128)
  | .dispatch core words => decide (core < 128) && words.all (· < 2 ^ 32)
  | .progExit core code => decide (core < 128) && decide (code < 2 ^ 32)
  | .controlTimerExpiry core => decide (core < 128)
  | .settProgFault core cause pc tval => decide (core < 128) && decide (cause < 2 ^ 32) && decide (pc < 2 ^ 32) && decide (tval < 2 ^ 32)
  | .stopTimeout core => decide (core < 128)
  | .repairLoad core => decide (core < 128)
  | .selftestComplete core res row => decide (core < 128) && decide (res < 4) && decide (row < 256)
  | .charAllWrite _ => true
  | .settStartLimit core => decide (core < 128)
  | .wcbAgeExpiry line => decide (line < 2 ^ 37)
  | .patrolScrub line res => decide (line < 2 ^ 37) && decide (res < 3)
  | .ceRateWindow _ ch => decide (ch < 256)
  | .memTempSample den stack lp6 => decide (den < 4) && decide (stack < 256) && decide (lp6 < 256)
  | .bankRefresh _ ch => decide (ch < 256)
  | .impedanceCalibration _ ch => decide (ch < 256)
  | .shortRetrain _ ch _ => decide (ch < 256)
  | .forcedFullRetrain _ ch => decide (ch < 256)
  | .fullRetrainComplete _ ch _ => decide (ch < 256)
  | .tierRebuildComplete den _ => decide (den < 4)
  | .regionWipeComplete region => decide (region < 4096)
  | .uncleanFrameClear den frame => decide (den < 4) && decide (frame < 2 ^ 16)
  | .apertureWrite slot off bytes => decide (slot < 256) && decide (off < 4096) && 1 ≤ bytes.length && off + bytes.length ≤ 4096
  | .slotFillTimeout slot => decide (slot < 256)
  | .progressReplyTimer _ => true
  | .replyWriteRefused slot => decide (slot < 256)
  | .peerCommandTimeout dst _ => decide (dst < 16384)
  | .imageVerifyComplete _ _ _ _ => true
  | .progStagingTimeout src => Src.ok src
  | .echo c => Cmd.ok c
  | .getInfo c => Cmd.ok c
  | .getState c => Cmd.ok c
  | .getJob c => Cmd.ok c
  | .getStats c => Cmd.ok c
  | .baseLoad c => Cmd.ok c
  | .overlayStage c => Cmd.ok c
  | .overlayApply c => Cmd.ok c
  | .configQuery c => Cmd.ok c
  | .linkSet c => Cmd.ok c
  | .linkDrain c => Cmd.ok c
  | .linkResume c => Cmd.ok c
  | .linkRecheck c => Cmd.ok c
  | .linkRetrain c => Cmd.ok c
  | .linkQuery c => Cmd.ok c
  | .partWrite c => Cmd.ok c
  | .partRead c => Cmd.ok c
  | .routeNotice c => Cmd.ok c
  | .queueCfg c => Cmd.ok c
  | .queueRelease c => Cmd.ok c
  | .shaperSet c => Cmd.ok c
  | .policerSet c => Cmd.ok c
  | .tc1Admit c => Cmd.ok c
  | .tc1Release c => Cmd.ok c
  | .tc1Query c => Cmd.ok c
  | .tc1HopHold c => Cmd.ok c && bits (c.p 0) 0 2 == 0
  | .tc1HopCommit c => Cmd.ok c && bits (c.p 0) 0 2 == 1
  | .tc1HopRelease c => Cmd.ok c && bits (c.p 0) 0 2 == 2
  | .ctxCreate c => Cmd.ok c
  | .ctxRearm c => Cmd.ok c
  | .ctxRelease c => Cmd.ok c
  | .ctxAbort c => Cmd.ok c
  | .ctxQuery c => Cmd.ok c
  | .moePlace c => Cmd.ok c && !placeCommits c
  | .moePlaceCommit c => Cmd.ok c && placeCommits c
  | .embCreate c => Cmd.ok c
  | .embRelease c => Cmd.ok c
  | .ctxPeerHold c => Cmd.ok c && c.p 0 == 0
  | .ctxPeerCommit c => Cmd.ok c && c.p 0 == 1
  | .ctxPeerRelease c => Cmd.ok c && c.p 0 == 2
  | .ctxPeerRearm c => Cmd.ok c && c.p 0 == 3
  | .ctxPeerFree c => Cmd.ok c && c.p 0 == 4
  | .ctxPeerAbort c => Cmd.ok c && c.p 0 == 5
  | .ctxPeerFail c => Cmd.ok c && c.p 0 == 6
  | .regionCreate c => Cmd.ok c
  | .regionRelease c => Cmd.ok c
  | .regionReload c => Cmd.ok c
  | .regionQuery c => Cmd.ok c
  | .memFlush c => Cmd.ok c && !bit (c.p 0) 10
  | .memFlushAll c => Cmd.ok c && bit (c.p 0) 10
  | .memRetrain c => Cmd.ok c
  | .bulkXferToModule c => Cmd.ok c && !bit (c.p 4) 0
  | .bulkXferToHost c => Cmd.ok c && bit (c.p 4) 0
  | .coreAssign c => Cmd.ok c
  | .coreReturn c => Cmd.ok c
  | .progLoadRegion c => Cmd.ok c && c.p 0 == 1
  | .progLoadPart c => Cmd.ok c && c.p 0 == 0
  | .progUnload c => Cmd.ok c
  | .bind c => Cmd.ok c
  | .unbind c => Cmd.ok c
  | .launch c => Cmd.ok c
  | .progWait c => Cmd.ok c
  | .progStop c => Cmd.ok c
  | .progQuery c => Cmd.ok c
  | .pairForm c => Cmd.ok c
  | .pairBreak c => Cmd.ok c
  | .pairStatus c => Cmd.ok c
  | .pairResync c => Cmd.ok c
  | .faultRead c => Cmd.ok c
  | .faultClear c => Cmd.ok c
  | .faultCfg c => Cmd.ok c
  | .faultForce c => Cmd.ok c
  | .selftest c => Cmd.ok c
  | .repairReset c => Cmd.ok c
  | .blackboxRead c => Cmd.ok c
  | .powerCap c => Cmd.ok c
  | .powerStateRun c => Cmd.ok c && c.p 0 == 0
  | .powerStateTrim c => Cmd.ok c && c.p 0 == 1
  | .powerStateDrowse c => Cmd.ok c && c.p 0 == 2
  | .powerStateHibernate c => Cmd.ok c && c.p 0 == 3
  | .powerRead c => Cmd.ok c
  | .lcChange c => Cmd.ok c
  | .ownerKey c => Cmd.ok c
  | .rollbackAdvance c => Cmd.ok c
  | .measureRead c => Cmd.ok c
  | .mirrorSet c => Cmd.ok c
  | .mirrorClear c => Cmd.ok c
  | .foxCfgStream c => Cmd.ok c
  | .foxCfgChecker c => Cmd.ok c
  | .foxCfgClear c => Cmd.ok c
  | .foxStart c => Cmd.ok c
  | .foxStop c => Cmd.ok c
  | .foxRead c => Cmd.ok c
  | .goldenSet c => Cmd.ok c
  | .injectDisarm c => Cmd.ok c && bits (c.p 0) 8 8 == 0
  | .injectSymbol c => Cmd.ok c && bits (c.p 0) 8 8 == 1
  | .injectSync c => Cmd.ok c && bits (c.p 0) 8 8 == 2
  | .injectTrailer c => Cmd.ok c && bits (c.p 0) 8 8 == 3
  | .injectDrop c => Cmd.ok c && bits (c.p 0) 8 8 == 4
  | .injectDuplicate c => Cmd.ok c && bits (c.p 0) 8 8 == 5
  | .injectDelay c => Cmd.ok c && bits (c.p 0) 8 8 == 6
  | .injectXoff c => Cmd.ok c && bits (c.p 0) 8 8 == 7
  | .injectSilence c => Cmd.ok c && bits (c.p 0) 8 8 == 8
  | .injectionExpiry p => decide (p < 192)
  | .foxStartTime u => decide (u < 24)
  | .foxStreamPacket u i => decide (u < 24) && decide (i < 16)
  | .foxCheckerSettle u => decide (u < 24)
  | .goldenResultReceived p pkt => decide (p < 192) && Pkt.ok pkt
  | .fswClear w m => decide (w < 5) && decide (m < 2 ^ 64)
  | .forceWrite w m => decide (w < 5) && decide (m < 2 ^ 64)
  | .haltRelease w m => decide (w < 128) && decide (m < 2 ^ 32)
  | .irqHoldoffExpiry => true
  | .keeperWdog => true
  | .snapshotCapture => true
  | .blackboxWriteComplete => true
  | .startCondition => true
  | .pfWarn => true
  | .powerSample mv ma temp => decide (mv < 2 ^ 16) && decide (ma < 2 ^ 20) && decide (temp < 256)
  | .cappingLoop watts => decide (watts < 2 ^ 32)
  | .denThermalLoop den temp => decide (den < 4) && decide (temp < 256)
  | .avsAdjust islands => islands.all (· < 195)
  | .islandStepComplete i => decide (i < 195)
  | .phaseFault phase => decide (phase < 96)
  | .railFault den => decide (den < 4)
  | .refLost => true
  | .refRelock => true
  | .drowseDrainTimeout => true
  | .hibernateEntryComplete => true
  | .wakeN => true
  | .i3cWakeRequest => true
  | .wakeComplete _ => true
  | .corePowerOnComplete core => decide (core < 128)
  | .pinResetAssert => true
  | .pinResetRelease => true
  | .endpointReset => true
  | .pcieLinkDown => true
  | .bootChainVerified slot key ctr => decide (slot < 2) && decide (key < 4) && decide (ctr < 2 ^ 32)
  | .channelTrainingComplete _ ch _ => decide (ch < 256)
  | .wipeComplete failed => failed.all (fun f => f.1 < 128)
  | .bootRecordBaseLoad _ => true
  | .epochPulse => true
  | .epochMissing => true
  | .epochLoadWrite v => decide (v < 2 ^ 64)
  | .epochPeriodWrite v => decide (v < 2 ^ 32)
  | .dirStatTimeout dir => decide (dir < 4)
  | .heartbeatTimer => true
  | .heartbeatReceived p pkt => decide (p < 192) && Pkt.ok pkt
  | .lossOfContact => true
  | .arbitrationTest => true
  | .homeStateReceived p pkt => decide (p < 192) && Pkt.ok pkt
  | .pairAutoForm => true
  | .pairFormationComplete _ => true
  | .resyncCopyComplete failed => decide (failed < 2 ^ 16)
  | .bar4Read addr len => decide (addr < 2 ^ 43) && 1 ≤ len && len ≤ 4096
  | .bar4Write addr bytes _ => decide (addr < 2 ^ 43) && 1 ≤ bytes.length && bytes.length ≤ 4096
  | .bar4BaseWrite v => decide (v < 2 ^ 64)
  | .busMasterReadTimeout _ => true
  | .msixUnmask v => decide (v < 64)
  | .l0pIdleTimer => true
  | .i3cDynamicAddressAssign a => decide (a < 128)
  | .setEndpointId eid => decide (eid < 256)
  | .setEventReceiver eid => decide (eid < 256)
  | .getSensorReading sensor den => decide (sensor < 256) && decide (den < 4)
  | .pldmFirmwareUpdate _ _ => true
  | .activateFirmware => true
  | .getVersion path => decide (path < 2)
  | .getCapabilities path => decide (path < 2)
  | .negotiateAlgorithms path => decide (path < 2)
  | .getDigests path => decide (path < 2)
  | .getCertificate path off len => decide (path < 2) && decide (off < 65536) && decide (len < 65536)
  | .challenge path nonce => decide (path < 2) && nonce.length == 32
  | .getMeasurements path idx nonce => decide (path < 2) && decide (idx < 256) && nonce.length == 32
  | .linkEnable p => decide (p < 192)
  | .linkDisable p => decide (p < 192)
  | .retrain p => decide (p < 192)
  | .loopback p v => decide (p < 192) && decide (v < 4)
  | .registerWrite off size v => decide (off < 2 ^ 24) && (size == 4 || size == 8) && decide (v < 2 ^ (8 * size))
  | .rcRead off size => decide (off < 2 ^ 24) && (size == 4 || size == 8)
  | .splitLowRead off => decide (off < 2 ^ 24)
  | .splitHighWrite off v => decide (off < 2 ^ 24) && decide (v < 2 ^ 32)
  | .bar0IllegalAccess off _ _ => decide (off < 2 ^ 24)
  | .unmappedAccess off _ => decide (off < 2 ^ 24)
  | .denJunctionTemperature den temp isl => decide (den < 4) && decide (temp < 256) && isl.all (fun x => x.1 < 160 && x.2 < 256)
  | .owlWatchdogExpiry => true
  | .openRepeatTimer dst tc => decide (dst < 16384) && decide (tc < 4)
  | .responseTimeout _ => true
  | .pcieLinkUp rate width _ => decide (rate < 8) && decide (width ≤ 8)
  | .configSpaceWrite _ dstate _ _ mps mrrs => decide (dstate < 4) && 128 ≤ mps && mps ≤ 4096 && 128 ≤ mrrs && mrrs ≤ 4096
  | .drowseWakeComplete => true
  | .progImageVerifyComplete _ => true
  | .bulkXferComplete _ _ => true

end Sys2Proof
end

