-- ==== Sys2Proof/Safety.lean ====
section
/-! DEFINITION. What statements about safe runs speak of: memory in its canonical form, no reaction owed, a queue of well-formed commands. -/

namespace Sys2Proof.Machine

/-- Module memory stands in its canonical form: offsets strictly rising, and no entry equal to what an unlisted offset reads as (log 13). -/
def Memory.wf (m : MemSt) : Bool := Tbl.wf (0 : Byte) m.bytes

/-- Every reaction that a fault record calls for has been taken (R444, R445). -/
def State.Reacted (s : State) : Prop := s.faults.owed = []

/-- Every waiting command is well formed. -/
def State.QueueWf (s : State) : Prop := ∀ c ∈ s.pending, c.wf = true

/-- Nothing is left for what follows a command: no reaction is owed, no context stands at this module, no command waits for a program's end
or for a flow to commit, and no receiver of platform events is set. -/
def State.Quiet (s : State) : Prop :=
  s.faults.owed = [] ∧ s.coll.ctxs = [] ∧ (∀ e ∈ s.cmd.execs, e.op ≠ 0x0707 ∧ e.op ≠ 0x0404) ∧ s.host.receiver = none

/-- Keeper takes the command: it serves the source, and the steps 2–6 of R380 pass with the opcode's row `i` of its table (R386–R399). -/
def State.Takes (s : State) (i : OpInfo) (c : Cmd) : Prop := s.serves c.src = true ∧ (s.cmdBegin c).cmdCheck i c = none

end Sys2Proof.Machine
end

