-- ==== Sys2Proof/Laws/Memory.lean ====
section
/-! SUPPORT. Every operation on module memory keeps the canonical form. -/

namespace Sys2Proof.Machine

/-- Reset memory lists nothing. -/
theorem reset_memory_wf : Memory.wf State.reset.mem = true := rfl

@[simp] theorem State.bumpChan_mem (s : State) (o reg : Nat) : (s.bumpChan o reg).mem = s.mem := by
  unfold State.bumpChan
  split
  · exact State.bump_mem s _
  · rfl

/-- An event of a channel leaves memory alone. -/
@[simp] theorem State.memEvent_mem (s : State) (src l : Nat) : (s.memEvent src l).mem = s.mem := by
  unfold State.memEvent
  dsimp only
  split <;> exact State.event_mem s _

/-- An uncorrectable line that is met changes a channel's note at most. -/
theorem State.meetUe_bytes (s : State) (l : Nat) : (s.meetUe l).mem.bytes = s.mem.bytes := by
  unfold State.meetUe
  dsimp only
  rw [State.memEvent_mem]
  split <;> split <;> simp [State.setChan]

/-- An uncorrectable line that is met leaves the switch alone. -/
theorem State.meetUe_sw (s : State) (l : Nat) : (s.meetUe l).sw = s.sw := by
  unfold State.meetUe State.memEvent
  dsimp only
  split <;> split <;> split <;> simp [State.setChan]

/-- So does one met in a reserved area. -/
theorem State.areaUe_sw (s : State) (d i : Nat) : (s.areaUe d i).sw = s.sw := State.meetUe_sw _ _

/-- A whole line written keeps the canonical form. -/
theorem State.dramLine_wf (s : State) (l : Nat) (bs : List Byte) (h : Memory.wf s.mem = true) : Memory.wf (s.dramLine l bs).mem = true :=
  Tbl.wf_putMany 0 _ _ _ h

/-- An entry dropped leaves the bytes alone. -/
theorem State.wcbDrop_wf (s : State) (l : Nat) (h : Memory.wf s.mem = true) : Memory.wf (s.wcbDrop l).mem = true := h

/-- A flush keeps the canonical form. -/
theorem State.wcbFlush_wf (s : State) (e : WcbEntry) (h : Memory.wf s.mem = true) : Memory.wf (s.wcbFlush e).mem = true := by
  unfold State.wcbFlush
  dsimp only
  split
  · rw [State.memEvent_mem, State.bump_mem]
    exact State.wcbDrop_wf _ _ (by unfold Memory.wf; rw [State.meetUe_bytes]; exact h)
  · exact State.dramLine_wf _ _ _ (State.wcbDrop_wf _ _ (by rw [State.bumpChan_mem]; exact h))

/-- Part of a line written keeps the canonical form. -/
theorem State.wcbWrite_wf (s : State) (l f : Nat) (bs : List Byte) (h : Memory.wf s.mem = true) : Memory.wf (s.wcbWrite l f bs).mem = true := by
  have key : ∀ (A : State) (e : WcbEntry) (old : Option WcbEntry), Memory.wf A.mem = true →
      Memory.wf (if e.bytes.length = 64 then
          ((A.bumpChan (64 * l) 0x10).wcbDrop l).dramLine l ((List.range 64).map (fun i => (Tbl.get none e.bytes i).getD 0))
        else match old with
          | some _ => { A with mem := { A.mem with wcb := A.mem.wcb.map (fun x => if x.line = l then e else x) } }
          | none => { A with mem := { A.mem with wcb := A.mem.wcb ++ [e] } }).mem = true := by
    intro A e old hA
    split
    · exact State.dramLine_wf _ _ _ (State.wcbDrop_wf _ _ (by rw [State.bumpChan_mem]; exact hA))
    · split <;> exact hA
  refine key _ _ _ ?_
  split
  · exact h
  · split
    · split
      · exact State.wcbFlush_wf s _ h
      · exact h
    · exact h

/-- A write of any length keeps the canonical form. -/
theorem State.memWriteFuel_wf (n : Nat) (s : State) (o : Nat) (bs : List Byte) (h : Memory.wf s.mem = true) :
    Memory.wf (State.memWriteFuel n s o bs).mem = true := by
  induction n generalizing s o bs with
  | zero => exact h
  | succ n ih =>
    unfold State.memWriteFuel
    split
    · exact h
    · refine ih _ _ _ ?_
      split
      · exact State.dramLine_wf _ _ _ (State.wcbDrop_wf _ _ h)
      · exact State.wcbWrite_wf _ _ _ _ h

theorem State.memWrite_wf (s : State) (o : Nat) (bs : List Byte) (h : Memory.wf s.mem = true) : Memory.wf (s.memWrite o bs).mem = true :=
  State.memWriteFuel_wf _ s o bs h

/-- Flushes keep the canonical form. -/
theorem State.flushWhere_wf (s : State) (f : WcbEntry → Bool) (h : Memory.wf s.mem = true) : Memory.wf (s.flushWhere f).mem = true := by
  unfold State.flushWhere
  generalize s.mem.wcb.filter f = l
  induction l generalizing s with
  | nil => exact h
  | cons e l ih => exact ih _ (State.wcbFlush_wf s e h)

/-- A region's wipe keeps the canonical form. -/
theorem State.wipeRegion_wf (s : State) (i : Nat) (h : Memory.wf s.mem = true) : Memory.wf (s.wipeRegion i).mem = true := by
  unfold State.wipeRegion Memory.wf
  dsimp only
  exact Tbl.wf_clearWhere 0 _ _ (State.flushWhere_wf s
    (fun e => decide ((s.region i).base ≤ 64 * e.line) && decide (64 * e.line < (s.region i).base + (s.region i).size)) h)

end Sys2Proof.Machine
end

