-- ==== Sys2Proof/Machine/EmbPool.lean ====
section
/-! DEFINITION. What EMBPOOL, the EMBEDDING program shipped with Damix, answers to a lookup (R333–R335), as a function of the table, the rows in
memory and the request. The program's own steps come as rows of the operation table (its mover and vector commands, SEND, ITEM_RELEASE); a
table may be bound to another program, and then this function says nothing of it (log 39). -/

namespace Sys2Proof.Machine

/-- A request to EMBPOOL (R333). -/
structure PoolReq where
  /-- 0 SUM, 1 MEAN, 2 MAX. -/
  pool : Nat := 0
  exact_ : Bool := false
  outF : Nat := 0
  nbag : Nat := 1
  /-- Length of each bag, and the row indices, bag after bag. -/
  lens : List Nat := []
  idx : List Nat := []
  deriving DecidableEq, Repr

/-- Bytes of the padded bag lengths (R333). -/
def PoolReq.lenBytes (nbag : Nat) : Nat := 8 * ceilDiv nbag 4

/-- The request that a payload holds; none where its layout breaks R333. -/
def poolReqOf (l : List Byte) : Option PoolReq :=
  let rd := fun a => l.getD a 0
  let b0 := rdNat rd 0 1
  let nbag := rdNat rd 1 1 + 1
  let nidx := rdNat rd 2 2
  let lens := (List.range nbag).map (fun b => rdNat rd (8 + 2 * b) 2)
  let at_ := 8 + PoolReq.lenBytes nbag
  if l.length ≠ at_ + 8 * nidx || 4096 < l.length || l.length < 16 || 2 < bits b0 0 2 || bit b0 3 || 2 < bits b0 4 4 || 64 < nbag || 508 < nidx
      || rdNat rd 4 4 ≠ 0 || rdNat rd (8 + 2 * nbag) (PoolReq.lenBytes nbag - 2 * nbag) ≠ 0 || lens.foldl (· + ·) 0 ≠ nidx then none
  else some { pool := bits b0 0 2, exact_ := bit b0 2, outF := bits b0 4 4, nbag := nbag, lens := lens,
              idx := (List.range nidx).map (fun i => rdNat rd (at_ + 8 * i) 8) }

/-- The indices of each bag, in order: bag b takes the next LEN_b of them (R333). -/
def bagsOf : List Nat → List Nat → List (List Nat)
  | [], _ => []
  | n :: l, idx => idx.take n :: bagsOf l (idx.drop n)

/-- One pooled element as FP32, from the bag's elements in the order of the list (R334, R297, R249, R237). -/
def poolElem (pool : Nat) (exact_ : Bool) (l : List Dec) : Nat :=
  let codes := l.map (fp32.encode .rne)
  if pool = 2 then (match codes with | [] => fp32.encode .rne (.inf true) | a :: r => r.foldl fMax a)
  else
    let sum := if exact_ then fp32.encode .rne (l.foldl Entry.add {}).value
      else (match codes with | [] => 0 | a :: r => r.foldl fp32Add a)
    if pool = 1 && !l.isEmpty then fp32.encode .rne ((fp32.decode sum).div (.fin false l.length 0)) else if l.isEmpty then 0 else sum

/-- Bytes of the row of an index: `read` gives those at an offset from row 0 (R332). -/
def EmbTable.rowAt (t : EmbTable) (read : Nat → Nat → List Byte) (i : Nat) : List Byte := read (i * t.stride) (t.dim * (fmtBits t.fmt / 8))

/-- The pooled row of a bag in OUT_FMT (R334, R295). -/
def poolBag (t : EmbTable) (read : Nat → Nat → List Byte) (r : PoolReq) (bag : List Nat) : List Byte :=
  let rows := bag.map (t.rowAt read)
  (List.range t.dim).flatMap (fun j =>
    let vals := rows.map (fun row => rowElem (fun a => row.getD a 0) t.fmt t.dim 0 j)
    leBytes (fmtBits r.outF / 8) ((fmtOf r.outF).encode .rne (fp32.decode (poolElem r.pool r.exact_ vals))))

/-- The length of the reply (R335). -/
def poolReplyLen (t : EmbTable) (r : PoolReq) : Nat := 16 + r.nbag * t.dim * (fmtBits r.outF / 8)

/-- The payload of EMB_RESULT; none where EMBPOOL answers BAD_PARAM (R335). -/
def embPool (t : EmbTable) (read : Nat → Nat → List Byte) (l : List Byte) : Option (List Byte) :=
  match poolReqOf l with
  | none => none
  | some r =>
    if 4096 < poolReplyLen t r || r.idx.any (fun i => t.rows ≤ i) then none
    else
      let bags := bagsOf r.lens r.idx
      some (leBytes 4 (r.nbag - 1) ++ leBytes 4 0 ++ leBytes 8 (maskOf 64 (fun b => decide (b < r.nbag) && (bags.getD b []).isEmpty))
        ++ bags.flatMap (poolBag t read r))

/-- EMBPOOL's answer to a request against the module's memory as it stands (R334, R336: writes still in the write-combining buffers are seen). -/
def State.embAnswer (s : State) (table : Nat) (l : List Byte) : Option (List Byte) :=
  let t : EmbTable := Tbl.get {} s.coll.embs table
  match s.regionOf t.region with
  | none => none
  | some i => embPool t (fun o n => s.memRead ((s.region i).base + t.base + o) n) l

end Sys2Proof.Machine
end

