-- ==== Sys2Proof/Certificates/Slice0/Obligations.lean ====
section
/-! DEFINITION. The statements: one definition of a proposition for each entry of OBLIGATIONS.json. -/

open Sys2Proof Sys2Proof.Machine

/-- A lane's lock machine, and the timers of HUNT. CODEWORD_RECEIVED on a hunting lane takes the lane to TEST where enough sync headers are valid at
the candidate position, noting the polarity, and moves the position on where they are not; HUNT_DEGRADE_TIMEOUT takes the port to EQ over the widest
set of R85; the waits of R75 end. All else is as it was, but for what follows any command. -/
def Obligations.LinkLock : Prop :=
  (∀ (s : State) (l : Nat) (syms : List Nat), (s.port (s.portOfLane l)).st = .hunt → (s.port (s.portOfLane l)).retryHold = false →
    (s.port (s.portOfLane l)).holdDown = false → laneIdx (s.portOfLane l) l < 2 ^ (s.port (s.portOfLane l)).width → (s.lane l).lock = .hunt →
    exec (.codewordReceived l syms false) s = .next (settle s (s.setLane l
      (if s.fld (linkReg (s.portOfLane l) 0x10) 0 7 ≤ validHeaders syms then { s.lane l with lock := .test, good := 0, inverted := false }
       else if s.fld (linkReg (s.portOfLane l) 0x10) 0 7 ≤ validHeaders (flipPolarity syms) then
         { s.lane l with lock := .test, good := 0, inverted := true }
       else { s.lane l with pos := ((s.lane l).pos + 66) % 5760 })))) ∧
  (∀ (s : State) (p : Nat), p < 192 → (s.port p).st = .hunt → (s.port p).retryHold = false → s.degradeEn p = true →
    keepMask (2 ^ (s.port p).width) (s.lockMask p) ≠ 0 →
    exec (.huntDegradeTimeout p) s =
      .next (settle s (s.setPort p { s.port p with st := .eq, trained := keepMask (2 ^ (s.port p).width) (s.lockMask p) }))) ∧
  (∀ (s : State) (p : Nat), p < 192 → (s.port p).retryHold = true →
    exec (.trainRetryHoldExpiry p) s = .next (settle s (s.setPort p { s.port p with retryHold := false }))) ∧
  (∀ (s : State) (p : Nat), p < 192 → (s.port p).holdDown = true →
    exec (.holdDownExpiry p) s = .next (settle s ((s.setPort p { s.port p with holdDown := false }).enterHunt p)))

/-- Training from the first training block to ACTIVE. What each event of training writes: a repeated training block is noted without a new answer; EQ
ends in DESKEW when every trained lane passed and is ready; the time limits of EQ, DESKEW and IDENT are training failures, with TRAIN_FAIL, HUNT and
the 100 ms wait; a good deskew enters IDENT and sends the identity; the identity is repeated while the far end's is missing; a matching identity at
version 2 makes the port ACTIVE. -/
def Obligations.LinkTraining : Prop :=
  (∀ (s : State) (l : Nat) (t : TsBlock), (s.port (s.portOfLane l)).st = .eq → laneIdx (s.portOfLane l) l < 2 ^ (s.port (s.portOfLane l)).width →
    t.preset = false → t.req = (s.lane l).lastReq →
    exec (.tsBlockReceived l t) s = .next (settle s
      ((s.setLane l { s.lane l with farReady := t.rxReady, farWidth := some t.width, farLane := some t.lane, farGroup := t.group }).setPort
        (s.portOfLane l) { s.port (s.portOfLane l) with farWidth := some t.width }))) ∧
  (∀ (s : State) (p pass offset : Nat), p < 192 → (s.port p).st = .eq → ((s.port p).refmode = true ∨ offset ≤ 20) →
    (s.port p).trained &&& pass = (s.port p).trained → (∀ i ∈ bitsOf 8 (s.port p).trained, (s.lane (4 * p + i)).farReady = true) →
    exec (.eqComplete p pass offset) s = .next (settle s (s.setPort p { s.port p with st := .deskew }))) ∧
  (∀ (s : State) (p : Nat) (i : Instr), p < 192 → (i = .eqTimeout p ∧ (s.port p).st = .eq ∨ i = .deskewTimeout p ∧ (s.port p).st = .deskew ∨
      i = .identTimeout p ∧ (s.port p).st = .ident) →
    exec i s = .next (settle s (
      let u := ((s.setReg (linkReg p 8) (s.reg (linkReg p 8) ||| 2 ^ 7)).event { word := p / 48, source := fTrainFail, unit := p, kind := .port }).enterHunt p
      u.setPort p { u.port p with retryHold := true }))) ∧
  (∀ (s : State) (p : Nat) (ids : List Nat), p < 192 → (s.port p).st = .deskew → ids.length = lanesIn (s.port p).trained →
    (∀ i ∈ ids, i < s.fullLanes p) → ids.eraseDups.length = ids.length →
    exec (.deskewComplete p ids) s = .next (settle s ((s.setPort p { s.port p with
      st := .ident, active := (s.port p).trained, peer := none, sentAfter := false, rx := none, rxBad := false }).sendIdentity p))) ∧
  (∀ (s : State) (p : Nat), p < 192 → (s.port p).st = .ident → (s.port p).peer = none →
    exec (.identityRepeatTimer p) s = .next (settle s (s.sendIdentity p))) ∧
  (∀ (s : State) (p : Nat) (k : Pkt) (e : Nat × Nat × Nat), p < 192 → (s.port p).st = .ident → (s.port p).sentAfter = true → (s.port p).maxVer ≠ 1 →
    (identityOf k.payload).versions = 3 → s.expectOf p = some e → s.identityMatches p (identityOf k.payload) = true →
    exec (.identityMessageReceived p k) s = .next (settle s (
      let i := identityOf k.payload
      ((s.taken p k).setPort p { s.port p with
        peer := some i, peerId := idWord i.endpoint i.port i.plane i.role, peerSerial := i.serial, peerFeat := i.features + i.fwLine * 2 ^ 16,
        expId := idWord e.1 e.2.1 s.pl.plane e.2.2, ver := 2 }).activatePort p i false)))

/-- Links in service: loss of link, width changes, lanes retrained alone. The first DOWN of a port loses what is queued, takes the port out of
routing, sets DOWN, counts DOWN_CNT, raises LINK_DOWN and hunts, and three events lead to it; WIDTH_REQ is answered by WIDTH_ACK with the AND of the
masks, WIDTH_ACK fixes the mask, WIDTH_SWITCH to fewer lanes sets DEGRADED and begins WIDTH_DEGRADED; a proposal lapses; lanes leave and rejoin the
stripe. -/
def Obligations.LinkService : Prop :=
  (∀ (s : State) (p : Nat) (i : Instr), p < 192 → (i = .downHoldExpiry p ∧ (s.port p).loss = true ∨
      i = .identityCheckTimeout p ∧ (s.port p).idCheck = true ∨
      i = .widthChangeTimeout p ∧ (∃ c, (s.port p).change = some c ∧ c.widen = false) ∨
      (∃ k, i = .laneErrorLimitExceeded p k ∧ (s.port p).st = .active ∧ (s.port p).active.testBit k = true ∧ lanesIn (s.port p).active ≤ 1)) →
    exec i s = .next (settle s (
      let a := (s.dropArrival p).setPort p { (s.dropArrival p).port p with
        st := .down, egressHeld := false, loss := false, change := none, idCheck := false }
      let b := (a.flushPort p).leaveRouting p
      let c := ((b.setReg (linkReg p 8) (b.reg (linkReg p 8) ||| 2 ^ 1)).bump (linkReg p 0x124)).raisePort p fLinkDown
      if 4 ≤ (c.recentDowns p).length then
        let d := ((c.setReg (linkReg p 8) (c.reg (linkReg p 8) ||| 2 ^ 9)).bump (linkReg p 0x124)).raisePort p fLinkFlap
        d.setPort p { d.port p with holdDown := true, downs := [] }
      else (c.setPort p { c.port p with downs := c.clk :: c.recentDowns p }).enterHunt p))) ∧
  (∀ (s : State) (p m : Nat), p < 192 → (s.port p).st = .active → (s.port p).ver = 2 → (s.port p).change = none →
    exec (.widthReqReceived p m) s = .next (settle s ((s.setPort p { s.port p with
      change := some { mask := s.healthyMask p, widen := decide (lanesIn (s.port p).active < lanesIn (s.healthyMask p &&& m)),
                       agreed := some (s.healthyMask p &&& m) } }).emit (.lm p 0x11 (s.healthyMask p &&& m))))) ∧
  (∀ (s : State) (p m : Nat) (c : WidthChange), p < 192 → (s.port p).st = .active → (s.port p).change = some c → m &&& c.mask = m →
    exec (.widthAckReceived p m) s = .next (settle s (s.setPort p { s.port p with change := some { c with agreed := some m } }))) ∧
  (∀ (s : State) (p a : Nat) (c : WidthChange), p < 192 → (s.port p).st = .active → (s.port p).change = some c → c.agreed = some a → a ≠ 0 →
    lanesIn a < lanesIn (s.port p).active →
    exec (.widthSwitch p) s = .next (settle s (
      let u := (((s.setPort p { s.port p with active := a, change := none, egressHeld := false }).soloLanes p
        ((s.port p).active - ((s.port p).active &&& a))).joinLanes p a).bump (linkReg p 0x128)
      ((u.setReg (linkReg p 8) (u.reg (linkReg p 8) ||| 2 ^ 2)).condBegin
        { word := denOf p, source := fWidthDegraded, unit := p, kind := .port }).tc1WidthFell p))) ∧
  (∀ (s : State) (p : Nat) (c : WidthChange), p < 192 → (s.port p).change = some c → c.widen = true →
    exec (.widenProposalLapse p) s = .next (settle s ((bitsOf 8 (c.mask - (c.mask &&& (s.port p).active))).foldl
      (fun s i => s.setLane (4 * p + i) { s.lane (4 * p + i) with soaking := true }) (s.setPort p { s.port p with change := none })))) ∧
  (∀ (s : State) (p m : Nat), p < 192 → (s.port p).st = .active → (s.port p).ver = 2 →
    exec (.laneRetrainReceived p m) s = .next (settle s (
      let a := keepMask (s.fullLanes p) (s.healthyMask p &&& (s.port p).active - (s.healthyMask p &&& (s.port p).active &&& m))
      let u := (bitsOf 8 m).foldl (fun s i => s.setLane (4 * p + i) { s.lane (4 * p + i) with solo := true, soaking := false }) s
      (u.setPort p { u.port p with change := some { mask := a, agreed := some a } }).emit (.lm p 0x11 a)))) ∧
  (∀ (s : State) (p i : Nat), p < 192 → (s.port p).st = .active → (s.port p).ver = 2 → s.restoreEn p = true → (s.lane (4 * p + i)).soaking = true →
    (s.lane (4 * p + i)).lock = .locked → (s.port p).change = none → (s.port p).lastWiden = none →
    lanesIn (s.port p).active < lanesIn (keepMask (s.fullLanes p) (s.healthyMask p)) →
    exec (.soakComplete p i) s = .next (settle s ((s.setPort p { s.port p with
      change := some { mask := keepMask (s.fullLanes p) (s.healthyMask p), widen := true } }).emit
        (.lm p 0x10 (keepMask (s.fullLanes p) (s.healthyMask p)))))) ∧
  (∀ (s : State) (p i : Nat), p < 192 → (s.port p).st = .active → (s.lane (4 * p + i)).solo = true →
    exec (.laneRetrainComplete p i) s = .next (settle s (
      let u := s.setLane (4 * p + i) { s.lane (4 * p + i) with lock := .locked, errOk := true, soaking := true, win := [] }
      u.setReg (linkReg p 8) (u.reg (linkReg p 8) ||| 2 ^ 5))))

/-- Blocks and messages of a link, timestamps, drains and the register rows of a port. What each received block, each timer and each row of LINK.CTRL
writes on a port: flow control (R111, R113), timestamp exchanges (R58, R81), ROUTING (R129), drains (R41, R80), and ENABLE, RETRAIN and LOOPBACK (R74,
R97, R588). -/
def Obligations.LinkMessages : Prop :=
  (∀ (s : State) (p m : Nat), p < 192 → (s.port p).st = .active → exec (.fcStateReceived p m) s = .next (settle s (
    if m % 64 = 0 then (s.setPort p { s.port p with xoffRx := m % 256 }).condEnd (denOf p) fXoffStuck p
    else s.setPort p { s.port p with xoffRx := m % 256 }))) ∧
  (∀ (s : State) (p : Nat), p < 192 → (s.port p).st = .active → exec (.fcStateRepeatTimer p) s = .next (settle s (s.emit (.lm p 0x01 (s.fcMask p))))) ∧
  (∀ (s : State) (p : Nat), p < 192 → (s.port p).st = .active → (s.port p).xoffRx % 64 ≠ 0 → exec (.xoffStuck p) s = .next (settle s
    ((s.setReg (linkReg p 0x44) (s.reg (linkReg p 0x44) ||| 2 ^ 16)).condBegin { word := denOf p, source := fXoffStuck, unit := p, kind := .port }))) ∧
  (∀ (s : State) (p : Nat), p < 192 → (s.port p).st = .active → (s.port p).ver = 2 → (s.useOf p).use = 1 → (s.port p).ts = none →
    exec (.tsSyncTimer p) s = .next (settle s ((s.setPort p { s.port p with ts := some { t1 := s.now % 2 ^ 48 } }).emit (.lm p 0x20 (s.now % 2 ^ 48))))) ∧
  (∀ (s : State) (p : Nat), p < 192 → (s.port p).st = .active → (s.port p).ver = 2 → exec (.tsSyncReceived p) s =
    .next (settle s ((s.emit (.lm p 0x21 (s.now % 2 ^ 48))).emit (.lm p 0x22 (s.now % 2 ^ 48))))) ∧
  (∀ (s : State) (p t : Nat) (e : TsExchange), p < 192 → (s.port p).ts = some e → exec (.tsRxReceived p t) s =
    .next (settle s (s.setPort p { s.port p with ts := some { e with t2 := some (t % 2 ^ 48) } }))) ∧
  (∀ (s : State) (p t3 t1 t2 t4 : Nat), p < 192 → (s.port p).ts = some { t1 := t1, t2 := some t2, t4 := t4 } → (Tbl.get ({} : PortTime) s.time.ports p).valid = false →
    exec (.tsTxReceived p t3) s = .next (settle s (
      let d := (s.useOf p).dir
      let u := s.setPort p { s.port p with ts := none }
      ((({ u with time := { u.time with
        ports := Tbl.put {} u.time.ports p { offset := (exchangeOf t1 t2 (t3 % 2 ^ 48) (s.now % 2 ^ 48)).1, delay := (exchangeOf t1 t2 (t3 % 2 ^ 48) (s.now % 2 ^ 48)).2,
                                             rate := 0, at_ := s.clk, valid := true },
        dirs := Tbl.put {} u.time.dirs d { s.dirT d with good := min 255 ((s.dirT d).good + 1) } } } : State).remedian d).redomain)))) ∧
  (∀ (s : State) (p : Nat) (e : TsExchange), p < 192 → (s.port p).ts = some e → exec (.tsExchangeTimeout p) s =
    .next (settle s ((s.setPort p { s.port p with ts := none }).bump (linkReg p 0x13C)))) ∧
  (∀ (s : State) (p : Nat) (b : Bool), p < 192 → (s.port p).st = .active → (s.port p).ver = 2 → exec (.drainReceived p b) s =
    .next (settle s (s.setPort p { s.port p with drainRx := b }))) ∧
  (∀ (s : State), exec .routingRepeatTimer s = .next (settle s ((allPorts.filter (fun p => (s.port p).st == .active)).foldl (fun s p => s.sendRouting p) s))) ∧
  (∀ (s : State) (p : Nat) (k : Pkt), p < 192 → (s.port p).st = .active → exec (.routingReceived p k) s =
    .next (settle s (((s.taken p k).setPort p { s.port p with accept := bit (leWord k.payload 0) 8 }).judgeRouting p))) ∧
  (∀ (s : State) (p : Nat), p < 192 → (s.port p).drainTx = true → s.queuesEmpty p = true → exec (.portDrained p) s =
    .next (settle s ((s.setPort p { s.port p with drained := true }).drainsEnd p (.ok [])))) ∧
  (∀ (s : State) (p : Nat), p < 192 → s.portThere p = true → p % 2 = 0 → (s.port p).st = .disabled → exec (.linkEnable p) s =
    .next (settle s ((s.setFld (linkReg p 0) 0 1 1).enterHunt p))) ∧
  (∀ (s : State) (p : Nat), p < 192 → s.portThere p = true → s.fld (linkReg p 0) 0 1 = 1 → exec (.linkDisable p) s =
    .next (settle s (
      let u := ((s.setFld (linkReg p 0) 0 1 0).outOfService p).enterHunt p
      u.setPort p { u.port p with st := .disabled }))) ∧
  (∀ (s : State) (p : Nat), p < 192 → s.portThere p = true → (s.port p).st ≠ .disabled → exec (.retrain p) s =
    .next (settle s (
      let u := s.outOfService p
      (u.setReg (linkReg p 8) (u.reg (linkReg p 8) ||| 2 ^ 5)).enterHunt p))) ∧
  (∀ (s : State) (p v : Nat), p < 192 → s.portThere p = true → (v = 0 ∨ v < 3 ∧ s.instrument = true) → exec (.loopback p v) s =
    .next (settle s (
      let u := s.setFld (linkReg p 0) 9 2 v
      if v = s.fld (linkReg p 0) 9 2 then u else if v ≠ 0 then u.outOfService p else u.retrainPort p)))

/-- A packet's way through a den: header, trailer, crossbar slot, departure, bridge, policer, residence. For the rows of the switch that move packets:
at an ACTIVE port of a leaf or plane link a header that passes every check of R107 is admitted toward its route (R136); a trailer with the right
length and CRC completes and releases the packet (R107, R108); a slot grants, accepts and moves cells (R148); a packet that has left takes its tokens
and advances virtual time (R176, R182); the oldest packet of a bridge passes stages 7 and 8 in the den it comes to, with the copies of a multicast
made of it there (R150, R151); a packet held for more than 1 ms is discarded and counted (R105); a packet that a regulating policer held becomes green
and goes on (R180). -/
def Obligations.PacketsIntoAndOutOfTheSwitch : Prop :=
  (∀ (s : State) (p : Nat) (h : Hdr) (l : List Nat), p < 192 → (s.port p).st = .active → (s.port p).idCheck = false → s.power.pstate ≠ 2 →
    s.pair.st ≠ 4 → h.tc ≠ 1 → h.type ≠ 0x30 →
    let u := s.setPort p { s.port p with rxBad := false }
    u.headCheck p h = none → u.emulated p = none → u.partCheck p h = true →
    h.hops < u.fld (swReg 0 0x200) 24 4 → u.route h (some p) none = .ports l →
    exec (.packetHeaderReceived p h) s = .next (settle s (u.admits p h l none))) ∧
  (∀ (s : State) (p : Nat) (h : Hdr), p < 192 → (s.port p).st = .active → (s.port p).idCheck = false → s.power.pstate ≠ 2 →
    s.pair.st ≠ 4 → h.tc ≠ 1 → h.type ≠ 0x30 →
    let u := s.setPort p { s.port p with rxBad := false }
    u.headCheck p h = none → u.emulated p = none → u.partCheck p h = true →
    u.fld (swReg 0 0x200) 24 4 ≤ h.hops →
    exec (.packetHeaderReceived p h) s = .next (settle s (u.setPort p { u.port p with rx := some { hdr := h, discarded := true, fail := some 0x070 } }))) ∧
  (∀ (s : State) (p t id : Nat) (l : List Byte) (a : Arrival), p < 192 → (s.port p).rx = some a → (s.port p).rxBad = false → a.discarded = false →
    a.held = some id → l.length = a.hdr.len → trailerOf a.hdr l = t →
    exec (.packetTrailerReceived p l t true false) s = .next (settle s (
      let u := ((s.setPort p { s.port p with rx := none, rxBad := false }).bump64 (linkReg p 0x0C0) 1).bump64 (linkReg p 0x0D0) (36 + l.length)
      (u.tap p { hdr := a.hdr, payload := l }).completeHeld p id { hdr := a.hdr, payload := l } t))) ∧
  (∀ (s : State) (p t id : Nat) (l : List Byte) (a : Arrival), p < 192 → (s.port p).rx = some a → (s.port p).rxBad = false → a.discarded = false →
    a.held = some id → l.length = a.hdr.len → trailerOf a.hdr l ≠ t →
    exec (.packetTrailerReceived p l t true false) s = .next (settle s (
      let u := ((s.setPort p { s.port p with rx := none, rxBad := false }).bump64 (linkReg p 0x0C0) 1).bump64 (linkReg p 0x0D0) (36 + l.length)
      (((u.bumpLink p 0x060).abortHeld id).mirrorBad p a.hdr).tapBad p a.hdr))) ∧
  (∀ (s : State) (d : Nat), d < 4 → d ∉ s.sw.sliceReset → exec (.schedulerSlot d) s = .next (settle s (
    let u := s.offerWaiting.releaseWaiting d
    let m := u.matchSlot d (u.fld (swReg d 0x300) 0 3) true []
    m.2.foldl (fun s g => s.moveCells d g) m.1))) ∧
  (∀ (s : State) (d a : Nat) (h : Held), d < 4 → a < 48 → s.movedWhole d a = some h → h.inPort.isSome = true →
    exec (.packetTransmitComplete d a) s = .next (settle s (s.leavePort h (48 * d + a)).offerWaiting)) ∧
  (∀ (s : State) (d a : Nat) (h : Held), d < 4 → 48 ≤ a → a < 51 → s.movedWhole d a = some h →
    exec (.packetTransmitComplete d a) s = .next (settle s (s.leaveBridge h a).offerWaiting)) ∧
  (∀ (s u : State) (f t : Nat) (x : Nat × Nat × Held), s.sw.bridge.find? (fun x => x.1 == f && x.2.1 == t) = some x →
    s.newId.2.chainTake s.newId.1 t x.2.2.pkt.hdr.cells x.2.2.pkt.hdr.tc none = some u →
    exec (.bridgeArrival f t) s = .next (settle s (({ u with sw := { u.sw with bridge := u.sw.bridge.erase x } } : State).copiesIn x.2.2.riders
      { x.2.2 with id := s.newId.1, den := t, chain := s.newId.1, att := none, queue := 0, inAtt := bridgeAtt t f, moved := 0, started := false,
                   deep := false, arrived := x.2.2.pkt.hdr.cells, riders := [] }))) ∧
  (∀ (s : State) (i : Nat) (h : Held), s.heldById i = some h → h.pkt.hdr.tc ≠ 1 →
    exec (.residenceTimeout i) s = .next (settle s (match (match h.port with | some p => some p | none => h.inPort) with
      | some p => (s.takeHeld h).bumpLink p 0x07C
      | none => s.takeHeld h))) ∧
  (∀ (s : State) (p i : Nat) (h : Held), p < 192 → s.sw.held.find? (fun h => h.policer == some (32 * p + i)) = some h →
    exec (.policerRelease p i) s = .next (settle s (
      let a := s.regTake (32 * p + i) h.pkt.hdr.bytesTotal
      let u : State := { a with sw := { a.sw with held := a.sw.held.filter (·.id != h.id) } }
      (u.stage7 { h with policer := none, colour := 0, mirrors := u.mirrorsIn p h.pkt.hdr } true).updXoff p)))

/-- FREE, REF_INC, REF_DEC and ALLOC check in the order of R139 and are refused at the first failure. A buffer named by handle or by address is
checked in the order range of POOL and DEN, INDEX below the pool's size, alignment, allocated, reference count; at the first failure the operation
raises the fault of R139's table, whose default class is the table's, and changes no pool; ALLOC is refused when POOL or DEN is out of range; where no
check fails the count changes by one or the buffer is freed, and ALLOC hands a buffer out, records that none is free, and never raises one of these
faults. -/
def Obligations.BufferOperationsRefuseAtTheFirstFailingCheck : Prop :=
  (∀ (s : State) (d op h : Nat) (al : Bool) (b : BufName) (f : Nat → BufName → Instr), d < 4 →
    (f = .bufFree ∧ op = 1 ∨ f = .refInc ∧ op = 2 ∨ f = .refDec ∧ op = 3) →
    (b = .handle h ∧ al = true ∨
      ∃ p a, b = .address p a ∧ h = handleOf p d (a / bufSize p) ∧ al = decide (a % bufSize p = 0)) →
    ∃ u : State, exec (f d b) s = .next (settle s u) ∧
      (let p := h / 2 ^ 28
       let i := h % 2 ^ 26
       let n := Tbl.get 0 (s.pool d p).alloc i
       let fault := fun (src : Nat) => ∃ e : Event, ∃ w : State, u = w.event e ∧ w.sw = s.sw ∧ e.word = d ∧ e.source = src
       if 4 ≤ p ∨ h / 2 ^ 26 % 4 ≠ d then fault fBpmRange
       else if (s.pool d p).size ≤ i then fault fBpmRange
       else if al = false then fault fBpmAlign
       else if n = 0 then fault fBpmUnalloc
       else if op = 2 ∧ n = 255 then fault fBpmRefcnt
       else if op = 2 then u = s.setPool d p { s.pool d p with alloc := Tbl.put 0 (s.pool d p).alloc i (n + 1) }
       else if op = 3 ∧ 1 < n then u = s.setPool d p { s.pool d p with alloc := Tbl.put 0 (s.pool d p).alloc i (n - 1) }
       else u = s.bufFree d p i)) ∧
  (∀ (s : State) (d p r : Nat), d < 4 → (4 ≤ p ∨ r ≠ d) →
    ∃ (u w : State) (e : Event), exec (.alloc d p r) s = .next (settle s u) ∧ u = w.event e ∧ w.sw = s.sw ∧ e.word = d ∧ e.source = fBpmRange) ∧
  (∀ (s : State) (d p : Nat), d < 4 → p < 4 → ∃ u : State, exec (.alloc d p d) s = .next (settle s u) ∧
    (u = s.setPool d p { s.pool d p with events := (s.pool d p).events ||| 2 ^ 7 } ∨
     ∃ i, u = (s.used.setPool d p { s.pool d p with alloc := Tbl.put 0 (s.pool d p).alloc i 1 }).relevel d p)) ∧
  (∀ (s : State) (e : Event), sourceExists e.word e.source = true → (s.event e).sw.pools = s.sw.pools ∧ ((s.event e).fsw e.word).testBit e.source = true) ∧
  (∀ (w : Nat), w < 4 → State.reset.classOf w fBpmRange = clsLog ∧ State.reset.classOf w fBpmAlign = clsLog ∧
    State.reset.classOf w fBpmUnalloc = clsDegrade ∧ State.reset.classOf w fBpmRefcnt = clsDegrade)

/-- Pages of a deep segment are written and read back, and the sampling engine records a sample. An open tail page is written with what is staged, at
most 256 cells (R157); the oldest page read back frees the page and brings its cells back (R157); an uncorrectable line that no packet's cell meets
leaves the read-back as it is, apart from the line's own handling (R351); a sample records depth, wait and sequence number in the next ring entry
(R185). -/
def Obligations.DeepPagesAndSamples : Prop :=
  (∀ (s : State) (d a q t : Nat), d < 4 → a < 64 → (s.queue (qKey d a q)).pageOpen = some t → s.stagedCells d a q ≠ 0 →
    exec (.deepPageOpenTimeout d a q) s = .next (settle s ((s.setQueue (qKey d a q) { s.queue (qKey d a q) with
      pageOpen := none, pages := (s.queue (qKey d a q)).pages ++ [min 256 (s.stagedCells d a q)] }).unstage d a q))) ∧
  (∀ (s : State) (d a q n : Nat) (r : List Nat) (h : Held) (l : List Held), d < 4 → a < 64 → (s.queue (qKey d a q)).pages = n :: r →
    s.deepOf d a q = h :: l → exec (.deepPageReadComplete d a q true) s = .next (settle s (
      let u := (s.setQueue (qKey d a q) { s.queue (qKey d a q) with pages := r, deepRead := (s.queue (qKey d a q)).deepRead + n }).givePage d h.pkt.hdr.tc
      (u.unDeep (qKey d a q) d (h :: l)).getD u))) ∧
  (∀ (s : State) (d a q n : Nat) (r : List Nat), d < 4 → a < 64 → (s.queue (qKey d a q)).pages = n :: r → (s.areaUe d 4).deepOf d a q = [] →
    exec (.deepPageReadComplete d a q false) s = .next (settle s ((s.areaUe d 4).readPage d a q))) ∧
  (∀ (s : State) (d : Nat), d < 4 → s.fld (swReg d 0xB00) 0 1 = 1 → exec (.sampleTimer d) s = .next (settle s (
    let n := s.fld (swReg d 0xB00) 1 6
    let q := s.fld (swReg d 0xB00) 7 6
    let z := Tbl.get ({} : Sampler) s.sw.samplers d
    let wait := match firstOf (s.inQueue d n q) with | some h => sat32 ((s.clk - h.enqAt) / 1000) | none => 0
    { s with sw := { s.sw with samplers := (Tbl.put {} s.sw.samplers d
        { ring := Tbl.put {} z.ring z.wptr { depth := min (s.queueCells d n q) (2 ^ 24 - 1), seq := z.count % 256, delay := wait },
          wptr := (z.wptr + 1) % 256, wraps := if z.wptr = 255 then (z.wraps + 1) % 2 ^ 24 else z.wraps, count := (z.count + 1) % 256 }) } })))

/-- The timers of end-to-end streams: resend, holds, acknowledgement, rate, OPEN and responses. A tracked packet outstanding for RTO with a route is
resent and its count rises, or after RESEND_MAX is held with PATH_LOST (R120); a hold's end gives up the stream's outstanding packets, reopens it
after the highest SEQ sent, and fails their operations (R120); 1 microsecond after the first unacknowledged arrival the destination sends an ACK
(R118); without ECE the rate rises by 1/64 of the port rate toward it (R127); an unanswered OPEN is sent again at the same SEQ (R114); an unanswered
request is sent again (R122). -/
def Obligations.StreamTimers : Prop :=
  (∀ (s : State) (dst tc q : Nat) (o : OutPkt), (s.txs dst tc).out.find? (fun o => o.pkt.hdr.seq == q) = some o → s.unroutable o = false →
    o.noRoute = false → o.heldAt = none → o.busy = false → o.resends < s.resendMax →
    exec (.resendTimeout dst tc q) s = .next (settle s (((s.countResend o).offerPkt o).modOut dst tc q (fun o =>
      { o with resends := if o.busy then o.resends else o.resends + 1, busy := false, sentAt := s.clk })))) ∧
  (∀ (s : State) (dst tc q : Nat) (o : OutPkt), (s.txs dst tc).out.find? (fun o => o.pkt.hdr.seq == q) = some o → s.unroutable o = false →
    o.noRoute = false → o.heldAt = none → o.busy = false → s.resendMax ≤ o.resends →
    exec (.resendTimeout dst tc q) s = .next (settle s ((s.pathLost o.origin o.pkt).modOut dst tc q (fun o => { o with heldAt := some s.clk })))) ∧
  (∀ (s : State) (dst tc q : Nat) (o : OutPkt), (s.txs dst tc).out.find? (fun o => o.pkt.hdr.seq == q) = some o → s.unroutable o = true → o.heldAt = none →
    exec (.resendTimeout dst tc q) s = .next (settle s ((s.pathLost o.origin o.pkt).modOut dst tc q (fun o =>
      { o with heldAt := some s.clk, noRoute := true })))) ∧
  (∀ (s : State) (dst tc : Nat), (s.txs dst tc).out.any (fun o => o.heldAt.isSome && o.deadline.isNone) = true →
    exec (.pathHoldTimeout dst tc) s = .next (settle s ((s.txs dst tc).out.foldl (fun s o => s.failOp o 0x41)
      ((s.setTxs dst tc { s.txs dst tc with out := [] }).openAtSeq dst tc (s.txs dst tc).next)))) ∧
  (∀ (s : State) (dst tc : Nat), (s.txs dst tc).out.any (fun o => o.heldAt.isSome && o.deadline.isSome) = true →
    exec (.operationDeadline dst tc) s = .next (settle s ((s.txs dst tc).out.foldl (fun s o => s.failOp o 0x40)
      ((s.setTxs dst tc { s.txs dst tc with out := [] }).openAtSeq dst tc (s.txs dst tc).next)))) ∧
  (∀ (s : State) (src tc : Nat), (s.rxs src tc).open_ = true → (s.rxs src tc).firstAt.isSome = true → ((s.sendAck src tc).rxs (src + 16384) tc).open_ = false →
    exec (.ackTimer src tc) s = .next (settle s (
      let x := s.rxs src tc
      (s.setRxs src tc { x with unacked := 0, ce := 0, firstAt := none }).sendCompl src x.last
        { kind := kAck, stc := tc, winM1 := s.winOf x.den - 1, ackSeq := x.ack, sack := x.sack, inc := s.incOf src, ceCount := x.ce, acked := x.unacked }
        (decide (0 < x.ce))))) ∧
  (∀ (s : State) (dst tc p : Nat) (l : List Nat) (r : Rat), (s.route { dst := dst, tc := tc } none none).list = p :: l → (s.txs dst tc).rate = some r →
    exec (.rateIncreaseTimer dst tc) s = .next (settle s (s.setTxs dst tc { s.txs dst tc with
      rate := if s.payloadRate p ≤ r + s.payloadRate p / 64 then none else some (r + s.payloadRate p / 64) }))) ∧
  (∀ (s : State) (dst tc : Nat), ((s.txs dst tc).phase = .opening ∨ (s.txs dst tc).phase = .busy) →
    exec (.openRepeatTimer dst tc) s = .next (settle s (
      let x := s.txs dst tc
      let u := s.setTxs dst tc { x with phase := .opening, first := x.first, ack := x.first, openAt := s.clk }
      u.sendCompl dst { job := match x.out ++ x.wait with | o :: _ => o.pkt.hdr.job | [] => 0 }
        { kind := kOpen, stc := tc, ackSeq := x.first, inc := u.st.incarnation, winM1 := u.winOf 0 - 1 } false))) ∧
  (∀ (s : State) (i : Nat) (a : Ask), s.st.asks[i]? = some a → exec (.responseTimeout i) s = .next (settle s (
    ({ s with st := { s.st with asks := s.st.asks.set i { a with sentAt := s.clk } } } : State).sendPkt a.pkt
      (match a.core with | some c => .sett (coreDen c) | none => .keeper) none none)))

/-- COMPLETIONs, memory requests, command packets, replies and TEST packets that the module itself receives. A packet handed over at a port is taken
and its row's effect follows: a COMPLETION with ECE is counted, ACK, OPEN, OPEN_ACK and RESYNC change their stream (R114, R116), a STATUS that answers
a request ends it, one that matches nothing is counted (R592), a WRITE and a READ_REQ that pass the check of R347 reach memory or answer with data,
refused ones are counted and answered with a STATUS, a READ_RESP ends its request (R20), a CMD packet that repeats one of the last 64 TAGs is answered
again (R374), a CMD_REPLY that matches nothing is counted (the model's counter, log 24), a RESEND_REQ for nothing held here is ignored and counted
(R123), a TEST packet is counted by the checker flows that take it (R529). -/
def Obligations.PacketsForTheModuleItself : Prop :=
  (∀ (s : State) (p : Nat) (k : Pkt), p < 192 → (p, k) ∈ s.sw.delivered → k.hdr.type = 0x04 → (complOf k.payload).kind = 1 →
    exec (.ackReceived p k) s = .next (settle s (((s.taken p k).countEce p k.hdr).ackIn k.hdr.src (complOf k.payload) k.hdr.ece))) ∧
  (∀ (s : State) (p : Nat) (k : Pkt), p < 192 → (p, k) ∈ s.sw.delivered → k.hdr.type = 0x04 → (complOf k.payload).kind = 2 →
    exec (.openReceived p k) s = .next (settle s (
      let c := complOf k.payload
      let a := (s.taken p k).countEce p k.hdr
      let src := a.rxSrc k.hdr
      let x := a.rxs src c.stc
      let u := if x.open_ = true ∧ x.inc = c.inc ∧ x.first = c.ackSeq then a
        else (a.setRxs src c.stc { open_ := true, inc := c.inc, first := c.ackSeq, ack := c.ackSeq, last := k.hdr, den := denOf p }).bump (swReg (denOf p) 0x21C)
      u.sendCompl src k.hdr { kind := kOpenAck, stc := c.stc, winM1 := u.winOf (denOf p) - 1, ackSeq := c.ackSeq, inc := u.incOf src } false))) ∧
  (∀ (s : State) (p : Nat) (k : Pkt), p < 192 → (p, k) ∈ s.sw.delivered → k.hdr.type = 0x04 → (complOf k.payload).kind = 3 →
    (((s.taken p k).countEce p k.hdr).txs k.hdr.src (complOf k.payload).stc).phase ≠ .closed → (((s.taken p k).countEce p k.hdr).txs k.hdr.src (complOf k.payload).stc).inc = none →
    exec (.openAckReceived p k) s = .next (settle s (
      let c := complOf k.payload
      let a := (s.taken p k).countEce p k.hdr
      let b := a.setTxs k.hdr.src c.stc { a.txs k.hdr.src c.stc with inc := some c.inc }
      (b.setTxs k.hdr.src c.stc { b.txs k.hdr.src c.stc with phase := .open }).pumpAll k.hdr.src c.stc))) ∧
  (∀ (s : State) (p : Nat) (k : Pkt), p < 192 → (p, k) ∈ s.sw.delivered → k.hdr.type = 0x04 → (complOf k.payload).kind = 4 →
    (((s.taken p k).countEce p k.hdr).txs k.hdr.src (complOf k.payload).stc).phase ≠ .closed →
    exec (.resyncReceived p k) s = .next (settle s (((s.taken p k).countEce p k.hdr).openAtSeq k.hdr.src (complOf k.payload).stc
      (((s.taken p k).countEce p k.hdr).txs k.hdr.src (complOf k.payload).stc).lowest))) ∧
  (∀ (s : State) (p : Nat) (k : Pkt) (a : Ask), p < 192 → (p, k) ∈ s.sw.delivered → k.hdr.type = 0x04 → (complOf k.payload).kind = 5 →
    (∀ tc < 4, (((s.taken p k).countEce p k.hdr).txs k.hdr.src tc).out = []) → ((s.taken p k).countEce p k.hdr).st.asks.find? (fun a => a.kind != .command && a.answered k.hdr) = some a →
    exec (.statusCompletionReceived p k) s = .next (settle s (((s.taken p k).countEce p k.hdr).askDone a))) ∧
  (∀ (s : State) (p : Nat) (k : Pkt), p < 192 → (p, k) ∈ s.sw.delivered → k.hdr.type = 0x04 → (complOf k.payload).kind = 5 →
    (∀ tc < 4, (((s.taken p k).countEce p k.hdr).txs k.hdr.src tc).out = []) → (((s.taken p k).countEce p k.hdr).txs k.hdr.src (complOf k.payload).stc).phase ≠ .opening →
    ((s.taken p k).countEce p k.hdr).st.asks = [] → (((s.taken p k).countEce p k.hdr).ctx k.hdr.ctx).state = .free →
    exec (.statusCompletionReceived p k) s = .next (settle s (((s.taken p k).countEce p k.hdr).bump (swReg (denOf p) 0x22C)))) ∧
  (∀ (s : State) (p : Nat) (k : Pkt), p < 192 → (p, k) ∈ s.sw.delivered → k.hdr.type = 0x01 → k.payload ≠ [] → s.pair.st ≠ 2 → s.pl.paired = false →
    (s.taken p k).checkFabric k.hdr.job true k.hdr.offset k.payload.length = .ok →
    exec (.writeReceived p k) s = .next (settle s ((s.taken p k).anyWrite k.hdr.offset k.payload))) ∧
  (∀ (s : State) (p : Nat) (k : Pkt) (e : Access), p < 192 → (p, k) ∈ s.sw.delivered → k.hdr.type = 0x01 → k.payload ≠ [] → s.pair.st ≠ 2 →
    (s.taken p k).checkFabric k.hdr.job true k.hdr.offset k.payload.length = e → e ≠ .ok →
    exec (.writeReceived p k) s = .next (settle s (((s.taken p k).accViol k.hdr.offset k.hdr.job).sendStatus k.hdr e.status))) ∧
  (∀ (s : State) (p n : Nat) (k : Pkt), p < 192 → (p, k) ∈ s.sw.delivered → k.hdr.type = 0x02 → 4 ≤ k.payload.length →
    n = leWord k.payload 0 % 2 ^ 13 → 1 ≤ n → n ≤ 4096 → (s.taken p k).checkFabric k.hdr.job false k.hdr.offset n = .ok →
    (s.taken p k).ueIn k.hdr.offset n = none →
    exec (.readReqReceived p k) s = .next (settle s (
      let u := s.taken p k
      u.sendPkt { hdr := { type := 0x03, tc := k.hdr.tc, dst := k.hdr.src, src := u.ownId, job := k.hdr.job, len := n, offset := k.hdr.offset, msg := k.hdr.msg },
                  payload := u.anyRead k.hdr.offset n } (.memory (u.denOfOffset k.hdr.offset (denOf p))) none none))) ∧
  (∀ (s : State) (p : Nat) (k : Pkt) (a : Ask), p < 192 → (p, k) ∈ s.sw.delivered → k.hdr.type = 0x03 →
    (s.taken p k).st.asks.find? (fun a => a.kind == .read && a.dst == k.hdr.src && a.msg == k.hdr.msg && a.pkt.hdr.offset == k.hdr.offset) = some a →
    exec (.readRespReceived p k) s = .next (settle s { s.taken p k with st := { (s.taken p k).st with asks := (s.taken p k).st.asks.erase a } })) ∧
  (∀ (s : State) (p : Nat) (k : Pkt), p < 192 → (p, k) ∈ s.sw.delivered → k.hdr.type = 0x20 → (s.taken p k).serves (.fabric k.hdr.src) = true →
    16 ≤ k.payload.length → leWord k.payload 3 = crc32c (k.payload.take 12) → leWord k.payload 1 / 2 ^ 16 % 2 ^ 13 = k.payload.length →
    leWord k.payload 2 % 2 ^ 12 = k.hdr.job → opKnown (leWord k.payload 0 % 2 ^ 16) = true →
    ((s.taken p k).dupsOf k.hdr.src).find? (fun d => d.tag == leWord k.payload 1 % 2 ^ 16) = none →
    exec (.cmdPacketReceived p k) s = .next (settle s (((s.taken p k).setDups k.hdr.src
      ({ tag := leWord k.payload 1 % 2 ^ 16 } :: (s.taken p k).dupsOf k.hdr.src)).poolUse 0 2 1))) ∧
  (∀ (s : State) (p : Nat) (k : Pkt), p < 192 → (p, k) ∈ s.sw.delivered → k.hdr.type = 0x20 → (s.taken p k).serves (.fabric k.hdr.src) = true →
    (k.payload.length < 16 ∨ leWord k.payload 3 ≠ crc32c (k.payload.take 12)) →
    exec (.cmdPacketReceived p k) s = .next (settle s ((s.taken p k).bump (baseCmd + 0x138)))) ∧
  (∀ (s : State) (p : Nat) (k : Pkt), p < 192 → (p, k) ∈ s.sw.delivered → k.hdr.type = 0x21 → (s.taken p k).st.asks = [] →
    exec (.cmdReplyReceived p k) s = .next (settle s ((s.taken p k).bump (swReg (denOf p) 0x22C)))) ∧
  (∀ (s : State) (p : Nat) (k : Pkt), p < 192 → (p, k) ∈ s.sw.delivered → k.hdr.type = 0x28 → ((s.taken p k).ctx k.hdr.ctx).results = [] →
    ((s.taken p k).ctx k.hdr.ctx).leaves = [] →
    exec (.resendReqReceived p k) s = .next (settle s ((s.taken p k).bump (swReg (denOf p) 0x224)))) ∧
  (∀ (s : State) (p : Nat) (k : Pkt) (t : Tap), p < 192 → s.inst.taps.find? (fun t => t.port == p && t.pkt == k) = some t →
    exec (.testPacketReceived p k) s = .next (settle s (
      let u : State := { s with inst := { s.inst with taps := s.inst.taps.erase t } }
      (u.flowsAt p (fun x => x.takes p k.hdr)).foldl (fun s i => s.flowCount (p / 8) t i) u)))

/-- What Marten and the gating and lookup paths do with a packet, and the timers of a context. A contribution or partial that passes the checks of
R222 and is new to its stream goes to its slot, one that the window refuses is counted and answered RESOURCE_BUSY before its stream accepts it (R221),
one of a context that is not here is counted (R222); a token packet and a return that pass their checks are taken (R323, R330); a lookup goes to the
attached core with the fewest open items, and one without an owned table is counted and answered NOT_OWNER (R332); a slot read back brings its blocks
back and its waiting packets go on (R257); the notice, step, deadline, repeat and hold timers act on a context in the state they are for (R208, R209,
R218, R219, R229). -/
def Obligations.MartenPacketsAndTimers : Prop :=
  (∀ (s : State) (p c m : Nat) (k : Pkt) (i : Pkt → Instr), p < 192 → (p, k) ∈ s.sw.delivered →
    (i = .collContribReceived p ∧ k.hdr.type = 0x08 ∨ i = .collPartialReceived p ∧ k.hdr.type = 0x0A) →
    (s.taken p k).check222 k.hdr k.payload.length = .accept c m → ((s.taken p k).acceptTracked p k.hdr).2 = true →
    exec (i k) s = .next (settle s (((s.taken p k).acceptTracked p k.hdr).1.toSlot k.hdr.ctx c m k))) ∧
  (∀ (s : State) (p c : Nat) (k : Pkt) (i : Pkt → Instr), p < 192 → (p, k) ∈ s.sw.delivered →
    (i = .collContribReceived p ∧ k.hdr.type = 0x08 ∨ i = .collPartialReceived p ∧ k.hdr.type = 0x0A) →
    (s.taken p k).check222 k.hdr k.payload.length = .refused c →
    exec (i k) s = .next (settle s (((s.taken p k).bump (ctxReg k.hdr.ctx 0x14)).sendStatus k.hdr 0x21))) ∧
  (∀ (s : State) (p : Nat) (k : Pkt) (i : Pkt → Instr), p < 192 → (p, k) ∈ s.sw.delivered →
    (i = .collContribReceived p ∧ k.hdr.type = 0x08 ∨ i = .collPartialReceived p ∧ k.hdr.type = 0x0A) →
    (s.taken p k).check222 k.hdr k.payload.length = .notMember → ((s.taken p k).acceptTracked p k.hdr).2 = true →
    exec (i k) s = .next (settle s ((((s.taken p k).acceptTracked p k.hdr).1.bump (baseColl + 0x10)).failedStatus k.hdr))) ∧
  (∀ (s : State) (x k : Nat) (z : Slot), (s.ctx x).slot k = some z → z.reading = true →
    exec (.accBlockReadbackComplete x k true) s = .next (settle s (
      let a := (s.roomFor x k).bumpBy (martenReg z.unit 0x1C) z.spilled
      z.waiting.foldl (fun s q => if (a.ctx x).op = 5 then s.toBatch x k q else s.toSlot x k ((a.ctx x).locals.idxOf q.hdr.src) q)
        (a.setCtx x ((a.ctx x).putSlot { z with reading := false, waiting := [], onDie := z.onDie + z.spilled, spilled := 0 }))))) ∧
  (∀ (s : State) (x k : Nat) (z : Slot), (s.ctx x).slot k = some z → z.reading = true →
    exec (.accBlockReadbackComplete x k false) s = .next (settle s ((s.areaUe (z.unit / 4) 2).failCtx x 0x50 .data))) ∧
  (∀ (s u : State) (p : Nat) (k : Pkt) (c : Ctx), p < 192 → (p, k) ∈ s.sw.delivered → k.hdr.type = 0x10 → (s.taken p k).ctx k.hdr.ctx = c →
    c.state = .running → c.job = k.hdr.job → c.op = 5 → c.standby = false → k.hdr.offset % 2 ^ 16 = 0 → k.hdr.offset / 2 ^ 16 % 4096 = 0 →
    k.hdr.msg < c.batchTokens → k.hdr.offset / 2 ^ 16 < c.tokenBytes →
    k.payload.length = packetLen c.tokenBytes (k.hdr.offset / 2 ^ 16 / 4096) → c.locals.idxOf k.hdr.src = k.hdr.msg / c.tpm →
    k.hdr.msg / c.tpm < c.locals.length → c.resolve k.hdr.chunk < (s.taken p k).windowEnd c → c.h ≤ c.resolve k.hdr.chunk →
    c.freedAbove = [] → c.batch (c.resolve k.hdr.chunk) = none → (s.taken p k).acceptTracked p k.hdr = (u, true) →
    exec (.moeDispatchReceived p k) s = .next (settle s (u.tokenPart k.hdr.ctx (c.resolve k.hdr.chunk) k))) ∧
  (∀ (s u : State) (p b e off : Nat) (k : Pkt) (c : Ctx) (t : Token), p < 192 → (p, k) ∈ s.sw.delivered → k.hdr.type = 0x11 →
    (s.taken p k).acceptTracked p k.hdr = (u, true) → u.ctx k.hdr.ctx = c → c.resolve k.hdr.chunk = b → u.token k.hdr.ctx b k.hdr.msg = t →
    k.hdr.offset = e + off * 2 ^ 16 → e < 2 ^ 16 → c.state = .running → c.job = k.hdr.job → c.op = 5 → e ∈ t.accepted →
    u.replica c b k.hdr.msg e = k.hdr.src → off % 4096 = 0 → off < c.tokenBytes → k.payload.length = packetLen c.tokenBytes (off / 4096) →
    t.finished = false → (e, off) ∉ t.rets →
    exec (.moeReturnReceived p k) s = .next (settle s (u.toBatch k.hdr.ctx b k))) ∧
  (∀ (s : State) (p c : Nat) (k : Pkt) (t : EmbTable), p < 192 → (p, k) ∈ s.sw.delivered → k.hdr.type = 0x14 →
    Tbl.get ({} : EmbTable) (s.taken p k).coll.embs k.hdr.ctx = t → t.job ≠ 0 → t.job = k.hdr.job →
    bestBy (fun a b => decide ((s.taken p k).openItems a < (s.taken p k).openItems b)) (t.cores.filterMap (s.taken p k).physOf) = some c →
    exec (.embLookupReceived p k) s = .next (settle s ((s.taken p k).postItem c
      { kind := 3, ctx := k.hdr.ctx, first := k.hdr.msg, count := k.payload.length, src := k.hdr.src, cells := k.payload }))) ∧
  (∀ (s : State) (p : Nat) (k : Pkt), p < 192 → (p, k) ∈ s.sw.delivered → k.hdr.type = 0x14 →
    ((Tbl.get ({} : EmbTable) (s.taken p k).coll.embs k.hdr.ctx).job = 0 ∨ (Tbl.get ({} : EmbTable) (s.taken p k).coll.embs k.hdr.ctx).job ≠ k.hdr.job) →
    exec (.embLookupReceived p k) s = .next (settle s (((s.taken p k).bump (baseColl + 0x38)).sendStatus k.hdr 0x22))) ∧
  (∀ (s : State) (x : Nat), (s.ctx x).state = .running → exec (.noticeTimer x) s = .next (settle s (s.notice x))) ∧
  (∀ (s : State) (x k ph r : Nat), s.ctxOpenPkts x (fun h => h.type == 0x0A && h.chunk == k % 65536 && bits h.offset 44 4 == ph && bits h.offset 43 1 == r) = true →
    exec (.stepTimeout x k ph r) s = .next (settle s (s.failCtx x 0x40 .step))) ∧
  (∀ (s : State) (x : Nat), (s.ctx x).op ≠ 5 → exec (.ctxDeadlineExpiry x) s = .next (settle s (s.ctxExpire x))) ∧
  (∀ (s : State) (x : Nat), (s.ctx x).op = 5 → (s.ctx x).state = .running → (s.ctx x).batches = [] → s.ctxOpenPkts x (fun _ => true) = false →
    exec (.ctxDeadlineExpiry x) s = .next (settle s (s.setCtx x { s.ctx x with state := .done }))) ∧
  (∀ (s : State) (x : Nat), (s.ctx x).state = .failed → (s.ctx x).noticesLeft ≠ 0 → exec (.failureNoticeRepeat x) s = .next (settle s (
    (s.setCtx x { s.ctx x with noticesLeft := (s.ctx x).noticesLeft - 1 }).ctxStatus x (s.ctx x).failChunk (s.ctx x).status))) ∧
  (∀ (s : State) (x : Nat), (s.ctx x).busyHold = true → exec (.ctxReleaseHoldExpiry x) s =
    .next (settle s (s.setCtx x { s.ctx x with busyHold := false })))

/-- Commands of a core's array, vector engine and mover: commit, start, completion, and the POP reads. On a core of the 128 while the module is
neither in DROWSE nor in HIBERNATE: a commit joins its queue with the next issue number, and holds while the queue's 16 entries are full (R305); a
command that the interlock lets go starts with the outcome that its rules compute (R266, R269, R273, R296, R307); a completion writes local memory,
posts its record and counts (R266, R298, R309); SETPRED writes all eight predicates (R299); a POP read moves the oldest record (R305). -/
def Obligations.EngineCommandsOfACore : Prop :=
  (∀ (s : State) (c : Nat) (w : List Nat), c < 128 → s.power.pstate < 2 → (s.core c).live = true → (s.core c).arrayQ.length < 16 →
    exec (.aqCommit c w) s = .next (settle s (s.setCore c { s.core c with
      aqStage := w, issue := (s.core c).issue + 1,
      arrayQ := (s.core c).arrayQ ++ [{ issue := (s.core c).issue, words := w }] }))) ∧
  (∀ (s : State) (c : Nat) (w : List Nat), c < 128 → s.power.pstate < 2 → (s.core c).live = true → (s.core c).vecQ.length < 16 →
    exec (.vqCommit c w) s = .next (settle s (s.setCore c { s.core c with
      vqStage := w, issue := (s.core c).issue + 1,
      vecQ := (s.core c).vecQ ++ [{ issue := (s.core c).issue, words := w, descs := (List.range 5).map (fun i =>
        if bit (w.getD (1 + i) 0) 23 = true then (s.core c).descAt (bits (w.getD (1 + i) 0) 0 23) else []) }] }))) ∧
  (∀ (s : State) (c : Nat) (w : List Nat), c < 128 → s.power.pstate < 2 → (s.core c).live = true → (s.core c).movQ.length < 16 →
    exec (.mqCommit c w) s = .next (settle s (s.setCore c { s.core c with
      mqStage := w, issue := (s.core c).issue + 1,
      movQ := (s.core c).movQ ++ [{ issue := (s.core c).issue, words := w }] }))) ∧
  (∀ (s : State) (c : Nat) (w : List Nat), c < 128 → s.power.pstate < 2 →
    (16 ≤ (s.core c).arrayQ.length → exec (.aqCommit c w) s = .next (settle s (s.setCore c (s.core c)))) ∧
    (16 ≤ (s.core c).vecQ.length → exec (.vqCommit c w) s = .next (settle s (s.setCore c (s.core c)))) ∧
    (16 ≤ (s.core c).movQ.length → exec (.mqCommit c w) s = .next (settle s (s.setCore c (s.core c))))) ∧
  (∀ (s : State) (c : Nat) (q : QCmd) (e : Option (Nat × Nat)), c < 128 → s.power.pstate < 2 → s.startHeld c = false →
    (s.core c).arrayNext = some q → (arrCmd q.words).opc ≠ 2 →
    exec (.matmul c e) s = .next (settle s (
      let r := arrRun (s.core c).rd (s.core c).panel q e
      (s.noteStart c).setCore c { s.core c with
        arrayQ := (s.core c).arrayQ.drop 1, array := some r.1, panel := r.2,
        bank := ((s.core c).bank + r.1.loads) % 2 }))) ∧
  (∀ (s : State) (c : Nat) (q : QCmd) (e : Option (Nat × Nat)), c < 128 → s.power.pstate < 2 → s.startHeld c = false →
    (s.core c).arrayNext = some q → (arrCmd q.words).opc = 2 →
    exec (.elem c e) s = .next (settle s (
      let r := arrRun (s.core c).rd (s.core c).panel q e
      (s.noteStart c).setCore c { s.core c with
        arrayQ := (s.core c).arrayQ.drop 1, array := some r.1, panel := r.2,
        bank := ((s.core c).bank + r.1.loads) % 2 }))) ∧
  (∀ (s : State) (c : Nat) (r : Running), c < 128 → s.power.pstate < 2 → (s.core c).array = some r → r.err = none →
    exec (.arrayCompletion c) s = .next (settle s
      ((((s.setCore c { (s.core c).wr r.writes with array := none }).postArray c r.cmd r.status r.flags).bump64 (settReg c 0x148) r.work).noteIdle c))) ∧
  (∀ (s : State) (c n : Nat) (r : Running), c < 128 → s.power.pstate < 2 → (s.core c).array = some r → r.err = some n →
    exec (.arrayCompletion c) s = .next (settle s
      (((((((s.setCore c { (s.core c).wr r.writes with array := none }).postArray c r.cmd r.status r.flags).bump64 (settReg c 0x148) r.work).flushArray c).countArrayErr c n).coreEvent
        c fSettArray [n % 2 ^ 17]).noteIdle c))) ∧
  (∀ (s : State) (c : Nat) (q : QCmd) (e : Option (Nat × Nat)), c < 128 → s.power.pstate < 2 → (s.core c).vecNext = some q → (vecCmd q.words).opc ≠ 2 →
    exec (.chain c e) s = .next (settle s (s.setCore c { s.core c with
      vecQ := (s.core c).vecQ.drop 1,
      vec := some (chainRun (s.core c).rd (s.core c).pred q e) }))) ∧
  (∀ (s : State) (c : Nat) (q : QCmd), c < 128 → s.power.pstate < 2 → (s.core c).vecNext = some q → (vecCmd q.words).opc = 2 →
    q.words.getD 0 0 / 2 ^ 4 % 2 ^ 3 = 0 →
    exec (.setpred c) s = .next (settle s ((s.setCore c { s.core c with vecQ := (s.core c).vecQ.drop 1, pred := (vecCmd q.words).pval }).postVec c q 0
      (List.replicate 7 0)))) ∧
  (∀ (s : State) (c : Nat) (r : Running), c < 128 → s.power.pstate < 2 → (s.core c).vec = some r → r.err = none → r.setp = none →
    exec (.vectorCompletion c) s = .next (settle s (((s.setCore c { (s.core c).wr r.writes with vec := none }).postVec c r.cmd r.status r.summary).bump64
      (settReg c 0x388) r.work))) ∧
  (∀ (s : State) (c : Nat) (q : QCmd) (l : List Nat), c < 128 → s.power.pstate < 2 → (s.core c).movNext = some q → s.movCheck c (movCmd q.words) ≠ 0 →
    ((movCmd q.words).opc = 1 → exec (.movGet c) s = .next (settle s (s.movRun c q (s.movCheck c (movCmd q.words)) 0))) ∧
    ((movCmd q.words).opc = 2 → exec (.movPut c l) s = .next (settle s (s.movRun c q (s.movCheck c (movCmd q.words)) 0)))) ∧
  (∀ (s : State) (c : Nat) (q : QCmd), c < 128 → s.power.pstate < 2 → (s.core c).movNext = some q → (movCmd q.words).opc = 1 →
    s.movCheck c (movCmd q.words) = 0 → (movCmd q.words).space = 0 →
    exec (.movGet c) s = .next (settle s (
      let r := s.getLines c (movCmd q.words).remote (movCmd q.words).local_ (movCmd q.words).len
      r.1.movRun c q (if r.2.2 = true then 0x50 else 0) r.2.1))) ∧
  (∀ (s : State) (c : Nat) (q : QCmd), c < 128 → s.power.pstate < 2 → (s.core c).movNext = some q → (movCmd q.words).opc = 2 →
    s.movCheck c (movCmd q.words) = 0 →
    exec (.movPut c []) s = .next (settle s ((s.putLines c (movCmd q.words) []).movRun c q 0 (movCmd q.words).len))) ∧
  (∀ (s : State) (c : Nat) (q : QCmd), c < 128 → s.power.pstate < 2 → (s.core c).movNext = some q → (movCmd q.words).opc = 3 →
    (movCmd q.words).space = 0 → 1 ≤ (movCmd q.words).len → (movCmd q.words).len ≤ 131072 → (movCmd q.words).local_ % 64 = 0 →
    (movCmd q.words).remote % 64 = 0 → (movCmd q.words).local_ + 64 * (movCmd q.words).len ≤ sramSize →
    (movCmd q.words).remote + 8 * (movCmd q.words).len ≤ sramSize →
    (let offs := (List.range (movCmd q.words).len).map (fun i => rdNat (s.core c).rd ((movCmd q.words).remote % 2 ^ 23 + 8 * i) 8)
     (∀ o ∈ offs, o % 64 = 0 ∧ s.movReach c false o 64 = true) →
     exec (.gather c) s = .next (settle s (
      let r := (List.range (movCmd q.words).len).foldl (fun (z : State × Nat × Bool) i =>
        ((z.1.getLines c (offs.getD i 0) ((movCmd q.words).local_ + 64 * i) 64).1,
         z.2.1 + (z.1.getLines c (offs.getD i 0) ((movCmd q.words).local_ + 64 * i) 64).2.1,
         z.2.2 || (z.1.getLines c (offs.getD i 0) ((movCmd q.words).local_ + 64 * i) 64).2.2)) (s, 0, false)
      r.1.movRun c q (if r.2.2 = true then 0x50 else 0) r.2.1)))) ∧
  (∀ (s : State) (c : Nat) (q : QCmd) (h : Hdr), c < 128 → s.power.pstate < 2 → (s.core c).movNext = some q → (movCmd q.words).opc = 4 →
    (movCmd q.words).space ≤ 3 → (movCmd q.words).remote = 0 → (movCmd q.words).len ≤ 4096 → (movCmd q.words).ndst = 0 →
    (movCmd q.words).local_ + 32 + (movCmd q.words).len ≤ sramSize → (movCmd q.words).list ≤ sramSize → (s.core c).user = none →
    h = Hdr.ofWords ((List.range 8).map (fun i => rdNat (s.core c).rd ((movCmd q.words).local_ + 4 * i) 4)) → typeOk h.type h.tc = true →
    exec (.send c) s = .next (settle s (
      let hd : Hdr := { type := h.type, tc := h.tc, dst := h.dst, src := s.ownId, job := (s.bindOf c).job, len := (movCmd q.words).len,
                        offset := h.offset, ctx := h.ctx, chunk := h.chunk, msg := h.msg }
      (s.sendFrom c (Pkt.mk hd ((List.range (movCmd q.words).len).map (fun i => (s.core c).rd ((movCmd q.words).local_ + 32 + i)))) none 0).movRun c q 0
        (32 + (movCmd q.words).len)))) ∧
  (∀ (s : State) (c : Nat) (r : Running), c < 128 → s.power.pstate < 2 → (s.core c).mov = some r →
    exec (.moverCompletion c) s = .next (settle s (if r.status = 0x50
      then ((s.setCore c { s.core c with mov := none }).postMov c r.cmd r.status r.bytes).bump (settReg c 0x3AC)
      else (s.setCore c { s.core c with mov := none }).postMov c r.cmd r.status r.bytes))) ∧
  (∀ (s : State) (c : Nat) (r : List Nat) (l : List (List Nat)), c < 128 → s.power.pstate < 2 →
    ((s.core c).acompQ = r :: l → exec (.acompPop c) s = .next (settle s (s.setCore c { s.core c with acomp := r, acompQ := l, popped := 1 }))) ∧
    ((s.core c).vsumQ = r :: l → exec (.vsumPop c) s = .next (settle s (s.setCore c { s.core c with vsum := r, vsumQ := l, popped := 1 }))) ∧
    ((s.core c).mcompQ = r :: l → exec (.mcompPop c) s = .next (settle s (s.setCore c { s.core c with mcomp := r, mcompQ := l, popped := 1 }))) ∧
    ((s.core c).inboxQ = r :: l → exec (.inboxPop c) s = .next (settle s (s.setCore c { s.core c with inbox := r, inboxQ := l, popped := 1 }))) ∧
    ((s.core c).acompQ = [] → exec (.acompPop c) s = .next (settle s (s.setCore c { s.core c with acompQ := [], popped := 0 }))))

/-- OUTBOX items, the end and faults of a program, and the repair rows of a core. A finished SEGMENT puts its output into its chunk's image and lets
the chunk go on (R224, R312); a TOKEN or LOOKUP item is released (R312); DISPATCH copies the probabilities and gates the token (R324); EXIT stops the
engines and ends the program (R313); the timer raises its event and wakes a core in WFI that EVENT_EN lets wake (R305); a fault records cause, PC and
trap value, raises SETT_PROG_FAULT, halts the core and its binding's other cores, and fails the context it serves (R306, R225); a stop that is not
answered halts the core (R313); a waiting repair load applies the core's repairs and the map (R279, R281); a self-test that passes clears the need for
one and answers the command (R280); CHAR_ALL schedules a repair load of every core (R283); a held array may start (R485). -/
def Obligations.ProgramsOfACore : Prop :=
  (∀ (s : State) (c n : Nat) (i : Item) (z : Slot) (e : EpiSeg), c < 128 → s.power.pstate < 2 → (s.core c).live = true → (s.core c).item n = some i →
    i.kind = 1 → (s.ctx i.ctx).slot i.chunk = some z → z.epi.find? (fun e => e.lo == i.first) = some e → isMx (s.ctx i.ctx).outF = false →
    (s.ctx i.ctx).mask = false →
    exec (.segmentFinished c n) s = .next (settle s (
      let u := s.setCore c ((s.core c).dropItem n)
      let f := (s.ctx i.ctx).outF
      (u.setCtx i.ctx ((s.ctx i.ctx).putSlot { z with
        fins := z.fins ++ [(e.lo * fmtBits f / 8, (List.range (rowData f e.vals.length)).map (fun a => Tbl.get 0 e.out a))],
        epi := z.epi.filter (fun e => e.lo != i.first) })).advance i.ctx i.chunk))) ∧
  (∀ (s : State) (c n : Nat) (i : Item), c < 128 → s.power.pstate < 2 → (s.core c).live = true → (s.core c).item n = some i → (i.kind = 2 ∨ i.kind = 3) →
    exec (.itemRelease c n) s = .next (settle s (s.setCore c { s.core c with items := (s.core c).items.filter (fun j => j.num != n) }))) ∧
  (∀ (s : State) (c n : Nat) (w : List Nat) (i : Item), c < 128 → s.power.pstate < 2 → (s.core c).live = true → n = w.getD 0 0 / 2 ^ 16 % 2 ^ 16 →
    (s.core c).item n = some i → i.kind = 2 → i.ctx = w.getD 1 0 % 2 ^ 12 → i.chunk % 2 ^ 32 = w.getD 2 0 → i.first = w.getD 3 0 →
    exec (.dispatch c w) s = .next (settle s ((s.setCore c ((s.core c).dropItem n)).gateToken i.ctx i.chunk i.first
      ((List.range (s.ctx i.ctx).nexp).map (fun e => rdNat (s.core c).rd (w.getD 4 0 % 2 ^ 23 + 4 * e) 4))))) ∧
  (∀ (s : State) (c x : Nat), c < 128 → s.power.pstate < 2 → (s.core c).live = true →
    exec (.progExit c x) s = .next (settle s ((s.setCore c { s.core c with exitCode := x % 2 ^ 32, array := none, vec := none, mov := none }).endCore c .exited))) ∧
  (∀ (s : State) (c : Nat), c < 128 → s.power.pstate < 2 → (s.core c).live = true →
    exec (.controlTimerExpiry c) s = .next (settle s (s.setCore c { s.core c with timerEv := true, st := (s.core c).woken 4 }))) ∧
  (∀ (s : State) (c cause pc tv u : Nat), c < 128 → s.power.pstate < 2 → (s.core c).live = true → ((s.core c).kind = 1 ∨ (s.core c).kind = 2) →
    (s.core c).user = some u →
    exec (.settProgFault c cause pc tv) s = .next (settle s ((((
      (s.setCore c { s.core c with faultCause := cause % 256, faultPc := pc % 2 ^ 64, faultTval := tv % 2 ^ 64 }).coreEventAt c fSettProg (pc % 2 ^ 64)
        [(s.core c).binding, cause % 256]).haltCore c).haltBinding (s.core c).binding).failCtx u 0xFF .epilogue))) ∧
  (∀ (s : State) (c : Nat), c < 128 → s.power.pstate < 2 → (s.core c).stopping = true → exec (.stopTimeout c) s = .next (settle s (s.haltCore c))) ∧
  (∀ (s : State) (c : Nat), c < 128 → s.sett.charNew = none → s.sett.charAll = false → (s.core c).repairPend = true → (s.core c).binding = 0 →
    (s.core c).arrayQ = [] → (s.core c).array = none →
    exec (.repairLoad c) s = .next (settle s (
      let u := s.setCore c { s.core c with
        spares := s.sparesOf c, lat := latOf (s.sparesOf c), fenced := s.sett.fences.contains c, repairPend := false }
      (if s.sett.fences.contains c = true then u else u.condEnd (coreDen c) fSettFenced c).recount.remap))) ∧
  (∀ (s : State) (c row : Nat), c < 128 →
    exec (.selftestComplete c 0 row) s = .next (settle s (
      let u : State := if s.sec.lc = 3 ∧ s.sett.fences.contains c = true then
        { s with sett := { s.sett with fences := s.sett.fences.filter (· != c) } } else s
      (u.setCore c { u.core c with needTest := false }).execsDone 0x0904 c (.ok [1])))) ∧
  (∀ (s : State) (c : Nat), c < 128 → ∀ row, s.spareFor c row = none → (∀ q, ((s.sparesOf c).getD q {}).used = false) →
    exec (.selftestComplete c 1 row) s = .next (settle s (
      let u : State := { s with sett := { s.sett with fences := if s.sett.fences.contains c = true then s.sett.fences else c :: s.sett.fences } }
      ((u.setCore c { u.core c with repairPend := true, needTest := false }).condBegin
        { word := coreDen c, source := fSettFenced, unit := c, kind := .core }).execsDone 0x0904 c (.ok [4])))) ∧
  (∀ (s : State), s.host.linkUp = true → s.served (baseSett + 0x80000) = true → s.host.highHeld = none → s.sec.lc = 3 → s.sett.charNew = none →
    s.sett.charAll = false → s.sett.bindings.any (fun e => e.2.present && e.2.job != 0) = false →
    exec (.charAllWrite true) s = .next (settle s ((List.range 128).foldl (fun s c => s.setCore c { s.core c with repairPend := true })
      { s with sett := { s.sett with charNew := some true } }))) ∧
  (∀ (s : State) (c : Nat) (q : QCmd), c < 128 → c ∈ s.power.held → (s.core c).arrayNext = some q →
    exec (.settStartLimit c) s = .next (settle s
      (({ s with power := { s.power with held := s.power.held.filter (· != c) } } : State).arrayStart c (arrCmd q.words).opc none)))

/-- The memory controllers' own work: write combining, scrub, temperatures, retraining, rebuilds, wipes. An entry that reaches WCB_AGE is flushed
(R353); the scrub records an uncorrectable line (R351, R352); the one-second window compares corrected errors with CE_TH (R352); temperatures set the
throttle steps (R356); refresh, calibration and short retrains of an idle channel happen, their stalls being free values within the spec's bounds
(R357); a full retrain flushes and holds the channel, and ends in service (R358); a rebuild ends (R360); a wipe ends with the region READY and its
command answered (R346); a slow frame becomes clean (R512). -/
def Obligations.MemoryUpkeep : Prop :=
  (∀ (s : State) (l : Nat) (e : WcbEntry), s.wcbOf l = some e → exec (.wcbAgeExpiry l) s = .next (settle s (s.wcbFlush e))) ∧
  (∀ (s : State) (l i : Nat), s.fld baseMem 8 1 = 1 → s.regionAt (64 * l) = some i → (s.region i).state = .ready → l ∉ s.mem.ue →
    exec (.patrolScrub l 2) s = .next (settle s (({ s with mem := { s.mem with ue := l :: s.mem.ue } } : State).meetUe l))) ∧
  (∀ (s : State) (l i : Nat), s.fld baseMem 8 1 = 1 → s.regionAt (64 * l) = some i → (s.region i).state = .ready → (s.region i).type ≠ 0 →
    s.chanOf (64 * l) = none →
    exec (.patrolScrub l 1) s = .next (settle s ((s.bumpChan (64 * l) 0x04).bump (baseMem + 0x10000 + 0x20 * i + 0x14)))) ∧
  (∀ (s : State) (b : Bool) (c : Nat), s.chanExists b c = true → exec (.ceRateWindow b c) s = .next (settle s (
    let u := s.setChan b c { s.chan b c with ceWindow := 0 }
    if s.fld baseMem 16 16 < (s.chan b c).ceWindow
    then u.event { word := c / s.tierChans b, source := fMemCeRate, unit := c, kind := if b = true then .slowCh else .fastCh } else u))) ∧
  (∀ (s : State) (d t l : Nat), d < 4 → exec (.memTempSample d t l) s = .next (settle s ((s.tierTemp d false t).tierTemp d true l))) ∧
  (∀ (s : State) (d t : Nat) (b : Bool), t < 110 → stepFor (s.tier d b).step t < 2 → s.tierTemp d b t =
    (((s.setTier d b { s.tier d b with temp := t, step := stepFor (s.tier d b).step t }).condEnd d fMemHot (2 * d + b2n b)).condEnd d fMemOvertemp (2 * d + b2n b))) ∧
  (∀ (s : State) (b : Bool) (c : Nat), s.chanExists b c = true → (s.chan b c).st ≠ 4 → exec (.bankRefresh b c) s = .next (settle s
    (s.setChan b c { s.chan b c with refreshes := ((s.chan b c).refreshes + 1) % 2 ^ 32 }))) ∧
  (∀ (s : State) (b : Bool) (c : Nat), s.chanExists b c = true → (s.chan b c).st = 0 → s.groupBusy b c = false →
    exec (.impedanceCalibration b c) s = .next (settle s (s.maxCtr (memReg b c 0x14) (s.free % 1001)).used)) ∧
  (∀ (s : State) (b : Bool) (c : Nat), s.chanExists b c = true → (s.chan b c).st = 0 → s.groupBusy b c = false →
    exec (.shortRetrain b c true) s = .next (settle s (s.maxCtr (memReg b c 0x14) (s.free % 2001)).used)) ∧
  (∀ (s : State) (b : Bool) (c : Nat), s.chanExists b c = true → (s.chan b c).st = 0 →
    exec (.forcedFullRetrain b c) s = .next (settle s (
      let u := s.flushChan b c
      (((u.setChan b c { u.chan b c with st := 3, forced := true }).bump (memReg b c 0x1C)).event
        { word := c / s.tierChans b, source := fMemRetrain, unit := c, kind := if b = true then .slowCh else .fastCh }).tc1DenRisk (c / s.tierChans b) true))) ∧
  (∀ (s : State) (b : Bool) (c : Nat), (s.chan b c).st = 3 → exec (.fullRetrainComplete b c true) s = .next (settle s
    (((s.setChan b c { s.chan b c with st := 0, forced := false }).tc1DenRisk (c / s.tierChans b) false).execsDone 0x0605 (1024 * b2n b + c) (.ok [])))) ∧
  (∀ (s : State) (d : Nat) (b : Bool), d < 4 → exec (.tierRebuildComplete d b) s = .next (settle s (s.setTier d b { s.tier d b with rebuild := false }))) ∧
  (∀ (s : State) (i : Nat), (s.region i).state = .wiping → (s.region i).releasing = true → exec (.regionWipeComplete i) s = .next (settle s
    ((((s.wipeRegion i).cleanFrames (s.region i).place (if (s.region i).slow = true then (s.region i).phys else [])).setRegion i
      { gen := (s.region i).gen }).execsDone 0x0601 i (.ok [])))) ∧
  (∀ (s : State) (i : Nat), (s.region i).state = .wiping → (s.region i).releasing = false → exec (.regionWipeComplete i) s = .next (settle s (
    let r := s.region i
    let u := ((s.wipeRegion i).cleanFrames r.place (if r.slow = true then r.phys else [])).setRegion i { r with state := .ready }
    let v := u.execsDone 0x0600 i (.ok [u.regionHandle i, r.base % 2 ^ 32, r.base / 2 ^ 32])
    v.execsDone 0x0602 i (.ok [0, r.base % 2 ^ 32, r.base / 2 ^ 32])))) ∧
  (∀ (s : State) (d f : Nat), d < 4 → exec (.uncleanFrameClear d f) s = .next (settle s
    { s with mem := { s.mem with unclean := s.mem.unclean.filter (· != (d, f)) } }))

/-- Host writes to a command slot, its timeout, progress replies, and the ends of longer commands. A write to an enabled slot that is not executing is
recorded, and a command complete in it is taken (R371, R372); a write to an executing slot is counted (R372); a slot that stays FILLING returns to
IDLE with BAD_LENGTH (R371); a progress reply never falls (R382; how far the work has come is a free value, log 6); a refused reply write raises
CMD_REPLY_FAIL (R373); a peer that does not act ends the request with INTERNAL (R385); a finished program check loads the program and answers its
handle (R311); a bulk transfer to the host ends with the bytes moved (R392); an abandoned staging is discarded (R394); an image that does not verify
is answered with its status (R405). -/
def Obligations.SlotsRepliesAndStagings : Prop :=
  (∀ (s : State) (n o : Nat) (l : List Byte) (x : CmdSlot), 2 ≤ s.dev.code → s.box.stage = .idle → n < 256 → o + l.length ≤ 4096 →
    s.fld (slotReg n 0) 12 1 = 1 → (s.cslot n).st ≠ .exec →
    x = { s.cslot n with
      st := .filling
      bytes := Tbl.putMany 0 (s.cslot n).bytes o l
      words := (s.cslot n).words ++ (List.range (ceilDiv (o + l.length) 4)).filter (fun w => o ≤ 4 * w && 4 * w + 4 ≤ o + l.length && !(s.cslot n).words.contains w) } →
    x.complete = false → exec (.apertureWrite n o l) s = .next (settle s (s.setSlot n x))) ∧
  (∀ (s : State) (n o : Nat) (l : List Byte), 2 ≤ s.dev.code → s.box.stage = .idle → n < 256 → o + l.length ≤ 4096 →
    (s.fld (slotReg n 0) 12 1 = 0 ∨ (s.cslot n).st = .exec) → exec (.apertureWrite n o l) s = .next (settle s (s.bump (slotReg n 0x18)))) ∧
  (∀ (s : State) (n o : Nat) (l : List Byte) (x : CmdSlot), 2 ≤ s.dev.code → s.box.stage = .idle → n < 256 → o + l.length ≤ 4096 →
    s.fld (slotReg n 0) 12 1 = 1 → (s.cslot n).st ≠ .exec →
    x = { s.cslot n with
      st := .filling
      bytes := Tbl.putMany 0 (s.cslot n).bytes o l
      words := (s.cslot n).words ++ (List.range (ceilDiv (o + l.length) 4)).filter (fun w => o ≤ 4 * w && 4 * w + 4 ≤ o + l.length && !(s.cslot n).words.contains w) } →
    x.complete = true → opKnown (leWord (x.cmd 16) 0 % 2 ^ 16) = true →
    exec (.apertureWrite n o l) s = .next (settle s ((s.setSlot n { x with st := .exec, tag := leWord (x.cmd 16) 1 % 2 ^ 16 }).poolUse 0 2 1))) ∧
  (∀ (s : State) (n : Nat), (s.cslot n).st = .filling → (s.cslot n).words = [] → exec (.slotFillTimeout n) s = .next (settle s
    ((((s.bump (baseCmd + 0x138)).setSlot n { s.cslot n with tag := 0 }).bump (statusCtr 0x12)).reply (.slot n) 0 0 0 0 true (.no 0x12)))) ∧
  (∀ (s : State) (i : Nat) (e : Exec), s.execOf i = some e → e.quiet = false → e.long = true → exec (.progressReplyTimer i) s = .next (settle s
    ((s.used.setExec { e with progress := min 999 (max e.progress (s.free % 1000)) }).reply e.src e.tag e.op e.job
      (min 999 (max e.progress (s.free % 1000))) false { status := 1 }))) ∧
  (∀ (s : State) (n : Nat), exec (.replyWriteRefused n) s = .next (settle s (s.event { word := 4, source := mCmdReplyFail }))) ∧
  (∀ (s : State) (d t : Nat) (a : Ask), s.st.asks.find? (fun a => a.kind == .command && a.dst == d && a.tag == t) = some a →
    exec (.peerCommandTimeout d t) s = .next (settle s ((s.askDone a).peerAnswer a 0xFF 0 0))) ∧
  (∀ (s : State) (x : Src), exec (.progStagingTimeout x) s = .next (settle s
    { s with cmd := { s.cmd with staging := s.cmd.staging.filter (fun y => y.src != x) } })) ∧
  (∀ (s : State) (i slot : Nat) (e : Exec) (l : List Byte) (f a : Bool), s.execOf i = some e → e.op = 0x0101 → e.data.getD 0 0 = 0 → e.data.getD 1 0 = slot →
    e.data.getD 3 0 ≠ 0 → s.checkImage (e.data.getD 3 0) (e.data.getD 2 0) (Tbl.get [] s.cfg.flash slot) = 0 →
    exec (.imageVerifyComplete i l f a) s = .next (settle s (({ s with cfg := { s.cfg with
        staged := Tbl.put none s.cfg.staged (e.data.getD 3 0) (some { bytes := Tbl.get [] s.cfg.flash slot, slot := slot }) } } : State).execDone i
      (.ok [imgId (Tbl.get [] s.cfg.flash slot) % 2 ^ 32, imgId (Tbl.get [] s.cfg.flash slot) / 2 ^ 32])))) ∧
  (∀ (s : State) (i slot st : Nat) (e : Exec) (l : List Byte) (f a : Bool), s.execOf i = some e → (e.op = 0x0100 ∨ e.op = 0x0101) → e.data.getD 0 0 = 0 →
    e.data.getD 1 0 = slot → s.checkImage (e.data.getD 3 0) (e.data.getD 2 0) (Tbl.get [] s.cfg.flash slot) = st → st ≠ 0 →
    exec (.imageVerifyComplete i l f a) s = .next (settle s (s.execDone i (.no st)))) ∧
  (∀ (s : State) (i k : Nat) (e : Exec) (l : List Byte), s.execOf i = some e → e.op = 0x0702 → e.data.map (fun n => BitVec.ofNat 8 n) = l →
    s.progCheck l = (0, k) →
    exec (.progImageVerifyComplete i) s = .next (settle s (
      let p : Program := { job := e.job, gen := (Tbl.get ({} : Program) s.sett.programs k).gen, present := true, image := l, measurement := measureOf l }
      (({ s with sett := { s.sett with programs := Tbl.put {} s.sett.programs k p } } : State).copyMeasures).execDone i
        { q := [objHandle k e.job p.gen], block := p.measurement }))) ∧
  (∀ (s : State) (i n o h : Nat) (e : Exec) (l : List Byte), s.execOf i = some e → e.op = 0x0606 → bit (leWord e.params 4) 0 = true →
    h = leWord e.params 0 + leWord e.params 1 * 2 ^ 32 → o = leWord e.params 2 + leWord e.params 3 * 2 ^ 32 →
    n = leWord e.params 5 + leWord e.params 6 * 2 ^ 32 → n ≠ 0 → s.ueIn o n = none →
    exec (.bulkXferComplete i l) s = .next (settle s ((s.hostWrite h (s.anyRead o n)).execDone i (.ok [n % 2 ^ 32, n / 2 ^ 32])))) ∧
  (∀ (s : State) (i n o : Nat) (e : Exec) (l : List Byte), s.execOf i = some e → e.op = 0x0606 → bit (leWord e.params 4) 0 = false →
    o = leWord e.params 2 + leWord e.params 3 * 2 ^ 32 → n = leWord e.params 5 + leWord e.params 6 * 2 ^ 32 → n ≠ 0 → l.length = n →
    exec (.bulkXferComplete i l) s = .next (settle s (((s.anyWrite o l).bump64 (baseCmd + 0x410) n).execDone i (.ok [n % 2 ^ 32, n / 2 ^ 32]))))

/-- Information, configuration, link, partition and route commands that Keeper takes run to their answer. A command that Keeper takes, with parameters
its row allows, has the effect of R386 to R389 and ends with the answer given: what GET_INFO, GET_STATE, GET_JOB, GET_STATS, LINK_QUERY, PART_READ and
CONFIG_QUERY report, the loads and staging that go on, and what LINK_SET, LINK_DRAIN, LINK_RECHECK, LINK_RETRAIN, PART_WRITE and ROUTE_NOTICE change.
Layouts of results are those of the rules. -/
def Obligations.ModuleAndLinkCommands : Prop :=
  (∀ (s u : State) (i : OpInfo) (c : Cmd), i = { op := 0x0000, lens := fun l => 16 ≤ l && l ≤ 4048, states := stWCRA, a := true } →
    s.Takes i c → u = s.cmdBegin c →
    exec (.echo c) s = .next (settle s ((u).cmdEnd i c { block := c.params }))) ∧
  (∀ (s u : State) (i : OpInfo) (c : Cmd), i = { op := 0x0001, lens := lenIs 16, states := stWCRA, a := true } →
    s.Takes i c → u = s.cmdBegin c →
    exec (.getInfo c) s = .next (settle s ((
      u).cmdEnd i c
        (.ok [b2n u.ck2l + 0xB0 * 16, u.fwRelease % 2 ^ 16 + 2 * 2 ^ 16, u.serial % 2 ^ 32, u.serial / 2 ^ 32, u.placeWord, if u.place.isSome = true then u.pl.rx + u.pl.ry * 8 else 0])))) ∧
  (∀ (s u : State) (i : OpInfo) (c : Cmd), i = { op := 0x0002, lens := lenIs 16, states := stWCRA, a := true } →
    s.Takes i c → u = s.cmdBegin c →
    exec (.getState c) s = .next (settle s ((
      u).cmdEnd i c
        (.ok [u.dev.code + u.sec.lc * 16 + u.power.pstate * 256 + u.overlays * 1024, u.validJobs.length, u.liveCtxs.length, u.liveRegions.length,
        u.sett.visible + (u.sett.cores.filter (fun e => e.2.fenced)).length * 256])))) ∧
  (∀ (s u : State) (i : OpInfo) (c : Cmd), i = { op := 0x0003, lens := lenIs 16, states := stRA, j := true } →
    s.Takes i c → u = s.cmdBegin c →
    exec (.getJob c) s = .next (settle s ((
      u).cmdEnd i c
        (.ok [u.jobState c.job, (u.liveCtxs.filter (fun e => e.2.job == c.job)).length,
        (u.liveRegions.filter (fun e => e.2.job == c.job)).length, (u.sett.bindings.filter (fun e => e.2.present && e.2.job == c.job)).length,
        (u.flows.filter (fun f => f.admits && f.job == c.job)).length, (below 128 (fun v => u.coreOwner v == c.job)).length])))) ∧
  (∀ (s u : State) (i : OpInfo) (c : Cmd), i = { op := 0x0004, lens := lenIs 16, states := stWCRA, m := true } →
    s.Takes i c → u = s.cmdBegin c →
    exec (.getStats c) s = .next (settle s ((
      u).cmdEnd i c
        { block := (List.range 16).flatMap (fun n => leBytes 4 (u.ctr (baseCmd + 0x100 + 4 * n))) }))) ∧
  (∀ (s u : State) (i : OpInfo) (c : Cmd), i = { op := 0x0100, lens := lenIs 32, states := stCR, m := true, long := true } →
    s.Takes i c → u = s.cmdBegin c → bits (c.p 0) 1 3 = 0 → bits (c.p 0) 8 24 = 0 → (bit (c.p 0) 0 = true ∨ bits (c.p 0) 4 4 ≠ 0) →
    u.cfg.pend = none →
    exec (.baseLoad c) s = .next (settle s ((
      u.imageRead (bits (c.p 0) 0 1) (c.p64 1) (c.p 3)).cmdEnd i c
        { goes := true, data := [bits (c.p 0) 0 1, bits (c.p 0) 4 4, c.p 3, 0] }))) ∧
  (∀ (s u : State) (i : OpInfo) (c : Cmd), i = { op := 0x0101, lens := lenIs 32, states := stRA, m := true, long := true } →
    s.Takes i c → u = s.cmdBegin c → bit (c.p 0) 3 = false → bits (c.p 0) 8 24 = 0 → (bit (c.p 0) 2 = true ∨ bits (c.p 0) 4 4 ≠ 0) →
    u.cfg.pend = none →
    exec (.overlayStage c) s = .next (settle s ((
      u.imageRead (bits (c.p 0) 2 1) (c.p64 1) (c.p 3)).cmdEnd i c
        { goes := true, data := [bits (c.p 0) 2 1, bits (c.p 0) 4 4, c.p 3, bits (c.p 0) 0 2 + 1] }))) ∧
  (∀ (s u : State) (i : OpInfo) (c : Cmd), i = { op := 0x0102, lens := lenIs 28, states := stRA, m := true, long := true } →
    s.Takes i c → u = s.cmdBegin c → c.p 0 = 0 → u.cfg.pend = none →
    u.overCheck (cfgImages u.cfg.base u.cfg.active) (cfgImages u.cfg.base (u.overNext 0)) (u.sec.lc == 3) = none →
    exec (.overlayApply c) s = .next (settle s ((
      { u with cfg := { u.cfg with pend := some { kinds := 0, time := c.p64 1, owner := some u.nextExecId } } }).cmdEnd i c
        { goes := true }))) ∧
  (∀ (s u : State) (i : OpInfo) (c : Cmd), i = { op := 0x0103, lens := lenIs 16, states := stCRA, m := true } →
    s.Takes i c → u = s.cmdBegin c → u.cfg.base = none → u.cfg.active = [] →
    exec (.configQuery c) s = .next (settle s ((
      u).cmdEnd i c
        { block := List.replicate 72 0 ++ [1, 2, 3, 4].flatMap (fun _ => List.replicate 72 0) }))) ∧
  (∀ (s u : State) (i : OpInfo) (c : Cmd), i = { op := 0x0200, lens := lenIs 24, states := stRA, m := true, perm := fun s => bits (c.p 1) 9 2 == 0 || s.instrument } →
    s.Takes i c → u = s.cmdBegin c → bits (c.p 0) 8 24 = 0 → u.portThere (cmdPort c) = true → bits (c.p 1) 11 21 = 0 → bits (c.p 1) 4 2 ≠ 0 →
    bits (c.p 1) 4 2 ≠ 3 → bits (c.p 1) 9 2 ≠ 3 → bit (c.p 1) 0 = true →
    exec (.linkSet c) s = .next (settle s ((
      ((u.setCtrlFields (cmdPort c) (c.p 1)).enablePort (cmdPort c)).setLoopback (cmdPort c) (bits (c.p 1) 9 2)).cmdEnd i c
        (.ok [])))) ∧
  (∀ (s u : State) (i : OpInfo) (c : Cmd), i = { op := 0x0201, lens := lenIs 20, states := stRA, m := true, long := true } →
    s.Takes i c → u = s.cmdBegin c → bits (c.p 0) 9 23 = 0 → u.portThere (cmdPort c) = true → bit (c.p 0) 8 = true →
    exec (.linkDrain c) s = .next (settle s ((
      (u.execsDone 0x0201 (cmdPort c) (.no 0x20)).setDrain (cmdPort c) true).cmdEnd i c
        { goes := true, data := [cmdPort c] }))) ∧
  (∀ (s u : State) (i : OpInfo) (c : Cmd), i = { op := 0x0201, lens := lenIs 20, states := stRA, m := true, long := true } →
    s.Takes i c → u = s.cmdBegin c → bits (c.p 0) 9 23 = 0 → u.portThere (cmdPort c) = true → bit (c.p 0) 8 = false →
    exec (.linkResume c) s = .next (settle s (((u.execsDone 0x0201 (cmdPort c) (.no 0x20)).setDrain (cmdPort c) false).cmdEnd i c (.ok [])))) ∧
  (∀ (s u : State) (i : OpInfo) (c : Cmd), i = { op := 0x0202, lens := lenIs 20, states := stRA, m := true } →
    s.Takes i c → u = s.cmdBegin c → bits (c.p 0) 8 24 = 0 → u.portThere (cmdPort c) = true → (u.port (cmdPort c)).st = .quarantine →
    exec (.linkRecheck c) s = .next (settle s ((u.recheckPort (cmdPort c)).cmdEnd i c (.ok [])))) ∧
  (∀ (s u : State) (i : OpInfo) (c : Cmd), i = { op := 0x0202, lens := lenIs 20, states := stRA, m := true } →
    s.Takes i c → u = s.cmdBegin c → bits (c.p 0) 8 24 = 0 → u.portThere (cmdPort c) = true → (u.port (cmdPort c)).st ≠ .quarantine →
    exec (.linkRecheck c) s = .next (settle s ((u).cmdEnd i c (.no 0x20)))) ∧
  (∀ (s u : State) (i : OpInfo) (c : Cmd), i = { op := 0x0203, lens := lenIs 20, states := stRA, m := true } →
    s.Takes i c → u = s.cmdBegin c → bits (c.p 0) 8 24 = 0 → u.portThere (cmdPort c) = true →
    exec (.linkRetrain c) s = .next (settle s ((u.retrainPort (cmdPort c)).cmdEnd i c (.ok [])))) ∧
  (∀ (s u : State) (i : OpInfo) (c : Cmd) (x : Port), i = { op := 0x0204, lens := lenIs 20, states := stRA, m := true } →
    s.Takes i c → u = s.cmdBegin c → bits (c.p 0) 8 24 = 0 → u.portThere (cmdPort c) = true → x = u.port (cmdPort c) →
    exec (.linkQuery c) s = .next (settle s ((
      u).cmdEnd i c
        (.ok [u.linkStatus (cmdPort c), u.reg (linkReg (cmdPort c) 8), x.peerId, x.expId, x.peerSerial % 2 ^ 32, x.peerSerial / 2 ^ 32, x.peerFeat])))) ∧
  (∀ (s u : State) (i : OpInfo) (c : Cmd) (e : Part) (j : Nat), i = { op := 0x0300, lens := lenIs 40, states := stRA, m := true, mirrored := true, perm := fun s => !(Machine.Part.mk (c.p 0) (c.p 1) (c.p 2) (c.p 3)).valid || s.sec.lc == 2 || s.sec.lc == 3 } →
    s.Takes i c → u = s.cmdBegin c → e = Machine.Part.mk (c.p 0) (c.p 1) (c.p 2) (c.p 3) → j = bits e.w0 0 12 → j ≠ 0 → bits e.w0 12 4 = 0 → e.planes ≠ 0 →
    e.planes < 2 ^ u.pl.planes → bits e.w1 27 5 = 0 → descOk e.slice.chip 4 false = true → descOk e.slice.pkg 4 false = true →
    descOk e.slice.tray 8 false = true → bits e.w2 18 6 = 0 → e.tweight ≠ 0 → descOk e.slice.x u.pl.x true = true →
    descOk e.slice.y u.pl.y true = true → e.w3 < 2 → Tbl.get none u.partPend j = none → (e.valid = true ∨ u.jobOwns j = false) →
    u.partClash j e = false →
    exec (.partWrite c) s = .next (settle s ((
      { u with partPend := Tbl.put none u.partPend j (some { entry := e, time := c.p64 4 }) }).cmdEnd i c
        (.ok [u.boundaryAfter (c.p64 4) % 2 ^ 32, u.boundaryAfter (c.p64 4) / 2 ^ 32])))) ∧
  (∀ (s u : State) (i : OpInfo) (c : Cmd), i = { op := 0x0301, lens := lenIs 20, states := stRA, m := true } →
    s.Takes i c → u = s.cmdBegin c → c.p 0 < 4096 → Tbl.get none u.partPend (c.p 0) = none →
    exec (.partRead c) s = .next (settle s ((
      u).cmdEnd i c
        (.ok [(u.part (c.p 0)).w0, (u.part (c.p 0)).w1, (u.part (c.p 0)).w2, (u.part (c.p 0)).w3, 0, 0, 0]))))

/-- Queue, shaper and policer commands that Keeper takes run to their answer. QUEUE_CFG gives the job the lowest free queue of the port from the next
boundary on, QUEUE_RELEASE lets a queue go once it is empty, SHAPER_SET fills the bucket of a queue that was not shaped, POLICER_SET fills both
buckets (R390); ROUTE_NOTICE notes a broken or restored hop (R389). -/
def Obligations.QueueCommands : Prop :=
  (∀ (s u : State) (i : OpInfo) (c : Cmd), i = { op := 0x0380, lens := lenIs 20, states := stRA, p := true } →
    s.Takes i c → u = s.cmdBegin c → bits (c.p 0) 9 23 = 0 →
    exec (.routeNotice c) s = .next (settle s ((
      u.setHop { axis := bits (c.p 0) 0 1, dir := 2 * bits (c.p 0) 0 1 + bits (c.p 0) 1 1, coord := bits (c.p 0) 2 3, other := bits (c.p 0) 5 3 } (bit (c.p 0) 8)).cmdEnd i c
        (.ok [])))) ∧
  (∀ (s u : State) (i : OpInfo) (c : Cmd) (t q : Nat), i = { op := 0x0400, lens := lenIs 24, states := stA, j := true, change := true } →
    s.Takes i c → u = s.cmdBegin c → t = bits (c.p 0) 8 2 → (t = 2 ∨ t = 3) → bits (c.p 0) 10 22 = 0 → u.portThere (cmdPort c) = true → 1 ≤ c.p 1 →
    c.p 1 ≤ 255 → u.jobHere c.job = true →
    ((List.range 61).map (· + 1)).find? (fun q => (u.queue (portQ (cmdPort c) q)).valid && !(u.queue (portQ (cmdPort c) q)).releasing && (u.queue (portQ (cmdPort c) q)).job == c.job && (u.queue (portQ (cmdPort c) q)).tc == t) = none →
    ((List.range 61).map (· + 1)).find? (fun q => !(u.queue (portQ (cmdPort c) q)).valid && !u.flows.any (fun f => f.port == cmdPort c && f.queue == q)) = some q →
    exec (.queueCfg c) s = .next (settle s ((
      u.setQueue (portQ (cmdPort c) q) { job := c.job, tc := t, transit := false, valid := true, weight := c.p 1, pending := true, fLast := (u.queue (portQ (cmdPort c) q)).fLast }).cmdEnd i c
        (.ok [q])))) ∧
  (∀ (s u : State) (i : OpInfo) (c : Cmd) (q : Nat) (x : Queue), i = { op := 0x0401, lens := lenIs 20, states := stA, j := true } →
    s.Takes i c → u = s.cmdBegin c → bits (c.p 0) 14 18 = 0 → q = bits (c.p 0) 8 6 → 1 ≤ q → q ≤ 61 → u.portThere (cmdPort c) = true →
    x = u.queue (portQ (cmdPort c) q) → x.valid = true → x.releasing = false → x.job = c.job → x.tc ≠ 1 →
    exec (.queueRelease c) s = .next (settle s ((u.setQueue (portQ (cmdPort c) q) { x with releasing := true }).cmdEnd i c (.ok [])))) ∧
  (∀ (s u : State) (i : OpInfo) (c : Cmd) (q : Nat) (x : Queue), i = { op := 0x0402, lens := lenIs 28, states := stA, j := true, change := true } →
    s.Takes i c → u = s.cmdBegin c → bits (c.p 0) 15 17 = 0 → q = bits (c.p 0) 8 6 → 1 ≤ q → q ≤ 61 → u.portThere (cmdPort c) = true →
    x = u.queue (portQ (cmdPort c) q) → x.valid = true → x.releasing = false → x.job = c.job → x.tc ≠ 1 → x.shapeEn = false → c.p 1 < 2 ^ 20 →
    17 ≤ c.p 2 → c.p 2 ≤ 65535 →
    exec (.shaperSet c) s = .next (settle s ((
      u.setQueue (portQ (cmdPort c) q) { x with shapeEn := bit (c.p 0) 14, rate := c.p 1, burst := c.p 2, tok := ((256 * c.p 2 : Nat) : Rat), tokAt := u.clk }).cmdEnd i c
        (.ok [])))) ∧
  (∀ (s u : State) (i : OpInfo) (c : Cmd) (k t b e : Nat), i = { op := 0x0403, lens := lenIs 32, states := stA, j := true, change := true } →
    s.Takes i c → u = s.cmdBegin c → k = 32 * cmdPort c + bits (c.p 0) 8 5 → t = bits (c.p 0) 14 2 → t ≠ 1 → bits (c.p 0) 16 16 = 0 →
    u.portThere (cmdPort c) = true → (u.useOf (cmdPort c)).use = 0 → c.p 1 < 2 ^ 20 → c.p 2 < 2 ^ 20 → c.p 1 ≤ c.p 2 → b = bits (c.p 3) 0 16 →
    e = bits (c.p 3) 16 16 → 17 ≤ b → b ≤ e → (u.policer k).en = false →
    exec (.policerSet c) s = .next (settle s ((
      u.setPolicer k { job := c.job, tc := t, en := bit (c.p 0) 13, cir := c.p 1, pir := c.p 2, cbs := b, pbs := e, tcTok := ((256 * b : Nat) : Rat), tpTok := ((256 * e : Nat) : Rat), at_ := u.clk }).cmdEnd i c
        (.ok []))))

/-- TC1 flows are held, committed, queried and released. TC1_ADMIT of a flow whose destination hangs on this leaf holds its own hop and commits it
where the delay requested is not below the sum of the hop bound and the links, and is RESOURCE_BUSY at hop 1 where no port can take it; TC1_RELEASE
lets a committed flow go at a boundary at every hop; TC1_QUERY tells its marks, bound and hops; a peer reservation is held, committed and released at
a hop (R186, R187, R390). -/
def Obligations.FlowAdmissionCommands : Prop :=
  (∀ (s u : State) (i : OpInfo) (c : Cmd) (p pref d : Nat) (f g : Flow) (v : State), i = { op := 0x0404, lens := lenIs 40, states := stA, j := true, change := true, long := true } →
    s.Takes i c → u = s.cmdBegin c → u.downPort (c.p 0) = some p → c.p 0 < 8192 → u.inJob c.job (c.p 0) = true → c.p 1 < 9216 →
    (8192 ≤ c.p 1 ∨ u.inJob c.job (c.p 1) = true) → 1 ≤ c.p 2 → c.p 2 < 2 ^ 20 → 1 ≤ c.p 3 → c.p 3 < 2 ^ 16 → 1 ≤ c.p 4 → c.p 4 ≤ 4132 →
    f = { handle := ((List.range 65536).find? (fun k => (u.flowOf (k + c.job * 65536)).isNone)).getD 0 + c.job * 65536, job := c.job, src := c.p 0, dst := c.p 1, rate := c.p 2, burst := c.p 3, maxLen := c.p 4, dReq := c.p 5, ingress := p, next := (u.flowPath (c.p 1)).headD (c.p 1), path := u.flowPath (c.p 1), admits := true } →
    pref = (if c.p 1 < 8192 then bits (c.p 1) 0 7 / 32 else denOf p) → u.flowPath (c.p 1) = [] → u.holdHop f (c.p 1) pref = some (v, g) →
    g.path = [] →
    d = g.hopBound + (v.updFlow g).linkDelay none (c.p 0) (v.updFlow g).ownId + (if g.port < 192 then (v.updFlow g).linkDelay (some g.port) (v.updFlow g).ownId (c.p 1) else 0) →
    d ≤ g.dReq →
    exec (.tc1Admit c) s = .next (settle s ((
      (v.updFlow g).commitPath g (v.updFlow g).nextExecId d).cmdEnd i c
        { goes := true, data := [g.handle, 2, 0, d] }))) ∧
  (∀ (s u : State) (i : OpInfo) (c : Cmd) (p pref : Nat) (f : Flow), i = { op := 0x0404, lens := lenIs 40, states := stA, j := true, change := true, long := true } →
    s.Takes i c → u = s.cmdBegin c → u.downPort (c.p 0) = some p → c.p 0 < 8192 → u.inJob c.job (c.p 0) = true → c.p 1 < 9216 →
    (8192 ≤ c.p 1 ∨ u.inJob c.job (c.p 1) = true) → 1 ≤ c.p 2 → c.p 2 < 2 ^ 20 → 1 ≤ c.p 3 → c.p 3 < 2 ^ 16 → 1 ≤ c.p 4 → c.p 4 ≤ 4132 →
    f = { handle := ((List.range 65536).find? (fun k => (u.flowOf (k + c.job * 65536)).isNone)).getD 0 + c.job * 65536, job := c.job, src := c.p 0, dst := c.p 1, rate := c.p 2, burst := c.p 3, maxLen := c.p 4, dReq := c.p 5, ingress := p, next := (u.flowPath (c.p 1)).headD (c.p 1), path := u.flowPath (c.p 1), admits := true } →
    pref = (if c.p 1 < 8192 then bits (c.p 1) 0 7 / 32 else denOf p) → (u.flowPath (c.p 1) = [] ∨ u.time.domainValid = true) →
    u.holdHop f ((u.flowPath (c.p 1)).headD (c.p 1)) pref = none →
    exec (.tc1Admit c) s = .next (settle s ((u).cmdEnd i c { status := 0x21, q := [0, 0, 1] }))) ∧
  (∀ (s u : State) (i : OpInfo) (c : Cmd) (f : Flow) (t : Nat), i = { op := 0x0405, lens := lenIs 20, states := stA, j := true } →
    s.Takes i c → u = s.cmdBegin c → u.flowOf (c.p 0) = some f → f.job = c.job → f.phase = .committed → t = u.boundaryAfter u.domainNow →
    exec (.tc1Release c) s = .next (settle s ((f.path.foldl (fun s m => s.sendHop f m 2 0 0 t none) (u.dropFlow f t)).cmdEnd i c (.ok [])))) ∧
  (∀ (s u : State) (i : OpInfo) (c : Cmd) (f : Flow), i = { op := 0x0406, lens := lenIs 20, states := stA, j := true } →
    s.Takes i c → u = s.cmdBegin c → u.flowOf (c.p 0) = some f → f.job = c.job →
    exec (.tc1Query c) s = .next (settle s ((u).cmdEnd i c (.ok [b2n f.atRisk + b2n f.revoked * 2, f.bound, f.path.length + 1])))) ∧
  (∀ (s u : State) (i : OpInfo) (c : Cmd), i = { op := 0x0406, lens := lenIs 20, states := stA, j := true } →
    s.Takes i c → u = s.cmdBegin c → u.flowOf (c.p 0) = none →
    exec (.tc1Query c) s = .next (settle s ((u).cmdEnd i c (.bad 0)))) ∧
  (∀ (s u : State) (i : OpInfo) (c : Cmd) (f g : Flow) (v : State), i = { op := 0x0480, lens := lenIs 48, states := stA, p := true } →
    s.Takes i c → u = s.cmdBegin c → bits (c.p 0) 0 2 = 0 → bits (c.p 0) 10 22 = 0 → bits (c.p 0) 2 8 < 192 → c.p 1 < 2 ^ 28 → c.p 2 < 2 ^ 14 →
    1 ≤ c.p 3 → c.p 3 < 2 ^ 20 → 1 ≤ c.p 4 → c.p 4 < 2 ^ 16 → 1 ≤ c.p 5 → c.p 5 ≤ 4132 →
    f = { handle := c.p 1, job := c.p 1 / 65536, src := srcEndpoint c, dst := c.p 2, rate := c.p 3, burst := c.p 4, maxLen := c.p 5, ingress := bits (c.p 0) 2 8, next := c.p 2 } →
    u.hopFlow (c.p 1) (srcEndpoint c) = none → u.holdHop f (c.p 2) (denOf (bits (c.p 0) 2 8)) = some (v, g) →
    exec (.tc1HopHold c) s = .next (settle s ((v).cmdEnd i c (.ok [g.hopBound, g.port])))) ∧
  (∀ (s u : State) (i : OpInfo) (c : Cmd) (f : Flow), i = { op := 0x0480, lens := lenIs 48, states := stA, p := true } →
    s.Takes i c → u = s.cmdBegin c → bits (c.p 0) 0 2 = 1 → bits (c.p 0) 10 22 = 0 → u.hopFlow (c.p 1) (srcEndpoint c) = some f → f.phase = .held →
    exec (.tc1HopCommit c) s = .next (settle s ((u.updFlow { f with phase := .committing, time := c.p64 6 }).cmdEnd i c (.ok [f.hopBound, f.port])))) ∧
  (∀ (s u : State) (i : OpInfo) (c : Cmd) (f : Flow), i = { op := 0x0480, lens := lenIs 48, states := stA, p := true } →
    s.Takes i c → u = s.cmdBegin c → bits (c.p 0) 0 2 = 2 → bits (c.p 0) 10 22 = 0 → u.hopFlow (c.p 1) (srcEndpoint c) = some f →
    exec (.tc1HopRelease c) s = .next (settle s ((u.dropFlow f (c.p64 6)).cmdEnd i c (.ok [f.hopBound, f.port]))))

/-- Contexts are created, armed again, released, aborted and told at a leaf that serves them alone. CTX_CREATE of a descriptor that passes its checks
takes the lowest free context, holds what it needs and commits it, and is RESOURCE_BUSY with item 1 where no number is free; CTX_REARM, CTX_RELEASE
and CTX_ABORT act from the states R208 allows; CTX_QUERY answers the record of R231; CTX_PEER does the part of its action at this leaf (R205 to R209,
R228, R229, R391). A group of one leaf; with several the relaying of R207 goes before. -/
def Obligations.ContextCommands : Prop :=
  (∀ (s u : State) (i : OpInfo) (c : Cmd) (x : Ctx) (k : Nat), i = { op := 0x0500, lens := lenIs 80, states := stA, j := true, change := true, mirrored := true } →
    s.Takes i c → u = s.cmdBegin c → x = u.ctxShape ((List.range 16).map c.p) →
    (u.descChecks x ++ [(2, chipRack ((u.groupMembers (groupSlice ((List.range 16).map c.p))).head?.getD 0) == (u.pl.rx, u.pl.ry) && !u.pl.spine)]).all (·.2) = true →
    x.job = c.job → (x.epiCores = 0 ∨ ∀ b, u.epiBinding x = some b → b.job = c.job) →
    (x.op = 5 → (Tbl.get ({} : PlaceTable) u.coll.tables x.place).job = c.job) → u.ctxPick 0 = some k → u.ctxItem x = 0 →
    x.leaves.filter (· != u.ownId) = [] → (u.ctxHold k x true).ownId = u.ownId →
    exec (.ctxCreate c) s = .next (settle s (((u.ctxHold k x true).ctxCommit k).cmdEnd i c (.ok [k])))) ∧
  (∀ (s u : State) (i : OpInfo) (c : Cmd) (x : Ctx), i = { op := 0x0500, lens := lenIs 80, states := stA, j := true, change := true, mirrored := true } →
    s.Takes i c → u = s.cmdBegin c → x = u.ctxShape ((List.range 16).map c.p) →
    (u.descChecks x ++ [(2, chipRack ((u.groupMembers (groupSlice ((List.range 16).map c.p))).head?.getD 0) == (u.pl.rx, u.pl.ry) && !u.pl.spine)]).all (·.2) = true →
    x.job = c.job → (x.epiCores = 0 ∨ ∀ b, u.epiBinding x = some b → b.job = c.job) →
    (x.op = 5 → (Tbl.get ({} : PlaceTable) u.coll.tables x.place).job = c.job) → u.ctxPick 0 = none →
    exec (.ctxCreate c) s = .next (settle s (((u.createBusy u.ownId 1).1).cmdEnd i c { status := 0x21, q := [0, u.ownId + 65536] }))) ∧
  (∀ (s u : State) (i : OpInfo) (c : Cmd), i = { op := 0x0501, lens := lenIs 36, states := stA, j := true, change := true, mirrored := true } →
    s.Takes i c → u = s.cmdBegin c → c.p 0 < 4096 → u.mustCoord c = true → u.otherLeaves (c.p 0) = [] → u.domainNow < c.p64 1 →
    (u.ctx (c.p 0)).state = .done → (u.ctx (c.p 0)).job = c.job →
    exec (.ctxRearm c) s = .next (settle s ((u.ctxRearmed (c.p 0) (c.p64 1) (c.p64 3)).cmdEnd i c (.ok [])))) ∧
  (∀ (s u : State) (i : OpInfo) (c : Cmd), i = { op := 0x0502, lens := lenIs 20, states := stA, j := true, mirrored := true } →
    s.Takes i c → u = s.cmdBegin c → c.p 0 < 4096 → u.mustCoord c = true → u.otherLeaves (c.p 0) = [] →
    ((u.ctx (c.p 0)).state = .done ∨ (u.ctx (c.p 0)).state = .failed) → (u.ctx (c.p 0)).job = c.job →
    exec (.ctxRelease c) s = .next (settle s ((u.ctxFreed (c.p 0) true).cmdEnd i c (.ok [])))) ∧
  (∀ (s u : State) (i : OpInfo) (c : Cmd), i = { op := 0x0503, lens := lenIs 20, states := stA, j := true, mirrored := true } →
    s.Takes i c → u = s.cmdBegin c → c.p 0 < 4096 → u.mustCoord c = true → u.otherLeaves (c.p 0) = [] →
    ((u.ctx (c.p 0)).state = .armed ∨ (u.ctx (c.p 0)).state = .running) → (u.ctx (c.p 0)).job = c.job →
    exec (.ctxAbort c) s = .next (settle s ((u.ctxAborted (c.p 0)).cmdEnd i c (.ok [])))) ∧
  (∀ (s u : State) (i : OpInfo) (c : Cmd), i = { op := 0x0504, lens := lenIs 20, states := stA, j := true } →
    s.Takes i c → u = s.cmdBegin c → c.p 0 < 4096 → ((u.ctx (c.p 0)).desc = [] ∨ (u.ctx (c.p 0)).job = c.job) →
    exec (.ctxQuery c) s = .next (settle s ((u).cmdEnd i c (.ok (u.ctxRecord (c.p 0)))))) ∧
  (∀ (s u : State) (i : OpInfo) (c : Cmd) (x : Ctx), i = { op := 0x0580, lens := fun l => 24 ≤ l && l ≤ 88 && l % 4 == 0, states := stA, p := true } →
    s.Takes i c → u = s.cmdBegin c → x = u.ctxShape ((List.range 16).map (fun k => c.p (2 + k))) → c.p 0 = 0 → c.len = 88 → c.p 1 < 4096 →
    (u.descChecks x).all (·.2) = true → u.ctxFree (c.p 1) = true → u.ctxItem x = 0 →
    exec (.ctxPeerHold c) s = .next (settle s ((u.ctxHold (c.p 1) x false).cmdEnd i c (.ok [])))) ∧
  (∀ (s u : State) (i : OpInfo) (c : Cmd), i = { op := 0x0580, lens := fun l => 24 ≤ l && l ≤ 88 && l % 4 == 0, states := stA, p := true } →
    s.Takes i c → u = s.cmdBegin c → c.p 0 = 1 → c.p 1 < 4096 → (u.ctx (c.p 1)).state = .reserving →
    exec (.ctxPeerCommit c) s = .next (settle s ((u.ctxCommit (c.p 1)).cmdEnd i c (.ok [])))) ∧
  (∀ (s u : State) (i : OpInfo) (c : Cmd), i = { op := 0x0580, lens := fun l => 24 ≤ l && l ≤ 88 && l % 4 == 0, states := stA, p := true } →
    s.Takes i c → u = s.cmdBegin c → c.p 0 = 2 → c.p 1 < 4096 →
    exec (.ctxPeerRelease c) s = .next (settle s ((u.ctxUnhold (c.p 1)).cmdEnd i c (.ok [])))) ∧
  (∀ (s u : State) (i : OpInfo) (c : Cmd), i = { op := 0x0580, lens := fun l => 24 ≤ l && l ≤ 88 && l % 4 == 0, states := stA, p := true } →
    s.Takes i c → u = s.cmdBegin c → c.p 0 = 3 → c.p 1 < 4096 → c.len = 40 → (u.ctx (c.p 1)).state = .done →
    exec (.ctxPeerRearm c) s = .next (settle s ((u.ctxRearmed (c.p 1) (c.p64 2) (c.p64 4)).cmdEnd i c (.ok [])))) ∧
  (∀ (s u : State) (i : OpInfo) (c : Cmd), i = { op := 0x0580, lens := fun l => 24 ≤ l && l ≤ 88 && l % 4 == 0, states := stA, p := true } →
    s.Takes i c → u = s.cmdBegin c → c.p 0 = 4 → c.p 1 < 4096 → ((u.ctx (c.p 1)).state = .done ∨ (u.ctx (c.p 1)).state = .failed) →
    exec (.ctxPeerFree c) s = .next (settle s ((u.ctxFreed (c.p 1) true).cmdEnd i c (.ok [])))) ∧
  (∀ (s u : State) (i : OpInfo) (c : Cmd), i = { op := 0x0580, lens := fun l => 24 ≤ l && l ≤ 88 && l % 4 == 0, states := stA, p := true } →
    s.Takes i c → u = s.cmdBegin c → c.p 0 = 5 → c.p 1 < 4096 → ((u.ctx (c.p 1)).state = .armed ∨ (u.ctx (c.p 1)).state = .running) →
    exec (.ctxPeerAbort c) s = .next (settle s ((u.ctxAborted (c.p 1)).cmdEnd i c (.ok [])))) ∧
  (∀ (s u : State) (i : OpInfo) (c : Cmd), i = { op := 0x0580, lens := fun l => 24 ≤ l && l ≤ 88 && l % 4 == 0, states := stA, p := true } →
    s.Takes i c → u = s.cmdBegin c → c.p 0 = 6 → c.p 1 < 4096 → c.len = 28 →
    exec (.ctxPeerFail c) s = .next (settle s ((u.failCtx (c.p 1) (bits (c.p 2) 0 16) .remote).cmdEnd i c (.ok []))))

/-- Placement and embedding tables are written, committed and released. MOE_PLACE writes entries of a table no context uses, and with COMMIT sets its
experts where every entry has been written (R322, R391); EMB_CREATE makes a table over a region and starts the lowest free cores of the job on its
EMBED binding, EMB_RELEASE stops them (R332, R391). -/
def Obligations.TableCommands : Prop :=
  (∀ (s u : State) (i : OpInfo) (c : Cmd) (t first n : Nat) (tab new : PlaceTable) (es w : List Nat), i = { op := 0x0505, lens := lenIs (32 + 8 * bits (c.p 1) 10 9), states := stA, j := true, change := true, mirrored := true } →
    s.Takes i c → u = s.cmdBegin c → t = bits (c.p 0) 0 8 → first = bits (c.p 1) 0 10 → n = bits (c.p 1) 10 9 → bits (c.p 0) 9 23 = 0 →
    bit (c.p 0) 8 = false → bits (c.p 1) 19 13 = 0 → n ≤ 508 → first + n ≤ 1024 → c.p 2 < 1024 → c.p 3 = 0 →
    es = (List.range n).map (fun k => c.p64 (4 + 2 * k)) →
    (∀ e ∈ es, bits e 58 6 = 0 ∧ ∀ k, k ≤ bits e 56 2 → u.inJob c.job (bits e (14 * k) 14) = true) → tab = Tbl.get {} u.coll.tables t →
    (tab.job = 0 ∨ tab.job = c.job) → u.tableInUse t = false →
    w = (List.range n).foldl (fun l k => if l.contains (first + k) then l else (first + k) :: l) tab.written →
    new = { job := c.job, entries := (List.range n).foldl (fun m k => Tbl.put 0 m (first + k) (es.getD k 0)) tab.entries, written := w, experts := none } →
    exec (.moePlace c) s = .next (settle s (({ u with coll := { u.coll with tables := Tbl.put {} u.coll.tables t new } }).cmdEnd i c (.ok [])))) ∧
  (∀ (s u : State) (i : OpInfo) (c : Cmd) (t first n : Nat) (tab new : PlaceTable) (es w : List Nat), i = { op := 0x0505, lens := lenIs (32 + 8 * bits (c.p 1) 10 9), states := stA, j := true, change := true, mirrored := true } →
    s.Takes i c → u = s.cmdBegin c → t = bits (c.p 0) 0 8 → first = bits (c.p 1) 0 10 → n = bits (c.p 1) 10 9 → bits (c.p 0) 9 23 = 0 →
    bit (c.p 0) 8 = true → bits (c.p 1) 19 13 = 0 → n ≤ 508 → first + n ≤ 1024 → c.p 2 < 1024 → c.p 3 = 0 →
    es = (List.range n).map (fun k => c.p64 (4 + 2 * k)) →
    (∀ e ∈ es, bits e 58 6 = 0 ∧ ∀ k, k ≤ bits e 56 2 → u.inJob c.job (bits e (14 * k) 14) = true) → tab = Tbl.get {} u.coll.tables t →
    (tab.job = 0 ∨ tab.job = c.job) → u.tableInUse t = false →
    w = (List.range n).foldl (fun l k => if l.contains (first + k) then l else (first + k) :: l) tab.written → (∀ k, k ≤ c.p 2 → k ∈ w) →
    new = { job := c.job, entries := (List.range n).foldl (fun m k => Tbl.put 0 m (first + k) (es.getD k 0)) tab.entries, written := w, experts := some (c.p 2 + 1) } →
    exec (.moePlaceCommit c) s = .next (settle s (({ u with coll := { u.coll with tables := Tbl.put {} u.coll.tables t new } }).cmdEnd i c (.ok [])))) ∧
  (∀ (s u : State) (i : OpInfo) (c : Cmd) (t n fmt dim base rows r size mib b0 p0 : Nat) (b : Binding) (p : Program) (e : EmbTable), i = { op := 0x0506, lens := lenIs 52, states := stA, j := true, change := true } →
    s.Takes i c → u = s.cmdBegin c → t = bits (c.p 0) 0 8 → n = bits (c.p 0) 8 6 → fmt = bits (c.p 0) 14 2 → dim = bits (c.p 1) 0 11 →
    base = c.p64 4 → rows = bits (c.p64 6) 0 41 → bits (c.p 0) 16 16 = 0 → 1 ≤ n → n ≤ 32 → fmt ≤ 2 → bits (c.p 1) 11 21 = 0 → 1 ≤ dim → dim ≤ 1024 →
    u.bindingOf (c.p 2) = some (b0, b) → b.kind = 3 → b.job = c.job → u.regionOf (c.p 3) = some r → (u.region r).type ≠ 0 →
    (u.region r).job = c.job → size = (u.region r).size → base % 64 = 0 → bits (c.p64 6) 41 23 = 0 → 1 ≤ rows → rows ≤ 2 ^ 40 → c.p 8 % 64 = 0 →
    dim * fmtBits fmt / 8 ≤ c.p 8 → base + (rows - 1) * c.p 8 + dim * fmtBits fmt / 8 ≤ size → (Tbl.get ({} : EmbTable) u.coll.embs t).dim = 0 →
    u.programOf b.program = some (p0, p) → mib = imgField p.image 20 4 → n ≤ (u.freeCores c.job).length →
    u.spillFits (((u.freeCores c.job).take n).filterMap u.physOf) mib = true →
    e = { job := c.job, binding := c.p 2, region := c.p 3, base := base, rows := rows, dim := dim, fmt := fmt, stride := c.p 8, cores := (u.freeCores c.job).take n } →
    exec (.embCreate c) s = .next (settle s ((
      ({ u with coll := { u.coll with embs := Tbl.put {} u.coll.embs t e } } : State).startCores ((u.freeCores c.job).take n) (c.p 2) t true).cmdEnd i c
        (.ok [])))) ∧
  (∀ (s u : State) (i : OpInfo) (c : Cmd) (e : EmbTable), i = { op := 0x0507, lens := lenIs 20, states := stA, j := true } →
    s.Takes i c → u = s.cmdBegin c → c.p 0 < 256 → e = Tbl.get {} u.coll.embs (c.p 0) → e.dim ≠ 0 → e.job = c.job →
    exec (.embRelease c) s = .next (settle s ((
      ({ u with coll := { u.coll with embs := Tbl.put {} u.coll.embs (c.p 0) {} } } : State).stopCores e.cores).cmdEnd i c
        (.ok []))))

/-- Regions are created, released, reloaded and told; channels are flushed and retrained. REGION_CREATE takes the lowest free index, its frames and
its address, and wipes; REGION_RELEASE and REGION_RELOAD wipe; REGION_QUERY answers the record of R365; MEM_FLUSH writes the dirty lines of a channel
or a tier; MEM_RETRAIN starts a retrain, and with FORCE marks the flows of the den at risk (R345, R346, R353, R392). -/
def Obligations.RegionCommands : Prop :=
  (∀ (s u : State) (i : OpInfo) (c : Cmd) (sl : Bool) (pl n k f : Nat) (ph : List Nat) (r : Region) (a : Nat), i = { op := 0x0600, lens := lenIs 24, states := stA, j := true, change := true, long := true, mirrored := bit (c.p 0) 9 } →
    s.Takes i c → u = s.cmdBegin c → sl = bit (c.p 0) 0 → pl = bits (c.p 0) 3 3 → n = bits (c.p 1) 0 24 → bits (c.p 0) 1 2 < 3 → pl < 5 →
    bits (c.p 0) 10 22 = 0 → 1 ≤ n → bits (c.p 1) 24 8 = 0 → (pl = 4 → n % 4 = 0) → c.job ≠ 0 → (bit (c.p 0) 9 = true → u.paired2 = true) →
    u.rebuilding sl pl = false → (List.range 4096).find? (fun k => (u.region k).state == .free) = some k → u.freeRun sl (pl == 4) n = some f →
    u.physFor sl pl n = some ph →
    r = { state := .wiping, type := bits (c.p 0) 1 2, slow := sl, place := pl, prot := bit (c.p 0) 9, fabWr := bit (c.p 0) 6, fabRd := bit (c.p 0) 7, settWr := bit (c.p 0) 8, job := c.job, gen := if (u.region k).job = 0 then 0 else ((u.region k).gen + 1) % 256, frame := f, frames := n, phys := ph } →
    a = baseMem + 0x10000 + 0x20 * k →
    exec (.regionCreate c) s = .next (settle s ((
      ((u.setRegion k r).setCtr (a + 0x14) 0).setCtr (a + 0x18) 0).cmdEnd i c
        { goes := true, data := [k] }))) ∧
  (∀ (s u : State) (i : OpInfo) (c : Cmd) (k : Nat) (r : Region), i = { op := 0x0601, lens := lenIs 20, states := stA, j := true, long := true, mirrored := (u.region k).prot } →
    s.Takes i c → u = s.cmdBegin c → s.regionOf (c.p 0) = some k → s.region k = u.region k → u.regionOf (c.p 0) = some k → r = u.region k →
    r.job = c.job → (r.state = .ready ∨ r.state = .lost) → u.regionNamed k = false →
    exec (.regionRelease c) s = .next (settle s ((
      (u.flushWhere (fun e => decide (r.base ≤ 64 * e.line) && decide (64 * e.line < r.base + r.size))).setRegion k { r with state := .wiping, releasing := true }).cmdEnd i c
        { goes := true, data := [k] }))) ∧
  (∀ (s u : State) (i : OpInfo) (c : Cmd) (k : Nat) (r : Region) (ph : List Nat), i = { op := 0x0602, lens := lenIs 20, states := stA, j := true, change := true, long := true, mirrored := (u.region k).prot } →
    s.Takes i c → u = s.cmdBegin c → s.regionOf (c.p 0) = some k → s.region k = u.region k → u.regionOf (c.p 0) = some k → r = u.region k →
    r.job = c.job → r.state = .lost → u.rebuilding r.slow r.place = false → (r.prot = true → u.paired2 = true) →
    u.physFor r.slow r.place r.frames = some ph →
    exec (.regionReload c) s = .next (settle s ((u.setRegion k { r with state := .wiping, phys := ph }).cmdEnd i c { goes := true, data := [k] }))) ∧
  (∀ (s u : State) (i : OpInfo) (c : Cmd) (k : Nat), i = { op := 0x0603, lens := lenIs 20, states := stA, j := true } →
    s.Takes i c → u = s.cmdBegin c → u.regionOf (c.p 0) = some k → (u.region k).job = c.job →
    exec (.regionQuery c) s = .next (settle s ((u).cmdEnd i c (.ok (u.regionRecord k))))) ∧
  (∀ (s u : State) (i : OpInfo) (c : Cmd), i = { op := 0x0603, lens := lenIs 20, states := stA, j := true } →
    s.Takes i c → u = s.cmdBegin c → u.regionOf (c.p 0) = none →
    exec (.regionQuery c) s = .next (settle s ((u).cmdEnd i c (.bad 0)))) ∧
  (∀ (s u : State) (i : OpInfo) (c : Cmd), i = { op := 0x0604, lens := lenIs 20, states := stRA, m := true } →
    s.Takes i c → u = s.cmdBegin c → bits (c.p 0) 11 21 = 0 → u.chanExists (bit (c.p 0) 9) (bits (c.p 0) 0 9) = true →
    exec (.memFlush c) s = .next (settle s ((u.flushChan (bit (c.p 0) 9) (bits (c.p 0) 0 9)).cmdEnd i c (.ok [])))) ∧
  (∀ (s u : State) (i : OpInfo) (c : Cmd), i = { op := 0x0604, lens := lenIs 20, states := stRA, m := true } →
    s.Takes i c → u = s.cmdBegin c → bits (c.p 0) 11 21 = 0 →
    exec (.memFlushAll c) s = .next (settle s ((
      u.flushWhere (fun e => match u.chanOf (64 * e.line) with | some (sl, _, _) => sl == bit (c.p 0) 9 | none => false)).cmdEnd i c
        (.ok [])))) ∧
  (∀ (s u : State) (i : OpInfo) (c : Cmd) (sl : Bool) (ch : Nat), i = { op := 0x0605, lens := lenIs 20, states := stRA, m := true, long := true, force := true } →
    s.Takes i c → u = s.cmdBegin c → sl = bit (c.p 0) 9 → ch = bits (c.p 0) 0 9 → bits (c.p 0) 10 22 = 0 → u.chanExists sl ch = true →
    (u.chan sl ch).st ≠ 3 → (u.chan sl ch).st ≠ 4 → c.force = false → u.retrainBreaks (ch / u.tierChans sl) = false →
    exec (.memRetrain c) s = .next (settle s ((u.retrainStart sl ch false).cmdEnd i c { goes := true, data := [1024 * b2n sl + ch] }))) ∧
  (∀ (s u : State) (i : OpInfo) (c : Cmd) (sl : Bool) (ch : Nat), i = { op := 0x0605, lens := lenIs 20, states := stRA, m := true, long := true, force := true } →
    s.Takes i c → u = s.cmdBegin c → sl = bit (c.p 0) 9 → ch = bits (c.p 0) 0 9 → bits (c.p 0) 10 22 = 0 → u.chanExists sl ch = true →
    (u.chan sl ch).st ≠ 3 → (u.chan sl ch).st ≠ 4 → c.force = true →
    exec (.memRetrain c) s = .next (settle s ((
      (u.retrainStart sl ch false).tc1DenRisk (ch / u.tierChans sl) true).cmdEnd i c
        { goes := true, data := [1024 * b2n sl + ch] })))

/-- Cores are given out, programs loaded and unloaded, bindings made, launched, awaited, stopped and told. CORE_ASSIGN and CORE_RETURN write the
owners of visible cores; PROG_LOAD reads a region or stages the parts of one source until they make IMAGE_LEN; PROG_UNLOAD frees a program nothing is
bound to; BIND of a PROGRAM image with inline parameters binds its cores in order; LAUNCH starts them; PROG_WAIT answers their exit codes when they
have ended, else waits; PROG_STOP halts; PROG_QUERY counts; UNBIND frees (R310 to R313, R393, R394). -/
def Obligations.CoreAndProgramCommands : Prop :=
  (∀ (s u : State) (i : OpInfo) (c : Cmd) (vs : List Nat), i = { op := 0x0700, lens := lenIs 36, states := stA, m := true } →
    s.Takes i c → u = s.cmdBegin c → vs = cmdBitmap c 1 → 1 ≤ c.p 0 → c.p 0 < 4096 →
    (∀ v ∈ vs, (u.coreOwner v = 0 ∨ u.coreOwner v = c.p 0) ∧ u.coreBound v = false ∧ u.coreThere v = true) →
    exec (.coreAssign c) s = .next (settle s ((u.setOwner vs (c.p 0)).cmdEnd i c (.ok [])))) ∧
  (∀ (s u : State) (i : OpInfo) (c : Cmd) (vs : List Nat), i = { op := 0x0701, lens := lenIs 36, states := stA, m := true } →
    s.Takes i c → u = s.cmdBegin c → vs = cmdBitmap c 1 → c.p 0 = 0 → (∀ v ∈ vs, u.coreBound v = false) →
    exec (.coreReturn c) s = .next (settle s ((u.setOwner vs 0).cmdEnd i c (.ok [])))) ∧
  (∀ (s u : State) (i : OpInfo) (c : Cmd) (k : Nat) (r : Region), i = { op := 0x0702, lens := lenIs 36, states := stA, j := true, change := true, long := true, mirrored := true } →
    s.Takes i c → u = s.cmdBegin c → c.p 0 = 1 → u.regionOf (c.p 1) = some k → r = u.region k → r.job = c.job → c.p64 2 + c.p 4 ≤ r.size →
    r.state = .ready → u.ueIn (r.base + c.p64 2) (c.p 4) = none →
    exec (.progLoadRegion c) s = .next (settle s ((u).cmdEnd i c { goes := true, data := (u.memRead (r.base + c.p64 2) (c.p 4)).map (·.toNat) }))) ∧
  (∀ (s u : State) (i : OpInfo) (c : Cmd) (v : State), i = { op := 0x0702, lens := fun l => 32 ≤ l, states := stA, j := true, change := true, long := false, mirrored := true } →
    s.Takes i c → u = s.cmdBegin c → v = u.dropStaging c.src → c.p 0 = 0 → c.p 1 = 0 → c.p 3 = 0 → (c.params.drop 16).length < c.p 2 →
    (c.params.drop 16).length % 4 = 0 →
    exec (.progLoadPart c) s = .next (settle s ((
      { v with cmd := { v.cmd with staging := v.cmd.staging ++ [({ src := c.src, len := c.p 2, bytes := c.params.drop 16 } : Staging)] } }).cmdEnd i c
        (.ok [(c.params.drop 16).length])))) ∧
  (∀ (s u : State) (i : OpInfo) (c : Cmd), i = { op := 0x0702, lens := fun l => 32 ≤ l, states := stA, j := true, change := true, long := true, mirrored := true } →
    s.Takes i c → u = s.cmdBegin c → c.p 0 = 0 → c.p 1 = 0 → c.p 3 = 0 → (c.params.drop 16).length = c.p 2 →
    exec (.progLoadPart c) s = .next (settle s ((u.dropStaging c.src).cmdEnd i c { goes := true, data := (c.params.drop 16).map (·.toNat) }))) ∧
  (∀ (s u : State) (i : OpInfo) (c : Cmd) (k : Nat) (p : Program), i = { op := 0x0703, lens := lenIs 20, states := stA, j := true, mirrored := imgMirrored p.image } →
    s.Takes i c → u = s.cmdBegin c → s.programOf (c.p 0) = some (k, p) → u.programOf (c.p 0) = some (k, p) → p.job = c.job →
    (∀ e ∈ u.sett.bindings, e.2.present = false ∨ e.2.program ≠ c.p 0) →
    exec (.progUnload c) s = .next (settle s ((
      ({ u with sett := { u.sett with programs := Tbl.put {} u.sett.programs k { gen := (p.gen + 1) % 4096 } } } : State).copyMeasures).cmdEnd i c
        (.ok [])))) ∧
  (∀ (s u : State) (i : OpInfo) (c : Cmd) (n k k0 h : Nat) (vs : List Nat) (p : Program) (b : Binding), i = { op := 0x0704, lens := bindLen c, states := stA, j := true, change := true, mirrored := imgMirrored p.image } →
    s.Takes i c → u = s.cmdBegin c → n = bits (c.p 1) 0 13 → vs = cmdBitmap c 2 → s.programOf (c.p 0) = some (k0, p) →
    u.programOf (c.p 0) = some (k0, p) → bits (c.p 1) 13 19 = 0 → n = imgField p.image 24 4 → imgField p.image 6 1 = 0 →
    vs.length = imgField p.image 8 2 → p.job = c.job → (∀ v ∈ vs, u.coreThere v = true ∧ u.coreOwner v = c.job ∧ u.coreFree v = true) →
    (List.range 256).find? (fun k => !(Tbl.get ({} : Binding) u.sett.bindings k).present) = some k →
    h = objHandle k c.job (Tbl.get ({} : Binding) u.sett.bindings k).gen →
    b = { job := c.job, gen := (Tbl.get ({} : Binding) u.sett.bindings k).gen, present := true, program := c.p 0, kind := 0, params := (c.params.drop 24).take n, cores := vs } →
    (∀ x ∈ vs.filterMap u.physOf, (u.core x).gated = false) →
    exec (.bind c) s = .next (settle s ((
      (List.range (vs.filterMap u.physOf).length).foldl (fun s q => s.setCore ((vs.filterMap u.physOf).getD q 0)
        { s.core ((vs.filterMap u.physOf).getD q 0) with binding := h, index := q, kind := 0 }) (u.setBinding k b)).cmdEnd i c
        (.ok [h])))) ∧
  (∀ (s u : State) (i : OpInfo) (c : Cmd) (k : Nat) (b : Binding), i = { op := 0x0705, lens := lenIs 20, states := stA, j := true, mirrored := b.kind == 1 || b.kind == 2 } →
    s.Takes i c → u = s.cmdBegin c → s.bindingOf (c.p 0) = some (k, b) → u.bindingOf (c.p 0) = some (k, b) → b.job = c.job →
    (b.kind = 0 → u.coresOf (c.p 0) = []) → (b.kind ≠ 0 → ∀ e ∈ u.sett.cores, e.2.binding ≠ c.p 0) →
    exec (.unbind c) s = .next (settle s ((
      ((u.sett.cores.filter (fun e => e.2.binding == c.p 0)).foldl (fun s e => s.setCore e.1 (s.core e.1).released) u).setBinding k { gen := (b.gen + 1) % 4096 }).cmdEnd i c
        (.ok [])))) ∧
  (∀ (s u : State) (i : OpInfo) (c : Cmd) (k k0 : Nat) (b : Binding) (p : Program), i = { op := 0x0706, lens := lenIs 20, states := stA, j := true, change := true } →
    s.Takes i c → u = s.cmdBegin c → u.bindingOf (c.p 0) = some (k, b) → b.job = c.job → b.kind = 0 → b.st = .idle →
    u.programOf b.program = some (k0, p) → b.cores.length ≤ (b.cores.filterMap u.physOf).length →
    u.spillFits (b.cores.filterMap u.physOf) (imgField p.image 20 4) = true →
    exec (.launch c) s = .next (settle s (((u.setBinding k { b with st := .running }).startCores b.cores (c.p 0) 0 false).cmdEnd i c (.ok [])))) ∧
  (∀ (s u : State) (i : OpInfo) (c : Cmd) (k : Nat) (b : Binding), i = { op := 0x0707, lens := lenIs 20, states := stA, j := true, long := true } →
    s.Takes i c → u = s.cmdBegin c → u.bindingOf (c.p 0) = some (k, b) → b.job = c.job → b.kind = 0 → b.st = .done →
    exec (.progWait c) s = .next (settle s ((u).cmdEnd i c (.ok b.exits)))) ∧
  (∀ (s u : State) (i : OpInfo) (c : Cmd) (k : Nat) (b : Binding), i = { op := 0x0707, lens := lenIs 20, states := stA, j := true, long := true } →
    s.Takes i c → u = s.cmdBegin c → u.bindingOf (c.p 0) = some (k, b) → b.job = c.job → b.kind = 0 → b.st ≠ .done →
    exec (.progWait c) s = .next (settle s ((u).cmdEnd i c { goes := true, data := [c.p 0] }))) ∧
  (∀ (s u : State) (i : OpInfo) (c : Cmd) (k : Nat) (b : Binding), i = { op := 0x0708, lens := lenIs 20, states := stA, j := true } →
    s.Takes i c → u = s.cmdBegin c → u.bindingOf (c.p 0) = some (k, b) → b.job = c.job →
    exec (.progStop c) s = .next (settle s ((u.haltBinding (c.p 0)).cmdEnd i c (.ok [])))) ∧
  (∀ (s u : State) (i : OpInfo) (c : Cmd) (k : Nat) (b : Binding) (l : List SettCore), i = { op := 0x0709, lens := lenIs 20, states := stA, j := true } →
    s.Takes i c → u = s.cmdBegin c → u.bindingOf (c.p 0) = some (k, b) → b.job = c.job →
    l = (u.sett.cores.filter (fun e => e.2.binding == c.p 0)).map (·.2) →
    exec (.progQuery c) s = .next (settle s ((
      u).cmdEnd i c
        (.ok [(match l.find? (fun x => x.index == 0) with | some x => x.st.code | none => 0), (l.filter (·.live)).length, (l.filter (fun x => x.st == .exited)).length,
          (l.filter (fun x => x.st == .halted)).length]))))

/-- Pairs are formed, told, resynchronised and broken. PAIR_FORM of the module's own partner starts formation from state 0 or 6 and goes on, and with
another partner is BAD_PARAM; PAIR_STATUS answers the words of R437; PAIR_RESYNC of a member alone starts the copy; PAIR_BREAK is taken in a formed
pair only and waits for a boundary (R395, R420, R435 to R437). -/
def Obligations.PairCommands : Prop :=
  (∀ (s u : State) (i : OpInfo) (c : Cmd) (v : State), i = { op := 0x0800, lens := lenIs 20, states := stR, m := true, long := true, perm := fun s => s.mayPair } →
    s.Takes i c → u = s.cmdBegin c → bits (c.p 0) 11 21 = 0 → u.pl.paired = true → bits (c.p 0) 0 10 = u.pl.partner →
    bits (c.p 0) 10 1 = u.pl.member → (u.pair.st = 0 ∨ u.pair.st = 6) → v = u.pairStart →
    exec (.pairForm c) s = .next (settle s (({ v with pair := { v.pair with owner := some u.cmd.nextExec } }).cmdEnd i c { goes := true }))) ∧
  (∀ (s u : State) (i : OpInfo) (c : Cmd), i = { op := 0x0800, lens := lenIs 20, states := stR, m := true, long := true, perm := fun s => s.mayPair } →
    s.Takes i c → u = s.cmdBegin c → bits (c.p 0) 0 10 ≠ u.pl.partner →
    exec (.pairForm c) s = .next (settle s ((u).cmdEnd i c (.bad 0)))) ∧
  (∀ (s u : State) (i : OpInfo) (c : Cmd), i = { op := 0x0801, lens := lenIs 16, states := stRA, m := true } →
    s.Takes i c → u = s.cmdBegin c → u.pair.st = 2 →
    exec (.pairBreak c) s = .next (settle s ((
      ({ u with pair := { u.pair with breakPend := true } } : State).emit (.mirror 0x0801 [] [])).cmdEnd i c
        (.ok [])))) ∧
  (∀ (s u : State) (i : OpInfo) (c : Cmd), i = { op := 0x0801, lens := lenIs 16, states := stRA, m := true } →
    s.Takes i c → u = s.cmdBegin c → u.pair.st ≠ 2 →
    exec (.pairBreak c) s = .next (settle s ((u).cmdEnd i c (.no 0x20)))) ∧
  (∀ (s u : State) (i : OpInfo) (c : Cmd), i = { op := 0x0802, lens := lenIs 16, states := stRA, m := true } →
    s.Takes i c → u = s.cmdBegin c →
    exec (.pairStatus c) s = .next (settle s ((
      u).cmdEnd i c
        (.ok [u.pairStatusWord, u.pairCtxWord, u.pair.eventTime % 2 ^ 32, u.pair.eventTime / 2 ^ 32])))) ∧
  (∀ (s u : State) (i : OpInfo) (c : Cmd) (v : State), i = { op := 0x0803, lens := lenIs 16, states := stRA, m := true, long := true } →
    s.Takes i c → u = s.cmdBegin c → u.pair.st = 3 → u.mirrorUp ≠ [] → v = u.pairSet 5 →
    exec (.pairResync c) s = .next (settle s (({ v with pair := { v.pair with owner := some u.cmd.nextExec } }).cmdEnd i c { goes := true })))

/-- Fault records, status bits, classes, forced events, self-tests and the black box by command. FAULT_READ gives records, newest first; FAULT_CLEAR
clears one bit as a W1C write; FAULT_CFG writes the class, unless locked, and the mask of a source within its floor; FAULT_FORCE causes one forced
event; SELFTEST of an unbound core goes on; REPAIR_RESET clears the repair record; BLACKBOX_READ gives records and snapshot and clears UNREAD (R396,
R443, R446, R448, R455, R459). -/
def Obligations.FaultCommands : Prop :=
  (∀ (s u : State) (i : OpInfo) (c : Cmd) (n : Nat), i = { op := 0x0900, lens := lenIs 20, states := stWCRA, m := true } →
    s.Takes i c → u = s.cmdBegin c → n = bits (c.p 0) 8 8 → 1 ≤ n → n ≤ 64 → bits (c.p 0) 16 16 = 0 →
    exec (.faultRead c) s = .next (settle s ((u).cmdEnd i c { block := recordBlock u.faults.ring (bits (c.p 0) 0 8) n }))) ∧
  (∀ (s u : State) (i : OpInfo) (c : Cmd), i = { op := 0x0901, lens := lenIs 20, states := stCRA, m := true } →
    s.Takes i c → u = s.cmdBegin c → bits (c.p 0) 11 21 = 0 →
    exec (.faultClear c) s = .next (settle s ((u.fswClear (namedWord (c.p 0)) (2 ^ namedSource (c.p 0))).cmdEnd i c (.ok [])))) ∧
  (∀ (s u : State) (i : OpInfo) (c : Cmd) (w k : Nat) (x : SourceInfo) (v : State), i = { op := 0x0902, lens := lenIs 20, states := stCRA, m := true } →
    s.Takes i c → u = s.cmdBegin c → w = namedWord (c.p 0) → k = namedSource (c.p 0) → bits (c.p 0) 15 17 = 0 → bits (c.p 0) 11 3 ≤ 4 →
    sourceInfo w k = some x → (x.floor = 5 → bits (c.p 0) 11 3 = 4 ∧ bit (c.p 0) 14 = false) → (x.floor ≠ 5 → x.floor ≤ bits (c.p 0) 11 3) →
    sourceExists w k = true → v = (if sourceLocked w k then u else u.setFld (faultReg w (0x40 + 4 * k)) 0 3 (bits (c.p 0) 11 3)) →
    exec (.faultCfg c) s = .next (settle s ((
      (v.setFld (faultReg w (8 + 4 * (k / 32))) (k % 32) 1 (b2n (bit (c.p 0) 14))).pinFrom u).cmdEnd i c
        (.ok [])))) ∧
  (∀ (s u : State) (i : OpInfo) (c : Cmd), i = { op := 0x0903, lens := lenIs 20, states := stCRA, m := true, perm := fun s => s.mayForce } →
    s.Takes i c → u = s.cmdBegin c → bits (c.p 0) 11 21 = 0 →
    exec (.faultForce c) s = .next (settle s ((
      u.event { word := namedWord (c.p 0), source := namedSource (c.p 0), forced := true }).cmdEnd i c
        (.ok [])))) ∧
  (∀ (s u : State) (i : OpInfo) (c : Cmd), i = { op := 0x0904, lens := lenIs 20, states := stRA, m := true, long := true } →
    s.Takes i c → u = s.cmdBegin c → c.p 0 < 128 → (u.core (c.p 0)).binding = 0 →
    exec (.selftest c) s = .next (settle s ((u).cmdEnd i c { goes := true, data := [c.p 0] }))) ∧
  (∀ (s u : State) (i : OpInfo) (c : Cmd), i = { op := 0x0905, lens := lenIs 16, states := stR, m := true, perm := fun s => s.sec.lc == 3 } →
    s.Takes i c → u = s.cmdBegin c →
    exec (.repairReset c) s = .next (settle s (({ u with sett := { u.sett with field := [], badSpares := [] } }).cmdEnd i c (.ok [])))) ∧
  (∀ (s u : State) (i : OpInfo) (c : Cmd) (n : Nat), i = { op := 0x0906, lens := lenIs 20, states := stWCRA, m := true } →
    s.Takes i c → u = s.cmdBegin c → n = bits (c.p 0) 6 7 → 1 ≤ n → n ≤ 64 → bits (c.p 0) 13 19 = 0 →
    exec (.blackboxRead c) s = .next (settle s ((
      { u with box := { u.box with unread := false } }).cmdEnd i c
        { block := recordBlock u.box.records (bits (c.p 0) 0 6) n ++ (List.range 128).flatMap (fun k => leBytes 4 (u.box.snapshot.getD k 0)) })))

/-- Power caps and states, readings, owner keys, counters, measurements and the life cycle by command. POWER_CAP accepts 1,500 to 3,800 W; POWER_STATE
moves between RUN and TRIM at once, starts the entry to DROWSE or HIBERNATE with ACCEPT 0 where nothing requires the module to stay, and the wake from
DROWSE; POWER_READ gives the readings; OWNER_KEY installs a key under an authorisation; ROLLBACK_ADVANCE moves a counter up to what runs; MEASURE_READ
joins the blocks; LC_CHANGE replies, burns the fuses and resets (R397, R398, R469, R472, R473, R475, R491, R495 to R499). -/
def Obligations.PowerAndSecurityCommands : Prop :=
  (∀ (s u : State) (i : OpInfo) (c : Cmd), i = { op := 0x0A00, lens := lenIs 20, states := stCRA, m := true } →
    s.Takes i c → u = s.cmdBegin c → 1500 ≤ c.p 0 → c.p 0 ≤ 3800 →
    exec (.powerCap c) s = .next (settle s ((u.setCap (c.p 0)).cmdEnd i c (.ok [c.p 0])))) ∧
  (∀ (s u : State) (i : OpInfo) (c : Cmd), i = { op := 0x0A00, lens := lenIs 20, states := stCRA, m := true } →
    s.Takes i c → u = s.cmdBegin c → (c.p 0 < 1500 ∨ 3800 < c.p 0) →
    exec (.powerCap c) s = .next (settle s ((u).cmdEnd i c (.bad 0)))) ∧
  (∀ (s u : State) (i : OpInfo) (c : Cmd), i = { op := 0x0A02, lens := lenIs 16, states := stCRA, m := true } →
    s.Takes i c → u = s.cmdBegin c →
    exec (.powerRead c) s = .next (settle s ((
      u).cmdEnd i c
        (.ok [u.power.pin, u.power.vin, u.power.pload, u.power.cap, ([0, 1, 2, 3].map (fun d => Tbl.get 0 u.power.tj d)).foldl max 0 % 256])))) ∧
  (∀ (s u : State) (i : OpInfo) (c : Cmd), i = { op := 0x0A01, lens := lenIs 20, states := stCRA, m := true, long := true } →
    s.Takes i c → u = s.cmdBegin c → c.p 0 = 0 → u.power.busy = false → u.power.pstate = 1 → u.gatedCores = [] →
    exec (.powerStateRun c) s = .next (settle s ((u.powerReached 0).cmdEnd i c (.ok [])))) ∧
  (∀ (s u : State) (i : OpInfo) (c : Cmd), i = { op := 0x0A01, lens := lenIs 20, states := stCRA, m := true, long := true } →
    s.Takes i c → u = s.cmdBegin c → c.p 0 = 0 → u.power.busy = false → u.power.pstate = 2 →
    exec (.powerStateRun c) s = .next (settle s ((u.powerBegin 0).cmdEnd i c { goes := true, data := [0] }))) ∧
  (∀ (s u : State) (i : OpInfo) (c : Cmd), i = { op := 0x0A01, lens := lenIs 20, states := stCRA, m := true, long := true } →
    s.Takes i c → u = s.cmdBegin c → c.p 0 = 1 → u.power.busy = false → u.power.pstate = 0 →
    exec (.powerStateTrim c) s = .next (settle s ((
      ({ u with power := { u.power with pstate := 1, target := 1 } } : State).trimCores).cmdEnd i c
        (.ok [])))) ∧
  (∀ (s u : State) (i : OpInfo) (c : Cmd), i = { op := 0x0A01, lens := lenIs 20, states := stCRA, m := true, long := true } →
    s.Takes i c → u = s.cmdBegin c → c.p 0 = 2 → u.power.busy = false → u.power.pstate < 2 → u.mustStay = false →
    exec (.powerStateDrowse c) s = .next (settle s (((u.powerBegin 2).setAccept false).cmdEnd i c { goes := true, data := [2] }))) ∧
  (∀ (s u : State) (i : OpInfo) (c : Cmd), i = { op := 0x0A01, lens := lenIs 20, states := stCRA, m := true, long := true } →
    s.Takes i c → u = s.cmdBegin c → c.p 0 = 2 → u.power.busy = false → u.power.pstate < 2 → u.mustStay = true →
    exec (.powerStateDrowse c) s = .next (settle s ((u).cmdEnd i c (.no 0x20)))) ∧
  (∀ (s u : State) (i : OpInfo) (c : Cmd), i = { op := 0x0A01, lens := lenIs 20, states := stCRA, m := true, long := true } →
    s.Takes i c → u = s.cmdBegin c → c.p 0 = 3 → u.power.busy = false → u.power.pstate < 2 → u.mustStay = false →
    exec (.powerStateHibernate c) s = .next (settle s (((u.powerBegin 3).setAccept false).cmdEnd i c { goes := true, data := [3] }))) ∧
  (∀ (s u : State) (i : OpInfo) (c : Cmd), i = { op := 0x0A01, lens := lenIs 20, states := stCRA, m := true, long := true } →
    s.Takes i c → u = s.cmdBegin c → c.p 0 = 3 → u.power.busy = false → u.power.pstate < 2 → u.mustStay = true →
    exec (.powerStateHibernate c) s = .next (settle s ((u).cmdEnd i c (.no 0x20)))) ∧
  (∀ (s u : State) (i : OpInfo) (c : Cmd), i = { op := 0x0B01, lens := lenIs 112, states := stCRA, m := true, perm := fun s => s.sec.lc != 4 } →
    s.Takes i c → u = s.cmdBegin c → u.ownerAuth (c.params.take 32) ((c.params.drop 32).take 64) = true →
    exec (.ownerKey c) s = .next (settle s ((
      { u with sec := { u.sec with owner := some (c.params.take 32), ownerSeq := (u.sec.ownerSeq + 1) % 2 ^ 32 } }).cmdEnd i c
        (.ok [])))) ∧
  (∀ (s u : State) (i : OpInfo) (c : Cmd), i = { op := 0x0B01, lens := lenIs 112, states := stCRA, m := true, perm := fun s => s.sec.lc != 4 } →
    s.Takes i c → u = s.cmdBegin c → u.ownerAuth (c.params.take 32) ((c.params.drop 32).take 64) = false →
    exec (.ownerKey c) s = .next (settle s ((u).cmdEnd i c (.no 0x30)))) ∧
  (∀ (s u : State) (i : OpInfo) (c : Cmd), i = { op := 0x0B02, lens := lenIs 24, states := stR, m := true } →
    s.Takes i c → u = s.cmdBegin c → c.p 0 = 0 → u.sec.ctr0 < c.p 1 → c.p 1 ≤ 255 → c.p 1 ≤ u.sec.fwCtr →
    exec (.rollbackAdvance c) s = .next (settle s (({ u with sec := { u.sec with ctr0 := c.p 1 } }).cmdEnd i c (.ok [])))) ∧
  (∀ (s u : State) (i : OpInfo) (c : Cmd), i = { op := 0x0B02, lens := lenIs 24, states := stR, m := true } →
    s.Takes i c → u = s.cmdBegin c → c.p 0 = 1 → u.sec.ctr1 < c.p 1 → c.p 1 ≤ 255 →
    (∀ e ∈ u.cfg.active, ∀ x, e.2 = some x → c.p 1 ≤ imgCtr x.bytes) → (∀ b, u.cfg.base = some b → c.p 1 ≤ imgCtr b.bytes) →
    (u.cfg.bootBase = 0 ∨ c.p 1 ≤ imgCtr (Tbl.get [] u.cfg.flash u.cfg.bootBase)) →
    exec (.rollbackAdvance c) s = .next (settle s (({ u with sec := { u.sec with ctr1 := c.p 1 } }).cmdEnd i c (.ok [])))) ∧
  (∀ (s u : State) (i : OpInfo) (c : Cmd), i = { op := 0x0B03, lens := lenIs 16, states := stCRA, m := true } →
    s.Takes i c → u = s.cmdBegin c →
    exec (.measureRead c) s = .next (settle s ((u).cmdEnd i c { block := u.measurements.flatten }))) ∧
  (∀ (s v : State) (c : Cmd), s.Takes lcInfo c → bits (c.p 0) 3 29 = 0 → bits (c.p 0) 0 3 ≤ 4 →
    s.lcCheck (bits (c.p 0) 0 3) ((c.params.drop 4).take 32) ((c.params.drop 36).take 64) = 0 →
    v = (s.cmdBegin c).cmdEnd lcInfo c (.ok []) →
    exec (.lcChange c) s = .next (settle s (v.lcBurn (bits (c.p 0) 0 3)))) ∧
  (∀ (s : State) (c : Cmd), s.Takes lcInfo c → bits (c.p 0) 3 29 = 0 → bits (c.p 0) 0 3 ≤ 4 →
    s.lcCheck (bits (c.p 0) 0 3) ((c.params.drop 4).take 32) ((c.params.drop 36).take 64) ≠ 0 →
    exec (.lcChange c) s = .next (settle s ((s.cmdBegin c).cmdEnd lcInfo c
      (.no (s.lcCheck (bits (c.p 0) 0 3) ((c.params.drop 4).take 32) ((c.params.drop 36).take 64))))))

/-- Mirror sessions and Fox units by command. MIRROR_SET and MIRROR_CLEAR write a session that no other job holds; FOX_CFG writes a stream or a
checker of a unit that does not run, or clears the unit and its 64-bit counters; FOX_START begins at once when the rack time named has passed and else
arms the unit; FOX_STOP ends the streams; FOX_READ gives the counters at one instant (R159, R399, R478, R523, R527, R528). -/
def Obligations.MirrorAndFoxCommands : Prop :=
  (∀ (s u : State) (i : OpInfo) (c : Cmd) (k : Nat) (x : Mirror), i = { op := 0x0C00, lens := lenIs 36, states := stRA, change := true, j := true, m := true } →
    s.Takes i c → u = s.cmdBegin c → k = bits (c.p 0) 0 5 → x = mirrorRec c → bits (c.p 0) 5 27 = 0 → x.dir ≤ 2 → x.port ≤ 47 →
    bits (c.p 1) 23 9 = 0 → bits (c.p 2) 24 8 = 0 → bits (c.p 3) 12 20 = 0 → u.portThere x.aport = true → 2 ≤ x.snap16 → x.adst < 9216 →
    bits (c.p 4) 30 2 = 0 → ((u.mirror k).en = false ∨ (u.mirror k).job = c.job) → (c.job = 0 → u.instrument = true) →
    (c.job ≠ 0 → u.dev ≠ .ready ∧ u.jobHere c.job = true ∧ u.inJob c.job x.adst = true ∧ (x.bad = true → u.instrument = true)) →
    exec (.mirrorSet c) s = .next (settle s ((u.setMirror k x).cmdEnd i c (.ok [])))) ∧
  (∀ (s u : State) (i : OpInfo) (c : Cmd) (k : Nat), i = { op := 0x0C01, lens := lenIs 20, states := stRA, j := true, m := true } →
    s.Takes i c → u = s.cmdBegin c → k = bits (c.p 0) 0 5 → bits (c.p 0) 5 27 = 0 → ((u.mirror k).en = false ∨ (u.mirror k).job = c.job) →
    exec (.mirrorClear c) s = .next (settle s ((u.setMirror k {}).cmdEnd i c (.ok [])))) ∧
  (∀ (s u : State) (i : OpInfo) (c : Cmd) (n : Nat) (x : FoxStream) (v : State), i = { op := 0x0C02, lens := lenIs 64, states := stRA, change := true, j := true, m := true } →
    s.Takes i c → u = s.cmdBegin c → n = bits (c.p 0) 0 5 → bits (c.p 0) 5 27 = 0 → n < 24 → u.foxMay n c.job = true → x = streamRec c →
    (streamChecks s n c x).all (·.2) = true → (u.foxUnit n).running = false → u.streamJobOk n c.job x = true →
    (if x.en && !x.switched then u.foxQueue (8 * n + x.port) x else some u) = some v →
    exec (.foxCfgStream c) s = .next (settle s ((
      (v.foxClaim n c.job).setFox n { (v.foxClaim n c.job).foxUnit n with streams := Tbl.put {} ((v.foxClaim n c.job).foxUnit n).streams (bits (c.p 1) 2 4) x }).cmdEnd i c
        (.ok [])))) ∧
  (∀ (s u : State) (i : OpInfo) (c : Cmd) (n : Nat) (x : FoxFlow), i = { op := 0x0C02, lens := lenIs 32, states := stRA, change := true, j := true, m := true } →
    s.Takes i c → u = s.cmdBegin c → n = bits (c.p 0) 0 5 → bits (c.p 0) 5 27 = 0 → n < 24 → u.foxMay n c.job = true →
    x = { en := bit (c.p 1) 6, ports := bits (c.p 2) 0 8, any := bit (c.p 2) 8, sid := bits (c.p 2) 9 9, payEn := bit (c.p 2) 18, protoEn := bit (c.p 2) 19, hist := bits (c.p 2) 20 3, histEn := bit (c.p 2) 23, job := bits (c.p 3) 0 12 } →
    bits (c.p 1) 0 2 = 1 → bits (c.p 1) 7 25 = 0 → bits (c.p 2) 24 8 = 0 → bits (c.p 3) 12 20 = 0 → (u.foxUnit n).running = false →
    (x.protoEn = true → u.instrument = true) → (c.job ≠ 0 → x.job = c.job ∧ u.foxPortsIn n c.job = true) →
    exec (.foxCfgChecker c) s = .next (settle s (((u.foxClaim n c.job).setFlowK n (bits (c.p 1) 2 4) x).cmdEnd i c (.ok [])))) ∧
  (∀ (s u : State) (i : OpInfo) (c : Cmd) (n : Nat) (v : State), i = { op := 0x0C02, lens := lenIs 24, states := stRA, change := true, j := true, m := true } →
    s.Takes i c → u = s.cmdBegin c → n = bits (c.p 0) 0 5 → bits (c.p 0) 5 27 = 0 → n < 24 → u.foxMay n c.job = true → c.p 1 = 2 →
    (u.foxUnit n).running = false → v = u.foxClaim n c.job →
    exec (.foxCfgClear c) s = .next (settle s (((v.setFox n { v.foxUnit n with streams := [], flows := [] }).foxClear64 n).cmdEnd i c (.ok [])))) ∧
  (∀ (s u : State) (i : OpInfo) (c : Cmd) (n : Nat), i = { op := 0x0C03, lens := lenIs 28, states := stRA, change := true, j := true, m := true } →
    s.Takes i c → u = s.cmdBegin c → n = bits (c.p 0) 0 5 → bits (c.p 0) 5 27 = 0 → n < 24 → u.foxMay n c.job = true → c.p64 1 ≤ u.now →
    exec (.foxStart c) s = .next (settle s ((u.foxBegin n).cmdEnd i c (.ok [])))) ∧
  (∀ (s u : State) (i : OpInfo) (c : Cmd) (n : Nat), i = { op := 0x0C03, lens := lenIs 28, states := stRA, change := true, j := true, m := true } →
    s.Takes i c → u = s.cmdBegin c → n = bits (c.p 0) 0 5 → bits (c.p 0) 5 27 = 0 → n < 24 → u.foxMay n c.job = true → u.now < c.p64 1 →
    exec (.foxStart c) s = .next (settle s ((u.setFox n { u.foxUnit n with start := some (c.p64 1) }).cmdEnd i c (.ok [])))) ∧
  (∀ (s u : State) (i : OpInfo) (c : Cmd) (n : Nat), i = { op := 0x0C04, lens := lenIs 20, states := stRA, j := true, m := true } →
    s.Takes i c → u = s.cmdBegin c → n = bits (c.p 0) 0 5 → bits (c.p 0) 5 27 = 0 → n < 24 → u.foxMay n c.job = true →
    exec (.foxStop c) s = .next (settle s ((u.foxHalt n).cmdEnd i c (.ok [])))) ∧
  (∀ (s u : State) (i : OpInfo) (c : Cmd) (n : Nat), i = { op := 0x0C05, lens := lenIs 20, states := stRA, j := true, m := true } →
    s.Takes i c → u = s.cmdBegin c → n = bits (c.p 0) 0 5 → bits (c.p 0) 5 27 = 0 → n < 24 → u.foxMay n c.job = true →
    exec (.foxRead c) s = .next (settle s ((u).cmdEnd i c { block := (List.range 768).flatMap (fun k => leBytes 4 (u.foxWord n (0x400 + 4 * k))) })))

/-- The golden end point is configured and injections are armed, one a port. GOLDEN_SET with EN 0 ends the session; with EN 1 it claims a context
number and blocks and retrains the ports it emulates, the DUT context's class and window being free values (log 29); INJECT arms one kind on a port
where none is armed and else is RESOURCE_BUSY; DISARM ends it; an injection whose codewords or time are spent ends (R399, R532, R535, R537, R538). -/
def Obligations.GoldenAndInjectionCommands : Prop :=
  (∀ (s u : State) (i : OpInfo) (c : Cmd) (n : Nat) (ports : List Nat), i = { op := 0x0C06, lens := lenIs (64 + 8 * bits (c.p 11) 0 5), states := stRA, m := true, perm := fun s => s.instrument } →
    s.Takes i c → u = s.cmdBegin c → bit (c.p 0) 22 = false → n = bits (c.p 11) 0 5 → (u.goldenChecks c).all (·.2) = true →
    ports = (List.range n).map (fun e => bits (c.p (12 + 2 * e)) 0 8) → (∀ p ∈ ports, (u.pl.paired = false ∨ p ∉ pairPorts) ∧ u.flowsOn p = []) →
    exec (.goldenSet c) s = .next (settle s ((u.goldenEnd).cmdEnd i c (.ok [])))) ∧
  (∀ (s u : State) (i : OpInfo) (c : Cmd) (n d k b : Nat) (ports : List Nat) (v w : State) (g : GoldenSt) (ms : List Member), i = { op := 0x0C06, lens := lenIs (64 + 8 * bits (c.p 11) 0 5), states := stRA, m := true, perm := fun s => s.instrument } →
    s.Takes i c → u = s.cmdBegin c → bit (c.p 0) 22 = true → n = bits (c.p 11) 0 5 → (u.goldenChecks c).all (·.2) = true →
    ports = (List.range n).map (fun e => bits (c.p (12 + 2 * e)) 0 8) → (∀ p ∈ ports, (u.pl.paired = false ∨ p ∉ pairPorts) ∧ u.flowsOn p = []) →
    v = u.goldenEnd → g = { en := true, words := (List.range 12).map c.p, startAt := v.now, tc := 1 + v.free % 2, win := 1 + v.used.free % 64 } →
    d = denOf (ports.getD 0 0) → v.ctxPick 0 = some k → b = (if Tbl.get 0 v.mem.p1Backing d = 0 then 16384 else Tbl.get 0 v.mem.p1Backing d) →
    v.claimed d + 16 * g.ctx.blocks ≤ b →
    (w, ms) = (List.range n).foldl (fun (a : State × List Member) e => (a.1.used, a.2 ++ [goldMember c e a.1.free])) (v.used.used, []) →
    exec (.goldenSet c) s = .next (settle s ((
      ports.foldl (fun s p => s.retrainPort p) ((ports.foldl (fun s p => s.outOfService p) w).setGold
        { g with members := ms, claim := 16 * g.ctx.blocks, claimDen := d, ctxNo := k + 1 })).cmdEnd i c
        (.ok [])))) ∧
  (∀ (s u : State) (i : OpInfo) (c : Cmd), i = { op := 0x0C07, lens := fun l => 20 ≤ l && l ≤ 64 && l % 4 == 0, states := stRA, m := true, perm := fun s => s.instrument } →
    s.Takes i c → u = s.cmdBegin c → bits (c.p 0) 8 24 = 0 → u.portThere (cmdPort c) = true →
    exec (.injectDisarm c) s = .next (settle s ((u.injEnd (cmdPort c)).cmdEnd i c (.ok [])))) ∧
  (∀ (s u : State) (i : OpInfo) (c : Cmd) (v : State), i = { op := 0x0C07, lens := fun l => 28 ≤ l && l ≤ 64 && l % 4 == 0, states := stRA, m := true, perm := fun s => s.instrument } →
    s.Takes i c → u = s.cmdBegin c → bits (c.p 0) 8 8 = 1 → bits (c.p 0) 16 16 = 0 → u.portThere (cmdPort c) = true → (u.inj (cmdPort c)).kind = 0 →
    1 ≤ bits (c.p 1) 8 6 → bits (c.p 1) 8 6 ≤ 48 → bits (c.p 1) 14 18 = 0 → c.p 2 ≠ 0 →
    v = u.setInj (cmdPort c) { mask := bits (c.p 1) 0 8, symbols := bits (c.p 1) 8 6, count := c.p 2, kind := 1, delayed := (u.inj (cmdPort c)).delayed } →
    exec (.injectSymbol c) s = .next (settle s ((v).cmdEnd i c (.ok [])))) ∧
  (∀ (s u : State) (i : OpInfo) (c : Cmd) (v : State), i = { op := 0x0C07, lens := fun l => 28 ≤ l && l ≤ 64 && l % 4 == 0, states := stRA, m := true, perm := fun s => s.instrument } →
    s.Takes i c → u = s.cmdBegin c → bits (c.p 0) 8 8 = 2 → bits (c.p 0) 16 16 = 0 → u.portThere (cmdPort c) = true → (u.inj (cmdPort c)).kind = 0 →
    bits (c.p 1) 8 24 = 0 → 1 ≤ c.p 2 → c.p 2 ≤ 65535 →
    v = (u.setInj (cmdPort c) { mask := bits (c.p 1) 0 8, count := c.p 2, kind := 2, delayed := (u.inj (cmdPort c)).delayed }).bump (injReg (cmdPort c) 4) →
    exec (.injectSync c) s = .next (settle s ((v).cmdEnd i c (.ok [])))) ∧
  (∀ (s u : State) (i : OpInfo) (c : Cmd) (v : State), i = { op := 0x0C07, lens := fun l => 28 ≤ l && l ≤ 64 && l % 4 == 0, states := stRA, m := true, perm := fun s => s.instrument } →
    s.Takes i c → u = s.cmdBegin c → bits (c.p 0) 8 8 = 3 → bits (c.p 0) 16 16 = 0 → u.portThere (cmdPort c) = true → (u.inj (cmdPort c)).kind = 0 →
    bits (c.p 1) 20 12 = 0 → c.p 2 ≠ 0 → v = u.setInj (cmdPort c) { injMatch c with kind := 3, delayed := (u.inj (cmdPort c)).delayed } →
    exec (.injectTrailer c) s = .next (settle s ((v).cmdEnd i c (.ok [])))) ∧
  (∀ (s u : State) (i : OpInfo) (c : Cmd) (v : State), i = { op := 0x0C07, lens := fun l => 28 ≤ l && l ≤ 64 && l % 4 == 0, states := stRA, m := true, perm := fun s => s.instrument } →
    s.Takes i c → u = s.cmdBegin c → bits (c.p 0) 8 8 = 4 → bits (c.p 0) 16 16 = 0 → u.portThere (cmdPort c) = true → (u.inj (cmdPort c)).kind = 0 →
    bits (c.p 1) 20 12 = 0 → c.p 2 ≠ 0 → v = u.setInj (cmdPort c) { injMatch c with kind := 4, delayed := (u.inj (cmdPort c)).delayed } →
    exec (.injectDrop c) s = .next (settle s ((v).cmdEnd i c (.ok [])))) ∧
  (∀ (s u : State) (i : OpInfo) (c : Cmd) (v : State), i = { op := 0x0C07, lens := fun l => 28 ≤ l && l ≤ 64 && l % 4 == 0, states := stRA, m := true, perm := fun s => s.instrument } →
    s.Takes i c → u = s.cmdBegin c → bits (c.p 0) 8 8 = 5 → bits (c.p 0) 16 16 = 0 → u.portThere (cmdPort c) = true → (u.inj (cmdPort c)).kind = 0 →
    bits (c.p 1) 20 12 = 0 → c.p 2 ≠ 0 → v = u.setInj (cmdPort c) { injMatch c with kind := 5, delayed := (u.inj (cmdPort c)).delayed } →
    exec (.injectDuplicate c) s = .next (settle s ((v).cmdEnd i c (.ok [])))) ∧
  (∀ (s u : State) (i : OpInfo) (c : Cmd) (v : State), i = { op := 0x0C07, lens := fun l => 32 ≤ l && l ≤ 64 && l % 4 == 0, states := stRA, m := true, perm := fun s => s.instrument } →
    s.Takes i c → u = s.cmdBegin c → bits (c.p 0) 8 8 = 6 → bits (c.p 0) 16 16 = 0 → u.portThere (cmdPort c) = true → (u.inj (cmdPort c)).kind = 0 →
    bits (c.p 1) 20 12 = 0 → c.p 2 ≠ 0 → 1 ≤ c.p 3 → c.p 3 ≤ 1000000 →
    v = u.setInj (cmdPort c) { injMatch c with delayNs := c.p 3, kind := 6, delayed := (u.inj (cmdPort c)).delayed } →
    exec (.injectDelay c) s = .next (settle s ((v).cmdEnd i c (.ok [])))) ∧
  (∀ (s u : State) (i : OpInfo) (c : Cmd) (v : State), i = { op := 0x0C07, lens := fun l => 28 ≤ l && l ≤ 64 && l % 4 == 0, states := stRA, m := true, perm := fun s => s.instrument } →
    s.Takes i c → u = s.cmdBegin c → bits (c.p 0) 8 8 = 7 → bits (c.p 0) 16 16 = 0 → u.portThere (cmdPort c) = true → (u.inj (cmdPort c)).kind = 0 →
    bits (c.p 1) 8 24 = 0 → c.p 2 ≠ 0 →
    v = (u.setInj (cmdPort c) { mask := bits (c.p 1) 0 8, count := c.p 2, kind := 7, delayed := (u.inj (cmdPort c)).delayed }).bump (injReg (cmdPort c) 4) →
    exec (.injectXoff c) s = .next (settle s ((
      if (v.port (cmdPort c)).st = .active then v.emit (.lm (cmdPort c) 0x01 (v.fcMask (cmdPort c))) else v).cmdEnd i c
        (.ok [])))) ∧
  (∀ (s u : State) (i : OpInfo) (c : Cmd) (v : State), i = { op := 0x0C07, lens := fun l => 28 ≤ l && l ≤ 64 && l % 4 == 0, states := stRA, m := true, perm := fun s => s.instrument } →
    s.Takes i c → u = s.cmdBegin c → bits (c.p 0) 8 8 = 8 → bits (c.p 0) 16 16 = 0 → u.portThere (cmdPort c) = true → (u.inj (cmdPort c)).kind = 0 →
    c.p 1 = 0 → c.p 2 ≠ 0 →
    v = (u.setInj (cmdPort c) { count := c.p 2, kind := 8, delayed := (u.inj (cmdPort c)).delayed }).bump (injReg (cmdPort c) 4) →
    exec (.injectSilence c) s = .next (settle s ((v).cmdEnd i c (.ok [])))) ∧
  (∀ (s u : State) (i : OpInfo) (c : Cmd), i = { op := 0x0C07, lens := fun l => 28 ≤ l && l ≤ 64 && l % 4 == 0, states := stRA, m := true, perm := fun s => s.instrument } →
    s.Takes i c → u = s.cmdBegin c → bits (c.p 0) 8 8 = 4 → bits (c.p 0) 16 16 = 0 → u.portThere (cmdPort c) = true → (u.inj (cmdPort c)).kind ≠ 0 →
    bits (c.p 1) 20 12 = 0 → c.p 2 ≠ 0 →
    exec (.injectDrop c) s = .next (settle s ((u).cmdEnd i c (.no 0x21)))) ∧
  (∀ (s : State) (p : Nat), p < 192 → (s.inj p).kind = 1 →
    exec (.injectionExpiry p) s = .next (settle s ((s.bumpBy (injReg p 4) (s.inj p).count).injEnd p))) ∧
  (∀ (s : State) (p : Nat), p < 192 → (s.inj p).kind = 2 ∨ (s.inj p).kind = 7 ∨ (s.inj p).kind = 8 →
    exec (.injectionExpiry p) s = .next (settle s (s.injEnd p)))

/-- Fault registers by write, the hold-off, the watchdogs and the black box. A write to FSW, FORCE and HALT is the register write at its offset, the
one to FSW clearing bits as R443 has it; the hold-off ends, and with records waiting signals and begins again, which is the model's reading of R456; a
watchdog that expires is an event of its source; the snapshot is captured once, and the reset follows the write to the other bank (R441, R443, R444,
R448, R456, R459, R460). -/
def Obligations.FaultRegisterRows : Prop :=
  (∀ (s : State) (w m : Nat), w ≤ 4 →
    exec (.fswClear w m) s = .next (settle s (s.bar0Write (faultReg w 0) 8 m))) ∧
  (∀ (s : State) (w m : Nat), w ≤ 4 →
    exec (.forceWrite w m) s = .next (settle s (s.bar0Write (faultReg w 0x10) 8 m))) ∧
  (∀ (s : State) (w m : Nat), w < 128 →
    exec (.haltRelease w m) s = .next (settle s (s.bar0Write (baseFault + 0x2100 + 4 * w) 4 m))) ∧
  (∀ (s : State), s.faults.holdoff = true → s.faults.irqWait = true → s.fld (baseFault + 0x2004) 0 1 = 1 →
    exec (.irqHoldoffExpiry) s = .next (settle s (({ s.signal (s.fld (baseFault + 0x2004) 1 6) with faults := { s.faults with irqWait := false } } : State)))) ∧
  (∀ (s : State), s.faults.holdoff = true → s.faults.irqWait = false →
    exec (.irqHoldoffExpiry) s = .next (settle s ({ s with faults := { s.faults with holdoff := false, irqWait := false } }))) ∧
  (∀ (s : State),
    exec (.keeperWdog) s = .next (settle s (s.event { word := 4, source := mKeeperWdog }))) ∧
  (∀ (s : State),
    exec (.owlWatchdogExpiry) s = .next (settle s (s.event { word := 4, source := mOwlErr }))) ∧
  (∀ (s : State), s.box.stage = .waitCapture →
    exec (.snapshotCapture) s = .next (settle s ({ s with box := { s.box with stage := .writing, snap := s.snapshotWords } }))) ∧
  (∀ (s : State) (b : Bool) (v : State), s.box.stage = .writing → s.power.pinLow = false → s.box.pfWarn = false → b = true →
    v = { s with box := { s.box with stage := .idle, oldRecords := s.box.records, oldSnapshot := s.box.snapshot, records := s.box.owl, snapshot := s.box.snap, valid := true, unread := true, bank := if s.box.valid then 1 - s.box.bank else s.box.bank, seq := (s.box.seq + 1) % 2 ^ 16 } } →
    exec (.blackboxWriteComplete) s = .next (settle s (v.moduleReset 2 s.box.reason b))) ∧
  (∀ (s : State) (w m : Nat), w ≤ 4 → m < 2 ^ 64 → s.host.linkUp = true → s.served (faultReg w 0) = true →
    exec (.fswClear w m) s = .next (settle s ((s.setHost { s.host with highHeld := none }).fswClear w m)))

/-- Start condition, readings, capping, temperature, voltage, phases and the reference. The Start condition lets a held start-up begin; PF_WARN_N
asserts and its event comes; a reading within the limits is kept and averaged, loads and the 12 V rail being free values (log 7, log 25); the capping
loop lowers or gives back one step, and marks the cap unmet where nothing can be lowered; a hot den takes a step and a cool one gives one back; AVS
raises points to at most 40 mV; a step completes; a phase that fails is stopped; a rail that leaves regulation begins its condition; a lost reference
unlocks lanes (R480, R481, R484, R486, R487, R489, R492, R494). -/
def Obligations.PowerRows : Prop :=
  (∀ (s : State), s.dev ≠ .off → s.power.waitStart = true → s.power.pfWarn = false →
    exec (.startCondition) s = .next (settle s (({ s with
        power := { s.power with
          waitStart := false, locked := false, pfWarn := false, inReset := s.power.pinLow, phase := if s.power.pinLow then 0 else 1, startAt := s.clk } } : State)))) ∧
  (∀ (s : State), s.dev ≠ .off → s.power.pfWarn = false → s.power.inReset = false →
    exec (.pfWarn) s = .next (settle s ((({ s with power := { s.power with pfWarn := true } } : State).emit (.pin 2 false)).event { word := 4, source := mPfWarn }))) ∧
  (∀ (s : State) (mv ma temp : Nat) (l : List Nat) (v : State), s.dev ≠ .off → 35000 ≤ mv → mv ≤ 60000 →
    l = (mv * ma / 1000 :: s.power.samples).take 100 →
    v = { s with power := { s.power with vin := mv, iin := ma, stage1 := temp, samples := l, pin := l.foldl (· + ·) 0 / (1000 * max 1 l.length), pload := s.free % 4096, v12 := s.used.free % 65536 } } →
    exec (.powerSample mv ma temp) s = .next (settle s (v.used.used.condEnd 4 mInputFault 0))) ∧
  (∀ (s : State) (watts e : Nat), s.power.pstate < 2 → 2 ≤ s.dev.code → s.power.cap < watts → s.lowerable (stepsOf s.power.capSteps) = some e →
    exec (.cappingLoop watts) s = .next (settle s (({ s with power := { s.power with capSteps := e :: s.power.capSteps, lowLoops := 0, unmet := false } } : State).retarget))) ∧
  (∀ (s : State) (watts : Nat), s.power.pstate < 2 → 2 ≤ s.dev.code → watts ≤ s.power.cap → 100 * watts < 97 * s.power.cap →
    20 ≤ s.power.lowLoops + 1 →
    exec (.cappingLoop watts) s = .next (settle s (({ s with power := { s.power with capSteps := s.power.capSteps.drop 1, lowLoops := 0, unmet := false } } : State).retarget))) ∧
  (∀ (s : State) (watts : Nat), s.power.pstate < 2 → 2 ≤ s.dev.code → s.power.cap < watts → s.lowerable (stepsOf s.power.capSteps) = none →
    exec (.cappingLoop watts) s = .next (settle s ({ s with power := { s.power with lowLoops := 0, unmet := true } }))) ∧
  (∀ (s : State) (d t e : Nat) (v : State), d < 4 → 2 ≤ s.dev.code → 100 ≤ t → v = s.junction d t → v.lowerable (stepsOf (v.thermalOf d)) = some e →
    exec (.denThermalLoop d t) s = .next (settle s (({ v with power := { v.power with thermal := Tbl.put [] v.power.thermal d (e :: v.thermalOf d) } } : State).retarget))) ∧
  (∀ (s : State) (d t : Nat) (v : State), d < 4 → 2 ≤ s.dev.code → t < 97 → v = s.junction d t → v.power.skew.contains d = false →
    v.thermalOf d ≠ [] →
    exec (.denThermalLoop d t) s = .next (settle s (({ v with power := { v.power with thermal := Tbl.put [] v.power.thermal d ((v.thermalOf d).drop 1) } } : State).retarget))) ∧
  (∀ (s : State) (l : List Nat),
    exec (.avsAdjust l) s = .next (settle s (l.foldl (fun s k => if k < 195 && (s.island k).avs < 4 then s.setIsland k { s.island k with avs := (s.island k).avs + 1 } else s) s))) ∧
  (∀ (s : State) (k : Nat), k < 195 → (s.island k).mhz ≠ (s.island k).target →
    exec (.islandStepComplete k) s = .next (settle s (s.setIsland k { s.island k with mhz := (s.island k).target }))) ∧
  (∀ (s : State) (p : Nat), p < 96 → p ∉ s.power.stopped →
    exec (.phaseFault p) s = .next (settle s ((s.event { word := p / 24, source := fPhase, unit := p, kind := .phase }).stopPhase p))) ∧
  (∀ (s : State) (d : Nat), d < 4 →
    exec (.railFault d) s = .next (settle s (s.condBegin { word := d, source := fRail }))) ∧
  (∀ (s : State) (v : State), s.power.refLost = false → v = { s with power := { s.power with refLost := true } } →
    exec (.refLost) s = .next (settle s ((List.range 192).foldl (fun s p => (List.range (2 ^ (s.port p).width)).foldl (fun s k =>
      if (s.lane (4 * p + k)).lock = .locked then
        (s.setLane (4 * p + k) { s.lane (4 * p + k) with lock := .hunt, win := [], good := 0, soaking := false }).laneLost p k
      else s) s) v))) ∧
  (∀ (s : State),
    exec (.refRelock) s = .next (settle s ({ s with power := { s.power with refLost := false } })))

/-- DROWSE and HIBERNATE are entered and left, cores power on, temperatures come in. The end of the forwarding window discards what remains, flushes
and reaches DROWSE; HIBERNATE is reached with ports disabled, the host link down and islands off; a wake request starts a wake from HIBERNATE, and
waits during an entry; a wake ends in RUN or is a reset where a check fails; a gated core powers on for its command; a den's temperatures set the skew
and the conditions; DROWSE is reversed (R490, R494 to R500). -/
def Obligations.PowerStateRows : Prop :=
  (∀ (s : State) (u v w : State), s.power.busy = true → s.power.target = 2 →
    u = ((s.sw.held.map (·.id)).foldl (fun s k => s.residenceOut k) s).flushWhere (fun _ => true) → u.power.target = 2 →
    v = ({ u with power := { u.power with pstate := 2 } } : State).retarget.stopClocks true → w = v.powerReached 2 → w.power.wakeReq = false →
    exec (.drowseDrainTimeout) s = .next (settle s (w))) ∧
  (∀ (s : State), (s.power.busy = false ∨ s.power.target < 2) →
    exec (.drowseDrainTimeout) s = .next (settle s (s))) ∧
  (∀ (s : State) (u v : State), s.power.busy = true → s.power.target = 3 → s.power.owner = none →
    u = (List.range 192).foldl (fun s p => if (s.port p).st = .disabled then s else (s.outOfService p).setPort p { (s.outOfService p).port p with st := .disabled }) s →
    v = { u with host := { u.host with linkUp := false, rate := 0, width := 0, flit := false, l0p := false } } →
    ((List.range 195).foldl (fun s k => if k = 193 then s else s.setIsland k { s.island k with gated := true, mhz := 0 }) ({ v with lanes := [], power := { v.power with pstate := 3, busy := false, hibMeas := v.fwMeasured true } } : State)).power.wakeReq = false →
    exec (.hibernateEntryComplete) s = .next (settle s ((List.range 195).foldl (fun s k => if k = 193 then s else s.setIsland k { s.island k with gated := true, mhz := 0 })
      ({ v with lanes := [], power := { v.power with pstate := 3, busy := false, hibMeas := v.fwMeasured true } } : State)))) ∧
  (∀ (s : State), s.power.pstate = 3 → s.power.busy = false →
    exec (.wakeN) s = .next (settle s ({ s with power := { s.power with busy := true, target := 0 } }))) ∧
  (∀ (s : State), s.power.busy = true → 2 ≤ s.power.target →
    exec (.wakeN) s = .next (settle s ({ s with power := { s.power with wakeReq := true } }))) ∧
  (∀ (s : State), s.power.pstate = 3 → s.power.busy = false →
    exec (.i3cWakeRequest) s = .next (settle s ({ s with power := { s.power with busy := true, target := 0 } }))) ∧
  (∀ (s : State), s.power.busy = true → 2 ≤ s.power.target →
    exec (.i3cWakeRequest) s = .next (settle s ({ s with power := { s.power with wakeReq := true } }))) ∧
  (∀ (s : State), s.power.busy = true → s.power.pstate = 3 → s.power.hibMeas = s.fwMeasured true →
    exec (.wakeComplete true) s = .next (settle s (s.hibernateWoken))) ∧
  (∀ (s : State), s.power.busy = true → s.power.pstate = 3 →
    exec (.wakeComplete false) s = .next (settle s (s.moduleReset 5 none false))) ∧
  (∀ (s : State) (k : Nat) (v : State), k < 128 → (s.core k).gated = true → (s.core k).binding ≠ 0 → s.power.busy = false →
    v = (s.corePowered k).setIsland k { (s.corePowered k).island k with gated := false } → v.power.busy = false →
    exec (.corePowerOnComplete k) s = .next (settle s (v.setCore k { v.core k with gated := false }))) ∧
  (∀ (s : State) (d t : Nat) (isl : List (Nat × Nat)) (u : State), d < 4 →
    u = isl.foldl (fun s x => if x.1 < 160 && islandDen x.1 = d then s.setIsland x.1 { s.island x.1 with temp := x.2 } else s) s →
    exec (.denJunctionTemperature d t isl) s = .next (settle s (({ u with power := { u.power with skew := if u.skewed d then d :: u.power.skew.filter (· != d) else u.power.skew.filter (· != d) } } : State).junction d t))) ∧
  (∀ (s : State) (u v : State), s.power.busy = true → s.power.pstate = 2 → s.power.target = 0 →
    u = ((({ s with power := { s.power with pstate := 0 } } : State).stopClocks false).retarget) → v = u.setAccept (u.dev.code ≥ 4 && u.pair.st != 4) →
    exec (.drowseWakeComplete) s = .next (settle s (((List.range 128).foldl (fun s k => if (s.core k).gated && !(s.core k).fenced then s.setCore k { s.core k with gated := false } else s) v).powerReached 0)))

/-- Resets, start-up and the EPOCH boundary run to their states. RESET_N low resets and holds the module, high lets start-up begin; the boot chain of
a slot releases Keeper into WIPE where its key and counter allow it; a channel trains, or is fenced; after WIPE the module is in CONFIG; the boot
record is loaded; a pulse moves rack time and applies what is pending for its boundary; the registers of the EPOCH clock are written (R48, R55, R409,
R466, R505 to R512, R548, R569). -/
def Obligations.ResetAndEpochRows : Prop :=
  (∀ (s : State) (v w : State), s.power.pinLow = false → s.box.stage = .idle → s.dev ≠ .off →
    v = { s with power := { s.power with pinLow := true } } → w = v.moduleReset 3 none false →
    exec (.pinResetAssert) s = .next (settle s ({ w with power := { w.power with inReset := true, phase := 0 } }))) ∧
  (∀ (s : State), s.power.pinLow = true → s.power.inReset = true → s.power.waitStart = false →
    exec (.pinResetRelease) s = .next (settle s ({ s with power := { s.power with pinLow := false, inReset := false, phase := 1, startAt := s.clk } }))) ∧
  (∀ (s : State),
    exec (.pcieLinkDown) s = .next (settle s (s.linkDownPcie))) ∧
  (∀ (s : State),
    exec (.endpointReset) s = .next (settle s (s.endpointReset))) ∧
  (∀ (s : State) (slot key ctr : Nat) (v : State), s.dev = .boot → s.power.phase ≠ 0 → s.power.inReset = false → s.power.waitStart = false →
    slot ≤ 1 → key ≤ 3 → s.sec.revoke.testBit key = false → s.sec.ctr0 ≤ ctr →
    v = { s with
        dev := .wipe, fwRelease := s.releaseOf slot true,
        sec := { s.sec with slot := slot, key := key, fwCtr := ctr, fallback := slot == 1 && s.sec.armed != some 1, armed := none, keeperUp := true, owlRelease := s.releaseOf slot false },
        cfg := { s.cfg with pools := if s.cfg.bootBase = 0 then [] else poolsRec (Tbl.get [] s.cfg.flash s.cfg.bootBase) },
        power := { s.power with phase := 4, wipeAt := s.clk, tKeeper := s.msSince s.power.startAt, prog := 0 } } →
    exec (.bootChainVerified slot key ctr) s = .next (settle s (v.startIslands.copyMeasures))) ∧
  (∀ (s : State) (slot key ctr : Nat), (s.sec.revoke.testBit key = true ∨ ctr < s.sec.ctr0) →
    exec (.bootChainVerified slot key ctr) s = .next (settle s (s))) ∧
  (∀ (s : State) (slow : Bool) (ch : Nat), s.dev = .wipe → s.chanExists slow ch = true →
    exec (.channelTrainingComplete slow ch true) s = .next (settle s (s.setChan slow ch { s.chan slow ch with st := 0 }))) ∧
  (∀ (s : State) (slow : Bool) (ch d k : Nat) (v : State), s.dev = .wipe → s.chanExists slow ch = true → d = ch / s.tierChans slow →
    k = ch % s.tierChans slow → (s.tier d slow).fenced.testBit k = false → v = s.setChan slow ch { s.chan slow ch with st := 4 } →
    exec (.channelTrainingComplete slow ch false) s = .next (settle s ((v.setTier d slow { s.tier d slow with fenced := (s.tier d slow).fenced + 2 ^ k }).condBegin
      { word := d, source := fChannelFenced, unit := ch, kind := if slow then .slowCh else .fastCh }))) ∧
  (∀ (s : State) (l : List (Nat × Nat × Nat)) (v : State), s.dev = .wipe →
    v = ([0, 1, 2, 3].foldl (fun s d => (s.chooseSet d false).chooseSet d true) (s.startTests l).startRepairs).layAreas →
    exec (.wipeComplete l) s = .next (settle s (({ v with
        dev := .config, mem := { v.mem with unclean := [0, 1, 2, 3].flatMap (fun d => (List.range (v.physFrames d true)).map (fun f => (d, f))) },
        power := { v.power with phase := 5, prog := 1000, tWipe := v.msSince v.power.wipeAt } } : State)))) ∧
  (∀ (s : State) (ok : Bool),
    exec (.bootRecordBaseLoad ok) s = .next (settle s (s.bootBaseLoad ok))) ∧
  (∀ (s : State), s.dev ≠ .off → s.power.inReset = false → s.power.pstate ≠ 3 →
    exec (.epochPulse) s = .next (settle s (s.pulseClock.boundary (s.pulseClock.domainAt s.pulseClock.time.lastPs)))) ∧
  (∀ (s : State),
    exec (.epochMissing) s = .next (settle s (s.epochMissing))) ∧
  (∀ (s : State) (v : Nat),
    exec (.epochLoadWrite v) s = .next (settle s (s.bar0Write (baseTime + 0x18) 8 v))) ∧
  (∀ (s : State) (v : Nat),
    exec (.epochPeriodWrite v) s = .next (settle s (s.bar0Write (baseTime + 0x10) 4 v))) ∧
  (∀ (s : State) (d : Nat), d < 4 →
    exec (.dirStatTimeout d) s = .next (settle s (s.dirStale d)))

/-- Heartbeats, loss of contact, arbitration and formation of a mirrored pair. Every 2 µs a member of a pair sends a heartbeat on its active mirror
ports and counts a period without one; a heartbeat renews contact; at loss of contact the event comes, and a member without active down ports fences
itself; at the test a member takes over where every report shows the partner gone, else member 1 fences itself and member 0 waits; reports are kept;
formation ends in PAIRED or REFUSED with the first check that fails; a copy that ends waits for a boundary (R420, R421, R430 to R432, R435). -/
def Obligations.PairRows : Prop :=
  (∀ (s : State), s.pl.paired = false →
    exec (.heartbeatTimer) s = .next (settle s (s))) ∧
  (∀ (s : State) (u v : State) (t : Nat), s.pl.paired = true → s.pair.lastHb = some t →
    u = (if t + 2 * us < s.clk then s.bump (basePair + 0x28) else s) → v = { u with pair := { u.pair with hbSeq := (u.pair.hbSeq + 1) % 2 ^ 32 } } →
    exec (.heartbeatTimer) s = .next (settle s (v.mirrorUp.foldl (fun s p => s.sendMgmt p (s.port p).ver (8192 + s.pl.partner) s.heartbeatBytes) v))) ∧
  (∀ (s : State) (p b : Nat) (pkt : Pkt) (u : State), p ∈ pairPorts → s.pl.paired = true → pkt.hdr.type = 0x30 → bits (leWord pkt.payload 0) 0 8 = 3 →
    (p, pkt) ∈ s.sw.delivered → u = s.taken p pkt → b = bits (leWord pkt.payload 0) 8 3 → u.pair.st ≠ 1 →
    exec (.heartbeatReceived p pkt) s = .next (settle s ({ u with pair := { u.pair with lastHb := some u.clk, lostAt := none, partnerSt := b } }))) ∧
  (∀ (s : State) (u : State), s.pair.st = 2 → s.pair.lostAt = none →
    u = (({ s with pair := { s.pair with lostAt := some s.clk, lastHb := none } } : State).bump (basePair + 0x2C)).event { word := 4, source := mPairLost } →
    u.pair.st = 2 → u.downUp ≠ [] →
    exec (.lossOfContact) s = .next (settle s (u))) ∧
  (∀ (s : State) (u : State), s.pair.st = 2 → s.pair.lostAt = none →
    u = (({ s with pair := { s.pair with lostAt := some s.clk, lastHb := none } } : State).bump (basePair + 0x2C)).event { word := 4, source := mPairLost } →
    u.pair.st = 2 → u.downUp = [] →
    exec (.lossOfContact) s = .next (settle s (u.selfFence))) ∧
  (∀ (s : State), s.pair.st = 2 → s.pair.lostAt ≠ none → s.reports ≠ [] → (∀ b ∈ s.reports, b = false) →
    exec (.arbitrationTest) s = .next (settle s (s.takeOver))) ∧
  (∀ (s : State), s.pair.st = 2 → s.pair.lostAt ≠ none → (s.reports = [] ∨ true ∈ s.reports) → s.pl.member = 1 →
    exec (.arbitrationTest) s = .next (settle s (s.selfFence))) ∧
  (∀ (s : State), s.pair.st = 2 → s.pair.lostAt ≠ none → (s.reports = [] ∨ true ∈ s.reports) → s.pl.member = 0 →
    exec (.arbitrationTest) s = .next (settle s (s))) ∧
  (∀ (s : State) (p : Nat) (pkt : Pkt) (u : State), p < 192 → s.pl.paired = true → (s.useOf p).use = 0 → pkt.hdr.type = 0x30 →
    bits (leWord pkt.payload 0) 0 8 = 4 → (p, pkt) ∈ s.sw.delivered → u = s.taken p pkt →
    exec (.homeStateReceived p pkt) s = .next (settle s ({ u with pair := { u.pair with homes := Tbl.put none u.pair.homes p (some (u.clk, bit (leWord pkt.payload 0) 8)) } }))) ∧
  (∀ (s : State), s.dev = .ready → s.mayPair = true → s.pl.paired = true → s.fld basePair 0 1 = 1 → s.pair.st = 0 →
    exec (.pairAutoForm) s = .next (settle s ({ s with pair := { s.pair with st := 1, eventTime := s.now } }))) ∧
  (∀ (s : State), (s.dev ≠ .ready ∨ s.mayPair = false ∨ s.pl.paired = false ∨ s.fld basePair 0 1 ≠ 1 ∨ s.pair.st ≠ 0) →
    exec (.pairAutoForm) s = .next (settle s (s))) ∧
  (∀ (s : State) (x : PairInfo), s.pair.st = 1 → s.pairReason x = 0 → s.partnerServes = false → s.pair.owner = none →
    exec (.pairFormationComplete x) s = .next (settle s ({ s with pair := { s.pair with st := 2, eventTime := s.now, reason := 0, lostAt := none } }))) ∧
  (∀ (s : State) (x : PairInfo), s.pair.st = 1 → s.pairReason x ≠ 0 →
    exec (.pairFormationComplete x) s = .next (settle s (((((s.pairSet 6).event { word := 4, source := mPairRefused }).pairAnswer (.no 0x20)).setPairReason (s.pairReason x))))) ∧
  (∀ (s : State) (n : Nat), s.pair.st = 5 →
    exec (.resyncCopyComplete n) s = .next (settle s ({ s with pair := { s.pair with unmirrored := n, backPend := true } }))) ∧
  (∀ (s : State) (x : PairInfo), s.mirrorUp ≠ [] → x.index = s.pl.partner → x.plane = s.pl.plane → x.rx = s.pl.rx → x.ry = s.pl.ry → x.member ≠ s.pl.member →
    x.ck2l = s.ck2l → x.line = 2 → x.release = s.fwRelease → x.pools = s.cfg.pools → s.pairReason x = 0)

/-- Host accesses through BAR4 and BAR0, the PCI Express link and configuration space. A BAR4 read of permitted memory completes with its bytes, a
refused one with an error that is counted and recorded; a write is stored, a poisoned or refused one discarded; BAR4_BASE moves the window; a failed
bus-master read ends its command with INTERNAL; a vector unmasked sends what is pending; L0p, link up, link down and configuration space set the host
state; a BAR0 write sets its register, half-writes are held, and illegal and unmapped accesses are counted (R542 to R548, R559 to R565). -/
def Obligations.HostAccessRows : Prop :=
  (∀ (s : State) (w n : Nat), s.bar4Serves = true → n ≠ 0 → s.checkHost (s.bar4Offset w) n = .ok → s.windowCore (s.bar4Offset w) n = none →
    s.ueIn (s.bar4Offset w) n = none →
    exec (.bar4Read w n) s = .next (settle s (s.emit (.completion (s.memRead (s.bar4Offset w) n))))) ∧
  (∀ (s : State) (w n : Nat), s.bar4Serves = true → n ≠ 0 → s.checkHost (s.bar4Offset w) n ≠ .ok →
    exec (.bar4Read w n) s = .next (settle s ((((s.bump (baseCmd + 0x420)).accViol (s.bar4Offset w) 0).emit (.completionErr 1))))) ∧
  (∀ (s : State) (w : Nat) (l : List Byte), s.bar4Serves = true → l ≠ [] → s.checkHost (s.bar4Offset w) l.length = .ok →
    s.windowCore (s.bar4Offset w) l.length = none → s.mirroredAt (s.bar4Offset w) = false →
    exec (.bar4Write w l false) s = .next (settle s (s.memWrite (s.bar4Offset w) l))) ∧
  (∀ (s : State) (w : Nat) (l : List Byte), s.bar4Serves = true → l ≠ [] →
    exec (.bar4Write w l true) s = .next (settle s ((s.bump (baseCmd + 0x424)).event { word := 4, source := mPcieErr }))) ∧
  (∀ (s : State) (w : Nat) (l : List Byte), s.bar4Serves = true → l ≠ [] → s.checkHost (s.bar4Offset w) l.length ≠ .ok →
    exec (.bar4Write w l false) s = .next (settle s ((s.bump (baseCmd + 0x420)).accViol (s.bar4Offset w) 0))) ∧
  (∀ (s : State) (v : Nat) (u : State), s.host.linkUp = true → s.served (baseCmd + 0x400) = true → v < 2 ^ 64 →
    u = s.setHost { s.host with highHeld := none } →
    exec (.bar4BaseWrite v) s = .next (settle s ((u.setReg (baseCmd + 0x400) (bits v 30 18 * 2 ^ 30 % 2 ^ 32)).setReg (baseCmd + 0x404) (bits v 30 18 * 2 ^ 30 / 2 ^ 32)))) ∧
  (∀ (s : State) (id : Nat) (e : Exec), s.execOf id = some e → (e.op = 0x0606 ∨ e.op = 0x0100 ∨ e.op = 0x0101) →
    exec (.busMasterReadTimeout id) s = .next (settle s (s.execDone id (.no 0xFF)))) ∧
  (∀ (s : State) (v : Nat), v ≤ 63 →
    exec (.msixUnmask v) s = .next (settle s ((s.setFld (0x800000 + 16 * v + 12) 0 1 0).sendPending))) ∧
  (∀ (s : State), s.host.linkUp = true → s.host.l0p = false → s.fld (baseCmd + 0x40C) 0 1 ≠ 0 →
    exec (.l0pIdleTimer) s = .next (settle s ((s.setHost { s.host with l0p := true, width := 2 }).emit (.pcie 2)))) ∧
  (∀ (s : State) (rate width : Nat) (flit : Bool), s.host.linkUp = false → s.power.inReset = false → s.dev ≠ .off → s.power.pstate ≠ 3 →
    (rate = 5 ∨ rate = 6) → (width = 4 ∨ width = 8) →
    exec (.pcieLinkUp rate width flit) s = .next (settle s (s.setHost { s.host with linkUp := true, rate := rate, width := width, flit := flit, l0p := false }))) ∧
  (∀ (s : State), s.host.linkUp = true →
    exec (.pcieLinkDown) s = .next (settle s ((s.setHost { s.host with linkUp := false, rate := 0, width := 0, flit := false, l0p := false }).bump (baseCmd + 0x42C)))) ∧
  (∀ (s : State) (bme en fm : Bool) (d mps mrrs : Nat), s.host.linkUp = true → (d = 0 ∨ d = 3) → sizeOk mps 512 = true → sizeOk mrrs 4096 = true →
    exec (.configSpaceWrite bme d en fm mps mrrs) s = .next (settle s ((s.setHost { s.host with bme := bme, dstate := d, msixEn := en, fmask := fm, mps := mps, mrrs := mrrs }).sendPending))) ∧
  (∀ (s : State) (off v : Nat), s.host.linkUp = true → s.served off = true → off % 4 = 0 → legalAccess off 4 = true →
    (s.dropHeld (if 4 ≤ off && wideReg (off - 4) then off - 4 else off)).word off ≠ none → wideReg off = false →
    (off < 4 ∨ wideReg (off - 4) = false) →
    exec (.registerWrite off 4 v) s = .next (settle s ((s.dropHeld (if 4 ≤ off && wideReg (off - 4) then off - 4 else off)).writeWord off (v % 2 ^ 32)))) ∧
  (∀ (s : State) (off n : Nat),
    exec (.rcRead off n) s = .next (settle s (s.bar0Read off n))) ∧
  (∀ (s : State) (off : Nat), wideReg off = true →
    exec (.splitLowRead off) s = .next (settle s (s.bar0Read off 4))) ∧
  (∀ (s : State) (off v : Nat), s.host.linkUp = true → s.served off = true → legalAccess off 4 = true → 4 ≤ off → wideReg (off - 4) = true →
    wideReg off = false →
    exec (.splitHighWrite off v) s = .next (settle s ((s.dropHeld (off - 4)).setHost { (s.dropHeld (off - 4)).host with highHeld := some (off - 4, v % 2 ^ 32) }))) ∧
  (∀ (s : State) (off n : Nat), s.host.linkUp = true →
    exec (.bar0IllegalAccess off n true) s = .next (settle s (s.bump 0x100))) ∧
  (∀ (s : State) (off n : Nat), s.host.linkUp = true →
    exec (.bar0IllegalAccess off n false) s = .next (settle s ((s.bump 0x100).emit (.completionErr 1)))) ∧
  (∀ (s : State) (off : Nat), s.host.linkUp = true → s.served (off / 4 * 4) = true → s.word (off / 4 * 4) = none →
    exec (.unmappedAccess off false) s = .next (settle s (s.unmapped.emit (.completion (leBytes 4 0))))) ∧
  (∀ (s : State) (off : Nat), s.host.linkUp = true → s.served (off / 4 * 4) = true → s.word (off / 4 * 4) = none →
    exec (.unmappedAccess off true) s = .next (settle s ((s.dropHeld (off / 4 * 4)).unmapped)))

/-- The sideband: addresses, sensors, firmware updates and SPDM requests. The I3C address, the endpoint ID and the event receiver are set; a sensor
reading is answered, with 0 where it is not available; a firmware update writes the slot not booted from, and activation arms it where the images
pass; SPDM requests are answered in the order R474 gives, Busy before Keeper runs and as unexpected out of order. The numbers of the answers are the
model's (log 11). -/
def Obligations.ManagementRows : Prop :=
  (∀ (s : State) (a : Nat), s.dev ≠ .off → a < 128 →
    exec (.i3cDynamicAddressAssign a) s = .next (settle s (s.setHost { s.host with dynAddr := some a }))) ∧
  (∀ (s : State) (e : Nat), s.dev ≠ .off → e < 256 →
    exec (.setEndpointId e) s = .next (settle s (s.setHost { s.host with eid := e }))) ∧
  (∀ (s : State) (e : Nat), s.dev ≠ .off → e < 256 →
    exec (.setEventReceiver e) s = .next (settle s (s.setHost { s.host with receiver := some e }))) ∧
  (∀ (s : State) (n d : Nat), s.dev ≠ .off → n ≤ 18 → d ≤ 3 → (s.sensor n d).1 = true →
    exec (.getSensorReading n d) s = .next (settle s (s.emit (.pldm 1 [n, d, 1, (s.sensor n d).2])))) ∧
  (∀ (s : State) (n d : Nat), s.dev ≠ .off → n ≤ 18 → d ≤ 3 → (s.sensor n d).1 = false →
    exec (.getSensorReading n d) s = .next (settle s (s.emit (.pldm 1 [n, d, 0, 0])))) ∧
  (∀ (s : State) (w k : List Byte) (o : Nat), s.dev ≠ .off → s.cfg.pend = none → (∀ e ∈ s.cmd.execs, e.op ≠ 0x0100 ∧ e.op ≠ 0x0101 ∧ e.op ≠ 0x0800) →
    o = s.otherSlot →
    exec (.pldmFirmwareUpdate w k) s = .next (settle s (({ s with sec := { s.sec with fw := (o, w, k) :: s.sec.fw.filter (fun e => e.1 != o), armed := none } } : State).emit (.pldm 3 [o])))) ∧
  (∀ (s : State) (o : Nat) (w k : List Byte), s.dev ≠ .off → o = s.otherSlot → s.sec.fw.find? (fun e => e.1 == o) = some (o, w, k) →
    s.fwImageOk 0 w = true → s.fwImageOk 1 k = true → imgField w 24 4 = imgField k 24 4 →
    exec (.activateFirmware) s = .next (settle s (({ s with sec := { s.sec with armed := some o } } : State).emit (.pldm 5 [o])))) ∧
  (∀ (s : State), s.dev ≠ .off → s.sec.fw = [] →
    exec (.activateFirmware) s = .next (settle s (s.emit (.pldm 4 [])))) ∧
  (∀ (s : State) (p : Nat), p = 0 → s.sec.keeperUp = true → s.power.inReset = false → s.power.pstate ≠ 3 →
    exec (.getVersion p) s = .next (settle s ((s.setPath p { version := true }).emit (.spdm p 291 [0x12])))) ∧
  (∀ (s : State) (p : Nat), p = 0 → s.sec.keeperUp = false →
    exec (.getVersion p) s = .next (settle s (s.emit (.spdm p spdmBusy [])))) ∧
  (∀ (s : State) (p : Nat), p = 0 → s.sec.keeperUp = true → s.power.inReset = false → s.power.pstate ≠ 3 → (s.path p).version = true →
    exec (.getCapabilities p) s = .next (settle s ((s.setPath p { s.path p with caps := true }).emit (.spdm p 292 [])))) ∧
  (∀ (s : State) (p : Nat), p = 0 → s.sec.keeperUp = true → s.power.inReset = false → s.power.pstate ≠ 3 → (s.path p).version = false →
    exec (.getCapabilities p) s = .next (settle s (s.emit (.spdm p spdmUnexpected [])))) ∧
  (∀ (s : State) (p : Nat), p = 0 → s.sec.keeperUp = true → s.power.inReset = false → s.power.pstate ≠ 3 → (s.path p).caps = true →
    exec (.negotiateAlgorithms p) s = .next (settle s ((s.setPath p { s.path p with algs := true }).emit (.spdm p 293 [])))) ∧
  (∀ (s : State) (p : Nat), p = 0 → s.sec.keeperUp = true → s.power.inReset = false → s.power.pstate ≠ 3 → (s.path p).algs = true →
    exec (.getDigests p) s = .next (settle s (s.emit (.spdm p 294 (Config.sha512 (Config.certChain s.sec.slot)))))) ∧
  (∀ (s : State) (p off n : Nat), p = 0 → s.sec.keeperUp = true → s.power.inReset = false → s.power.pstate ≠ 3 → (s.path p).algs = true →
    exec (.getCertificate p off n) s = .next (settle s (s.emit (.spdm p 295 (((Config.certChain s.sec.slot).drop off).take n))))) ∧
  (∀ (s : State) (p : Nat) (nonce body : List Byte), p = 0 → s.sec.keeperUp = true → s.power.inReset = false → s.power.pstate ≠ 3 →
    (s.path p).algs = true → body = nonce ++ Config.sha512 (Config.certChain s.sec.slot) →
    exec (.challenge p nonce) s = .next (settle s (s.emit (.spdm p 296 (body ++ Config.ed25519Sign s.aliasKey body))))) ∧
  (∀ (s : State) (p k : Nat) (nonce body : List Byte), p = 0 → s.sec.keeperUp = true → s.power.inReset = false → s.power.pstate ≠ 3 →
    (s.path p).algs = true → 1 ≤ k → k ≤ 11 → body = s.sec.meas.getD (k - 1) [] ++ nonce →
    exec (.getMeasurements p k nonce) s = .next (settle s (s.emit (.spdm p 297 (body ++ Config.ed25519Sign s.aliasKey body))))) ∧
  (∀ (s : State) (p : Nat) (nonce body : List Byte), p = 0 → s.sec.keeperUp = true → s.power.inReset = false → s.power.pstate ≠ 3 →
    (s.path p).algs = true → body = s.sec.meas.flatten ++ nonce →
    exec (.getMeasurements p 255 nonce) s = .next (settle s (s.emit (.spdm p 297 (body ++ Config.ed25519Sign s.aliasKey body)))))

/-- Bulk transfers between host memory and a range that the command may use go on. BULK_XFER of a permitted range is accepted: towards the module the
bus-master read is issued, towards the host the bytes go with the end of the transfer; a job's range outside its own regions is NOT_OWNER and recorded
(R392, R546). -/
def Obligations.BulkCommands : Prop :=
  (∀ (s u : State) (i : OpInfo) (c : Cmd) (o n : Nat), i = { op := 0x0606, lens := lenIs 44, states := stRA, j := true, m := true, long := true } →
    s.Takes i c → u = s.cmdBegin c → o = c.p64 2 → n = c.p64 5 → c.p64 0 % 64 = 0 → o < 2 ^ 48 → bits (c.p 4) 1 31 = 0 → n % 64 = 0 → n ≤ 2 ^ 40 →
    n ≠ 0 → c.job = 0 → u.checkHost o n = .ok → bit (c.p 4) 0 = false →
    exec (.bulkXferToModule c) s = .next (settle s ((
      (if u.canMaster = true then u.emit (.hostRead (c.p64 0) n) else u)).cmdEnd i c
        { goes := true, data := [] }))) ∧
  (∀ (s u : State) (i : OpInfo) (c : Cmd) (o n : Nat), i = { op := 0x0606, lens := lenIs 44, states := stRA, j := true, m := true, long := true } →
    s.Takes i c → u = s.cmdBegin c → o = c.p64 2 → n = c.p64 5 → c.p64 0 % 64 = 0 → o < 2 ^ 48 → bits (c.p 4) 1 31 = 0 → n % 64 = 0 → n ≤ 2 ^ 40 →
    n ≠ 0 → c.job = 0 → u.checkHost o n = .ok → bit (c.p 4) 0 = true →
    exec (.bulkXferToHost c) s = .next (settle s ((u).cmdEnd i c { goes := true, data := [] }))) ∧
  (∀ (s u : State) (i : OpInfo) (c : Cmd) (o n k : Nat), i = { op := 0x0606, lens := lenIs 44, states := stRA, j := true, m := true, long := true } →
    s.Takes i c → u = s.cmdBegin c → o = c.p64 2 → n = c.p64 5 → c.p64 0 % 64 = 0 → o < 2 ^ 48 → bits (c.p 4) 1 31 = 0 → n % 64 = 0 → n ≤ 2 ^ 40 →
    n ≠ 0 → c.job ≠ 0 → u.reservedRange u.visMax o n = false → u.regionSpan o n = some k → (u.region k).job = c.job → (u.region k).state = .ready →
    bit (c.p 4) 0 = false →
    exec (.bulkXferToModule c) s = .next (settle s ((
      (if u.canMaster = true then u.emit (.hostRead (c.p64 0) n) else u)).cmdEnd i c
        { goes := true, data := [] }))) ∧
  (∀ (s u : State) (i : OpInfo) (c : Cmd) (o n k : Nat), i = { op := 0x0606, lens := lenIs 44, states := stRA, j := true, m := true, long := true } →
    s.Takes i c → u = s.cmdBegin c → o = c.p64 2 → n = c.p64 5 → c.p64 0 % 64 = 0 → o < 2 ^ 48 → bits (c.p 4) 1 31 = 0 → n % 64 = 0 → n ≤ 2 ^ 40 →
    n ≠ 0 → c.job ≠ 0 → u.reservedRange u.visMax o n = false → u.regionSpan o n = some k → (u.region k).job = c.job → (u.region k).state = .ready →
    bit (c.p 4) 0 = true →
    exec (.bulkXferToHost c) s = .next (settle s ((u).cmdEnd i c { goes := true, data := [] }))) ∧
  (∀ (s u : State) (i : OpInfo) (c : Cmd) (o n : Nat), i = { op := 0x0606, lens := lenIs 44, states := stRA, j := true, m := true, long := true } →
    s.Takes i c → u = s.cmdBegin c → o = c.p64 2 → n = c.p64 5 → c.p64 0 % 64 = 0 → o < 2 ^ 48 → bits (c.p 4) 1 31 = 0 → n % 64 = 0 → n ≤ 2 ^ 40 →
    n ≠ 0 → bit (c.p 4) 0 = true → c.job ≠ 0 → u.reservedRange u.visMax o n = false → u.regionSpan o n = none →
    exec (.bulkXferToHost c) s = .next (settle s ((u.accViol o c.job).cmdEnd i c (.no 0x22))))

/-- Fox streams start, send and settle; the golden end point takes what reaches its members. An armed unit starts its enabled streams and flows
afresh; a stream whose bucket holds a positive level sends its next packet, its count, bucket and counters moving on, through the switch or straight
out of its port; the checkers settle their losses; a completion or a result for an emulated member is taken in (R523 to R529, R533, R536). A length
drawn at random (LEN_MODE 2) is a free value. -/
def Obligations.FoxAndGoldenRows : Prop :=
  (∀ (s : State) (n : Nat) (u : FoxUnit), (s.foxUnit n).start ≠ none →
    u = { s.foxUnit n with
        streams := (s.foxUnit n).streams.map (fun e => (e.1, { e.2 with n := 0, tok := ((256 * e.2.burst : Nat) : Rat), tokAt := s.clk, running := e.2.en })),
        flows := (s.foxUnit n).flows.map (fun e => (e.1, { e.2 with base := 0, seen := [], highest := none, running := e.2.en })),
        running := true, start := none, settling := false } →
    exec (.foxStartTime n) s = .next (settle s (s.setFox n u))) ∧
  (∀ (s : State) (n : Nat), (s.foxUnit n).start = none →
    exec (.foxStartTime n) s = .next (settle s (s))) ∧
  (∀ (s : State) (n k : Nat) (x y : FoxStream) (t : Rat) (pkt : Pkt) (v w : State), x = Tbl.get {} (s.foxUnit n).streams k →
    (s.foxUnit n).running = true → x.running = true → t = x.tok + rateOf x.rate * ((s.clk - x.tokAt : Nat) : Rat) / 1000000000000 → 0 < t →
    t ≤ ((256 * x.burst : Nat) : Rat) → x.lenMode ≠ 2 → pkt = x.packet n k s.ownId s.free →
    y = { x with n := x.n + 1, tok := t - (pkt.hdr.bytesTotal : Rat), tokAt := s.clk, running := !(x.count != 0 && x.count == x.n + 1) } →
    v = s.setFox n { s.foxUnit n with streams := Tbl.put {} (s.foxUnit n).streams k y } →
    w = (v.bump64 (foxReg n (0x100 + 0x10 * k)) 1).bump64 (foxReg n (0x108 + 0x10 * k)) pkt.hdr.bytesTotal → x.switched = true →
    exec (.foxStreamPacket n k) s = .next (settle s (w.originate pkt (.fox n) none none))) ∧
  (∀ (s : State) (n k : Nat) (x y : FoxStream) (t : Rat) (pkt : Pkt) (v w : State) (hd : Hdr), x = Tbl.get {} (s.foxUnit n).streams k →
    (s.foxUnit n).running = true → x.running = true → t = x.tok + rateOf x.rate * ((s.clk - x.tokAt : Nat) : Rat) / 1000000000000 → 0 < t →
    t ≤ ((256 * x.burst : Nat) : Rat) → x.lenMode ≠ 2 → pkt = x.packet n k s.ownId s.free →
    y = { x with n := x.n + 1, tok := t - (pkt.hdr.bytesTotal : Rat), tokAt := s.clk, running := !(x.count != 0 && x.count == x.n + 1) } →
    v = s.setFox n { s.foxUnit n with streams := Tbl.put {} (s.foxUnit n).streams k y } →
    w = (v.bump64 (foxReg n (0x100 + 0x10 * k)) 1).bump64 (foxReg n (0x108 + 0x10 * k)) pkt.hdr.bytesTotal → x.switched = false → x.tc = 0 →
    s.eligible (8 * n + x.port) 0 = true →
    hd = { pkt.hdr with ver := if (w.port (8 * n + x.port)).ver = 0 then 2 else (w.port (8 * n + x.port)).ver } →
    exec (.foxStreamPacket n k) s = .next (settle s (w.sendOut (8 * n + x.port) { hdr := hd, payload := w.stampTest pkt.payload } (trailerOf hd (w.stampTest pkt.payload))))) ∧
  (∀ (s : State) (n : Nat) (v : State), (s.foxUnit n).settling = true →
    v = ((s.foxUnit n).flows.filter (fun e => e.2.running)).foldl (fun s e => s.settleFlow n e.1) s →
    exec (.foxCheckerSettle n) s = .next (settle s (v.setFox n { v.foxUnit n with running := false, settling := false }))) ∧
  (∀ (s : State) (p : Nat) (pkt : Pkt) (m : Member) (v : State), p < 192 → s.emulated p = some m → (p, pkt) ∈ s.gold.inbox → s.gold.stopped = false →
    pkt.hdr.dst = m.ep → v = s.setGold { s.gold with inbox := s.gold.inbox.erase (p, pkt) } → pkt.hdr.type = 0x09 →
    exec (.goldenResultReceived p pkt) s = .next (settle s ((v.memberResult m pkt).goldPump))) ∧
  (∀ (s : State) (p : Nat) (pkt : Pkt) (m : Member) (v : State), p < 192 → s.emulated p = some m → (p, pkt) ∈ s.gold.inbox → s.gold.stopped = false →
    pkt.hdr.dst = m.ep → v = s.setGold { s.gold with inbox := s.gold.inbox.erase (p, pkt) } → pkt.hdr.type = 0x04 →
    exec (.goldenResultReceived p pkt) s = .next (settle s ((v.memberComplIn m pkt.hdr (complOf pkt.payload)).goldPump))) ∧
  (∀ (x : FoxStream) (n k own r : Nat), (x.packet n k own r).hdr.offset = 16 * n + k ∧ (x.packet n k own r).hdr.dst = x.dst + x.n % x.dstCnt ∧
    (x.packet n k own r).hdr.seq = x.n % 2 ^ 32 ∧ (x.packet n k own r).hdr.tc = x.tc ∧ (x.packet n k own r).hdr.type = 0x3F)

/-- A step takes the command at the front of the queue, and on an empty queue one reference cycle passes. For every command and every state, a step
with the command at the front of the queue is exec of it on the state with the rest of the queue. On an empty queue the step lets one reference cycle
pass and settles what follows, which is the model's choice (log 8). No word spells a command, since the operation table gives its rows no bits. -/
def Obligations.StepTakesTheFrontCommand : Prop :=
  (∀ (c : Instr) (rest : List Instr) (s : State), step { s with pending := c :: rest } = exec c { s with pending := rest }) ∧
  (∀ (s : State), s.pending = [] → step s = .next (settle s s.tick)) ∧
  (∀ (s : State) (nbits w : Nat), decodeTableWord nbits w = none ∧ s.withFetchWord nbits w = s)

/-- Rack time advances 6.4 ns a cycle, and the EPOCH period keeps its range and reset value. One reference cycle adds exactly 6,400 ps to rack time,
kept modulo 2^64 ns, which TIME.NOW reads in its two halves; a period is taken from 15,625 to 156,250,000 cycles and no other; its reset value is
156,250 cycles, which are 1 ms. -/
def Obligations.RackTimeAdvances : Prop :=
  (∀ (s : State), s.time.rackPs + 6400 < 1000 * 2 ^ 64 → s.clockOn.time.rackPs = s.time.rackPs + 6400) ∧
  (∀ (s : State), s.time.rackPs < 1000 * 2 ^ 64 → 1000 * 2 ^ 64 ≤ s.time.rackPs + 6400 → s.clockOn.time.rackPs + 1000 * 2 ^ 64 = s.time.rackPs + 6400) ∧
  (∀ (s : State), s.time.rackPs < 1000 * 2 ^ 64 → ∃ lo hi, s.readTime 0x00 = some lo ∧ s.readTime 0x04 = some hi ∧ lo < 2 ^ 32 ∧ hi < 2 ^ 32 ∧
    lo + hi * 2 ^ 32 = s.time.rackPs / 1000) ∧
  (∀ (s : State) (v : Nat), 15625 ≤ v → v ≤ 156250000 → (s.epochPeriod v).time.period = v) ∧
  (∀ (s : State) (v : Nat), v < 15625 ∨ 156250000 < v → s.epochPeriod v = s) ∧
  (∀ (s : State), s.readTime 0x10 = some s.time.period) ∧
  State.reset.time.period = 156250 ∧ 156250 * 6400 = 1000000000

/-- After every step no reaction to a fault is owed. From every state, whatever the command at the front of the queue, and also on an empty queue, a
step leaves no reaction of R444 that is still to be taken: each has been taken in the step that raised it, the rounds of reactions that call for
others being bounded by the model (log 27). -/
def Obligations.NoReactionIsOwedAfterAStep : Prop :=
  ∀ (s t : State), step s = .next t → t.Reacted

/-- What a reset leaves. After reset the queue is empty, the module is in BOOT, memory lists nothing and stands in its canonical form, no reaction is
owed, no fault bit is set, no context, region, binding or program exists, and every slot is IDLE. Registers that the spec gives no reset value are 0
(log 2); the machine is quiet. -/
def Obligations.ResetState : Prop :=
  State.reset.pending = [] ∧ State.reset.dev = .boot ∧ State.reset.dev.code = 1 ∧ State.reset.mem.bytes = [] ∧ Memory.wf State.reset.mem = true ∧
  State.reset.Reacted ∧ State.reset.QueueWf ∧ State.reset.Quiet ∧ (∀ w, State.reset.fsw w = 0) ∧
  (∀ x, (State.reset.ctx x).state = .free) ∧ (∀ r, (State.reset.region r).state = .free) ∧ (∀ n, (State.reset.cslot n).st = .idle) ∧
  (∀ h, State.reset.bindingOf h = none) ∧ (∀ h, State.reset.programOf h = none) ∧ (∀ o, State.reset.memByte o = 0) ∧
  (∀ p, (State.reset.port p).st = .disabled) ∧ State.reset.time.seen = false ∧ State.reset.host.linkUp = false

/-- Every step answers a next state, takes exactly the command at the front, and keeps the queue well formed. No command is refused and none faults:
for every state a step answers a next state; with a command at the front the rest of the queue remains as it was, on an empty queue the queue stays
empty; and a queue of well-formed commands stays one. -/
def Obligations.EveryStepCompletesAndTakesOneCommand : Prop :=
  (∀ (s : State), ∃ t, step s = .next t) ∧
  (∀ (s t : State) (c : Instr) (rest : List Instr), s.pending = c :: rest → step s = .next t → t.pending = rest) ∧
  (∀ (s t : State), s.pending = [] → step s = .next t → t.pending = []) ∧
  (∀ (s t : State), s.QueueWf → step s = .next t → t.QueueWf)

/-- What follows a command changes nothing in a quiet state. Where no reaction is owed, no context stands at the module, no command waits for a
program or a flow, and no receiver of events is set, what follows a command leaves everything as the command left it, but for the queue, which is none
of its business. With the equations for the commands this gives their frames. -/
def Obligations.AQuietStateSettlesAsItIs : Prop :=
  ∀ (old s : State), s.Quiet → settle old s = { s with pending := old.pending }

/-- The header is the eight words of R101, and reading them gives the header back. For every header whose fields lie within their widths, its words
hold each field at the bits of R101, its bytes are the words in little-endian order, and reading the words gives back the header, every field at every
value. -/
def Obligations.HeaderFieldsStandInTheirWords : Prop :=
  (∀ (h : Hdr), h.ok = true →
    h.words.length = 8 ∧ (∀ w ∈ h.words, w < 2 ^ 32) ∧
    bits (h.words.getD 0 0) 28 4 = h.ver ∧ bits (h.words.getD 0 0) 22 6 = h.type ∧ bits (h.words.getD 0 0) 20 2 = h.tc ∧
    bit (h.words.getD 0 0) 19 = h.dl ∧ bits (h.words.getD 0 0) 17 2 = h.color ∧ bit (h.words.getD 0 0) 16 = h.ce ∧
    bit (h.words.getD 0 0) 15 = h.ece ∧ bit (h.words.getD 0 0) 14 = h.late ∧ bits (h.words.getD 0 0) 8 6 = h.hops ∧
    bits (h.words.getD 0 0) 0 8 = h.rsv0 ∧ bits (h.words.getD 1 0) 18 14 = h.dst ∧ bits (h.words.getD 1 0) 4 14 = h.src ∧
    bits (h.words.getD 1 0) 0 4 = h.rsv1 ∧ bits (h.words.getD 2 0) 20 12 = h.job ∧ bits (h.words.getD 2 0) 13 7 = h.rsv2 ∧
    bits (h.words.getD 2 0) 0 13 = h.len ∧ h.words.getD 3 0 = h.seq ∧
    bits (h.words.getD 4 0 + h.words.getD 5 0 * 2 ^ 32) 0 48 = h.offset ∧ bits (h.words.getD 4 0 + h.words.getD 5 0 * 2 ^ 32) 48 12 = h.ctx ∧
    bits (h.words.getD 4 0 + h.words.getD 5 0 * 2 ^ 32) 60 4 = h.rsv5 ∧ bits (h.words.getD 6 0) 0 16 = h.msg ∧
    bits (h.words.getD 6 0) 16 16 = h.chunk ∧ h.words.getD 7 0 = h.deadline) ∧
  (∀ (h : Hdr), h.ok = true → Hdr.ofWords h.words = h) ∧
  (∀ (h : Hdr), h.ok = true → h.bytes.length = 32 ∧ ∀ n, n < 8 → leWord h.bytes n = h.words.getD n 0)

/-- The trailer is the CRC-32C of header and payload, with the mutable fields taken as zero. The CRC-32C of the nine digits is 0xE3069283; two headers
that differ in DL, CE, ECE, LATE and HOPS only have one trailer over the same payload; the trailer is the CRC of the frozen header's bytes and then
the payload, and is a 32-bit value. Where the trailer stands in the packet is not part of this statement. -/
def Obligations.TrailersIgnoreTheMutableFields : Prop :=
  crc32c [0x31, 0x32, 0x33, 0x34, 0x35, 0x36, 0x37, 0x38, 0x39] = 0xE3069283 ∧
  (∀ (h k : Hdr) (l : List Byte), { h with dl := false, ce := false, ece := false, late := false, hops := 0 } =
      { k with dl := false, ce := false, ece := false, late := false, hops := 0 } → trailerOf h l = trailerOf k l) ∧
  (∀ (h : Hdr) (l : List Byte), h.hops = 0 → h.dl = false → h.ce = false → h.ece = false → h.late = false → trailerOf h l = crc32c (h.bytes ++ l)) ∧
  (∀ (l : List Byte), crc32c l < 2 ^ 32)

/-- The finished value of an exact SUM does not depend on the order of its addends. Whatever the addends, NaN, infinities and signed zeros among them,
an accumulator entry that starts at zero has the same value after them in any order; NaN once added stays; the sum of finite addends is their exact
sum. -/
def Obligations.ExactSumsDoNotDependOnOrder : Prop :=
  (∀ (l k : List Dec), l.Perm k → (l.foldl Entry.add {}).value = (k.foldl Entry.add {}).value) ∧
  (∀ (l : List Dec), .nan ∈ l → (l.foldl Entry.add {}).value = .nan) ∧
  (∀ (l : List Dec), .inf true ∈ l → .inf false ∈ l → (l.foldl Entry.add {}).value = .nan) ∧
  (∀ (l : List Dec), (l.foldl Entry.add {}).acc = (l.map (fun x => match x with | .fin s m e => (Dec.fin s m e).units (-149) | _ => 0)).sum) ∧
  (∀ (l : List Dec), l ≠ [] → (∀ x ∈ l, x = .zero true) → (l.foldl Entry.add {}).value = .zero true)

/-- While an overlay change is pending three commands are refused with STATE_REJECT, and a reset loses the change. With a change pending,
OVERLAY_APPLY, OVERLAY_STAGE of a kind that it names and BASE_LOAD, with parameters their rows allow, answer STATE_REJECT and change nothing else; a
reset of the module or the loss of power leaves no change pending, and start-up takes the base and the overlays of R409 from the flash that remains. -/
def Obligations.APendingOverlayChangeHoldsOffOthers : Prop :=
  (∀ (s u : State) (i : OpInfo) (c : Cmd) (x : OverlayPend), i = { op := 0x0102, lens := lenIs 28, states := stRA, m := true, long := true } →
    s.Takes i c → u = s.cmdBegin c → u.cfg.pend = some x → c.p 0 = 0 → exec (.overlayApply c) s = .next (settle s (u.cmdEnd i c (.no 0x20)))) ∧
  (∀ (s u : State) (i : OpInfo) (c : Cmd) (x : OverlayPend), i = { op := 0x0101, lens := lenIs 32, states := stRA, m := true, long := true } →
    s.Takes i c → u = s.cmdBegin c → u.cfg.pend = some x → bit (c.p 0) 3 = false → bits (c.p 0) 8 24 = 0 →
    (bit (c.p 0) 2 = true ∨ bits (c.p 0) 4 4 ≠ 0) → x.kinds.testBit (bits (c.p 0) 0 2) = true →
    exec (.overlayStage c) s = .next (settle s (u.cmdEnd i c (.no 0x20)))) ∧
  (∀ (s u : State) (i : OpInfo) (c : Cmd) (x : OverlayPend), i = { op := 0x0100, lens := lenIs 32, states := stCR, m := true, long := true } →
    s.Takes i c → u = s.cmdBegin c → u.cfg.pend = some x → bits (c.p 0) 1 3 = 0 → bits (c.p 0) 8 24 = 0 →
    (bit (c.p 0) 0 = true ∨ bits (c.p 0) 4 4 ≠ 0) → exec (.baseLoad c) s = .next (settle s (u.cmdEnd i c (.no 0x20)))) ∧
  (∀ (s : State) (cause : Nat) (src : Option (Nat × Nat)) (b : Bool), (s.moduleReset cause src b).cfg.pend = none ∧
    (s.moduleReset cause src b).cfg.base = none ∧ (s.moduleReset cause src b).cfg.active = [] ∧ (s.moduleReset cause src b).cfg.flash = s.cfg.flash ∧
    (s.moduleReset cause src b).cfg.bootBase = s.cfg.bootBase ∧ (s.moduleReset cause src b).cfg.bootOver = s.cfg.bootOver) ∧
  (∀ (s : State), s.dev = .off → s.startCondition.cfg.pend = none)

/-- An event of a masked source sets its bit and is recorded, and takes no reaction, interrupt or pin. The bit is set, every other bit and word stays;
no reaction is owed, no sequence of R460 starts; nothing is put out and no hold-off begins; unless the record is suppressed, the newest record says
MASKED with class LOG; FAULT_N is as before. -/
def Obligations.MaskedSourcesOnlyRecord : Prop :=
  ∀ (s t : State) (e : Event), sourceExists e.word e.source = true → s.masked e.word e.source = true → t = s.event e →
    t.fsw e.word = s.fsw e.word ||| 2 ^ e.source ∧ (∀ w, w ≠ e.word → t.fsw w = s.fsw w) ∧
    t.faults.owed = s.faults.owed ∧ t.box.stage = s.box.stage ∧ t.outs = s.outs ∧ t.host = s.host ∧
    t.faults.holdoff = s.faults.holdoff ∧ t.faults.irqWait = s.faults.irqWait ∧ t.faultLow = s.faultLow ∧
    t.mem = s.mem ∧ t.ports = s.ports ∧ t.coll = s.coll ∧ t.sett = s.sett ∧
    (Tbl.get 0 s.faults.lastRec (lastKey e) = 0 →
      ∃ r, t.faults.ring = (r :: s.faults.ring).take 256 ∧ r.masked = true ∧ r.cls = clsLog ∧ r.source = e.source ∧ r.fseq = s.faults.fseq)

/-- A byte reads as last written, and every other byte as before. A write of one whole line puts its bytes there and no others, whatever the
write-combining buffer holds; a write within a line that has no entry, with a place free in its controller's buffer, is read back at once and leaves
every other byte; the wipe of a region with nothing in the buffer makes its bytes 0 and leaves the others. -/
def Obligations.WhatMemoryReadsAfterAWrite : Prop :=
  (∀ (s : State) (o a : Nat) (l : List Byte), o % 64 = 0 → l.length = 64 →
    (s.memWrite o l).memByte a = if o ≤ a ∧ a < o + 64 then l.getD (a - o) 0 else s.memByte a) ∧
  (∀ (s : State) (o a : Nat) (l : List Byte), l ≠ [] → l.length < 64 → o % 64 + l.length ≤ 64 → s.wcbOf (o / 64) = none → (s.wcbPeers (o / 64)).length < 64 →
    (s.memWrite o l).memByte a = if o ≤ a ∧ a < o + l.length then l.getD (a - o) 0 else s.memByte a) ∧
  (∀ (s : State) (n a : Nat), s.mem.wcb = [] →
    (s.wipeRegion n).memByte a = if (s.region n).base ≤ a ∧ a < (s.region n).base + (s.region n).size then 0 else s.memByte a) ∧
  (∀ (s : State) (o n k : Nat), k < n → (s.memRead o n).getD k 0 = s.memByte (o + k))

/-- No command of a source that Keeper does not serve has any effect. Before Keeper serves, during the sequence of a reset, in reset and in HIBERNATE,
in DROWSE for a packet, and from a slot that is not enabled, every command of the command interface leaves the state as it is, but for what the
settling of earlier work does. -/
def Obligations.CommandsOfASourceThatIsNotServedDoNothing : Prop :=
  ∀ (s : State) (c : Cmd) (i : Instr), s.serves c.src = false →
    i ∈ [
      .echo c, .getInfo c, .getState c, .getJob c, .getStats c, .baseLoad c, .overlayStage c, .overlayApply c, .configQuery c, .linkSet c,
      .linkDrain c, .linkResume c, .linkRecheck c, .linkRetrain c, .linkQuery c, .partWrite c, .partRead c, .routeNotice c, .queueCfg c,
      .queueRelease c, .shaperSet c, .policerSet c, .tc1Admit c, .tc1Release c, .tc1Query c, .tc1HopHold c, .tc1HopCommit c, .tc1HopRelease c,
      .ctxCreate c, .ctxRearm c, .ctxRelease c, .ctxAbort c, .ctxQuery c, .moePlace c, .moePlaceCommit c, .embCreate c, .embRelease c,
      .ctxPeerHold c, .ctxPeerCommit c, .ctxPeerRelease c, .ctxPeerRearm c, .ctxPeerFree c, .ctxPeerAbort c, .ctxPeerFail c, .regionCreate c,
      .regionRelease c, .regionReload c, .regionQuery c, .memFlush c, .memFlushAll c, .memRetrain c, .bulkXferToModule c, .bulkXferToHost c,
      .coreAssign c, .coreReturn c, .progLoadRegion c, .progLoadPart c, .progUnload c, .bind c, .unbind c, .launch c, .progWait c, .progStop c,
      .progQuery c, .pairForm c, .pairBreak c, .pairStatus c, .pairResync c, .faultRead c, .faultClear c, .faultCfg c, .faultForce c,
      .selftest c, .repairReset c, .blackboxRead c, .powerCap c, .powerStateRun c, .powerStateTrim c, .powerStateDrowse c,
      .powerStateHibernate c, .powerRead c, .lcChange c, .ownerKey c, .rollbackAdvance c, .measureRead c, .mirrorSet c, .mirrorClear c,
      .foxCfgStream c, .foxCfgChecker c, .foxCfgClear c, .foxStart c, .foxStop c, .foxRead c, .goldenSet c, .injectDisarm c, .injectSymbol c,
      .injectSync c, .injectTrailer c, .injectDrop c, .injectDuplicate c, .injectDelay c, .injectXoff c, .injectSilence c] → exec i s = .next (settle s s)

/-- A reply of a slot is 64 bytes with the words of R367, written after its block, under the next RSEQ. The reply has 64 bytes; its words hold tag,
status, opcode, device and job state, FINAL, PROGRESS, ERR_WORD, the block's length, the short result, and RSEQ, which is 1 first and passes over 0;
an enabled slot with a host that can be written gets the block and then the reply; a slot that is not enabled counts the reply as dropped; a final
status counts under its own number. -/
def Obligations.RepliesOfASlot : Prop :=
  (∀ (tag st op dev job : Nat) (b : Bool) (p e n : Nat) (q : List Nat) (r : Nat), tag < 2 ^ 16 → st < 2 ^ 16 → op < 2 ^ 16 → dev < 16 → job < 16 → p < 1024 → e < 2 ^ 16 →
    n < 4096 → r < 2 ^ 32 → (∀ x ∈ q, x < 2 ^ 32) → (replyBytes tag st op dev job b p e n q r).length = 64 ∧
    leWord (replyBytes tag st op dev job b p e n q r) 0 = tag + st * 2 ^ 16 ∧
    leWord (replyBytes tag st op dev job b p e n q r) 1 = op + dev * 2 ^ 16 + job * 2 ^ 20 + b2n b * 2 ^ 24 ∧
    leWord (replyBytes tag st op dev job b p e n q r) 2 = p + e * 2 ^ 16 ∧ leWord (replyBytes tag st op dev job b p e n q r) 3 = n ∧
    (∀ k, k < 10 → leWord (replyBytes tag st op dev job b p e n q r) (4 + k) = q.getD k 0) ∧ leWord (replyBytes tag st op dev job b p e n q r) 15 = r) ∧
  nextSeq 0 = 1 ∧ nextSeq (2 ^ 32 - 1) = 1 ∧ (∀ n, n < 2 ^ 32 → nextSeq n ≠ 0 ∧ nextSeq n < 2 ^ 32) ∧
  (∀ (s u : State) (n tag op job pr base : Nat) (a : Ans) (x : CmdSlot), x = s.cslot n →
    u = s.setSlot n { x with rseq := nextSeq x.rseq, st := .idle, bytes := [], words := [] } →
    base = u.reg (slotReg n 8) / 4096 * 4096 + u.reg (slotReg n 12) * 2 ^ 32 → u.fld (slotReg n 0) 12 1 = 1 → u.canMaster = true → a.block ≠ [] →
    ((u.hostWrite (base + 64) a.block).hostWrite base
      (replyBytes tag a.status op s.dev.code (s.jobState job) true pr a.err a.block.length a.q (nextSeq x.rseq))).fld (slotReg n 0) 13 1 = 0 →
    s.reply (.slot n) tag op job pr true a = (u.hostWrite (base + 64) a.block).hostWrite base
      (replyBytes tag a.status op s.dev.code (s.jobState job) true pr a.err a.block.length a.q (nextSeq x.rseq))) ∧
  (∀ (s u : State) (n tag op job pr : Nat) (a : Ans) (x : CmdSlot), x = s.cslot n →
    u = s.setSlot n { x with rseq := nextSeq x.rseq, st := .idle, bytes := [], words := [] } → u.fld (slotReg n 0) 12 1 ≠ 1 →
    s.reply (.slot n) tag op job pr true a = u.bump (baseCmd + 0x428)) ∧
  (∀ (s : State) (pr : Nat) (src : Src) (tag op job : Nat) (a : Ans), a.status ≠ 0x30 →
    s.finalReplyAt pr src tag op job a = ((s.bump (statusCtr a.status)).poolGive 0 2 1).reply src tag op job pr true a)

/-- A command that begins and is answered on a slot changes nothing but what replies and buffers are. When a command of a slot begins, and when its
final reply is made, memory, contexts, Sett cores, ports, lanes, partitions, configuration, security state, power state, the pair, flows and time are
as they were: only the slot, its P2 buffer and the pool's level, counters, faults, the host's writes and what is put out change. -/
def Obligations.AnsweringLeavesTheRest : Prop :=
  (∀ (s t : State) (c : Cmd) (n : Nat), c.src = .slot n → t = s.cmdBegin c → t.mem = s.mem ∧ t.coll = s.coll ∧ t.sett = s.sett ∧ t.ports = s.ports ∧ t.lanes = s.lanes ∧
    t.parts = s.parts ∧ t.cfg = s.cfg ∧ t.sec = s.sec ∧ t.power = s.power ∧ t.pair = s.pair ∧ t.flows = s.flows ∧ t.time = s.time ∧ t.regs = s.regs) ∧
  (∀ (s t : State) (pr n tag op job : Nat) (a : Ans), t = s.finalReplyAt pr (.slot n) tag op job a → t.mem = s.mem ∧ t.coll = s.coll ∧ t.sett = s.sett ∧
    t.ports = s.ports ∧ t.lanes = s.lanes ∧ t.parts = s.parts ∧ t.cfg = s.cfg ∧ t.sec = s.sec ∧ t.power = s.power ∧ t.pair = s.pair ∧ t.flows = s.flows ∧
    t.time = s.time ∧ t.regs = s.regs)

/-- EMBPOOL answers a request whose layout holds with a reply of R335's layout, and no other. A payload is a request only where its length is 8 + 8 ×
⌈NBAG ÷ 4⌉ + 8 × NIDX and at most 4,096, with 1 to 64 bags whose lengths sum to NIDX; a payload that is no request, or one whose index is ROWS or
more, has no reply; a reply has 16 + NBAG × DIM × element size bytes, at most 4,096, shows NBAG_M1 in W0 and 0 in W1, and bit b of W2–W3 says whether
bag b is empty; an empty bag gives +0 for SUM and MEAN and −∞ for MAX. -/
def Obligations.EmbpoolAnswersByItsLayout : Prop :=
  (∀ (l : List Byte) (r : PoolReq), poolReqOf l = some r → l.length = 8 + 8 * ceilDiv r.nbag 4 + 8 * r.idx.length ∧ l.length ≤ 4096 ∧ 1 ≤ r.nbag ∧
    r.nbag ≤ 64 ∧ r.pool ≤ 2 ∧ r.outF ≤ 2 ∧ r.lens.length = r.nbag ∧ r.lens.foldl (· + ·) 0 = r.idx.length) ∧
  (∀ (t : EmbTable) (f : Nat → Nat → List Byte) (l : List Byte), poolReqOf l = none → embPool t f l = none) ∧
  (∀ (t : EmbTable) (f : Nat → Nat → List Byte) (l : List Byte) (r : PoolReq) (n : Nat), poolReqOf l = some r → n ∈ r.idx → t.rows ≤ n →
    embPool t f l = none) ∧
  (∀ (t : EmbTable) (f : Nat → Nat → List Byte) (l a : List Byte) (r : PoolReq), poolReqOf l = some r → embPool t f l = some a →
    a.length = 16 + r.nbag * t.dim * (fmtBits r.outF / 8) ∧ a.length ≤ 4096 ∧ leWord a 0 = r.nbag - 1 ∧ leWord a 1 = 0 ∧
    (∀ b, b < r.nbag → bit (leNat ((a.drop 8).take 8)) b = ((bagsOf r.lens r.idx).getD b []).isEmpty)) ∧
  (∀ (e : Bool), poolElem 0 e [] = 0 ∧ poolElem 1 e [] = 0 ∧ poolElem 2 e [] = 0xFF800000)
end

