-- ==== Sys2Proof/Laws/Cmd.lean ====
section
/-! SUPPORT. The command interpreter: what becomes of a command that Keeper takes, refuses, or does not serve (R380, R382). -/

namespace Sys2Proof.Machine

/-- A command that passes the checks of R380 has its body's effect and ends with its answer. -/
theorem State.runCmd_takes (s : State) (i : OpInfo) (c : Cmd) (b : State → State × Ans) (h : s.Takes i c) :
    s.runCmd i c b = (b (s.cmdBegin c)).1.cmdEnd i c (b (s.cmdBegin c)).2 := by
  simp [State.runCmd, h.1, h.2]

/-- A command that a check of R380 refuses is answered with that check's status. -/
theorem State.runCmd_refused (s : State) (i : OpInfo) (c : Cmd) (b : State → State × Ans) (st : Nat) (h : s.serves c.src = true)
    (g : (s.cmdBegin c).cmdCheck i c = some st) :
    s.runCmd i c b = (s.cmdBegin c).finalReply c.src c.tag i.op c.job (.no st) := by
  simp [State.runCmd, h, g]

/-- A command that Keeper does not serve changes nothing. -/
theorem State.runCmd_unserved (s : State) (i : OpInfo) (c : Cmd) (b : State → State × Ans) (h : s.serves c.src = false) : s.runCmd i c b = s := by
  simp [State.runCmd, h]

/-- Parameter checks that all hold let the command go on. -/
theorem Ans.check_ok (s : State) (l : List (Nat × Bool)) (k : State × Ans) (h : l.all (·.2) = true) : Ans.check s l k = k := by
  have : firstBad l = none := by
    simp only [firstBad, Option.map_eq_none_iff, List.find?_eq_none]
    intro x hx
    have := List.all_eq_true.mp h x hx
    simp [this]
  simp [Ans.check, this]

/-- The first parameter check that fails answers BAD_PARAM and names its word. -/
theorem Ans.check_bad (s : State) (l : List (Nat × Bool)) (k : State × Ans) (n : Nat) (h : firstBad l = some n) : Ans.check s l k = (s, .bad n) := by
  simp [Ans.check, h]

/-- The end of an ordinary command of one member: its final reply, after the ACCEPTED reply where it is LONG and passes. -/
theorem State.cmdEnd_done (s : State) (i : OpInfo) (c : Cmd) (a : Ans) (h : a.goes = false) (g : i.mirrored = false) :
    s.cmdEnd i c a = (if i.long && a.status = 0 then s.accepted i c else s).finalReplyAt (if i.long && a.status = 0 then 1000 else 0) c.src c.tag i.op c.job a := by
  simp [State.cmdEnd, h, g]

end Sys2Proof.Machine
end

