-- ==== Sys2Proof/Laws/PerInstr.lean ====
section
/-! SUPPORT. What is said of every row of the operation table as syntax: a well-formed row that brings a command packet brings one whose fields
fit their places (R366, R370). One lemma for each row. -/

namespace Sys2Proof.Laws.RowOp

/-- The command packet that a row brings, for the rows of R386–R399. -/
def packet : Instr → Option Cmd
  | .echo c => some c
  | .getInfo c => some c
  | .getState c => some c
  | .getJob c => some c
  | .getStats c => some c
  | .baseLoad c => some c
  | .overlayStage c => some c
  | .overlayApply c => some c
  | .configQuery c => some c
  | .linkSet c => some c
  | .linkDrain c => some c
  | .linkResume c => some c
  | .linkRecheck c => some c
  | .linkRetrain c => some c
  | .linkQuery c => some c
  | .partWrite c => some c
  | .partRead c => some c
  | .routeNotice c => some c
  | .queueCfg c => some c
  | .queueRelease c => some c
  | .shaperSet c => some c
  | .policerSet c => some c
  | .tc1Admit c => some c
  | .tc1Release c => some c
  | .tc1Query c => some c
  | .tc1HopHold c => some c
  | .tc1HopCommit c => some c
  | .tc1HopRelease c => some c
  | .ctxCreate c => some c
  | .ctxRearm c => some c
  | .ctxRelease c => some c
  | .ctxAbort c => some c
  | .ctxQuery c => some c
  | .moePlace c => some c
  | .moePlaceCommit c => some c
  | .embCreate c => some c
  | .embRelease c => some c
  | .ctxPeerHold c => some c
  | .ctxPeerCommit c => some c
  | .ctxPeerRelease c => some c
  | .ctxPeerRearm c => some c
  | .ctxPeerFree c => some c
  | .ctxPeerAbort c => some c
  | .ctxPeerFail c => some c
  | .regionCreate c => some c
  | .regionRelease c => some c
  | .regionReload c => some c
  | .regionQuery c => some c
  | .memFlush c => some c
  | .memFlushAll c => some c
  | .memRetrain c => some c
  | .bulkXferToModule c => some c
  | .bulkXferToHost c => some c
  | .coreAssign c => some c
  | .coreReturn c => some c
  | .progLoadRegion c => some c
  | .progLoadPart c => some c
  | .progUnload c => some c
  | .bind c => some c
  | .unbind c => some c
  | .launch c => some c
  | .progWait c => some c
  | .progStop c => some c
  | .progQuery c => some c
  | .pairForm c => some c
  | .pairBreak c => some c
  | .pairStatus c => some c
  | .pairResync c => some c
  | .faultRead c => some c
  | .faultClear c => some c
  | .faultCfg c => some c
  | .faultForce c => some c
  | .selftest c => some c
  | .repairReset c => some c
  | .blackboxRead c => some c
  | .powerCap c => some c
  | .powerStateRun c => some c
  | .powerStateTrim c => some c
  | .powerStateDrowse c => some c
  | .powerStateHibernate c => some c
  | .powerRead c => some c
  | .lcChange c => some c
  | .ownerKey c => some c
  | .rollbackAdvance c => some c
  | .measureRead c => some c
  | .mirrorSet c => some c
  | .mirrorClear c => some c
  | .foxCfgStream c => some c
  | .foxCfgChecker c => some c
  | .foxCfgClear c => some c
  | .foxStart c => some c
  | .foxStop c => some c
  | .foxRead c => some c
  | .goldenSet c => some c
  | .injectDisarm c => some c
  | .injectSymbol c => some c
  | .injectSync c => some c
  | .injectTrailer c => some c
  | .injectDrop c => some c
  | .injectDuplicate c => some c
  | .injectDelay c => some c
  | .injectXoff c => some c
  | .injectSilence c => some c
  | _ => none

/-- A well-formed row's packet has a source, tag, job and length within their fields. -/
def Statement (i : Instr) : Prop :=
  i.wf = true → ∀ c, packet i = some c → c.src.ok = true ∧ c.tag < 65536 ∧ c.job < 4096 ∧ c.len < 65536

/-- A packet that is well formed fits. -/
theorem fits {c : Cmd} (h : c.ok = true) : c.src.ok = true ∧ c.tag < 65536 ∧ c.job < 4096 ∧ c.len < 65536 := by
  simp only [Cmd.ok, Bool.and_eq_true, decide_eq_true_eq] at h
  exact ⟨h.1.1.1, h.1.1.2, h.1.2, h.2⟩

/-- A packet that is well formed and selects its row fits. -/
theorem fits_and {c : Cmd} {b : Bool} (h : (c.ok && b) = true) : c.src.ok = true ∧ c.tag < 65536 ∧ c.job < 4096 ∧ c.len < 65536 :=
  fits (Bool.and_eq_true_iff.mp h).1

theorem codewordReceived (lane : Nat) (syms : List Nat) (ovf : Bool) : Statement (.codewordReceived lane syms ovf) := fun _ c e => nomatch (show none = some c from e)
theorem huntDegradeTimeout (p : Nat) : Statement (.huntDegradeTimeout p) := fun _ c e => nomatch (show none = some c from e)
theorem tsBlockReceived (lane : Nat) (t : TsBlock) : Statement (.tsBlockReceived lane t) := fun _ c e => nomatch (show none = some c from e)
theorem eqComplete (p : Nat) (pass : Nat) (offset : Nat) : Statement (.eqComplete p pass offset) := fun _ c e => nomatch (show none = some c from e)
theorem eqTimeout (p : Nat) : Statement (.eqTimeout p) := fun _ c e => nomatch (show none = some c from e)
theorem deskewComplete (p : Nat) (ids : List Nat) : Statement (.deskewComplete p ids) := fun _ c e => nomatch (show none = some c from e)
theorem deskewTimeout (p : Nat) : Statement (.deskewTimeout p) := fun _ c e => nomatch (show none = some c from e)
theorem identTimeout (p : Nat) : Statement (.identTimeout p) := fun _ c e => nomatch (show none = some c from e)
theorem identityRepeatTimer (p : Nat) : Statement (.identityRepeatTimer p) := fun _ c e => nomatch (show none = some c from e)
theorem identityMessageReceived (p : Nat) (pkt : Pkt) : Statement (.identityMessageReceived p pkt) := fun _ c e => nomatch (show none = some c from e)
theorem trainRetryHoldExpiry (p : Nat) : Statement (.trainRetryHoldExpiry p) := fun _ c e => nomatch (show none = some c from e)
theorem holdDownExpiry (p : Nat) : Statement (.holdDownExpiry p) := fun _ c e => nomatch (show none = some c from e)
theorem downHoldExpiry (p : Nat) : Statement (.downHoldExpiry p) := fun _ c e => nomatch (show none = some c from e)
theorem identityCheckTimeout (p : Nat) : Statement (.identityCheckTimeout p) := fun _ c e => nomatch (show none = some c from e)
theorem fcStateReceived (p : Nat) (m : Nat) : Statement (.fcStateReceived p m) := fun _ c e => nomatch (show none = some c from e)
theorem widthReqReceived (p : Nat) (m : Nat) : Statement (.widthReqReceived p m) := fun _ c e => nomatch (show none = some c from e)
theorem widthAckReceived (p : Nat) (m : Nat) : Statement (.widthAckReceived p m) := fun _ c e => nomatch (show none = some c from e)
theorem widthSwitch (p : Nat) : Statement (.widthSwitch p) := fun _ c e => nomatch (show none = some c from e)
theorem widthChangeTimeout (p : Nat) : Statement (.widthChangeTimeout p) := fun _ c e => nomatch (show none = some c from e)
theorem widenProposalLapse (p : Nat) : Statement (.widenProposalLapse p) := fun _ c e => nomatch (show none = some c from e)
theorem laneRetrainReceived (p : Nat) (m : Nat) : Statement (.laneRetrainReceived p m) := fun _ c e => nomatch (show none = some c from e)
theorem soakComplete (p : Nat) (i : Nat) : Statement (.soakComplete p i) := fun _ c e => nomatch (show none = some c from e)
theorem laneRetrainComplete (p : Nat) (i : Nat) : Statement (.laneRetrainComplete p i) := fun _ c e => nomatch (show none = some c from e)
theorem laneErrorLimitExceeded (p : Nat) (i : Nat) : Statement (.laneErrorLimitExceeded p i) := fun _ c e => nomatch (show none = some c from e)
theorem tsSyncTimer (p : Nat) : Statement (.tsSyncTimer p) := fun _ c e => nomatch (show none = some c from e)
theorem tsSyncReceived (p : Nat) : Statement (.tsSyncReceived p) := fun _ c e => nomatch (show none = some c from e)
theorem tsRxReceived (p : Nat) (t : Nat) : Statement (.tsRxReceived p t) := fun _ c e => nomatch (show none = some c from e)
theorem tsTxReceived (p : Nat) (t : Nat) : Statement (.tsTxReceived p t) := fun _ c e => nomatch (show none = some c from e)
theorem tsExchangeTimeout (p : Nat) : Statement (.tsExchangeTimeout p) := fun _ c e => nomatch (show none = some c from e)
theorem drainReceived (p : Nat) (b : Bool) : Statement (.drainReceived p b) := fun _ c e => nomatch (show none = some c from e)
theorem fcStateRepeatTimer (p : Nat) : Statement (.fcStateRepeatTimer p) := fun _ c e => nomatch (show none = some c from e)
theorem xoffStuck (p : Nat) : Statement (.xoffStuck p) := fun _ c e => nomatch (show none = some c from e)
theorem routingRepeatTimer : Statement (.routingRepeatTimer) := fun _ c e => nomatch (show none = some c from e)
theorem routingReceived (p : Nat) (pkt : Pkt) : Statement (.routingReceived p pkt) := fun _ c e => nomatch (show none = some c from e)
theorem portDrained (p : Nat) : Statement (.portDrained p) := fun _ c e => nomatch (show none = some c from e)
theorem packetHeaderReceived (p : Nat) (h : Hdr) : Statement (.packetHeaderReceived p h) := fun _ c e => nomatch (show none = some c from e)
theorem packetTrailerReceived (p : Nat) (payload : List Byte) (trailer : Nat) (cwOk : Bool) (aborted : Bool) : Statement (.packetTrailerReceived p payload trailer cwOk aborted) := fun _ c e => nomatch (show none = some c from e)
theorem residenceTimeout (id : Nat) : Statement (.residenceTimeout id) := fun _ c e => nomatch (show none = some c from e)
theorem schedulerSlot (den : Nat) : Statement (.schedulerSlot den) := fun _ c e => nomatch (show none = some c from e)
theorem packetTransmitComplete (den : Nat) (att : Nat) : Statement (.packetTransmitComplete den att) := fun _ c e => nomatch (show none = some c from e)
theorem bridgeArrival (src : Nat) (dst : Nat) : Statement (.bridgeArrival src dst) := fun _ c e => nomatch (show none = some c from e)
theorem deepPageOpenTimeout (den : Nat) (att : Nat) (q : Nat) : Statement (.deepPageOpenTimeout den att q) := fun _ c e => nomatch (show none = some c from e)
theorem deepPageReadComplete (den : Nat) (att : Nat) (q : Nat) (ok : Bool) : Statement (.deepPageReadComplete den att q ok) := fun _ c e => nomatch (show none = some c from e)
theorem alloc (den : Nat) (pool : Nat) (reqDen : Nat) : Statement (.alloc den pool reqDen) := fun _ c e => nomatch (show none = some c from e)
theorem bufFree (den : Nat) (b : BufName) : Statement (.bufFree den b) := fun _ c e => nomatch (show none = some c from e)
theorem refInc (den : Nat) (b : BufName) : Statement (.refInc den b) := fun _ c e => nomatch (show none = some c from e)
theorem refDec (den : Nat) (b : BufName) : Statement (.refDec den b) := fun _ c e => nomatch (show none = some c from e)
theorem policerRelease (p : Nat) (i : Nat) : Statement (.policerRelease p i) := fun _ c e => nomatch (show none = some c from e)
theorem sampleTimer (den : Nat) : Statement (.sampleTimer den) := fun _ c e => nomatch (show none = some c from e)
theorem resendTimeout (dst : Nat) (tc : Nat) (seq : Nat) : Statement (.resendTimeout dst tc seq) := fun _ c e => nomatch (show none = some c from e)
theorem pathHoldTimeout (dst : Nat) (tc : Nat) : Statement (.pathHoldTimeout dst tc) := fun _ c e => nomatch (show none = some c from e)
theorem operationDeadline (dst : Nat) (tc : Nat) : Statement (.operationDeadline dst tc) := fun _ c e => nomatch (show none = some c from e)
theorem ackTimer (src : Nat) (tc : Nat) : Statement (.ackTimer src tc) := fun _ c e => nomatch (show none = some c from e)
theorem rateIncreaseTimer (dst : Nat) (tc : Nat) : Statement (.rateIncreaseTimer dst tc) := fun _ c e => nomatch (show none = some c from e)
theorem ackReceived (p : Nat) (pkt : Pkt) : Statement (.ackReceived p pkt) := fun _ c e => nomatch (show none = some c from e)
theorem openReceived (p : Nat) (pkt : Pkt) : Statement (.openReceived p pkt) := fun _ c e => nomatch (show none = some c from e)
theorem openAckReceived (p : Nat) (pkt : Pkt) : Statement (.openAckReceived p pkt) := fun _ c e => nomatch (show none = some c from e)
theorem resyncReceived (p : Nat) (pkt : Pkt) : Statement (.resyncReceived p pkt) := fun _ c e => nomatch (show none = some c from e)
theorem statusCompletionReceived (p : Nat) (pkt : Pkt) : Statement (.statusCompletionReceived p pkt) := fun _ c e => nomatch (show none = some c from e)
theorem writeReceived (p : Nat) (pkt : Pkt) : Statement (.writeReceived p pkt) := fun _ c e => nomatch (show none = some c from e)
theorem readReqReceived (p : Nat) (pkt : Pkt) : Statement (.readReqReceived p pkt) := fun _ c e => nomatch (show none = some c from e)
theorem readRespReceived (p : Nat) (pkt : Pkt) : Statement (.readRespReceived p pkt) := fun _ c e => nomatch (show none = some c from e)
theorem collContribReceived (p : Nat) (pkt : Pkt) : Statement (.collContribReceived p pkt) := fun _ c e => nomatch (show none = some c from e)
theorem accBlockReadbackComplete (ctx : Nat) (chunk : Nat) (ok : Bool) : Statement (.accBlockReadbackComplete ctx chunk ok) := fun _ c e => nomatch (show none = some c from e)
theorem collPartialReceived (p : Nat) (pkt : Pkt) : Statement (.collPartialReceived p pkt) := fun _ c e => nomatch (show none = some c from e)
theorem moeDispatchReceived (p : Nat) (pkt : Pkt) : Statement (.moeDispatchReceived p pkt) := fun _ c e => nomatch (show none = some c from e)
theorem moeReturnReceived (p : Nat) (pkt : Pkt) : Statement (.moeReturnReceived p pkt) := fun _ c e => nomatch (show none = some c from e)
theorem embLookupReceived (p : Nat) (pkt : Pkt) : Statement (.embLookupReceived p pkt) := fun _ c e => nomatch (show none = some c from e)
theorem cmdPacketReceived (p : Nat) (pkt : Pkt) : Statement (.cmdPacketReceived p pkt) := fun _ c e => nomatch (show none = some c from e)
theorem cmdReplyReceived (p : Nat) (pkt : Pkt) : Statement (.cmdReplyReceived p pkt) := fun _ c e => nomatch (show none = some c from e)
theorem resendReqReceived (p : Nat) (pkt : Pkt) : Statement (.resendReqReceived p pkt) := fun _ c e => nomatch (show none = some c from e)
theorem testPacketReceived (p : Nat) (pkt : Pkt) : Statement (.testPacketReceived p pkt) := fun _ c e => nomatch (show none = some c from e)
theorem noticeTimer (ctx : Nat) : Statement (.noticeTimer ctx) := fun _ c e => nomatch (show none = some c from e)
theorem stepTimeout (ctx : Nat) (chunk : Nat) (phase : Nat) (rdir : Nat) : Statement (.stepTimeout ctx chunk phase rdir) := fun _ c e => nomatch (show none = some c from e)
theorem ctxDeadlineExpiry (ctx : Nat) : Statement (.ctxDeadlineExpiry ctx) := fun _ c e => nomatch (show none = some c from e)
theorem failureNoticeRepeat (ctx : Nat) : Statement (.failureNoticeRepeat ctx) := fun _ c e => nomatch (show none = some c from e)
theorem ctxReleaseHoldExpiry (ctx : Nat) : Statement (.ctxReleaseHoldExpiry ctx) := fun _ c e => nomatch (show none = some c from e)
theorem aqCommit (core : Nat) (words : List Nat) : Statement (.aqCommit core words) := fun _ c e => nomatch (show none = some c from e)
theorem matmul (core : Nat) (err : Option (Nat × Nat)) : Statement (.matmul core err) := fun _ c e => nomatch (show none = some c from e)
theorem elem (core : Nat) (err : Option (Nat × Nat)) : Statement (.elem core err) := fun _ c e => nomatch (show none = some c from e)
theorem arrayCompletion (core : Nat) : Statement (.arrayCompletion core) := fun _ c e => nomatch (show none = some c from e)
theorem vqCommit (core : Nat) (words : List Nat) : Statement (.vqCommit core words) := fun _ c e => nomatch (show none = some c from e)
theorem chain (core : Nat) (err : Option (Nat × Nat)) : Statement (.chain core err) := fun _ c e => nomatch (show none = some c from e)
theorem setpred (core : Nat) : Statement (.setpred core) := fun _ c e => nomatch (show none = some c from e)
theorem vectorCompletion (core : Nat) : Statement (.vectorCompletion core) := fun _ c e => nomatch (show none = some c from e)
theorem mqCommit (core : Nat) (words : List Nat) : Statement (.mqCommit core words) := fun _ c e => nomatch (show none = some c from e)
theorem movGet (core : Nat) : Statement (.movGet core) := fun _ c e => nomatch (show none = some c from e)
theorem movPut (core : Nat) (bad : List Nat) : Statement (.movPut core bad) := fun _ c e => nomatch (show none = some c from e)
theorem gather (core : Nat) : Statement (.gather core) := fun _ c e => nomatch (show none = some c from e)
theorem send (core : Nat) : Statement (.send core) := fun _ c e => nomatch (show none = some c from e)
theorem moverCompletion (core : Nat) : Statement (.moverCompletion core) := fun _ c e => nomatch (show none = some c from e)
theorem acompPop (core : Nat) : Statement (.acompPop core) := fun _ c e => nomatch (show none = some c from e)
theorem vsumPop (core : Nat) : Statement (.vsumPop core) := fun _ c e => nomatch (show none = some c from e)
theorem mcompPop (core : Nat) : Statement (.mcompPop core) := fun _ c e => nomatch (show none = some c from e)
theorem inboxPop (core : Nat) : Statement (.inboxPop core) := fun _ c e => nomatch (show none = some c from e)
theorem segmentFinished (core : Nat) (item : Nat) : Statement (.segmentFinished core item) := fun _ c e => nomatch (show none = some c from e)
theorem itemRelease (core : Nat) (item : Nat) : Statement (.itemRelease core item) := fun _ c e => nomatch (show none = some c from e)
theorem dispatch (core : Nat) (words : List Nat) : Statement (.dispatch core words) := fun _ c e => nomatch (show none = some c from e)
theorem progExit (core : Nat) (code : Nat) : Statement (.progExit core code) := fun _ c e => nomatch (show none = some c from e)
theorem controlTimerExpiry (core : Nat) : Statement (.controlTimerExpiry core) := fun _ c e => nomatch (show none = some c from e)
theorem settProgFault (core : Nat) (cause : Nat) (pc : Nat) (tval : Nat) : Statement (.settProgFault core cause pc tval) := fun _ c e => nomatch (show none = some c from e)
theorem stopTimeout (core : Nat) : Statement (.stopTimeout core) := fun _ c e => nomatch (show none = some c from e)
theorem repairLoad (core : Nat) : Statement (.repairLoad core) := fun _ c e => nomatch (show none = some c from e)
theorem selftestComplete (core : Nat) (res : Nat) (row : Nat) : Statement (.selftestComplete core res row) := fun _ c e => nomatch (show none = some c from e)
theorem charAllWrite (v : Bool) : Statement (.charAllWrite v) := fun _ c e => nomatch (show none = some c from e)
theorem settStartLimit (core : Nat) : Statement (.settStartLimit core) := fun _ c e => nomatch (show none = some c from e)
theorem wcbAgeExpiry (line : Nat) : Statement (.wcbAgeExpiry line) := fun _ c e => nomatch (show none = some c from e)
theorem patrolScrub (line : Nat) (res : Nat) : Statement (.patrolScrub line res) := fun _ c e => nomatch (show none = some c from e)
theorem ceRateWindow (slow : Bool) (ch : Nat) : Statement (.ceRateWindow slow ch) := fun _ c e => nomatch (show none = some c from e)
theorem memTempSample (den : Nat) (stack : Nat) (lp6 : Nat) : Statement (.memTempSample den stack lp6) := fun _ c e => nomatch (show none = some c from e)
theorem bankRefresh (slow : Bool) (ch : Nat) : Statement (.bankRefresh slow ch) := fun _ c e => nomatch (show none = some c from e)
theorem impedanceCalibration (slow : Bool) (ch : Nat) : Statement (.impedanceCalibration slow ch) := fun _ c e => nomatch (show none = some c from e)
theorem shortRetrain (slow : Bool) (ch : Nat) (ok : Bool) : Statement (.shortRetrain slow ch ok) := fun _ c e => nomatch (show none = some c from e)
theorem forcedFullRetrain (slow : Bool) (ch : Nat) : Statement (.forcedFullRetrain slow ch) := fun _ c e => nomatch (show none = some c from e)
theorem fullRetrainComplete (slow : Bool) (ch : Nat) (ok : Bool) : Statement (.fullRetrainComplete slow ch ok) := fun _ c e => nomatch (show none = some c from e)
theorem tierRebuildComplete (den : Nat) (slow : Bool) : Statement (.tierRebuildComplete den slow) := fun _ c e => nomatch (show none = some c from e)
theorem regionWipeComplete (region : Nat) : Statement (.regionWipeComplete region) := fun _ c e => nomatch (show none = some c from e)
theorem uncleanFrameClear (den : Nat) (frame : Nat) : Statement (.uncleanFrameClear den frame) := fun _ c e => nomatch (show none = some c from e)
theorem apertureWrite (slot : Nat) (off : Nat) (bytes : List Byte) : Statement (.apertureWrite slot off bytes) := fun _ c e => nomatch (show none = some c from e)
theorem slotFillTimeout (slot : Nat) : Statement (.slotFillTimeout slot) := fun _ c e => nomatch (show none = some c from e)
theorem progressReplyTimer (id : Nat) : Statement (.progressReplyTimer id) := fun _ c e => nomatch (show none = some c from e)
theorem replyWriteRefused (slot : Nat) : Statement (.replyWriteRefused slot) := fun _ c e => nomatch (show none = some c from e)
theorem peerCommandTimeout (dst : Nat) (tag : Nat) : Statement (.peerCommandTimeout dst tag) := fun _ c e => nomatch (show none = some c from e)
theorem imageVerifyComplete (id : Nat) (image : List Byte) (flashOk : Bool) (areasOk : Bool) : Statement (.imageVerifyComplete id image flashOk areasOk) := fun _ c e => nomatch (show none = some c from e)
theorem progStagingTimeout (src : Src) : Statement (.progStagingTimeout src) := fun _ c e => nomatch (show none = some c from e)
theorem echo (c : Cmd) : Statement (.echo c) := fun h _ e => Option.some.inj e ▸ fits (show _ = true from h)
theorem getInfo (c : Cmd) : Statement (.getInfo c) := fun h _ e => Option.some.inj e ▸ fits (show _ = true from h)
theorem getState (c : Cmd) : Statement (.getState c) := fun h _ e => Option.some.inj e ▸ fits (show _ = true from h)
theorem getJob (c : Cmd) : Statement (.getJob c) := fun h _ e => Option.some.inj e ▸ fits (show _ = true from h)
theorem getStats (c : Cmd) : Statement (.getStats c) := fun h _ e => Option.some.inj e ▸ fits (show _ = true from h)
theorem baseLoad (c : Cmd) : Statement (.baseLoad c) := fun h _ e => Option.some.inj e ▸ fits (show _ = true from h)
theorem overlayStage (c : Cmd) : Statement (.overlayStage c) := fun h _ e => Option.some.inj e ▸ fits (show _ = true from h)
theorem overlayApply (c : Cmd) : Statement (.overlayApply c) := fun h _ e => Option.some.inj e ▸ fits (show _ = true from h)
theorem configQuery (c : Cmd) : Statement (.configQuery c) := fun h _ e => Option.some.inj e ▸ fits (show _ = true from h)
theorem linkSet (c : Cmd) : Statement (.linkSet c) := fun h _ e => Option.some.inj e ▸ fits (show _ = true from h)
theorem linkDrain (c : Cmd) : Statement (.linkDrain c) := fun h _ e => Option.some.inj e ▸ fits (show _ = true from h)
theorem linkResume (c : Cmd) : Statement (.linkResume c) := fun h _ e => Option.some.inj e ▸ fits (show _ = true from h)
theorem linkRecheck (c : Cmd) : Statement (.linkRecheck c) := fun h _ e => Option.some.inj e ▸ fits (show _ = true from h)
theorem linkRetrain (c : Cmd) : Statement (.linkRetrain c) := fun h _ e => Option.some.inj e ▸ fits (show _ = true from h)
theorem linkQuery (c : Cmd) : Statement (.linkQuery c) := fun h _ e => Option.some.inj e ▸ fits (show _ = true from h)
theorem partWrite (c : Cmd) : Statement (.partWrite c) := fun h _ e => Option.some.inj e ▸ fits (show _ = true from h)
theorem partRead (c : Cmd) : Statement (.partRead c) := fun h _ e => Option.some.inj e ▸ fits (show _ = true from h)
theorem routeNotice (c : Cmd) : Statement (.routeNotice c) := fun h _ e => Option.some.inj e ▸ fits (show _ = true from h)
theorem queueCfg (c : Cmd) : Statement (.queueCfg c) := fun h _ e => Option.some.inj e ▸ fits (show _ = true from h)
theorem queueRelease (c : Cmd) : Statement (.queueRelease c) := fun h _ e => Option.some.inj e ▸ fits (show _ = true from h)
theorem shaperSet (c : Cmd) : Statement (.shaperSet c) := fun h _ e => Option.some.inj e ▸ fits (show _ = true from h)
theorem policerSet (c : Cmd) : Statement (.policerSet c) := fun h _ e => Option.some.inj e ▸ fits (show _ = true from h)
theorem tc1Admit (c : Cmd) : Statement (.tc1Admit c) := fun h _ e => Option.some.inj e ▸ fits (show _ = true from h)
theorem tc1Release (c : Cmd) : Statement (.tc1Release c) := fun h _ e => Option.some.inj e ▸ fits (show _ = true from h)
theorem tc1Query (c : Cmd) : Statement (.tc1Query c) := fun h _ e => Option.some.inj e ▸ fits (show _ = true from h)
theorem tc1HopHold (c : Cmd) : Statement (.tc1HopHold c) := fun h _ e => Option.some.inj e ▸ fits_and (show _ = true from h)
theorem tc1HopCommit (c : Cmd) : Statement (.tc1HopCommit c) := fun h _ e => Option.some.inj e ▸ fits_and (show _ = true from h)
theorem tc1HopRelease (c : Cmd) : Statement (.tc1HopRelease c) := fun h _ e => Option.some.inj e ▸ fits_and (show _ = true from h)
theorem ctxCreate (c : Cmd) : Statement (.ctxCreate c) := fun h _ e => Option.some.inj e ▸ fits (show _ = true from h)
theorem ctxRearm (c : Cmd) : Statement (.ctxRearm c) := fun h _ e => Option.some.inj e ▸ fits (show _ = true from h)
theorem ctxRelease (c : Cmd) : Statement (.ctxRelease c) := fun h _ e => Option.some.inj e ▸ fits (show _ = true from h)
theorem ctxAbort (c : Cmd) : Statement (.ctxAbort c) := fun h _ e => Option.some.inj e ▸ fits (show _ = true from h)
theorem ctxQuery (c : Cmd) : Statement (.ctxQuery c) := fun h _ e => Option.some.inj e ▸ fits (show _ = true from h)
theorem moePlace (c : Cmd) : Statement (.moePlace c) := fun h _ e => Option.some.inj e ▸ fits_and (show _ = true from h)
theorem moePlaceCommit (c : Cmd) : Statement (.moePlaceCommit c) := fun h _ e => Option.some.inj e ▸ fits_and (show _ = true from h)
theorem embCreate (c : Cmd) : Statement (.embCreate c) := fun h _ e => Option.some.inj e ▸ fits (show _ = true from h)
theorem embRelease (c : Cmd) : Statement (.embRelease c) := fun h _ e => Option.some.inj e ▸ fits (show _ = true from h)
theorem ctxPeerHold (c : Cmd) : Statement (.ctxPeerHold c) := fun h _ e => Option.some.inj e ▸ fits_and (show _ = true from h)
theorem ctxPeerCommit (c : Cmd) : Statement (.ctxPeerCommit c) := fun h _ e => Option.some.inj e ▸ fits_and (show _ = true from h)
theorem ctxPeerRelease (c : Cmd) : Statement (.ctxPeerRelease c) := fun h _ e => Option.some.inj e ▸ fits_and (show _ = true from h)
theorem ctxPeerRearm (c : Cmd) : Statement (.ctxPeerRearm c) := fun h _ e => Option.some.inj e ▸ fits_and (show _ = true from h)
theorem ctxPeerFree (c : Cmd) : Statement (.ctxPeerFree c) := fun h _ e => Option.some.inj e ▸ fits_and (show _ = true from h)
theorem ctxPeerAbort (c : Cmd) : Statement (.ctxPeerAbort c) := fun h _ e => Option.some.inj e ▸ fits_and (show _ = true from h)
theorem ctxPeerFail (c : Cmd) : Statement (.ctxPeerFail c) := fun h _ e => Option.some.inj e ▸ fits_and (show _ = true from h)
theorem regionCreate (c : Cmd) : Statement (.regionCreate c) := fun h _ e => Option.some.inj e ▸ fits (show _ = true from h)
theorem regionRelease (c : Cmd) : Statement (.regionRelease c) := fun h _ e => Option.some.inj e ▸ fits (show _ = true from h)
theorem regionReload (c : Cmd) : Statement (.regionReload c) := fun h _ e => Option.some.inj e ▸ fits (show _ = true from h)
theorem regionQuery (c : Cmd) : Statement (.regionQuery c) := fun h _ e => Option.some.inj e ▸ fits (show _ = true from h)
theorem memFlush (c : Cmd) : Statement (.memFlush c) := fun h _ e => Option.some.inj e ▸ fits_and (show _ = true from h)
theorem memFlushAll (c : Cmd) : Statement (.memFlushAll c) := fun h _ e => Option.some.inj e ▸ fits_and (show _ = true from h)
theorem memRetrain (c : Cmd) : Statement (.memRetrain c) := fun h _ e => Option.some.inj e ▸ fits (show _ = true from h)
theorem bulkXferToModule (c : Cmd) : Statement (.bulkXferToModule c) := fun h _ e => Option.some.inj e ▸ fits_and (show _ = true from h)
theorem bulkXferToHost (c : Cmd) : Statement (.bulkXferToHost c) := fun h _ e => Option.some.inj e ▸ fits_and (show _ = true from h)
theorem coreAssign (c : Cmd) : Statement (.coreAssign c) := fun h _ e => Option.some.inj e ▸ fits (show _ = true from h)
theorem coreReturn (c : Cmd) : Statement (.coreReturn c) := fun h _ e => Option.some.inj e ▸ fits (show _ = true from h)
theorem progLoadRegion (c : Cmd) : Statement (.progLoadRegion c) := fun h _ e => Option.some.inj e ▸ fits_and (show _ = true from h)
theorem progLoadPart (c : Cmd) : Statement (.progLoadPart c) := fun h _ e => Option.some.inj e ▸ fits_and (show _ = true from h)
theorem progUnload (c : Cmd) : Statement (.progUnload c) := fun h _ e => Option.some.inj e ▸ fits (show _ = true from h)
theorem bind (c : Cmd) : Statement (.bind c) := fun h _ e => Option.some.inj e ▸ fits (show _ = true from h)
theorem unbind (c : Cmd) : Statement (.unbind c) := fun h _ e => Option.some.inj e ▸ fits (show _ = true from h)
theorem launch (c : Cmd) : Statement (.launch c) := fun h _ e => Option.some.inj e ▸ fits (show _ = true from h)
theorem progWait (c : Cmd) : Statement (.progWait c) := fun h _ e => Option.some.inj e ▸ fits (show _ = true from h)
theorem progStop (c : Cmd) : Statement (.progStop c) := fun h _ e => Option.some.inj e ▸ fits (show _ = true from h)
theorem progQuery (c : Cmd) : Statement (.progQuery c) := fun h _ e => Option.some.inj e ▸ fits (show _ = true from h)
theorem pairForm (c : Cmd) : Statement (.pairForm c) := fun h _ e => Option.some.inj e ▸ fits (show _ = true from h)
theorem pairBreak (c : Cmd) : Statement (.pairBreak c) := fun h _ e => Option.some.inj e ▸ fits (show _ = true from h)
theorem pairStatus (c : Cmd) : Statement (.pairStatus c) := fun h _ e => Option.some.inj e ▸ fits (show _ = true from h)
theorem pairResync (c : Cmd) : Statement (.pairResync c) := fun h _ e => Option.some.inj e ▸ fits (show _ = true from h)
theorem faultRead (c : Cmd) : Statement (.faultRead c) := fun h _ e => Option.some.inj e ▸ fits (show _ = true from h)
theorem faultClear (c : Cmd) : Statement (.faultClear c) := fun h _ e => Option.some.inj e ▸ fits (show _ = true from h)
theorem faultCfg (c : Cmd) : Statement (.faultCfg c) := fun h _ e => Option.some.inj e ▸ fits (show _ = true from h)
theorem faultForce (c : Cmd) : Statement (.faultForce c) := fun h _ e => Option.some.inj e ▸ fits (show _ = true from h)
theorem selftest (c : Cmd) : Statement (.selftest c) := fun h _ e => Option.some.inj e ▸ fits (show _ = true from h)
theorem repairReset (c : Cmd) : Statement (.repairReset c) := fun h _ e => Option.some.inj e ▸ fits (show _ = true from h)
theorem blackboxRead (c : Cmd) : Statement (.blackboxRead c) := fun h _ e => Option.some.inj e ▸ fits (show _ = true from h)
theorem powerCap (c : Cmd) : Statement (.powerCap c) := fun h _ e => Option.some.inj e ▸ fits (show _ = true from h)
theorem powerStateRun (c : Cmd) : Statement (.powerStateRun c) := fun h _ e => Option.some.inj e ▸ fits_and (show _ = true from h)
theorem powerStateTrim (c : Cmd) : Statement (.powerStateTrim c) := fun h _ e => Option.some.inj e ▸ fits_and (show _ = true from h)
theorem powerStateDrowse (c : Cmd) : Statement (.powerStateDrowse c) := fun h _ e => Option.some.inj e ▸ fits_and (show _ = true from h)
theorem powerStateHibernate (c : Cmd) : Statement (.powerStateHibernate c) := fun h _ e => Option.some.inj e ▸ fits_and (show _ = true from h)
theorem powerRead (c : Cmd) : Statement (.powerRead c) := fun h _ e => Option.some.inj e ▸ fits (show _ = true from h)
theorem lcChange (c : Cmd) : Statement (.lcChange c) := fun h _ e => Option.some.inj e ▸ fits (show _ = true from h)
theorem ownerKey (c : Cmd) : Statement (.ownerKey c) := fun h _ e => Option.some.inj e ▸ fits (show _ = true from h)
theorem rollbackAdvance (c : Cmd) : Statement (.rollbackAdvance c) := fun h _ e => Option.some.inj e ▸ fits (show _ = true from h)
theorem measureRead (c : Cmd) : Statement (.measureRead c) := fun h _ e => Option.some.inj e ▸ fits (show _ = true from h)
theorem mirrorSet (c : Cmd) : Statement (.mirrorSet c) := fun h _ e => Option.some.inj e ▸ fits (show _ = true from h)
theorem mirrorClear (c : Cmd) : Statement (.mirrorClear c) := fun h _ e => Option.some.inj e ▸ fits (show _ = true from h)
theorem foxCfgStream (c : Cmd) : Statement (.foxCfgStream c) := fun h _ e => Option.some.inj e ▸ fits (show _ = true from h)
theorem foxCfgChecker (c : Cmd) : Statement (.foxCfgChecker c) := fun h _ e => Option.some.inj e ▸ fits (show _ = true from h)
theorem foxCfgClear (c : Cmd) : Statement (.foxCfgClear c) := fun h _ e => Option.some.inj e ▸ fits (show _ = true from h)
theorem foxStart (c : Cmd) : Statement (.foxStart c) := fun h _ e => Option.some.inj e ▸ fits (show _ = true from h)
theorem foxStop (c : Cmd) : Statement (.foxStop c) := fun h _ e => Option.some.inj e ▸ fits (show _ = true from h)
theorem foxRead (c : Cmd) : Statement (.foxRead c) := fun h _ e => Option.some.inj e ▸ fits (show _ = true from h)
theorem goldenSet (c : Cmd) : Statement (.goldenSet c) := fun h _ e => Option.some.inj e ▸ fits (show _ = true from h)
theorem injectDisarm (c : Cmd) : Statement (.injectDisarm c) := fun h _ e => Option.some.inj e ▸ fits_and (show _ = true from h)
theorem injectSymbol (c : Cmd) : Statement (.injectSymbol c) := fun h _ e => Option.some.inj e ▸ fits_and (show _ = true from h)
theorem injectSync (c : Cmd) : Statement (.injectSync c) := fun h _ e => Option.some.inj e ▸ fits_and (show _ = true from h)
theorem injectTrailer (c : Cmd) : Statement (.injectTrailer c) := fun h _ e => Option.some.inj e ▸ fits_and (show _ = true from h)
theorem injectDrop (c : Cmd) : Statement (.injectDrop c) := fun h _ e => Option.some.inj e ▸ fits_and (show _ = true from h)
theorem injectDuplicate (c : Cmd) : Statement (.injectDuplicate c) := fun h _ e => Option.some.inj e ▸ fits_and (show _ = true from h)
theorem injectDelay (c : Cmd) : Statement (.injectDelay c) := fun h _ e => Option.some.inj e ▸ fits_and (show _ = true from h)
theorem injectXoff (c : Cmd) : Statement (.injectXoff c) := fun h _ e => Option.some.inj e ▸ fits_and (show _ = true from h)
theorem injectSilence (c : Cmd) : Statement (.injectSilence c) := fun h _ e => Option.some.inj e ▸ fits_and (show _ = true from h)
theorem injectionExpiry (p : Nat) : Statement (.injectionExpiry p) := fun _ c e => nomatch (show none = some c from e)
theorem foxStartTime (u : Nat) : Statement (.foxStartTime u) := fun _ c e => nomatch (show none = some c from e)
theorem foxStreamPacket (u : Nat) (i : Nat) : Statement (.foxStreamPacket u i) := fun _ c e => nomatch (show none = some c from e)
theorem foxCheckerSettle (u : Nat) : Statement (.foxCheckerSettle u) := fun _ c e => nomatch (show none = some c from e)
theorem goldenResultReceived (p : Nat) (pkt : Pkt) : Statement (.goldenResultReceived p pkt) := fun _ c e => nomatch (show none = some c from e)
theorem fswClear (w : Nat) (m : Nat) : Statement (.fswClear w m) := fun _ c e => nomatch (show none = some c from e)
theorem forceWrite (w : Nat) (m : Nat) : Statement (.forceWrite w m) := fun _ c e => nomatch (show none = some c from e)
theorem haltRelease (w : Nat) (m : Nat) : Statement (.haltRelease w m) := fun _ c e => nomatch (show none = some c from e)
theorem irqHoldoffExpiry : Statement (.irqHoldoffExpiry) := fun _ c e => nomatch (show none = some c from e)
theorem keeperWdog : Statement (.keeperWdog) := fun _ c e => nomatch (show none = some c from e)
theorem snapshotCapture : Statement (.snapshotCapture) := fun _ c e => nomatch (show none = some c from e)
theorem blackboxWriteComplete : Statement (.blackboxWriteComplete) := fun _ c e => nomatch (show none = some c from e)
theorem startCondition : Statement (.startCondition) := fun _ c e => nomatch (show none = some c from e)
theorem pfWarn : Statement (.pfWarn) := fun _ c e => nomatch (show none = some c from e)
theorem powerSample (mv : Nat) (ma : Nat) (temp : Nat) : Statement (.powerSample mv ma temp) := fun _ c e => nomatch (show none = some c from e)
theorem cappingLoop (watts : Nat) : Statement (.cappingLoop watts) := fun _ c e => nomatch (show none = some c from e)
theorem denThermalLoop (den : Nat) (temp : Nat) : Statement (.denThermalLoop den temp) := fun _ c e => nomatch (show none = some c from e)
theorem avsAdjust (islands : List Nat) : Statement (.avsAdjust islands) := fun _ c e => nomatch (show none = some c from e)
theorem islandStepComplete (i : Nat) : Statement (.islandStepComplete i) := fun _ c e => nomatch (show none = some c from e)
theorem phaseFault (phase : Nat) : Statement (.phaseFault phase) := fun _ c e => nomatch (show none = some c from e)
theorem railFault (den : Nat) : Statement (.railFault den) := fun _ c e => nomatch (show none = some c from e)
theorem refLost : Statement (.refLost) := fun _ c e => nomatch (show none = some c from e)
theorem refRelock : Statement (.refRelock) := fun _ c e => nomatch (show none = some c from e)
theorem drowseDrainTimeout : Statement (.drowseDrainTimeout) := fun _ c e => nomatch (show none = some c from e)
theorem hibernateEntryComplete : Statement (.hibernateEntryComplete) := fun _ c e => nomatch (show none = some c from e)
theorem wakeN : Statement (.wakeN) := fun _ c e => nomatch (show none = some c from e)
theorem i3cWakeRequest : Statement (.i3cWakeRequest) := fun _ c e => nomatch (show none = some c from e)
theorem wakeComplete (ok : Bool) : Statement (.wakeComplete ok) := fun _ c e => nomatch (show none = some c from e)
theorem corePowerOnComplete (core : Nat) : Statement (.corePowerOnComplete core) := fun _ c e => nomatch (show none = some c from e)
theorem pinResetAssert : Statement (.pinResetAssert) := fun _ c e => nomatch (show none = some c from e)
theorem pinResetRelease : Statement (.pinResetRelease) := fun _ c e => nomatch (show none = some c from e)
theorem endpointReset : Statement (.endpointReset) := fun _ c e => nomatch (show none = some c from e)
theorem pcieLinkDown : Statement (.pcieLinkDown) := fun _ c e => nomatch (show none = some c from e)
theorem bootChainVerified (slot : Nat) (key : Nat) (ctr : Nat) : Statement (.bootChainVerified slot key ctr) := fun _ c e => nomatch (show none = some c from e)
theorem channelTrainingComplete (slow : Bool) (ch : Nat) (ok : Bool) : Statement (.channelTrainingComplete slow ch ok) := fun _ c e => nomatch (show none = some c from e)
theorem wipeComplete (failed : List (Nat × Nat × Nat)) : Statement (.wipeComplete failed) := fun _ c e => nomatch (show none = some c from e)
theorem bootRecordBaseLoad (areasOk : Bool) : Statement (.bootRecordBaseLoad areasOk) := fun _ c e => nomatch (show none = some c from e)
theorem epochPulse : Statement (.epochPulse) := fun _ c e => nomatch (show none = some c from e)
theorem epochMissing : Statement (.epochMissing) := fun _ c e => nomatch (show none = some c from e)
theorem epochLoadWrite (v : Nat) : Statement (.epochLoadWrite v) := fun _ c e => nomatch (show none = some c from e)
theorem epochPeriodWrite (v : Nat) : Statement (.epochPeriodWrite v) := fun _ c e => nomatch (show none = some c from e)
theorem dirStatTimeout (dir : Nat) : Statement (.dirStatTimeout dir) := fun _ c e => nomatch (show none = some c from e)
theorem heartbeatTimer : Statement (.heartbeatTimer) := fun _ c e => nomatch (show none = some c from e)
theorem heartbeatReceived (p : Nat) (pkt : Pkt) : Statement (.heartbeatReceived p pkt) := fun _ c e => nomatch (show none = some c from e)
theorem lossOfContact : Statement (.lossOfContact) := fun _ c e => nomatch (show none = some c from e)
theorem arbitrationTest : Statement (.arbitrationTest) := fun _ c e => nomatch (show none = some c from e)
theorem homeStateReceived (p : Nat) (pkt : Pkt) : Statement (.homeStateReceived p pkt) := fun _ c e => nomatch (show none = some c from e)
theorem pairAutoForm : Statement (.pairAutoForm) := fun _ c e => nomatch (show none = some c from e)
theorem pairFormationComplete (info : PairInfo) : Statement (.pairFormationComplete info) := fun _ c e => nomatch (show none = some c from e)
theorem resyncCopyComplete (failed : Nat) : Statement (.resyncCopyComplete failed) := fun _ c e => nomatch (show none = some c from e)
theorem bar4Read (addr : Nat) (len : Nat) : Statement (.bar4Read addr len) := fun _ c e => nomatch (show none = some c from e)
theorem bar4Write (addr : Nat) (bytes : List Byte) (poisoned : Bool) : Statement (.bar4Write addr bytes poisoned) := fun _ c e => nomatch (show none = some c from e)
theorem bar4BaseWrite (v : Nat) : Statement (.bar4BaseWrite v) := fun _ c e => nomatch (show none = some c from e)
theorem busMasterReadTimeout (id : Nat) : Statement (.busMasterReadTimeout id) := fun _ c e => nomatch (show none = some c from e)
theorem msixUnmask (v : Nat) : Statement (.msixUnmask v) := fun _ c e => nomatch (show none = some c from e)
theorem l0pIdleTimer : Statement (.l0pIdleTimer) := fun _ c e => nomatch (show none = some c from e)
theorem i3cDynamicAddressAssign (a : Nat) : Statement (.i3cDynamicAddressAssign a) := fun _ c e => nomatch (show none = some c from e)
theorem setEndpointId (eid : Nat) : Statement (.setEndpointId eid) := fun _ c e => nomatch (show none = some c from e)
theorem setEventReceiver (eid : Nat) : Statement (.setEventReceiver eid) := fun _ c e => nomatch (show none = some c from e)
theorem getSensorReading (sensor : Nat) (den : Nat) : Statement (.getSensorReading sensor den) := fun _ c e => nomatch (show none = some c from e)
theorem pldmFirmwareUpdate (owl : List Byte) (keeper : List Byte) : Statement (.pldmFirmwareUpdate owl keeper) := fun _ c e => nomatch (show none = some c from e)
theorem activateFirmware : Statement (.activateFirmware) := fun _ c e => nomatch (show none = some c from e)
theorem getVersion (path : Nat) : Statement (.getVersion path) := fun _ c e => nomatch (show none = some c from e)
theorem getCapabilities (path : Nat) : Statement (.getCapabilities path) := fun _ c e => nomatch (show none = some c from e)
theorem negotiateAlgorithms (path : Nat) : Statement (.negotiateAlgorithms path) := fun _ c e => nomatch (show none = some c from e)
theorem getDigests (path : Nat) : Statement (.getDigests path) := fun _ c e => nomatch (show none = some c from e)
theorem getCertificate (path : Nat) (off : Nat) (len : Nat) : Statement (.getCertificate path off len) := fun _ c e => nomatch (show none = some c from e)
theorem challenge (path : Nat) (nonce : List Byte) : Statement (.challenge path nonce) := fun _ c e => nomatch (show none = some c from e)
theorem getMeasurements (path : Nat) (idx : Nat) (nonce : List Byte) : Statement (.getMeasurements path idx nonce) := fun _ c e => nomatch (show none = some c from e)
theorem linkEnable (p : Nat) : Statement (.linkEnable p) := fun _ c e => nomatch (show none = some c from e)
theorem linkDisable (p : Nat) : Statement (.linkDisable p) := fun _ c e => nomatch (show none = some c from e)
theorem retrain (p : Nat) : Statement (.retrain p) := fun _ c e => nomatch (show none = some c from e)
theorem loopback (p : Nat) (v : Nat) : Statement (.loopback p v) := fun _ c e => nomatch (show none = some c from e)
theorem registerWrite (off : Nat) (size : Nat) (v : Nat) : Statement (.registerWrite off size v) := fun _ c e => nomatch (show none = some c from e)
theorem rcRead (off : Nat) (size : Nat) : Statement (.rcRead off size) := fun _ c e => nomatch (show none = some c from e)
theorem splitLowRead (off : Nat) : Statement (.splitLowRead off) := fun _ c e => nomatch (show none = some c from e)
theorem splitHighWrite (off : Nat) (v : Nat) : Statement (.splitHighWrite off v) := fun _ c e => nomatch (show none = some c from e)
theorem bar0IllegalAccess (off : Nat) (size : Nat) (wr : Bool) : Statement (.bar0IllegalAccess off size wr) := fun _ c e => nomatch (show none = some c from e)
theorem unmappedAccess (off : Nat) (wr : Bool) : Statement (.unmappedAccess off wr) := fun _ c e => nomatch (show none = some c from e)
theorem denJunctionTemperature (den : Nat) (temp : Nat) (isl : List (Nat × Nat)) : Statement (.denJunctionTemperature den temp isl) := fun _ c e => nomatch (show none = some c from e)
theorem owlWatchdogExpiry : Statement (.owlWatchdogExpiry) := fun _ c e => nomatch (show none = some c from e)
theorem openRepeatTimer (dst : Nat) (tc : Nat) : Statement (.openRepeatTimer dst tc) := fun _ c e => nomatch (show none = some c from e)
theorem responseTimeout (i : Nat) : Statement (.responseTimeout i) := fun _ c e => nomatch (show none = some c from e)
theorem pcieLinkUp (rate : Nat) (width : Nat) (flit : Bool) : Statement (.pcieLinkUp rate width flit) := fun _ c e => nomatch (show none = some c from e)
theorem configSpaceWrite (bme : Bool) (dstate : Nat) (msixEn : Bool) (fmask : Bool) (mps : Nat) (mrrs : Nat) : Statement (.configSpaceWrite bme dstate msixEn fmask mps mrrs) := fun _ c e => nomatch (show none = some c from e)
theorem drowseWakeComplete : Statement (.drowseWakeComplete) := fun _ c e => nomatch (show none = some c from e)
theorem progImageVerifyComplete (id : Nat) : Statement (.progImageVerifyComplete id) := fun _ c e => nomatch (show none = some c from e)
theorem bulkXferComplete (id : Nat) (data : List Byte) : Statement (.bulkXferComplete id data) := fun _ c e => nomatch (show none = some c from e)

end Sys2Proof.Laws.RowOp
end

