-- ==== Sys2Proof/Laws/Step.lean ====
section
/-! SUPPORT. Every command answers a next state that what follows a command has settled. -/

namespace Sys2Proof.Machine

/-- A command's answer is the settled form of some state. -/
theorem exec_settle (i : Instr) (s : State) : ∃ u, exec i s = .next (settle s u) := by
  cases i <;> exact ⟨_, rfl⟩

/-- What follows a command leaves the queue of waiting commands alone. -/
@[simp] theorem settle_pending (s u : State) : (settle s u).pending = s.pending := rfl

end Sys2Proof.Machine
end

