-- ==== Sys2Proof/Tests/Slice0.lean ====
section
/-! SUPPORT. Tests: the ill-formed terms that WellFormed refuses; the spec's worked examples; and for each obligation with hypotheses a theorem
`witness_<its name>` that shows, clause by clause, states and operands that meet them, at the ends of their ranges where a clause has any. -/

namespace Sys2Proof.Tests

set_option maxRecDepth 20000
set_option Elab.async false

open Sys2Proof Sys2Proof.Machine

/-! ## Ill-formed commands -/

/-- Refused: a lane outside 0–767. -/
theorem test_wf_refuses_lane : ([
    .codewordReceived 768 [] false, .tsBlockReceived 768 {}] : List Instr).all (fun i => !i.wf) = true := by decide +kernel

/-- Refused: any other operand outside its range. -/
theorem test_wf_refuses_range_1 : ([
    .codewordReceived 0 [1024] false, .tsBlockReceived 0 { lane := 8 }, .eqComplete 0 256 0, .deskewComplete 0 [8], .fcStateReceived 0 256,
    .widthReqReceived 0 256, .widthAckReceived 0 256, .laneRetrainReceived 0 256, .soakComplete 0 8, .laneRetrainComplete 0 8,
    .laneErrorLimitExceeded 0 8, .tsRxReceived 0 (2 ^ 48), .tsTxReceived 0 (2 ^ 48), .packetTrailerReceived 0 [] (2 ^ 32) false false,
    .packetTransmitComplete 0 64, .deepPageOpenTimeout 0 64 0, .deepPageOpenTimeout 0 0 64, .deepPageReadComplete 0 64 0 false,
    .deepPageReadComplete 0 0 64 false, .alloc 0 4 0, .alloc 0 0 4, .bufFree 0 (.handle (2 ^ 32)), .bufFree 0 (.address 4 0),
    .refInc 0 (.handle (2 ^ 32)), .refInc 0 (.address 4 0), .refDec 0 (.handle (2 ^ 32)), .refDec 0 (.address 4 0), .policerRelease 0 32,
    .resendTimeout 0 4 0, .resendTimeout 0 0 (2 ^ 32), .pathHoldTimeout 0 4, .operationDeadline 0 4, .ackTimer 0 4, .rateIncreaseTimer 0 4,
    .accBlockReadbackComplete 4096 0 false, .accBlockReadbackComplete 0 65536 false, .noticeTimer 4096, .stepTimeout 4096 0 0 0,
    .stepTimeout 0 65536 0 0, .stepTimeout 0 0 16 0, .stepTimeout 0 0 0 2, .ctxDeadlineExpiry 4096, .failureNoticeRepeat 4096,
    .ctxReleaseHoldExpiry 4096, .aqCommit 0 (List.replicate 7 0), .aqCommit 0 (List.replicate 8 (2 ^ 32)),
    .vqCommit 0 (List.replicate 15 0), .vqCommit 0 (List.replicate 16 (2 ^ 32)), .mqCommit 0 (List.replicate 7 0),
    .mqCommit 0 (List.replicate 8 (2 ^ 32)), .dispatch 0 [2 ^ 32], .progExit 0 (2 ^ 32), .settProgFault 0 (2 ^ 32) 0 0,
    .settProgFault 0 0 (2 ^ 32) 0, .settProgFault 0 0 0 (2 ^ 32), .selftestComplete 0 4 0, .selftestComplete 0 0 256,
    .wcbAgeExpiry (2 ^ 37), .patrolScrub (2 ^ 37) 0, .patrolScrub 0 3] : List Instr).all (fun i => !i.wf) = true := by decide +kernel

/-- Refused: any other operand outside its range. -/
theorem test_wf_refuses_range_2 : ([
    .ceRateWindow false 256, .memTempSample 0 256 0, .memTempSample 0 0 256, .bankRefresh false 256, .impedanceCalibration false 256,
    .shortRetrain false 256 false, .forcedFullRetrain false 256, .fullRetrainComplete false 256 false, .regionWipeComplete 4096,
    .uncleanFrameClear 0 (2 ^ 16), .apertureWrite 256 0 [0], .apertureWrite 0 4096 [0], .apertureWrite 0 0 [],
    .apertureWrite 0 0 (List.replicate 4097 0), .slotFillTimeout 256, .replyWriteRefused 256, .progStagingTimeout (.slot 256),
    .progStagingTimeout (.fabric 16384), .foxStartTime 24, .foxStreamPacket 24 0, .foxStreamPacket 0 16, .foxCheckerSettle 24,
    .fswClear 5 0, .fswClear 0 (2 ^ 64), .forceWrite 5 0, .forceWrite 0 (2 ^ 64), .haltRelease 128 0, .haltRelease 0 (2 ^ 32),
    .powerSample (2 ^ 16) 0 0, .powerSample 0 (2 ^ 20) 0, .powerSample 0 0 256, .cappingLoop (2 ^ 32), .denThermalLoop 0 256,
    .avsAdjust [195], .islandStepComplete 195, .phaseFault 96, .bootChainVerified 2 0 0, .bootChainVerified 0 4 0,
    .bootChainVerified 0 0 (2 ^ 32), .channelTrainingComplete false 256 false, .wipeComplete [(128, 0, 0)], .epochLoadWrite (2 ^ 64),
    .epochPeriodWrite (2 ^ 32), .dirStatTimeout 4, .resyncCopyComplete (2 ^ 16), .bar4Read (2 ^ 43) 1, .bar4Read 0 0, .bar4Read 0 4097,
    .bar4Write (2 ^ 43) [0] false, .bar4Write 0 [] false, .bar4Write 0 (List.replicate 4097 0) false, .bar4BaseWrite (2 ^ 64),
    .msixUnmask 64, .i3cDynamicAddressAssign 128, .setEndpointId 256, .setEventReceiver 256, .getSensorReading 256 0, .getVersion 2,
    .getCapabilities 2, .negotiateAlgorithms 2] : List Instr).all (fun i => !i.wf) = true := by decide +kernel

/-- Refused: any other operand outside its range. -/
theorem test_wf_refuses_range_3 : ([
    .getDigests 2, .getCertificate 2 0 0, .getCertificate 0 65536 0, .getCertificate 0 0 65536, .challenge 2 (List.replicate 32 0),
    .challenge 0 (List.replicate 31 0), .getMeasurements 2 0 (List.replicate 32 0), .getMeasurements 0 256 (List.replicate 32 0),
    .getMeasurements 0 0 (List.replicate 31 0), .loopback 0 4, .registerWrite (2 ^ 24) 4 0, .registerWrite 0 2 0,
    .registerWrite 0 4 (2 ^ 32), .rcRead (2 ^ 24) 4, .rcRead 0 2, .splitLowRead (2 ^ 24), .splitHighWrite (2 ^ 24) 0,
    .splitHighWrite 0 (2 ^ 32), .bar0IllegalAccess (2 ^ 24) 0 false, .unmappedAccess (2 ^ 24) false, .denJunctionTemperature 0 256 [],
    .denJunctionTemperature 0 0 [(160, 0)], .denJunctionTemperature 0 0 [(0, 256)], .openRepeatTimer 0 4, .pcieLinkUp 8 0 false,
    .pcieLinkUp 0 9 false, .configSpaceWrite false 4 false false 128 128, .configSpaceWrite false 0 false false 127 128,
    .configSpaceWrite false 0 false false 4097 128, .configSpaceWrite false 0 false false 128 127,
    .configSpaceWrite false 0 false false 128 4097] : List Instr).all (fun i => !i.wf) = true := by decide +kernel

/-- Refused: a port outside 0–191. -/
theorem test_wf_refuses_port : ([
    .huntDegradeTimeout 192, .eqComplete 192 0 0, .eqTimeout 192, .deskewComplete 192 [], .deskewTimeout 192, .identTimeout 192,
    .identityRepeatTimer 192, .identityMessageReceived 192 {}, .trainRetryHoldExpiry 192, .holdDownExpiry 192, .downHoldExpiry 192,
    .identityCheckTimeout 192, .fcStateReceived 192 0, .widthReqReceived 192 0, .widthAckReceived 192 0, .widthSwitch 192,
    .widthChangeTimeout 192, .widenProposalLapse 192, .laneRetrainReceived 192 0, .soakComplete 192 0, .laneRetrainComplete 192 0,
    .laneErrorLimitExceeded 192 0, .tsSyncTimer 192, .tsSyncReceived 192, .tsRxReceived 192 0, .tsTxReceived 192 0, .tsExchangeTimeout 192,
    .drainReceived 192 false, .fcStateRepeatTimer 192, .xoffStuck 192, .routingReceived 192 {}, .portDrained 192,
    .packetHeaderReceived 192 {}, .packetTrailerReceived 192 [] 0 false false, .policerRelease 192 0, .ackReceived 192 {},
    .openReceived 192 {}, .openAckReceived 192 {}, .resyncReceived 192 {}, .statusCompletionReceived 192 {}, .writeReceived 192 {},
    .readReqReceived 192 {}, .readRespReceived 192 {}, .collContribReceived 192 {}, .collPartialReceived 192 {},
    .moeDispatchReceived 192 {}, .moeReturnReceived 192 {}, .embLookupReceived 192 {}, .cmdPacketReceived 192 {}, .cmdReplyReceived 192 {},
    .resendReqReceived 192 {}, .testPacketReceived 192 {}, .injectionExpiry 192, .goldenResultReceived 192 {}, .heartbeatReceived 192 {},
    .homeStateReceived 192 {}, .linkEnable 192, .linkDisable 192, .retrain 192, .loopback 192 0] : List Instr).all (fun i => !i.wf) = true := by decide +kernel

/-- Refused: a packet header with a field that does not fit. -/
theorem test_wf_refuses_packet : ([
    .identityMessageReceived 0 { hdr := { hops := 64 } }, .routingReceived 0 { hdr := { hops := 64 } },
    .packetHeaderReceived 0 { tc := 4 }, .ackReceived 0 { hdr := { hops := 64 } }, .openReceived 0 { hdr := { hops := 64 } },
    .openAckReceived 0 { hdr := { hops := 64 } }, .resyncReceived 0 { hdr := { hops := 64 } },
    .statusCompletionReceived 0 { hdr := { hops := 64 } }, .writeReceived 0 { hdr := { hops := 64 } },
    .readReqReceived 0 { hdr := { hops := 64 } }, .readRespReceived 0 { hdr := { hops := 64 } },
    .collContribReceived 0 { hdr := { hops := 64 } }, .collPartialReceived 0 { hdr := { hops := 64 } },
    .moeDispatchReceived 0 { hdr := { hops := 64 } }, .moeReturnReceived 0 { hdr := { hops := 64 } },
    .embLookupReceived 0 { hdr := { hops := 64 } }, .cmdPacketReceived 0 { hdr := { hops := 64 } },
    .cmdReplyReceived 0 { hdr := { hops := 64 } }, .resendReqReceived 0 { hdr := { hops := 64 } },
    .testPacketReceived 0 { hdr := { hops := 64 } }, .goldenResultReceived 0 { hdr := { hops := 64 } },
    .heartbeatReceived 0 { hdr := { hops := 64 } }, .homeStateReceived 0 { hdr := { hops := 64 } }] : List Instr).all (fun i => !i.wf) = true := by decide +kernel

/-- Refused: a den outside 0–3. -/
theorem test_wf_refuses_den : ([
    .schedulerSlot 4, .packetTransmitComplete 4 0, .bridgeArrival 4 0, .bridgeArrival 0 4, .deepPageOpenTimeout 4 0 0,
    .deepPageReadComplete 4 0 0 false, .alloc 4 0 0, .bufFree 4 (.handle 0), .refInc 4 (.handle 0), .refDec 4 (.handle 0), .sampleTimer 4,
    .memTempSample 4 0 0, .tierRebuildComplete 4 false, .uncleanFrameClear 4 0, .denThermalLoop 4 0, .railFault 4, .getSensorReading 0 4,
    .denJunctionTemperature 4 0 []] : List Instr).all (fun i => !i.wf) = true := by decide +kernel

/-- Refused: an endpoint identifier outside its 14 bits. -/
theorem test_wf_refuses_endpoint : ([
    .resendTimeout 16384 0 0, .pathHoldTimeout 16384 0, .operationDeadline 16384 0, .ackTimer 16384 0, .rateIncreaseTimer 16384 0,
    .peerCommandTimeout 16384 0, .openRepeatTimer 16384 0] : List Instr).all (fun i => !i.wf) = true := by decide +kernel

/-- Refused: a core outside 0–127. -/
theorem test_wf_refuses_core : ([
    .aqCommit 128 (List.replicate 8 0), .matmul 128 none, .elem 128 none, .arrayCompletion 128, .vqCommit 128 (List.replicate 16 0),
    .chain 128 none, .setpred 128, .vectorCompletion 128, .mqCommit 128 (List.replicate 8 0), .movGet 128, .movPut 128 [], .gather 128,
    .send 128, .moverCompletion 128, .acompPop 128, .vsumPop 128, .mcompPop 128, .inboxPop 128, .segmentFinished 128 0, .itemRelease 128 0,
    .dispatch 128 [], .progExit 128 0, .controlTimerExpiry 128, .settProgFault 128 0 0 0, .stopTimeout 128, .repairLoad 128,
    .selftestComplete 128 0 0, .settStartLimit 128, .corePowerOnComplete 128] : List Instr).all (fun i => !i.wf) = true := by decide +kernel

/-- Refused: a command packet with a field that does not fit. -/
theorem test_wf_refuses_command_1 : ([
    .echo { tag := 65536 }, .getInfo { tag := 65536 }, .getState { tag := 65536 }, .getJob { tag := 65536 }, .getStats { tag := 65536 },
    .baseLoad { tag := 65536 }, .overlayStage { tag := 65536 }, .overlayApply { tag := 65536 }, .configQuery { tag := 65536 },
    .linkSet { tag := 65536 }, .linkDrain { tag := 65536 }, .linkResume { tag := 65536 }, .linkRecheck { tag := 65536 },
    .linkRetrain { tag := 65536 }, .linkQuery { tag := 65536 }, .partWrite { tag := 65536 }, .partRead { tag := 65536 },
    .routeNotice { tag := 65536 }, .queueCfg { tag := 65536 }, .queueRelease { tag := 65536 }, .shaperSet { tag := 65536 },
    .policerSet { tag := 65536 }, .tc1Admit { tag := 65536 }, .tc1Release { tag := 65536 }, .tc1Query { tag := 65536 },
    .tc1HopHold { tag := 65536 }, .tc1HopCommit { tag := 65536 }, .tc1HopRelease { tag := 65536 }, .ctxCreate { tag := 65536 },
    .ctxRearm { tag := 65536 }, .ctxRelease { tag := 65536 }, .ctxAbort { tag := 65536 }, .ctxQuery { tag := 65536 },
    .moePlace { tag := 65536 }, .moePlaceCommit { tag := 65536 }, .embCreate { tag := 65536 }, .embRelease { tag := 65536 },
    .ctxPeerHold { tag := 65536 }, .ctxPeerCommit { tag := 65536 }, .ctxPeerRelease { tag := 65536 }, .ctxPeerRearm { tag := 65536 },
    .ctxPeerFree { tag := 65536 }, .ctxPeerAbort { tag := 65536 }, .ctxPeerFail { tag := 65536 }, .regionCreate { tag := 65536 },
    .regionRelease { tag := 65536 }, .regionReload { tag := 65536 }, .regionQuery { tag := 65536 }, .memFlush { tag := 65536 },
    .memFlushAll { tag := 65536 }, .memRetrain { tag := 65536 }, .bulkXferToModule { tag := 65536 }, .bulkXferToHost { tag := 65536 },
    .coreAssign { tag := 65536 }, .coreReturn { tag := 65536 }, .progLoadRegion { tag := 65536 }, .progLoadPart { tag := 65536 },
    .progUnload { tag := 65536 }, .bind { tag := 65536 }, .unbind { tag := 65536 }] : List Instr).all (fun i => !i.wf) = true := by decide +kernel

/-- Refused: a command packet with a field that does not fit. -/
theorem test_wf_refuses_command_2 : ([
    .launch { tag := 65536 }, .progWait { tag := 65536 }, .progStop { tag := 65536 }, .progQuery { tag := 65536 },
    .pairForm { tag := 65536 }, .pairBreak { tag := 65536 }, .pairStatus { tag := 65536 }, .pairResync { tag := 65536 },
    .faultRead { tag := 65536 }, .faultClear { tag := 65536 }, .faultCfg { tag := 65536 }, .faultForce { tag := 65536 },
    .selftest { tag := 65536 }, .repairReset { tag := 65536 }, .blackboxRead { tag := 65536 }, .powerCap { tag := 65536 },
    .powerStateRun { tag := 65536 }, .powerStateTrim { tag := 65536 }, .powerStateDrowse { tag := 65536 },
    .powerStateHibernate { tag := 65536 }, .powerRead { tag := 65536 }, .lcChange { tag := 65536 }, .ownerKey { tag := 65536 },
    .rollbackAdvance { tag := 65536 }, .measureRead { tag := 65536 }, .mirrorSet { tag := 65536 }, .mirrorClear { tag := 65536 },
    .foxCfgStream { tag := 65536 }, .foxCfgChecker { tag := 65536 }, .foxCfgClear { tag := 65536 }, .foxStart { tag := 65536 },
    .foxStop { tag := 65536 }, .foxRead { tag := 65536 }, .goldenSet { tag := 65536 }, .injectDisarm { tag := 65536 },
    .injectSymbol { tag := 65536 }, .injectSync { tag := 65536 }, .injectTrailer { tag := 65536 }, .injectDrop { tag := 65536 },
    .injectDuplicate { tag := 65536 }, .injectDelay { tag := 65536 }, .injectXoff { tag := 65536 }, .injectSilence { tag := 65536 },
    .echo { src := .slot 256 }, .echo { src := .fabric 16384 }, .echo { job := 4096 }] : List Instr).all (fun i => !i.wf) = true := by decide +kernel

/-- Refused: a command packet that selects another row of its opcode. -/
theorem test_wf_refuses_selector : ([
    .tc1HopHold { params := [1, 0, 0, 0] }, .tc1HopCommit { params := [2, 0, 0, 0] }, .tc1HopRelease { params := [3, 0, 0, 0] },
    .moePlace { params := [0, 1, 0, 0] }, .moePlaceCommit {}, .ctxPeerHold { params := [1, 0, 0, 0] },
    .ctxPeerCommit { params := [2, 0, 0, 0] }, .ctxPeerRelease { params := [3, 0, 0, 0] }, .ctxPeerRearm { params := [4, 0, 0, 0] },
    .ctxPeerFree { params := [5, 0, 0, 0] }, .ctxPeerAbort { params := [6, 0, 0, 0] }, .ctxPeerFail { params := [7, 0, 0, 0] },
    .memFlush { params := [0, 4, 0, 0] }, .memFlushAll {},
    .bulkXferToModule { params := [0, 0, 0, 0, 0, 0, 0, 0, 0, 0, 0, 0, 0, 0, 0, 0, 1, 0, 0, 0] }, .bulkXferToHost {},
    .progLoadRegion { params := [2, 0, 0, 0] }, .progLoadPart { params := [1, 0, 0, 0] }, .powerStateRun { params := [1, 0, 0, 0] },
    .powerStateTrim { params := [2, 0, 0, 0] }, .powerStateDrowse { params := [3, 0, 0, 0] },
    .powerStateHibernate { params := [4, 0, 0, 0] }, .injectDisarm { params := [0, 1, 0, 0] }, .injectSymbol { params := [0, 2, 0, 0] },
    .injectSync { params := [0, 3, 0, 0] }, .injectTrailer { params := [0, 4, 0, 0] }, .injectDrop { params := [0, 5, 0, 0] },
    .injectDuplicate { params := [0, 6, 0, 0] }, .injectDelay { params := [0, 7, 0, 0] }, .injectXoff { params := [0, 8, 0, 0] },
    .injectSilence { params := [0, 9, 0, 0] }] : List Instr).all (fun i => !i.wf) = true := by decide +kernel

/-- Accepted: every command above with its operands in range. -/
theorem test_wf_accepts_1 : ([
    .codewordReceived 0 [] false, .huntDegradeTimeout 0, .tsBlockReceived 0 {}, .eqComplete 0 0 0, .eqTimeout 0, .deskewComplete 0 [],
    .deskewTimeout 0, .identTimeout 0, .identityRepeatTimer 0, .identityMessageReceived 0 {}, .trainRetryHoldExpiry 0, .holdDownExpiry 0,
    .downHoldExpiry 0, .identityCheckTimeout 0, .fcStateReceived 0 0, .widthReqReceived 0 0, .widthAckReceived 0 0, .widthSwitch 0,
    .widthChangeTimeout 0, .widenProposalLapse 0, .laneRetrainReceived 0 0, .soakComplete 0 0, .laneRetrainComplete 0 0,
    .laneErrorLimitExceeded 0 0, .tsSyncTimer 0, .tsSyncReceived 0, .tsRxReceived 0 0, .tsTxReceived 0 0, .tsExchangeTimeout 0,
    .drainReceived 0 false, .fcStateRepeatTimer 0, .xoffStuck 0, .routingReceived 0 {}, .portDrained 0, .packetHeaderReceived 0 {},
    .packetTrailerReceived 0 [] 0 false false, .schedulerSlot 0, .packetTransmitComplete 0 0, .bridgeArrival 0 0,
    .deepPageOpenTimeout 0 0 0, .deepPageReadComplete 0 0 0 false, .alloc 0 0 0, .bufFree 0 (.handle 0), .refInc 0 (.handle 0),
    .refDec 0 (.handle 0), .policerRelease 0 0, .sampleTimer 0, .resendTimeout 0 0 0, .pathHoldTimeout 0 0, .operationDeadline 0 0,
    .ackTimer 0 0, .rateIncreaseTimer 0 0, .ackReceived 0 {}, .openReceived 0 {}, .openAckReceived 0 {}, .resyncReceived 0 {},
    .statusCompletionReceived 0 {}, .writeReceived 0 {}, .readReqReceived 0 {}, .readRespReceived 0 {}] : List Instr).all (fun i => i.wf) = true := by decide +kernel

/-- Accepted: every command above with its operands in range. -/
theorem test_wf_accepts_2 : ([
    .collContribReceived 0 {}, .accBlockReadbackComplete 0 0 false, .collPartialReceived 0 {}, .moeDispatchReceived 0 {},
    .moeReturnReceived 0 {}, .embLookupReceived 0 {}, .cmdPacketReceived 0 {}, .cmdReplyReceived 0 {}, .resendReqReceived 0 {},
    .testPacketReceived 0 {}, .noticeTimer 0, .stepTimeout 0 0 0 0, .ctxDeadlineExpiry 0, .failureNoticeRepeat 0, .ctxReleaseHoldExpiry 0,
    .aqCommit 0 (List.replicate 8 0), .matmul 0 none, .elem 0 none, .arrayCompletion 0, .vqCommit 0 (List.replicate 16 0), .chain 0 none,
    .setpred 0, .vectorCompletion 0, .mqCommit 0 (List.replicate 8 0), .movGet 0, .movPut 0 [], .gather 0, .send 0, .moverCompletion 0,
    .acompPop 0, .vsumPop 0, .mcompPop 0, .inboxPop 0, .segmentFinished 0 0, .itemRelease 0 0, .dispatch 0 [], .progExit 0 0,
    .controlTimerExpiry 0, .settProgFault 0 0 0 0, .stopTimeout 0, .repairLoad 0, .selftestComplete 0 0 0, .settStartLimit 0,
    .wcbAgeExpiry 0, .patrolScrub 0 0, .ceRateWindow false 0, .memTempSample 0 0 0, .bankRefresh false 0, .impedanceCalibration false 0,
    .shortRetrain false 0 false, .forcedFullRetrain false 0, .fullRetrainComplete false 0 false, .tierRebuildComplete 0 false,
    .regionWipeComplete 0, .uncleanFrameClear 0 0, .apertureWrite 0 0 [0], .slotFillTimeout 0, .replyWriteRefused 0,
    .peerCommandTimeout 0 0, .progStagingTimeout (.slot 0)] : List Instr).all (fun i => i.wf) = true := by decide +kernel

/-- Accepted: every command above with its operands in range. -/
theorem test_wf_accepts_3 : ([
    .echo {}, .getInfo {}, .getState {}, .getJob {}, .getStats {}, .baseLoad {}, .overlayStage {}, .overlayApply {}, .configQuery {},
    .linkSet {}, .linkDrain {}, .linkResume {}, .linkRecheck {}, .linkRetrain {}, .linkQuery {}, .partWrite {}, .partRead {},
    .routeNotice {}, .queueCfg {}, .queueRelease {}, .shaperSet {}, .policerSet {}, .tc1Admit {}, .tc1Release {}, .tc1Query {},
    .tc1HopHold {}, .tc1HopCommit { params := [1, 0, 0, 0] }, .tc1HopRelease { params := [2, 0, 0, 0] }, .ctxCreate {}, .ctxRearm {},
    .ctxRelease {}, .ctxAbort {}, .ctxQuery {}, .moePlace {}, .moePlaceCommit { params := [0, 1, 0, 0] }, .embCreate {}, .embRelease {},
    .ctxPeerHold {}, .ctxPeerCommit { params := [1, 0, 0, 0] }, .ctxPeerRelease { params := [2, 0, 0, 0] },
    .ctxPeerRearm { params := [3, 0, 0, 0] }, .ctxPeerFree { params := [4, 0, 0, 0] }, .ctxPeerAbort { params := [5, 0, 0, 0] },
    .ctxPeerFail { params := [6, 0, 0, 0] }, .regionCreate {}, .regionRelease {}, .regionReload {}, .regionQuery {}, .memFlush {},
    .memFlushAll { params := [0, 4, 0, 0] }, .memRetrain {}, .bulkXferToModule {},
    .bulkXferToHost { params := [0, 0, 0, 0, 0, 0, 0, 0, 0, 0, 0, 0, 0, 0, 0, 0, 1, 0, 0, 0] }, .coreAssign {}, .coreReturn {},
    .progLoadRegion { params := [1, 0, 0, 0] }, .progLoadPart {}, .progUnload {}, .bind {}, .unbind {}] : List Instr).all (fun i => i.wf) = true := by decide +kernel

/-- Accepted: every command above with its operands in range. -/
theorem test_wf_accepts_4 : ([
    .launch {}, .progWait {}, .progStop {}, .progQuery {}, .pairForm {}, .pairBreak {}, .pairStatus {}, .pairResync {}, .faultRead {},
    .faultClear {}, .faultCfg {}, .faultForce {}, .selftest {}, .repairReset {}, .blackboxRead {}, .powerCap {}, .powerStateRun {},
    .powerStateTrim { params := [1, 0, 0, 0] }, .powerStateDrowse { params := [2, 0, 0, 0] },
    .powerStateHibernate { params := [3, 0, 0, 0] }, .powerRead {}, .lcChange {}, .ownerKey {}, .rollbackAdvance {}, .measureRead {},
    .mirrorSet {}, .mirrorClear {}, .foxCfgStream {}, .foxCfgChecker {}, .foxCfgClear {}, .foxStart {}, .foxStop {}, .foxRead {},
    .goldenSet {}, .injectDisarm {}, .injectSymbol { params := [0, 1, 0, 0] }, .injectSync { params := [0, 2, 0, 0] },
    .injectTrailer { params := [0, 3, 0, 0] }, .injectDrop { params := [0, 4, 0, 0] }, .injectDuplicate { params := [0, 5, 0, 0] },
    .injectDelay { params := [0, 6, 0, 0] }, .injectXoff { params := [0, 7, 0, 0] }, .injectSilence { params := [0, 8, 0, 0] },
    .injectionExpiry 0, .foxStartTime 0, .foxStreamPacket 0 0, .foxCheckerSettle 0, .goldenResultReceived 0 {}, .fswClear 0 0,
    .forceWrite 0 0, .haltRelease 0 0, .powerSample 0 0 0, .cappingLoop 0, .denThermalLoop 0 0, .avsAdjust [], .islandStepComplete 0,
    .phaseFault 0, .railFault 0, .corePowerOnComplete 0, .bootChainVerified 0 0 0] : List Instr).all (fun i => i.wf) = true := by decide +kernel

/-- Accepted: every command above with its operands in range. -/
theorem test_wf_accepts_5 : ([
    .channelTrainingComplete false 0 false, .wipeComplete [], .epochLoadWrite 0, .epochPeriodWrite 0, .dirStatTimeout 0,
    .heartbeatReceived 0 {}, .homeStateReceived 0 {}, .resyncCopyComplete 0, .bar4Read 0 1, .bar4Write 0 [0] false, .bar4BaseWrite 0,
    .msixUnmask 0, .i3cDynamicAddressAssign 0, .setEndpointId 0, .setEventReceiver 0, .getSensorReading 0 0, .getVersion 0,
    .getCapabilities 0, .negotiateAlgorithms 0, .getDigests 0, .getCertificate 0 0 0, .challenge 0 (List.replicate 32 0),
    .getMeasurements 0 0 (List.replicate 32 0), .linkEnable 0, .linkDisable 0, .retrain 0, .loopback 0 0, .registerWrite 0 4 0,
    .rcRead 0 4, .splitLowRead 0, .splitHighWrite 0 0, .bar0IllegalAccess 0 0 false, .unmappedAccess 0 false,
    .denJunctionTemperature 0 0 [], .openRepeatTimer 0 0, .pcieLinkUp 0 0 false, .configSpaceWrite false 0 false false 128 128] : List Instr).all (fun i => i.wf) = true := by decide +kernel

/-- Refused: a command packet whose parameters are longer than its length field can say. -/
theorem test_wf_refuses_command_length : (Instr.echo { params := List.replicate 65536 0 }).wf = false := by
  change Cmd.ok _ = false
  unfold Cmd.ok Cmd.len
  rw [List.length_replicate]
  decide +kernel

/-! ## The spec's worked examples -/

/-- R12, R31, R33: the chip at local coordinate 89 of rack (3, 1), its down port 121 and the up port +y 9. -/
theorem test_ports_of_the_example : chipAt 3 1 89 = 1497 ∧ (defaultUse {} 121).index = 89 ∧ (defaultUse {} 121).use = 0 ∧ denOf 121 = 2 ∧
    upPort 2 9 = 137 ∧ denOf 137 = 2 := by decide

/-- R58: the measurement on a +x link, in ps. -/
theorem test_exchange : exchangeOf 1000000 1000845 1001845 1002455 = (117500, 727500) := by decide

/-- R246: 1 + 2⁻³⁰ + 2⁻⁶⁰ leaves as the pair 1.0 and 2⁻³⁰. -/
theorem test_pair_of_a_sum : pairOf (.fin false (2 ^ 60 + 2 ^ 30 + 1) (-60)) = (0x3F800000, 0x30800000) := by decide +kernel

/-- R240: 1 + 3 × 2⁻¹⁰ in BF16, to nearest even and stochastically on both sides of the threshold. -/
theorem test_bf16_rounding : (fmtOf 1).encode .rne (.fin false 1027 (-10)) = 0x3F80 ∧ (fmtOf 1).encode (.sr 0x5FFFFFFF) (.fin false 1027 (-10)) = 0x3F81 ∧
    (fmtOf 1).encode (.sr 0x60000000) (.fin false 1027 (-10)) = 0x3F80 := by decide +kernel

/-- R239: 2¹⁰⁰ + 1 − 2¹⁰⁰ is 1 in BF16, in the accumulator. -/
theorem test_exact_sum : (fmtOf 1).encode .rne ((([0x7180, 0x3F80, 0xF180].map (fmtOf 1).decode).foldl Entry.add {}).value) = 0x3F80 := by decide +kernel

/-- R344: the areas of the example end at 11,440 MiB, which are 179 frames. -/
theorem test_reserved_areas : (areaEnds 262144 131072 8).getLastD 0 = 11440 * 2 ^ 20 ∧ areaFrames 262144 131072 8 = 179 := by decide +kernel

/-- Den 1's frame 1,024 of the example of R342, on physical frame 3. -/
def frameSt (n : Nat) (fence : Nat) : State :=
  (State.reset.setRegion 0 { state := .ready, frame := 1024, frames := 1, place := 1, phys := [3] }).setTier 1 false { (State.reset.tier 1 false) with setN := n, fenced := fence }

/-- R342: the byte lies on fast channel 123, and with channel 63 fenced on fast channel 68. -/
theorem test_interleave : (frameSt 64 0).chanOf 0x1000005A40 = some (false, 123, 3146048) ∧
    ((frameSt 60 (2 ^ 63)).chanOf 0x1000005A40).map (fun x => x.2.1) = some 68 := by decide +kernel

/-- R206: B_slot of the example on one rack and on an 8 × 8 torus. -/
theorem test_slot_blocks : (Ctx.blocks { desc := [2 ^ 8 + 2 ^ 12 + 16 * 2 ^ 20], leaves := [8192] }) = 129 ∧
    (Ctx.blocks { desc := [2 ^ 8 + 2 ^ 12 + 16 * 2 ^ 20], leaves := [8192, 8193] }) = 193 := by decide +kernel

/-- R471: the 20 bytes that the owner signs. -/
theorem test_lc_message : ({ State.reset with serial := 0x00001C4B2E1907A3, sec := { lc := 2, lcCtr := 5 } } : State).lcMessage 3 =
    [0x43, 0x4B, 0x4C, 0x43, 0xA3, 0x07, 0x19, 0x2E, 0x4B, 0x1C, 0, 0, 3, 0, 0, 0, 5, 0, 0, 0] := by decide +kernel

/-- R144: P0 levels of the example, S = 163,840: each is entered at its occupancy and left below the lower one. -/
theorem test_p0_levels : State.reset.poolS 1 0 = 163840 ∧ ([114687, 114688, 139264, 155648].map (fun n => levelFor 163840 n [70, 85, 95] 262144 0)) = [0, 1, 2, 3] ∧
    ([(111411, 1), (111410, 1), (135986, 2), (152370, 3)].map (fun x => levelFor 163840 x.1 [70, 85, 95] 262144 x.2)) = [1, 0, 1, 2] := by decide +kernel

/-! ## Witnesses -/

/-- Keeper takes a command when its checks say so. -/
theorem takes_of {s : State} {i : OpInfo} {c : Cmd} (h : (s.serves c.src && (s.cmdBegin c).cmdCheck i c == none) = true) : s.Takes i c := by
  simp only [Bool.and_eq_true, beq_iff_eq] at h
  exact h
/-- A pair whose second part is true. -/
theorem pair_true {x : State × Bool} (h : x.2 = true) : x = (x.1, true) := Prod.ext rfl h

/-- Port `p` holds `x`; nothing else differs from reset. -/
def portAt (p : Nat) (x : Port) : State := State.reset.setPort p x
/-- The hypotheses of LinkLock can be met. -/
theorem witness_LinkLock :
  (∃ (s : State) (l : Nat), (s.port (s.portOfLane l)).st = .hunt ∧ (s.port (s.portOfLane l)).retryHold = false ∧ (s.port (s.portOfLane l)).holdDown = false ∧ laneIdx (s.portOfLane l) l < 2 ^ (s.port (s.portOfLane l)).width ∧ (s.lane l).lock = .hunt) ∧
  (∃ (s : State) (p : Nat), p < 192 ∧ (s.port p).st = .hunt ∧ (s.port p).retryHold = false ∧ s.degradeEn p = true ∧ keepMask (2 ^ (s.port p).width) (s.lockMask p) ≠ 0) ∧
  (∃ (s : State) (p : Nat), p < 192 ∧ (s.port p).retryHold = true) ∧
  (∃ (s : State) (p : Nat), p < 192 ∧ (s.port p).holdDown = true) :=
  ⟨⟨portAt 191 { st := .hunt }, 764, by decide⟩,
   ⟨(State.reset.setPort 191 { st := .hunt }).setLane 764 { lock := .locked }, 191, by decide⟩,
   ⟨portAt 191 { retryHold := true }, 191, by decide⟩,
   ⟨portAt 0 { holdDown := true }, 0, by decide⟩⟩

/-- The module's own chip 0 answers on port 0 with a matching identity of both versions. -/
def identPkt : Pkt := { payload := leBytes 4 0x300 ++ leBytes 8 0 ++ leBytes 4 0 ++ leBytes 4 8192 ++ leBytes 4 0 }
/-- The hypotheses of LinkTraining can be met. -/
theorem witness_LinkTraining :
  (∃ (s : State) (l : Nat) (t : TsBlock), (s.port (s.portOfLane l)).st = .eq ∧ laneIdx (s.portOfLane l) l < 2 ^ (s.port (s.portOfLane l)).width ∧ t.preset = false ∧ t.req = (s.lane l).lastReq) ∧
  (∃ (s : State) (p pass offset : Nat), p < 192 ∧ (s.port p).st = .eq ∧ (((s.port p).refmode = true ∨ offset ≤ 20)) ∧ (s.port p).trained &&& pass = (s.port p).trained ∧ (∀ i ∈ bitsOf 8 (s.port p).trained, (s.lane (4 * p + i)).farReady = true)) ∧
  (∃ (s : State) (p : Nat) (i : Instr), p < 192 ∧ ((i = .eqTimeout p ∧ (s.port p).st = .eq ∨ i = .deskewTimeout p ∧ (s.port p).st = .deskew ∨ i = .identTimeout p ∧ (s.port p).st = .ident))) ∧
  (∃ (s : State) (p : Nat) (i : Instr), p < 192 ∧ ((i = .eqTimeout p ∧ (s.port p).st = .eq ∨ i = .deskewTimeout p ∧ (s.port p).st = .deskew ∨ i = .identTimeout p ∧ (s.port p).st = .ident))) ∧
  (∃ (s : State) (p : Nat) (i : Instr), p < 192 ∧ ((i = .eqTimeout p ∧ (s.port p).st = .eq ∨ i = .deskewTimeout p ∧ (s.port p).st = .deskew ∨ i = .identTimeout p ∧ (s.port p).st = .ident))) ∧
  (∃ (s : State) (p : Nat) (ids : List Nat), p < 192 ∧ (s.port p).st = .deskew ∧ ids.length = lanesIn (s.port p).trained ∧ (∀ i ∈ ids, i < s.fullLanes p) ∧ ids.eraseDups.length = ids.length) ∧
  (∃ (s : State) (p : Nat), p < 192 ∧ (s.port p).st = .ident ∧ (s.port p).peer = none) ∧
  (∃ (s : State) (p : Nat) (k : Pkt) (e : Nat × Nat × Nat), p < 192 ∧ (s.port p).st = .ident ∧ (s.port p).sentAfter = true ∧ (s.port p).maxVer ≠ 1 ∧ (identityOf k.payload).versions = 3 ∧ s.expectOf p = some e ∧ s.identityMatches p (identityOf k.payload) = true) :=
  ⟨⟨portAt 0 { st := .eq }, 3, { width := 2 }, by decide⟩,
   ⟨(portAt 191 { st := .eq, trained := 1 }).setLane 764 { farReady := true }, 191, 1, 20, by decide⟩,
   ⟨portAt 191 { st := .eq }, 191, .eqTimeout 191, by decide, Or.inl ⟨rfl, by decide⟩⟩,
   ⟨portAt 191 { st := .deskew }, 191, .deskewTimeout 191, by decide, Or.inr (Or.inl ⟨rfl, by decide⟩)⟩,
   ⟨portAt 0 { st := .ident }, 0, .identTimeout 0, by decide, Or.inr (Or.inr ⟨rfl, by decide⟩)⟩,
   ⟨portAt 0 { st := .deskew, trained := 15 }, 0, [0, 1, 2, 3], by decide⟩,
   ⟨portAt 191 { st := .ident }, 191, by decide⟩,
   ⟨{ portAt 0 { st := .ident, sentAfter := true } with place := some {} }, 0, identPkt, (0, 0, 0), by decide⟩⟩

/-- The hypotheses of LinkService can be met. -/
theorem witness_LinkService :
  (∃ (s : State) (p : Nat) (i : Instr), p < 192 ∧ ((i = .downHoldExpiry p ∧ (s.port p).loss = true ∨ i = .identityCheckTimeout p ∧ (s.port p).idCheck = true ∨ i = .widthChangeTimeout p ∧ (∃ c, (s.port p).change = some c ∧ c.widen = false) ∨ (∃ k, i = .laneErrorLimitExceeded p k ∧ (s.port p).st = .active ∧ (s.port p).active.testBit k = true ∧ lanesIn (s.port p).active ≤ 1)))) ∧
  (∃ (s : State) (p : Nat) (i : Instr), p < 192 ∧ ((i = .downHoldExpiry p ∧ (s.port p).loss = true ∨ i = .identityCheckTimeout p ∧ (s.port p).idCheck = true ∨ i = .widthChangeTimeout p ∧ (∃ c, (s.port p).change = some c ∧ c.widen = false) ∨ (∃ k, i = .laneErrorLimitExceeded p k ∧ (s.port p).st = .active ∧ (s.port p).active.testBit k = true ∧ lanesIn (s.port p).active ≤ 1)))) ∧
  (∃ (s : State) (p : Nat) (i : Instr), p < 192 ∧ ((i = .downHoldExpiry p ∧ (s.port p).loss = true ∨ i = .identityCheckTimeout p ∧ (s.port p).idCheck = true ∨ i = .widthChangeTimeout p ∧ (∃ c, (s.port p).change = some c ∧ c.widen = false) ∨ (∃ k, i = .laneErrorLimitExceeded p k ∧ (s.port p).st = .active ∧ (s.port p).active.testBit k = true ∧ lanesIn (s.port p).active ≤ 1)))) ∧
  (∃ (s : State) (p : Nat) (i : Instr), p < 192 ∧ ((i = .downHoldExpiry p ∧ (s.port p).loss = true ∨ i = .identityCheckTimeout p ∧ (s.port p).idCheck = true ∨ i = .widthChangeTimeout p ∧ (∃ c, (s.port p).change = some c ∧ c.widen = false) ∨ (∃ k, i = .laneErrorLimitExceeded p k ∧ (s.port p).st = .active ∧ (s.port p).active.testBit k = true ∧ lanesIn (s.port p).active ≤ 1)))) ∧
  (∃ (s : State) (p : Nat), p < 192 ∧ (s.port p).st = .active ∧ (s.port p).ver = 2 ∧ (s.port p).change = none) ∧
  (∃ (s : State) (p m : Nat) (c : WidthChange), p < 192 ∧ (s.port p).st = .active ∧ (s.port p).change = some c ∧ m &&& c.mask = m) ∧
  (∃ (s : State) (p a : Nat) (c : WidthChange), p < 192 ∧ (s.port p).st = .active ∧ (s.port p).change = some c ∧ c.agreed = some a ∧ a ≠ 0 ∧ lanesIn a < lanesIn (s.port p).active) ∧
  (∃ (s : State) (p : Nat) (c : WidthChange), p < 192 ∧ (s.port p).change = some c ∧ c.widen = true) ∧
  (∃ (s : State) (p : Nat), p < 192 ∧ (s.port p).st = .active ∧ (s.port p).ver = 2) ∧
  (∃ (s : State) (p i : Nat), p < 192 ∧ (s.port p).st = .active ∧ (s.port p).ver = 2 ∧ s.restoreEn p = true ∧ (s.lane (4 * p + i)).soaking = true ∧ (s.lane (4 * p + i)).lock = .locked ∧ (s.port p).change = none ∧ (s.port p).lastWiden = none ∧ lanesIn (s.port p).active < lanesIn (keepMask (s.fullLanes p) (s.healthyMask p))) ∧
  (∃ (s : State) (p i : Nat), p < 192 ∧ (s.port p).st = .active ∧ (s.lane (4 * p + i)).solo = true) :=
  ⟨⟨portAt 191 { loss := true }, 191, .downHoldExpiry 191, by decide, Or.inl ⟨rfl, by decide⟩⟩,
   ⟨portAt 0 { idCheck := true }, 0, .identityCheckTimeout 0, by decide, Or.inr (Or.inl ⟨rfl, by decide⟩)⟩,
   ⟨portAt 0 { change := some { mask := 3 } }, 0, .widthChangeTimeout 0, by decide, Or.inr (Or.inr (Or.inl ⟨rfl, { mask := 3 }, by decide⟩))⟩,
   ⟨portAt 0 { st := .active, active := 8 }, 0, .laneErrorLimitExceeded 0 3, by decide, Or.inr (Or.inr (Or.inr ⟨3, rfl, by decide⟩))⟩,
   ⟨portAt 0 { st := .active, ver := 2 }, 0, by decide⟩,
   ⟨portAt 0 { st := .active, change := some {} }, 0, 0, {}, by decide⟩,
   ⟨portAt 0 { st := .active, active := 15, change := some { agreed := some 1 } }, 0, 1, { agreed := some 1 }, by decide⟩,
   ⟨portAt 0 { change := some { mask := 255, widen := true } }, 0, { mask := 255, widen := true }, by decide⟩,
   ⟨portAt 191 { st := .active, ver := 2 }, 191, by decide⟩,
   ⟨(((State.reset.setReg (linkReg 0 0) (State.reset.reg (linkReg 0 0) ||| 0x80)).setPort 0 { st := .active, ver := 2, trained := 3, active := 1 }).setLane 0 { lock := .locked }).setLane 1 { lock := .locked, soaking := true }, 0, 1, by decide⟩,
   ⟨(portAt 0 { st := .active }).setLane 3 { solo := true }, 0, 3, by decide⟩⟩

/-- The hypotheses of LinkMessages can be met. -/
theorem witness_LinkMessages :
  (∃ (s : State) (p : Nat), p < 192 ∧ (s.port p).st = .active) ∧
  (∃ (s : State) (p : Nat), p < 192 ∧ (s.port p).st = .active) ∧
  (∃ (s : State) (p : Nat), p < 192 ∧ (s.port p).st = .active ∧ (s.port p).xoffRx % 64 ≠ 0) ∧
  (∃ (s : State) (p : Nat), p < 192 ∧ (s.port p).st = .active ∧ (s.port p).ver = 2 ∧ (s.useOf p).use = 1 ∧ (s.port p).ts = none) ∧
  (∃ (s : State) (p : Nat), p < 192 ∧ (s.port p).st = .active ∧ (s.port p).ver = 2) ∧
  (∃ (s : State) (p : Nat) (e : TsExchange), p < 192 ∧ (s.port p).ts = some e) ∧
  (∃ (s : State) (p t1 t2 t4 : Nat), p < 192 ∧ (s.port p).ts = some { t1 := t1, t2 := some t2, t4 := t4 } ∧ (Tbl.get ({} : PortTime) s.time.ports p).valid = false) ∧
  (∃ (s : State) (p : Nat) (e : TsExchange), p < 192 ∧ (s.port p).ts = some e) ∧
  (∃ (s : State) (p : Nat), p < 192 ∧ (s.port p).st = .active ∧ (s.port p).ver = 2) ∧
  (∃ (s : State) (p : Nat), p < 192 ∧ (s.port p).st = .active) ∧
  (∃ (s : State) (p : Nat), p < 192 ∧ (s.port p).drainTx = true ∧ s.queuesEmpty p = true) ∧
  (∃ (s : State) (p : Nat), p < 192 ∧ s.portThere p = true ∧ p % 2 = 0 ∧ (s.port p).st = .disabled) ∧
  (∃ (s : State) (p : Nat), p < 192 ∧ s.portThere p = true ∧ s.fld (linkReg p 0) 0 1 = 1) ∧
  (∃ (s : State) (p : Nat), p < 192 ∧ s.portThere p = true ∧ (s.port p).st ≠ .disabled) ∧
  (∃ (s : State) (p v : Nat), p < 192 ∧ s.portThere p = true ∧ ((v = 0 ∨ v < 3 ∧ s.instrument = true))) ∧
  (∃ (s : State) (p v : Nat), p < 192 ∧ s.portThere p = true ∧ ((v = 0 ∨ v < 3 ∧ s.instrument = true))) :=
  ⟨⟨portAt 191 { st := .active }, 191, by decide⟩,
   ⟨portAt 191 { st := .active }, 191, by decide⟩,
   ⟨portAt 191 { st := .active, xoffRx := 32 }, 191, by decide⟩,
   ⟨{ portAt 32 { st := .active, ver := 2 } with place := some { x := 2 } }, 32, by decide⟩,
   ⟨portAt 191 { st := .active, ver := 2 }, 191, by decide⟩,
   ⟨portAt 191 { ts := some {} }, 191, {}, by decide⟩,
   ⟨portAt 191 { ts := some { t2 := some 5, t4 := 9 } }, 191, 0, 5, 9, by decide⟩,
   ⟨portAt 191 { ts := some {} }, 191, {}, by decide⟩,
   ⟨portAt 191 { st := .active, ver := 2 }, 191, by decide⟩,
   ⟨portAt 191 { st := .active }, 191, by decide⟩,
   ⟨portAt 191 { drainTx := true }, 191, by decide⟩,
   ⟨State.reset, 190, by decide⟩,
   ⟨State.reset.setReg (linkReg 191 0) (State.reset.reg (linkReg 191 0) ||| 1), 191, by decide⟩,
   ⟨portAt 191 { st := .quarantine }, 191, by decide⟩,
   ⟨{ State.reset with sec := { lc := 3 } }, 191, 2, by decide⟩,
   ⟨State.reset, 191, 0, by decide⟩⟩

/-- A ready module in a torus of one rack, with job 1 valid and chips 0 and 1 on ports 0 and 1. -/
def rackSt : State :=
  (({ State.reset with dev := .ready, place := some {}, parts := [(1, part0 {})] }).setPort 0
    { st := .active, ver := 2, bound := some 0, routed := true, accept := true, active := 15 }).setPort 1 { st := .active, ver := 2, bound := some 1, routed := true, accept := true, active := 15 }
/-- A WRITE from chip 0 to chip 1. -/
def chipHdr : Hdr := { type := 1, tc := 2, dst := 1, src := 0, job := 1, len := 0 }
/-- A packet held at an attachment of a den, all of it gone. -/
def goneHeld (d att : Nat) : Held := { den := d, origin := .port 7, att := some att, complete := true, started := true }
/-- The module holds `h` alone. -/
def holds (h : Held) : State := { State.reset with sw := { State.reset.sw with held := [h] } }
/-- The hypotheses of PacketsIntoAndOutOfTheSwitch can be met. -/
theorem witness_PacketsIntoAndOutOfTheSwitch :
  (∃ (s u : State) (p : Nat) (h : Hdr) (l : List Nat), p < 192 ∧ (s.port p).st = .active ∧ (s.port p).idCheck = false ∧ s.power.pstate ≠ 2 ∧ s.pair.st ≠ 4 ∧ h.tc ≠ 1 ∧ h.type ≠ 0x30 ∧ u = s.setPort p { s.port p with rxBad := false } ∧ u.headCheck p h = none ∧ u.emulated p = none ∧ u.partCheck p h = true ∧ h.hops < u.fld (swReg 0 0x200) 24 4 ∧ u.route h (some p) none = .ports l) ∧
  (∃ (s u : State) (p : Nat) (h : Hdr), p < 192 ∧ (s.port p).st = .active ∧ (s.port p).idCheck = false ∧ s.power.pstate ≠ 2 ∧ s.pair.st ≠ 4 ∧ h.tc ≠ 1 ∧ h.type ≠ 0x30 ∧ u = s.setPort p { s.port p with rxBad := false } ∧ u.headCheck p h = none ∧ u.emulated p = none ∧ u.partCheck p h = true ∧ u.fld (swReg 0 0x200) 24 4 ≤ h.hops) ∧
  (∃ (s : State) (p t id : Nat) (l : List Byte) (a : Arrival), p < 192 ∧ (s.port p).rx = some a ∧ (s.port p).rxBad = false ∧ a.discarded = false ∧ a.held = some id ∧ l.length = a.hdr.len ∧ trailerOf a.hdr l = t) ∧
  (∃ (s : State) (p t id : Nat) (l : List Byte) (a : Arrival), p < 192 ∧ (s.port p).rx = some a ∧ (s.port p).rxBad = false ∧ a.discarded = false ∧ a.held = some id ∧ l.length = a.hdr.len ∧ trailerOf a.hdr l ≠ t) ∧
  (∃ (s : State) (d : Nat), d < 4 ∧ d ∉ s.sw.sliceReset) ∧
  (∃ (s : State) (d a : Nat) (h : Held), d < 4 ∧ a < 48 ∧ s.movedWhole d a = some h ∧ h.inPort.isSome = true) ∧
  (∃ (s : State) (d a : Nat) (h : Held), d < 4 ∧ 48 ≤ a ∧ a < 51 ∧ s.movedWhole d a = some h) ∧
  (∃ (s : State) (d a : Nat) (h : Held), d < 4 ∧ 48 ≤ a ∧ a < 51 ∧ s.movedWhole d a = some h) ∧
  (∃ (s u : State) (f t : Nat) (x : Nat × Nat × Held), s.sw.bridge.find? (fun x => x.1 == f && x.2.1 == t) = some x ∧ s.newId.2.chainTake s.newId.1 t x.2.2.pkt.hdr.cells x.2.2.pkt.hdr.tc none = some u) ∧
  (∃ (s : State) (i : Nat) (h : Held), s.heldById i = some h ∧ h.pkt.hdr.tc ≠ 1) ∧
  (∃ (s : State) (p i : Nat) (h : Held), p < 192 ∧ s.sw.held.find? (fun h => h.policer == some (32 * p + i)) = some h) :=
  ⟨⟨rackSt, rackSt.setPort 0 { rackSt.port 0 with rxBad := false }, 0, chipHdr, [1], by decide, by decide, by decide, by decide, by decide, by decide, by decide, rfl, by decide⟩,
   ⟨rackSt, rackSt.setPort 0 { rackSt.port 0 with rxBad := false }, 0, { chipHdr with hops := 15 }, by decide, by decide, by decide, by decide, by decide, by decide, by decide, rfl, by decide⟩,
   ⟨portAt 191 { rx := some { hdr := {}, held := some 1 } }, 191, trailerOf {} [], 1, [], { hdr := {}, held := some 1 }, by decide, by decide, by decide, by decide, by decide, by decide, rfl⟩,
   ⟨portAt 191 { rx := some { hdr := {}, held := some 1 } }, 191, 2 ^ 32, 1, [], { hdr := {}, held := some 1 }, by decide⟩,
   ⟨State.reset, 3, by decide⟩,
   ⟨holds (goneHeld 3 47), 3, 47, goneHeld 3 47, by decide⟩,
   ⟨holds (goneHeld 3 48), 3, 48, goneHeld 3 48, by decide⟩,
   ⟨holds (goneHeld 0 50), 0, 50, goneHeld 0 50, by decide⟩,
   ⟨{ State.reset with sw := { State.reset.sw with bridge := [(0, 3, {})] } }, _, 0, 3, (0, 3, {}), by decide, (Option.some_get (by decide)).symm⟩,
   ⟨holds { id := 5 }, 5, { id := 5 }, by decide⟩,
   ⟨holds { policer := some 6143 }, 191, 31, { policer := some 6143 }, by decide⟩⟩

/-- The hypotheses of BufferOperationsRefuseAtTheFirstFailingCheck can be met. -/
theorem witness_BufferOperationsRefuseAtTheFirstFailingCheck :
  (∃ (d op h : Nat) (al : Bool) (b : BufName) (f : Nat → BufName → Instr), d < 4 ∧ ((f = .bufFree ∧ op = 1 ∨ f = .refInc ∧ op = 2 ∨ f = .refDec ∧ op = 3)) ∧ ((b = .handle h ∧ al = true ∨ ∃ p a, b = .address p a ∧ h = handleOf p d (a / bufSize p) ∧ al = decide (a % bufSize p = 0)))) ∧
  (∃ (d op h : Nat) (al : Bool) (b : BufName) (f : Nat → BufName → Instr), d < 4 ∧ ((f = .bufFree ∧ op = 1 ∨ f = .refInc ∧ op = 2 ∨ f = .refDec ∧ op = 3)) ∧ ((b = .handle h ∧ al = true ∨ ∃ p a, b = .address p a ∧ h = handleOf p d (a / bufSize p) ∧ al = decide (a % bufSize p = 0)))) ∧
  (∃ (d op h : Nat) (al : Bool) (b : BufName) (f : Nat → BufName → Instr), d < 4 ∧ ((f = .bufFree ∧ op = 1 ∨ f = .refInc ∧ op = 2 ∨ f = .refDec ∧ op = 3)) ∧ ((b = .handle h ∧ al = true ∨ ∃ p a, b = .address p a ∧ h = handleOf p d (a / bufSize p) ∧ al = decide (a % bufSize p = 0)))) ∧
  (∃ (d p r : Nat), d < 4 ∧ ((4 ≤ p ∨ r ≠ d))) ∧
  (∃ (d p r : Nat), d < 4 ∧ ((4 ≤ p ∨ r ≠ d))) ∧
  (∃ (d p : Nat), d < 4 ∧ p < 4) ∧
  (∃ (e : Event), sourceExists e.word e.source = true) ∧
  (∃ (w : Nat), w < 4) :=
  ⟨⟨3, 1, 5, true, .handle 5, .bufFree, by decide, Or.inl ⟨rfl, rfl⟩, Or.inl ⟨rfl, rfl⟩⟩,
   ⟨0, 2, 2 ^ 32 - 1, true, .handle (2 ^ 32 - 1), .refInc, by decide, Or.inr (Or.inl ⟨rfl, rfl⟩), Or.inl ⟨rfl, rfl⟩⟩,
   ⟨3, 3, handleOf 1 3 (100 / bufSize 1), decide (100 % bufSize 1 = 0), .address 1 100, .refDec, by decide, Or.inr (Or.inr ⟨rfl, rfl⟩), Or.inr ⟨1, 100, rfl, rfl, rfl⟩⟩,
   ⟨3, 4, 3, by decide⟩,
   ⟨3, 0, 4, by decide⟩,
   ⟨3, 3, by decide⟩,
   ⟨{ word := 0, source := fBpmRange }, by decide⟩,
   ⟨3, by decide⟩⟩

/-- A packet of the deep segment of queue `q` of attachment `a` in den 3. -/
def deepHeld (a q : Nat) : Held := { den := 3, att := some a, queue := q, deep := true }
/-- It is held alone, and its queue holds `x`. -/
def deepSt (a q : Nat) (x : Queue) : State := (holds (deepHeld a q)).setQueue (qKey 3 a q) x
/-- The hypotheses of DeepPagesAndSamples can be met. -/
theorem witness_DeepPagesAndSamples :
  (∃ (s : State) (d a q t : Nat), d < 4 ∧ a < 64 ∧ (s.queue (qKey d a q)).pageOpen = some t ∧ s.stagedCells d a q ≠ 0) ∧
  (∃ (s : State) (d a q n : Nat) (r : List Nat) (h : Held) (l : List Held), d < 4 ∧ a < 64 ∧ (s.queue (qKey d a q)).pages = n :: r ∧ s.deepOf d a q = h :: l) ∧
  (∃ (s : State) (d a q n : Nat) (r : List Nat), d < 4 ∧ a < 64 ∧ (s.queue (qKey d a q)).pages = n :: r ∧ (s.areaUe d 4).deepOf d a q = []) ∧
  (∃ (s : State) (d : Nat), d < 4 ∧ s.fld (swReg d 0xB00) 0 1 = 1) :=
  ⟨⟨deepSt 63 63 { pageOpen := some 0 }, 3, 63, 63, 0, by decide⟩,
   ⟨deepSt 63 63 { pages := [4] }, 3, 63, 63, 4, [], deepHeld 63 63, [], by decide⟩,
   ⟨State.reset.setQueue (qKey 3 63 63) { pages := [4] }, 3, 63, 63, 4, [], by decide, by decide, by decide, by unfold State.deepOf State.inQueue State.atAtt; rw [State.areaUe_sw]; decide⟩,
   ⟨State.reset.setReg (swReg 3 0xB00) 1, 3, by decide⟩⟩

/-- The transmit stream to `dst` of class 2 holds the outstanding packet `o`. -/
def outSt (s : State) (dst : Nat) (o : OutPkt) : State := s.setTxs dst 2 { phase := .open, out := [o] }
/-- A tracked packet outstanding at the module itself, with a number of the last sequence. -/
def outOwn (n : Nat) : OutPkt := { pkt := { hdr := { type := 1, tc := 2, dst := 8192, seq := 2 ^ 32 - 1 } }, resends := n }
/-- One that no route reaches. -/
def outLost : OutPkt := { pkt := { hdr := { type := 1, tc := 2, dst := 8191 } } }
/-- The hypotheses of StreamTimers can be met. -/
theorem witness_StreamTimers :
  (∃ (s : State) (dst tc q : Nat) (o : OutPkt), (s.txs dst tc).out.find? (fun o => o.pkt.hdr.seq == q) = some o ∧ s.unroutable o = false ∧ o.noRoute = false ∧ o.heldAt = none ∧ o.busy = false ∧ o.resends < s.resendMax) ∧
  (∃ (s : State) (dst tc q : Nat) (o : OutPkt), (s.txs dst tc).out.find? (fun o => o.pkt.hdr.seq == q) = some o ∧ s.unroutable o = false ∧ o.noRoute = false ∧ o.heldAt = none ∧ o.busy = false ∧ s.resendMax ≤ o.resends) ∧
  (∃ (s : State) (dst tc q : Nat) (o : OutPkt), (s.txs dst tc).out.find? (fun o => o.pkt.hdr.seq == q) = some o ∧ s.unroutable o = true ∧ o.heldAt = none) ∧
  (∃ (s : State) (dst tc : Nat), (s.txs dst tc).out.any (fun o => o.heldAt.isSome && o.deadline.isNone) = true) ∧
  (∃ (s : State) (dst tc : Nat), (s.txs dst tc).out.any (fun o => o.heldAt.isSome && o.deadline.isSome) = true) ∧
  (∃ (s : State) (src tc : Nat), (s.rxs src tc).open_ = true ∧ (s.rxs src tc).firstAt.isSome = true ∧ ((s.sendAck src tc).rxs (src + 16384) tc).open_ = false) ∧
  (∃ (s : State) (dst tc p : Nat) (l : List Nat) (r : Rat), (s.route { dst := dst, tc := tc } none none).list = p :: l ∧ (s.txs dst tc).rate = some r) ∧
  (∃ (s : State) (dst tc : Nat), (((s.txs dst tc).phase = .opening ∨ (s.txs dst tc).phase = .busy))) ∧
  (∃ (s : State) (dst tc : Nat), (((s.txs dst tc).phase = .opening ∨ (s.txs dst tc).phase = .busy))) ∧
  (∃ (s : State) (i : Nat) (a : Ask), s.st.asks[i]? = some a) :=
  ⟨⟨outSt rackSt 8192 (outOwn 7), 8192, 2, 2 ^ 32 - 1, outOwn 7, by decide⟩,
   ⟨outSt rackSt 8192 (outOwn 8), 8192, 2, 2 ^ 32 - 1, outOwn 8, by decide⟩,
   ⟨outSt rackSt 8191 outLost, 8191, 2, 0, outLost, by decide⟩,
   ⟨outSt rackSt 8192 { outOwn 8 with heldAt := some 0 }, 8192, 2, by decide⟩,
   ⟨outSt rackSt 8192 { outOwn 8 with heldAt := some 0, deadline := some 0 }, 8192, 2, by decide⟩,
   ⟨rackSt.setRxs 0 2 { open_ := true, firstAt := some 0 }, 0, 2, by decide⟩,
   ⟨rackSt.setTxs 1 2 { rate := some 1 }, 1, 2, 1, [], 1, by decide⟩,
   ⟨State.reset.setTxs 16383 3 { phase := .opening }, 16383, 3, by decide⟩,
   ⟨State.reset.setTxs 16383 3 { phase := .busy }, 16383, 3, by decide⟩,
   ⟨{ State.reset with st := { asks := [{}] } }, 0, {}, by decide⟩⟩

/-- Packet `k` has come to the module on port 191. -/
def gets (s : State) (k : Pkt) : State := { s with sw := { s.sw with delivered := [(191, k)] } }
/-- A COMPLETION of a kind from chip 1. -/
def complPkt (kind : Nat) : Pkt := { hdr := { type := 4, src := 1, dst := 8192, len := 48 }, payload := (Compl.bytes { kind := kind, stc := 2 }) }
/-- Region 0: READY, of job 1, open to the fabric, the first frame of the fast tier. -/
def rgnSt : State :=
  rackSt.setRegion 0 { state := .ready, fabWr := true, fabRd := true, job := 1, frames := 1, phys := [0] }
/-- A memory request of job 1 from chip 1 that asks with `l` at offset `o`. -/
def memPkt (t o : Nat) (l : List Byte) : Pkt := { hdr := { type := t, tc := 2, src := 1, dst := 8192, job := 1, offset := o, len := l.length }, payload := l }
/-- A command packet of chip 1 of sixteen bytes, opcode GET_INFO. -/
def cmdPkt : Pkt :=
  let l := leBytes 4 1 ++ leBytes 4 (7 + 16 * 2 ^ 16) ++ leBytes 4 1
  { hdr := { type := 0x20, src := 1, dst := 8192, job := 1, len := 16 }, payload := l ++ leBytes 4 (crc32c l) }
/-- The hypotheses of PacketsForTheModuleItself can be met. -/
theorem witness_PacketsForTheModuleItself :
  (∃ (s : State) (p : Nat) (k : Pkt), p < 192 ∧ (p, k) ∈ s.sw.delivered ∧ k.hdr.type = 0x04 ∧ (complOf k.payload).kind = 1) ∧
  (∃ (s : State) (p : Nat) (k : Pkt), p < 192 ∧ (p, k) ∈ s.sw.delivered ∧ k.hdr.type = 0x04 ∧ (complOf k.payload).kind = 2) ∧
  (∃ (s : State) (p : Nat) (k : Pkt), p < 192 ∧ (p, k) ∈ s.sw.delivered ∧ k.hdr.type = 0x04 ∧ (complOf k.payload).kind = 3 ∧ (((s.taken p k).countEce p k.hdr).txs k.hdr.src (complOf k.payload).stc).phase ≠ .closed ∧ (((s.taken p k).countEce p k.hdr).txs k.hdr.src (complOf k.payload).stc).inc = none) ∧
  (∃ (s : State) (p : Nat) (k : Pkt), p < 192 ∧ (p, k) ∈ s.sw.delivered ∧ k.hdr.type = 0x04 ∧ (complOf k.payload).kind = 4 ∧ (((s.taken p k).countEce p k.hdr).txs k.hdr.src (complOf k.payload).stc).phase ≠ .closed) ∧
  (∃ (s : State) (p : Nat) (k : Pkt) (a : Ask), p < 192 ∧ (p, k) ∈ s.sw.delivered ∧ k.hdr.type = 0x04 ∧ (complOf k.payload).kind = 5 ∧ (∀ tc < 4, (((s.taken p k).countEce p k.hdr).txs k.hdr.src tc).out = []) ∧ ((s.taken p k).countEce p k.hdr).st.asks.find? (fun a => a.kind != .command && a.answered k.hdr) = some a) ∧
  (∃ (s : State) (p : Nat) (k : Pkt), p < 192 ∧ (p, k) ∈ s.sw.delivered ∧ k.hdr.type = 0x04 ∧ (complOf k.payload).kind = 5 ∧ (∀ tc < 4, (((s.taken p k).countEce p k.hdr).txs k.hdr.src tc).out = []) ∧ (((s.taken p k).countEce p k.hdr).txs k.hdr.src (complOf k.payload).stc).phase ≠ .opening ∧ ((s.taken p k).countEce p k.hdr).st.asks = [] ∧ (((s.taken p k).countEce p k.hdr).ctx k.hdr.ctx).state = .free) ∧
  (∃ (s : State) (p : Nat) (k : Pkt), p < 192 ∧ (p, k) ∈ s.sw.delivered ∧ k.hdr.type = 0x01 ∧ k.payload ≠ [] ∧ s.pair.st ≠ 2 ∧ s.pl.paired = false ∧ (s.taken p k).checkFabric k.hdr.job true k.hdr.offset k.payload.length = .ok) ∧
  (∃ (s : State) (p : Nat) (k : Pkt) (e : Access), p < 192 ∧ (p, k) ∈ s.sw.delivered ∧ k.hdr.type = 0x01 ∧ k.payload ≠ [] ∧ s.pair.st ≠ 2 ∧ (s.taken p k).checkFabric k.hdr.job true k.hdr.offset k.payload.length = e ∧ e ≠ .ok) ∧
  (∃ (s : State) (p n : Nat) (k : Pkt), p < 192 ∧ (p, k) ∈ s.sw.delivered ∧ k.hdr.type = 0x02 ∧ 4 ≤ k.payload.length ∧ n = leWord k.payload 0 % 2 ^ 13 ∧ 1 ≤ n ∧ n ≤ 4096 ∧ (s.taken p k).checkFabric k.hdr.job false k.hdr.offset n = .ok ∧ (s.taken p k).ueIn k.hdr.offset n = none) ∧
  (∃ (s : State) (p : Nat) (k : Pkt) (a : Ask), p < 192 ∧ (p, k) ∈ s.sw.delivered ∧ k.hdr.type = 0x03 ∧ (s.taken p k).st.asks.find? (fun a => a.kind == .read && a.dst == k.hdr.src && a.msg == k.hdr.msg && a.pkt.hdr.offset == k.hdr.offset) = some a) ∧
  (∃ (s : State) (p : Nat) (k : Pkt), p < 192 ∧ (p, k) ∈ s.sw.delivered ∧ k.hdr.type = 0x20 ∧ (s.taken p k).serves (.fabric k.hdr.src) = true ∧ 16 ≤ k.payload.length ∧ leWord k.payload 3 = crc32c (k.payload.take 12) ∧ leWord k.payload 1 / 2 ^ 16 % 2 ^ 13 = k.payload.length ∧ leWord k.payload 2 % 2 ^ 12 = k.hdr.job ∧ opKnown (leWord k.payload 0 % 2 ^ 16) = true ∧ ((s.taken p k).dupsOf k.hdr.src).find? (fun d => d.tag == leWord k.payload 1 % 2 ^ 16) = none) ∧
  (∃ (s : State) (p : Nat) (k : Pkt), p < 192 ∧ (p, k) ∈ s.sw.delivered ∧ k.hdr.type = 0x20 ∧ (s.taken p k).serves (.fabric k.hdr.src) = true ∧ ((k.payload.length < 16 ∨ leWord k.payload 3 ≠ crc32c (k.payload.take 12)))) ∧
  (∃ (s : State) (p : Nat) (k : Pkt), p < 192 ∧ (p, k) ∈ s.sw.delivered ∧ k.hdr.type = 0x21 ∧ (s.taken p k).st.asks = []) ∧
  (∃ (s : State) (p : Nat) (k : Pkt), p < 192 ∧ (p, k) ∈ s.sw.delivered ∧ k.hdr.type = 0x28 ∧ ((s.taken p k).ctx k.hdr.ctx).results = [] ∧ ((s.taken p k).ctx k.hdr.ctx).leaves = []) ∧
  (∃ (s : State) (p : Nat) (k : Pkt) (t : Tap), p < 192 ∧ s.inst.taps.find? (fun t => t.port == p && t.pkt == k) = some t) :=
  ⟨⟨gets rackSt (complPkt 1), 191, complPkt 1, by decide⟩,
   ⟨gets rackSt (complPkt 2), 191, complPkt 2, by decide⟩,
   ⟨gets (rackSt.setTxs 1 2 { phase := .opening }) (complPkt 3), 191, complPkt 3, by decide⟩,
   ⟨gets (rackSt.setTxs 1 2 { phase := .open }) (complPkt 4), 191, complPkt 4, by decide⟩,
   ⟨gets { rackSt with st := { asks := [{ dst := 1 }] } } (complPkt 5), 191, complPkt 5, { dst := 1 }, by decide⟩,
   ⟨gets rackSt (complPkt 5), 191, complPkt 5, by decide⟩,
   ⟨gets rgnSt (memPkt 1 (2 ^ 26 - 1) [1]), 191, memPkt 1 (2 ^ 26 - 1) [1], by decide⟩,
   ⟨gets rgnSt (memPkt 1 (2 ^ 26 - 1) [1, 2]), 191, memPkt 1 (2 ^ 26 - 1) [1, 2], .notOwner, by decide⟩,
   ⟨gets rgnSt (memPkt 2 0 (leBytes 4 4096)), 191, 4096, memPkt 2 0 (leBytes 4 4096), by decide, by decide, by decide, by decide, rfl, by decide⟩,
   ⟨gets { rackSt with st := { asks := [{ dst := 1 }] } } (memPkt 3 0 [5]), 191, memPkt 3 0 [5], { dst := 1 }, by decide⟩,
   ⟨gets rackSt cmdPkt, 191, cmdPkt, by decide⟩,
   ⟨gets rackSt { cmdPkt with payload := [] }, 191, { cmdPkt with payload := [] }, by decide⟩,
   ⟨gets rackSt { hdr := { type := 0x21, src := 1 } }, 191, { hdr := { type := 0x21, src := 1 } }, by decide⟩,
   ⟨gets rackSt { hdr := { type := 0x28, src := 1, ctx := 4095 } }, 191, { hdr := { type := 0x28, src := 1, ctx := 4095 } }, by decide⟩,
   ⟨{ rackSt with inst := { taps := [{ port := 191 }] } }, 191, {}, { port := 191 }, by decide⟩⟩

/-- A running context of job 1 with the sole local member chip 1: the operation, and the elements of format FP32 in chunks of 256; window 1. -/
def ctxOf (op n : Nat) : Ctx :=
  { state := .running, desc := [op + 2 ^ 18 + 10 * 2 ^ 20, 1 + 2 ^ 12, 0, 0, n, 0, 0, 0, 0, 0, 0, 0, 0, 4], locals := [1], ranks := [0], m := 1, dens := [0] }
/-- Context 4095 is `c`, and the streams of chips 0 and 1 are open; packet `k` has come. -/
def collSt (c : Ctx) (k : Pkt) : State := gets (((rackSt.setCtx 4095 c).setRxs 1 1 { open_ := true }).setRxs 0 1 { open_ := true }) k
/-- A packet of the collective from chip `src`. -/
def collPkt (t src chunk off n : Nat) : Pkt :=
  { hdr := { type := t, tc := 1, src := src, dst := 8192, job := 1, ctx := 4095, chunk := chunk, offset := off, len := n }, payload := List.replicate n 0 }
/-- A token whose expert 3 has been asked. -/
def askedToken : Token := { whole := true, gated := true, sel := [(3, 0)], accepted := [3] }
/-- The hypotheses of MartenPacketsAndTimers can be met. -/
theorem witness_MartenPacketsAndTimers :
  (∃ (s : State) (p c m : Nat) (k : Pkt) (i : Pkt → Instr), p < 192 ∧ (p, k) ∈ s.sw.delivered ∧ ((i = .collContribReceived p ∧ k.hdr.type = 0x08 ∨ i = .collPartialReceived p ∧ k.hdr.type = 0x0A)) ∧ (s.taken p k).check222 k.hdr k.payload.length = .accept c m ∧ ((s.taken p k).acceptTracked p k.hdr).2 = true) ∧
  (∃ (s : State) (p c : Nat) (k : Pkt) (i : Pkt → Instr), p < 192 ∧ (p, k) ∈ s.sw.delivered ∧ ((i = .collContribReceived p ∧ k.hdr.type = 0x08 ∨ i = .collPartialReceived p ∧ k.hdr.type = 0x0A)) ∧ (s.taken p k).check222 k.hdr k.payload.length = .refused c) ∧
  (∃ (s : State) (p : Nat) (k : Pkt) (i : Pkt → Instr), p < 192 ∧ (p, k) ∈ s.sw.delivered ∧ ((i = .collContribReceived p ∧ k.hdr.type = 0x08 ∨ i = .collPartialReceived p ∧ k.hdr.type = 0x0A)) ∧ (s.taken p k).check222 k.hdr k.payload.length = .notMember ∧ ((s.taken p k).acceptTracked p k.hdr).2 = true) ∧
  (∃ (s : State) (x k : Nat) (z : Slot), (s.ctx x).slot k = some z ∧ z.reading = true) ∧
  (∃ (s : State) (x k : Nat) (z : Slot), (s.ctx x).slot k = some z ∧ z.reading = true) ∧
  (∃ (s u : State) (p : Nat) (k : Pkt) (c : Ctx), p < 192 ∧ (p, k) ∈ s.sw.delivered ∧ k.hdr.type = 0x10 ∧ (s.taken p k).ctx k.hdr.ctx = c ∧ c.state = .running ∧ c.job = k.hdr.job ∧ c.op = 5 ∧ c.standby = false ∧ k.hdr.offset % 2 ^ 16 = 0 ∧ k.hdr.offset / 2 ^ 16 % 4096 = 0 ∧ k.hdr.msg < c.batchTokens ∧ k.hdr.offset / 2 ^ 16 < c.tokenBytes ∧ k.payload.length = packetLen c.tokenBytes (k.hdr.offset / 2 ^ 16 / 4096) ∧ c.locals.idxOf k.hdr.src = k.hdr.msg / c.tpm ∧ k.hdr.msg / c.tpm < c.locals.length ∧ c.resolve k.hdr.chunk < (s.taken p k).windowEnd c ∧ c.h ≤ c.resolve k.hdr.chunk ∧ c.freedAbove = [] ∧ c.batch (c.resolve k.hdr.chunk) = none ∧ (s.taken p k).acceptTracked p k.hdr = (u, true)) ∧
  (∃ (s u : State) (p b e off : Nat) (k : Pkt) (c : Ctx) (t : Token), p < 192 ∧ (p, k) ∈ s.sw.delivered ∧ k.hdr.type = 0x11 ∧ (s.taken p k).acceptTracked p k.hdr = (u, true) ∧ u.ctx k.hdr.ctx = c ∧ c.resolve k.hdr.chunk = b ∧ u.token k.hdr.ctx b k.hdr.msg = t ∧ k.hdr.offset = e + off * 2 ^ 16 ∧ e < 2 ^ 16 ∧ c.state = .running ∧ c.job = k.hdr.job ∧ c.op = 5 ∧ e ∈ t.accepted ∧ u.replica c b k.hdr.msg e = k.hdr.src ∧ off % 4096 = 0 ∧ off < c.tokenBytes ∧ k.payload.length = packetLen c.tokenBytes (off / 4096) ∧ t.finished = false ∧ (e, off) ∉ t.rets) ∧
  (∃ (s : State) (p c : Nat) (k : Pkt) (t : EmbTable), p < 192 ∧ (p, k) ∈ s.sw.delivered ∧ k.hdr.type = 0x14 ∧ Tbl.get ({} : EmbTable) (s.taken p k).coll.embs k.hdr.ctx = t ∧ t.job ≠ 0 ∧ t.job = k.hdr.job ∧ bestBy (fun a b => decide ((s.taken p k).openItems a < (s.taken p k).openItems b)) (t.cores.filterMap (s.taken p k).physOf) = some c) ∧
  (∃ (s : State) (p : Nat) (k : Pkt), p < 192 ∧ (p, k) ∈ s.sw.delivered ∧ k.hdr.type = 0x14 ∧ (((Tbl.get ({} : EmbTable) (s.taken p k).coll.embs k.hdr.ctx).job = 0 ∨ (Tbl.get ({} : EmbTable) (s.taken p k).coll.embs k.hdr.ctx).job ≠ k.hdr.job))) ∧
  (∃ (s : State) (p : Nat) (k : Pkt), p < 192 ∧ (p, k) ∈ s.sw.delivered ∧ k.hdr.type = 0x14 ∧ (((Tbl.get ({} : EmbTable) (s.taken p k).coll.embs k.hdr.ctx).job = 0 ∨ (Tbl.get ({} : EmbTable) (s.taken p k).coll.embs k.hdr.ctx).job ≠ k.hdr.job))) ∧
  (∃ (s : State) (x : Nat), (s.ctx x).state = .running) ∧
  (∃ (s : State) (x k ph r : Nat), s.ctxOpenPkts x (fun h => h.type == 0x0A && h.chunk == k % 65536 && bits h.offset 44 4 == ph && bits h.offset 43 1 == r) = true) ∧
  (∃ (s : State) (x : Nat), (s.ctx x).op ≠ 5) ∧
  (∃ (s : State) (x : Nat), (s.ctx x).op = 5 ∧ (s.ctx x).state = .running ∧ (s.ctx x).batches = [] ∧ s.ctxOpenPkts x (fun _ => true) = false) ∧
  (∃ (s : State) (x : Nat), (s.ctx x).state = .failed ∧ (s.ctx x).noticesLeft ≠ 0) ∧
  (∃ (s : State) (x : Nat), (s.ctx x).busyHold = true) :=
  ⟨⟨collSt (ctxOf 0 4) (collPkt 8 1 0 0 16), 191, 0, 0, collPkt 8 1 0 0 16, .collContribReceived 191, by decide +kernel, by decide +kernel, Or.inl ⟨rfl, rfl⟩, by decide +kernel⟩,
   ⟨collSt (ctxOf 0 257) (collPkt 8 1 1 0 4), 191, 1, collPkt 8 1 1 0 4, .collContribReceived 191, by decide +kernel, by decide +kernel, Or.inl ⟨rfl, rfl⟩, by decide +kernel⟩,
   ⟨collSt {} (collPkt 10 1 0 0 0), 191, collPkt 10 1 0 0 0, .collPartialReceived 191, by decide +kernel, by decide +kernel, Or.inr ⟨rfl, rfl⟩, by decide +kernel⟩,
   ⟨State.reset.setCtx 0 { slots := [{ chunk := 7, reading := true }] }, 0, 7, { chunk := 7, reading := true }, by decide +kernel⟩,
   ⟨State.reset.setCtx 4095 { slots := [{ chunk := 0, reading := true }] }, 4095, 0, { chunk := 0, reading := true }, by decide +kernel⟩,
   ⟨collSt (ctxOf 5 0) (collPkt 16 1 0 0 16), ((collSt (ctxOf 5 0) (collPkt 16 1 0 0 16)).taken 191 (collPkt 16 1 0 0 16)).acceptTracked 191 (collPkt 16 1 0 0 16).hdr |>.1, 191, collPkt 16 1 0 0 16, ctxOf 5 0, by decide +kernel⟩,
   ⟨collSt { ctxOf 5 0 with batches := [{ tokens := [askedToken] }] } (collPkt 17 0 0 3 16), ((collSt { ctxOf 5 0 with batches := [{ tokens := [askedToken] }] } (collPkt 17 0 0 3 16)).taken 191 (collPkt 17 0 0 3 16)).acceptTracked 191 (collPkt 17 0 0 3 16).hdr |>.1, 191, 0, 3, 0, collPkt 17 0 0 3 16, { ctxOf 5 0 with batches := [{ tokens := [askedToken] }] }, askedToken, by decide +kernel, by decide +kernel, by decide +kernel, pair_true (by decide), by decide +kernel⟩,
   ⟨gets { rackSt with coll := { embs := [(4095, { job := 1, cores := [0] })] } } (collPkt 20 1 0 0 0), 191, 0, collPkt 20 1 0 0 0, { job := 1, cores := [0] }, by decide +kernel⟩,
   ⟨gets rackSt (collPkt 20 1 0 0 0), 191, collPkt 20 1 0 0 0, by decide +kernel⟩,
   ⟨gets { rackSt with coll := { embs := [(4095, { job := 2 })] } } (collPkt 20 1 0 0 0), 191, collPkt 20 1 0 0 0, by decide +kernel⟩,
   ⟨State.reset.setCtx 4095 { state := .running }, 4095, by decide +kernel⟩,
   ⟨outSt State.reset 1 { pkt := { hdr := { type := 10, ctx := 4095, chunk := 65535, offset := 3 * 2 ^ 44 + 2 ^ 43 } } }, 4095, 65535, 3, 1, by decide +kernel⟩,
   ⟨State.reset.setCtx 4095 (ctxOf 0 4), 4095, by decide +kernel⟩,
   ⟨State.reset.setCtx 4095 (ctxOf 5 0), 4095, by decide +kernel⟩,
   ⟨State.reset.setCtx 4095 { state := .failed, noticesLeft := 1 }, 4095, by decide +kernel⟩,
   ⟨State.reset.setCtx 4095 { busyHold := true }, 4095, by decide +kernel⟩⟩

/-- Core 127 is `x`; nothing else differs from reset. -/
def coreAt (x : SettCore) : State := State.reset.setCore 127 x
/-- A running core. -/
def liveCore : SettCore := { st := .running }
/-- Sixteen commands. -/
def fullQ : List QCmd := List.replicate 16 {}
/-- Job 1's binding 0 of core 127, whose mover's next command is `w`, and job 1's region at offset 0. -/
def movSt (w : List Nat) : State :=
  (rgnSt.setBinding 0 { present := true, job := 1 }).setCore 127 { liveCore with binding := 256, movQ := [{ words := w }] }
/-- The header of a packet of WRITE that a core's outbox holds at local address 0. -/
def sendCore : SettCore := { liveCore with movQ := [{ words := [4] }], sram := Tbl.putMany 0 [] 0 (Hdr.bytes { type := 1, tc := 2, dst := 1 }) }
/-- The hypotheses of EngineCommandsOfACore can be met. -/
theorem witness_EngineCommandsOfACore :
  (∃ (s : State) (c : Nat), c < 128 ∧ s.power.pstate < 2 ∧ (s.core c).live = true ∧ (s.core c).arrayQ.length < 16) ∧
  (∃ (s : State) (c : Nat), c < 128 ∧ s.power.pstate < 2 ∧ (s.core c).live = true ∧ (s.core c).vecQ.length < 16) ∧
  (∃ (s : State) (c : Nat), c < 128 ∧ s.power.pstate < 2 ∧ (s.core c).live = true ∧ (s.core c).movQ.length < 16) ∧
  (∃ (s : State) (c : Nat), c < 128 ∧ s.power.pstate < 2 ∧ 16 ≤ (s.core c).arrayQ.length ∧ 16 ≤ (s.core c).vecQ.length ∧ 16 ≤ (s.core c).movQ.length) ∧
  (∃ (s : State) (c : Nat) (q : QCmd), c < 128 ∧ s.power.pstate < 2 ∧ s.startHeld c = false ∧ (s.core c).arrayNext = some q ∧ (arrCmd q.words).opc ≠ 2) ∧
  (∃ (s : State) (c : Nat) (q : QCmd), c < 128 ∧ s.power.pstate < 2 ∧ s.startHeld c = false ∧ (s.core c).arrayNext = some q ∧ (arrCmd q.words).opc = 2) ∧
  (∃ (s : State) (c : Nat) (r : Running), c < 128 ∧ s.power.pstate < 2 ∧ (s.core c).array = some r ∧ r.err = none) ∧
  (∃ (s : State) (c n : Nat) (r : Running), c < 128 ∧ s.power.pstate < 2 ∧ (s.core c).array = some r ∧ r.err = some n) ∧
  (∃ (s : State) (c : Nat) (q : QCmd), c < 128 ∧ s.power.pstate < 2 ∧ (s.core c).vecNext = some q ∧ (vecCmd q.words).opc ≠ 2) ∧
  (∃ (s : State) (c : Nat) (q : QCmd), c < 128 ∧ s.power.pstate < 2 ∧ (s.core c).vecNext = some q ∧ (vecCmd q.words).opc = 2 ∧ q.words.getD 0 0 / 2 ^ 4 % 2 ^ 3 = 0) ∧
  (∃ (s : State) (c : Nat) (r : Running), c < 128 ∧ s.power.pstate < 2 ∧ (s.core c).vec = some r ∧ r.err = none ∧ r.setp = none) ∧
  (∃ (s : State) (c : Nat) (q : QCmd), c < 128 ∧ s.power.pstate < 2 ∧ (s.core c).movNext = some q ∧ s.movCheck c (movCmd q.words) ≠ 0 ∧ (movCmd q.words).opc = 1) ∧
  (∃ (s : State) (c : Nat) (q : QCmd), c < 128 ∧ s.power.pstate < 2 ∧ (s.core c).movNext = some q ∧ s.movCheck c (movCmd q.words) ≠ 0 ∧ (movCmd q.words).opc = 2) ∧
  (∃ (s : State) (c : Nat) (q : QCmd), c < 128 ∧ s.power.pstate < 2 ∧ (s.core c).movNext = some q ∧ (movCmd q.words).opc = 1 ∧ s.movCheck c (movCmd q.words) = 0 ∧ (movCmd q.words).space = 0) ∧
  (∃ (s : State) (c : Nat) (q : QCmd), c < 128 ∧ s.power.pstate < 2 ∧ (s.core c).movNext = some q ∧ (movCmd q.words).opc = 2 ∧ s.movCheck c (movCmd q.words) = 0) ∧
  (∃ (s : State) (c : Nat) (q : QCmd), c < 128 ∧ s.power.pstate < 2 ∧ (s.core c).movNext = some q ∧ (movCmd q.words).opc = 3 ∧ (movCmd q.words).space = 0 ∧ 1 ≤ (movCmd q.words).len ∧ (movCmd q.words).len ≤ 131072 ∧ (movCmd q.words).local_ % 64 = 0 ∧ (movCmd q.words).remote % 64 = 0 ∧ (movCmd q.words).local_ + 64 * (movCmd q.words).len ≤ sramSize ∧ (movCmd q.words).remote + 8 * (movCmd q.words).len ≤ sramSize ∧ (∀ o ∈ (List.range (movCmd q.words).len).map (fun i => rdNat (s.core c).rd ((movCmd q.words).remote % 2 ^ 23 + 8 * i) 8), o % 64 = 0 ∧ s.movReach c false o 64 = true)) ∧
  (∃ (s : State) (c : Nat) (q : QCmd) (h : Hdr), c < 128 ∧ s.power.pstate < 2 ∧ (s.core c).movNext = some q ∧ (movCmd q.words).opc = 4 ∧ (movCmd q.words).space ≤ 3 ∧ (movCmd q.words).remote = 0 ∧ (movCmd q.words).len ≤ 4096 ∧ (movCmd q.words).ndst = 0 ∧ (movCmd q.words).local_ + 32 + (movCmd q.words).len ≤ sramSize ∧ (movCmd q.words).list ≤ sramSize ∧ (s.core c).user = none ∧ h = Hdr.ofWords ((List.range 8).map (fun i => rdNat (s.core c).rd ((movCmd q.words).local_ + 4 * i) 4)) ∧ typeOk h.type h.tc = true) ∧
  (∃ (s : State) (c : Nat) (r : Running), c < 128 ∧ s.power.pstate < 2 ∧ (s.core c).mov = some r) ∧
  (∃ (s : State) (c : Nat) (r : List Nat) (l : List (List Nat)), c < 128 ∧ s.power.pstate < 2 ∧ (s.core c).acompQ = r :: l ∧ (s.core c).vsumQ = r :: l ∧ (s.core c).mcompQ = r :: l ∧ (s.core c).inboxQ = r :: l) ∧
  (∃ (s : State) (c : Nat), c < 128 ∧ s.power.pstate < 2 ∧ (s.core c).acompQ = []) :=
  ⟨⟨coreAt liveCore, 127, by decide +kernel⟩,
   ⟨coreAt liveCore, 127, by decide +kernel⟩,
   ⟨coreAt { liveCore with movQ := fullQ.drop 1 }, 127, by decide +kernel⟩,
   ⟨coreAt { liveCore with arrayQ := fullQ, vecQ := fullQ, movQ := fullQ }, 127, by decide +kernel⟩,
   ⟨coreAt { liveCore with arrayQ := [{ words := [1] }] }, 127, { words := [1] }, by decide +kernel⟩,
   ⟨coreAt { liveCore with arrayQ := [{ words := [2] }] }, 127, { words := [2] }, by decide +kernel⟩,
   ⟨coreAt { liveCore with array := some {} }, 127, {}, by decide +kernel⟩,
   ⟨coreAt { liveCore with array := some { err := some 127 } }, 127, 127, { err := some 127 }, by decide +kernel⟩,
   ⟨coreAt { liveCore with vecQ := [{ words := [1] }] }, 127, { words := [1] }, by decide +kernel⟩,
   ⟨coreAt { liveCore with vecQ := [{ words := [2] }] }, 127, { words := [2] }, by decide +kernel⟩,
   ⟨coreAt { liveCore with vec := some {} }, 127, {}, by decide +kernel⟩,
   ⟨coreAt { liveCore with movQ := [{ words := [1] }] }, 127, { words := [1] }, by decide +kernel⟩,
   ⟨coreAt { liveCore with movQ := [{ words := [2] }] }, 127, { words := [2] }, by decide +kernel⟩,
   ⟨movSt [1, 0, 64], 127, { words := [1, 0, 64] }, by decide +kernel⟩,
   ⟨(movSt [2, 0, 64]).setRegion 0 { rgnSt.region 0 with settWr := true }, 127, { words := [2, 0, 64] }, by decide +kernel⟩,
   ⟨movSt [3, 64, 1], 127, { words := [3, 64, 1] }, by decide +kernel⟩,
   ⟨coreAt sendCore, 127, { words := [4] }, Hdr.ofWords ((List.range 8).map (fun i => rdNat sendCore.rd (4 * i) 4)), by decide +kernel⟩,
   ⟨coreAt { liveCore with mov := some {} }, 127, {}, by decide +kernel⟩,
   ⟨coreAt { liveCore with acompQ := [[1]], vsumQ := [[1]], mcompQ := [[1]], inboxQ := [[1]] }, 127, [1], [], by decide +kernel⟩,
   ⟨coreAt {}, 127, by decide +kernel⟩⟩

/-- A core that serves context 4095 with the open item `i`. -/
def itemCore (i : Item) : SettCore := { liveCore with kind := 1, user := some 4095, items := [i] }
/-- The hypotheses of ProgramsOfACore can be met. -/
theorem witness_ProgramsOfACore :
  (∃ (s : State) (c n : Nat) (i : Item) (z : Slot) (e : EpiSeg), c < 128 ∧ s.power.pstate < 2 ∧ (s.core c).live = true ∧ (s.core c).item n = some i ∧ i.kind = 1 ∧ (s.ctx i.ctx).slot i.chunk = some z ∧ z.epi.find? (fun e => e.lo == i.first) = some e ∧ isMx (s.ctx i.ctx).outF = false ∧ (s.ctx i.ctx).mask = false) ∧
  (∃ (s : State) (c n : Nat) (i : Item), c < 128 ∧ s.power.pstate < 2 ∧ (s.core c).live = true ∧ (s.core c).item n = some i ∧ ((i.kind = 2 ∨ i.kind = 3))) ∧
  (∃ (s : State) (c n : Nat) (i : Item), c < 128 ∧ s.power.pstate < 2 ∧ (s.core c).live = true ∧ (s.core c).item n = some i ∧ ((i.kind = 2 ∨ i.kind = 3))) ∧
  (∃ (s : State) (c n : Nat) (w : List Nat) (i : Item), c < 128 ∧ s.power.pstate < 2 ∧ (s.core c).live = true ∧ n = w.getD 0 0 / 2 ^ 16 % 2 ^ 16 ∧ (s.core c).item n = some i ∧ i.kind = 2 ∧ i.ctx = w.getD 1 0 % 2 ^ 12 ∧ i.chunk % 2 ^ 32 = w.getD 2 0 ∧ i.first = w.getD 3 0) ∧
  (∃ (s : State) (c : Nat), c < 128 ∧ s.power.pstate < 2 ∧ (s.core c).live = true) ∧
  (∃ (s : State) (c : Nat), c < 128 ∧ s.power.pstate < 2 ∧ (s.core c).live = true) ∧
  (∃ (s : State) (c u : Nat), c < 128 ∧ s.power.pstate < 2 ∧ (s.core c).live = true ∧ (((s.core c).kind = 1 ∨ (s.core c).kind = 2)) ∧ (s.core c).user = some u) ∧
  (∃ (s : State) (c u : Nat), c < 128 ∧ s.power.pstate < 2 ∧ (s.core c).live = true ∧ (((s.core c).kind = 1 ∨ (s.core c).kind = 2)) ∧ (s.core c).user = some u) ∧
  (∃ (s : State) (c : Nat), c < 128 ∧ s.power.pstate < 2 ∧ (s.core c).stopping = true) ∧
  (∃ (s : State) (c : Nat), c < 128 ∧ s.sett.charNew = none ∧ s.sett.charAll = false ∧ (s.core c).repairPend = true ∧ (s.core c).binding = 0 ∧ (s.core c).arrayQ = [] ∧ (s.core c).array = none) ∧
  (∃ (c : Nat), c < 128) ∧
  (∃ (s : State) (c row : Nat), c < 128 ∧ s.spareFor c row = none ∧ (∀ q, ((s.sparesOf c).getD q {}).used = false)) ∧
  (∃ (s : State), s.host.linkUp = true ∧ s.served (baseSett + 0x80000) = true ∧ s.host.highHeld = none ∧ s.sec.lc = 3 ∧ s.sett.charNew = none ∧ s.sett.charAll = false ∧ s.sett.bindings.any (fun e => e.2.present && e.2.job != 0) = false) ∧
  (∃ (s : State) (c : Nat) (q : QCmd), c < 128 ∧ c ∈ s.power.held ∧ (s.core c).arrayNext = some q) :=
  ⟨⟨(coreAt (itemCore { num := 9, kind := 1, ctx := 4095, chunk := 7 })).setCtx 4095 { slots := [{ chunk := 7, epi := [{}] }] }, 127, 9, { num := 9, kind := 1, ctx := 4095, chunk := 7 }, { chunk := 7, epi := [{}] }, {}, by decide +kernel⟩,
   ⟨coreAt (itemCore { num := 1, kind := 2 }), 127, 1, { num := 1, kind := 2 }, by decide +kernel⟩,
   ⟨coreAt (itemCore { num := 1, kind := 3 }), 127, 1, { num := 1, kind := 3 }, by decide +kernel⟩,
   ⟨coreAt (itemCore { num := 65535, kind := 2, ctx := 4095, chunk := 2 ^ 32 + 5, first := 6 }), 127, 65535, [65535 * 2 ^ 16, 4095, 5, 6], { num := 65535, kind := 2, ctx := 4095, chunk := 2 ^ 32 + 5, first := 6 }, by decide +kernel⟩,
   ⟨coreAt liveCore, 127, by decide +kernel⟩,
   ⟨coreAt liveCore, 127, by decide +kernel⟩,
   ⟨coreAt { liveCore with kind := 2, user := some 4095 }, 127, 4095, by decide +kernel⟩,
   ⟨coreAt (itemCore {}), 127, 4095, by decide +kernel⟩,
   ⟨coreAt { stopping := true }, 127, by decide +kernel⟩,
   ⟨coreAt { repairPend := true }, 127, by decide +kernel⟩,
   ⟨127, by decide +kernel⟩,
   ⟨{ State.reset with sett := { State.reset.sett with badSpares := [(127, 0), (127, 1), (127, 2), (127, 3)] } }, 127, 0, by decide +kernel, by decide +kernel, fun q => by rcases q with _ | _ | _ | _ | q <;> first | decide +kernel | rfl⟩,
   ⟨{ State.reset with sec := { lc := 3, keeperUp := true }, host := { linkUp := true } }, by decide +kernel⟩,
   ⟨{ coreAt { liveCore with arrayQ := [{ words := [1] }] } with power := { held := [127] } }, 127, { words := [1] }, by decide +kernel⟩⟩

/-- Region 4095: READY, of WGT, the last frame of the fast tier. -/
def lastRgn : State := State.reset.setRegion 4095 { state := .ready, type := 1, frame := 4095, frames := 1, phys := [0], job := 1 }
/-- The hypotheses of MemoryUpkeep can be met. -/
theorem witness_MemoryUpkeep :
  (∃ (s : State) (l : Nat) (e : WcbEntry), s.wcbOf l = some e) ∧
  (∃ (s : State) (l i : Nat), s.fld baseMem 8 1 = 1 ∧ s.regionAt (64 * l) = some i ∧ (s.region i).state = .ready ∧ l ∉ s.mem.ue) ∧
  (∃ (s : State) (l i : Nat), s.fld baseMem 8 1 = 1 ∧ s.regionAt (64 * l) = some i ∧ (s.region i).state = .ready ∧ (s.region i).type ≠ 0 ∧ s.chanOf (64 * l) = none) ∧
  (∃ (s : State) (b : Bool) (c : Nat), s.chanExists b c = true) ∧
  (∃ (s : State) (b : Bool) (c : Nat), s.chanExists b c = true) ∧
  (∃ (d : Nat), d < 4) ∧
  (∃ (s : State) (d t : Nat) (b : Bool), t < 110 ∧ stepFor (s.tier d b).step t < 2) ∧
  (∃ (s : State) (d t : Nat) (b : Bool), t < 110 ∧ stepFor (s.tier d b).step t < 2) ∧
  (∃ (s : State) (b : Bool) (c : Nat), s.chanExists b c = true ∧ (s.chan b c).st ≠ 4) ∧
  (∃ (s : State) (b : Bool) (c : Nat), s.chanExists b c = true ∧ (s.chan b c).st = 0 ∧ s.groupBusy b c = false) ∧
  (∃ (s : State) (b : Bool) (c : Nat), s.chanExists b c = true ∧ (s.chan b c).st = 0 ∧ s.groupBusy b c = false) ∧
  (∃ (s : State) (b : Bool) (c : Nat), s.chanExists b c = true ∧ (s.chan b c).st = 0) ∧
  (∃ (s : State) (b : Bool) (c : Nat), (s.chan b c).st = 3) ∧
  (∃ (d : Nat), d < 4) ∧
  (∃ (s : State) (i : Nat), (s.region i).state = .wiping ∧ (s.region i).releasing = true) ∧
  (∃ (s : State) (i : Nat), (s.region i).state = .wiping ∧ (s.region i).releasing = false) ∧
  (∃ (d : Nat), d < 4) :=
  ⟨⟨{ State.reset with mem := { wcb := [{ line := 5 }] } }, 5, { line := 5 }, by decide +kernel⟩,
   ⟨lastRgn, 2 ^ 32 - 1, 4095, by decide +kernel⟩,
   ⟨lastRgn, 2 ^ 32 - 1, 4095, by decide +kernel⟩,
   ⟨State.reset, false, 255, by decide +kernel⟩,
   ⟨State.reset, true, 127, by decide +kernel⟩,
   ⟨3, by decide +kernel⟩,
   ⟨State.reset, 3, 84, true, by decide +kernel⟩,
   ⟨State.reset, 3, 94, true, by decide +kernel⟩,
   ⟨State.reset, false, 255, by decide +kernel⟩,
   ⟨State.reset, true, 127, by decide +kernel⟩,
   ⟨State.reset, true, 127, by decide +kernel⟩,
   ⟨State.reset, true, 127, by decide +kernel⟩,
   ⟨State.reset.setChan true 127 { st := 3 }, true, 127, by decide +kernel⟩,
   ⟨3, by decide +kernel⟩,
   ⟨State.reset.setRegion 4095 { state := .wiping, releasing := true }, 4095, by decide +kernel⟩,
   ⟨State.reset.setRegion 4095 { state := .wiping }, 4095, by decide +kernel⟩,
   ⟨3, by decide +kernel⟩⟩

/-- A ready module that serves slot 255, which job 0 owns. -/
def readySt : State := { State.reset with dev := .ready, regs := [(slotReg 255 0, 2 ^ 12)] }
/-- Slot 255 as the write of `l` at byte `o` leaves it. -/
def slotWith (o : Nat) (l : List Byte) : CmdSlot :=
  { st := .filling, bytes := Tbl.putMany 0 [] o l, words := (List.range (ceilDiv (o + l.length) 4)).filter (fun w => o ≤ 4 * w && 4 * w + 4 ≤ o + l.length) }
/-- The command `e` executes alone. -/
def execSt (s : State) (e : Exec) : State := { s with cmd := { s.cmd with execs := [e] } }
/-- An overlay TRAIN without settings, whose signer's key is all zeros. -/
def overlayImg : List Byte :=
  leBytes 4 0x46434B43 ++ leBytes 4 (1 + 2 ^ 16) ++ leBytes 4 1 ++ leBytes 12 0 ++ leBytes 8 1 ++ leBytes 8 0 ++ leBytes 4 0 ++ leBytes 4 1 ++ leBytes 8 168
    ++ leBytes 8 72 ++ leBytes 8 9 ++ List.replicate 96 0
/-- A Sett program of one empty section, whose signer's key is all zeros. -/
def progImg : List Byte :=
  leBytes 4 0x54544553 ++ leBytes 4 1 ++ leBytes 4 (1 + 2 ^ 16) ++ leBytes 4 0 ++ leBytes 4 0x10000 ++ leBytes 8 0 ++ leBytes 4 (2 * 2 ^ 16) ++ leBytes 32 0
    ++ leBytes 8 240 ++ leBytes 4 144 ++ leBytes 52 0 ++ leBytes 16 1 ++ List.replicate 96 0
/-- A provisioned module whose owner's key is all zeros, with the overlay in slot 5. -/
def ownedSt : State :=
  { State.reset with sec := { lc := 1, owner := some (List.replicate 32 0) }, cfg := { flash := [(5, overlayImg)] } }

/-- Ed25519 is a constant without a body (log 11): where it verifies the overlay's signature, the checks pass and the overlay is staged. -/
theorem witness_SlotsRepliesAndStagings_overlay (h : signatureOk overlayImg = true) :
    let s := execSt ownedSt { op := 0x0101, data := [0, 5, 168, 1] }
    s.execOf 0 = some { op := 0x0101, data := [0, 5, 168, 1] } ∧ s.checkImage 1 168 (Tbl.get [] s.cfg.flash 5) = 0 := by
  refine ⟨by decide +kernel, ?_⟩
  change State.checkImage _ 1 168 overlayImg = 0
  unfold State.checkImage
  rw [h]
  decide +kernel

/-- Where it verifies the program's signature, the checks pass and the program is loaded. -/
theorem witness_SlotsRepliesAndStagings_program (h : signatureOk progImg = true) :
    let s := execSt ownedSt { op := 0x0702, data := progImg.map (·.toNat) }
    s.execOf 0 = some { op := 0x0702, data := progImg.map (·.toNat) } ∧ (progImg.map (·.toNat)).map (fun n => BitVec.ofNat 8 n) = progImg ∧
      s.progCheck progImg = (0, 0) := by
  refine ⟨by decide +kernel, by decide +kernel, ?_⟩
  unfold State.progCheck
  rw [h]
  decide +kernel
/-- The hypotheses of SlotsRepliesAndStagings can be met. -/
theorem witness_SlotsRepliesAndStagings :
  (∃ (s : State) (n o : Nat) (l : List Byte) (x : CmdSlot), 2 ≤ s.dev.code ∧ s.box.stage = .idle ∧ n < 256 ∧ o + l.length ≤ 4096 ∧ s.fld (slotReg n 0) 12 1 = 1 ∧ (s.cslot n).st ≠ .exec ∧ x = { s.cslot n with st := .filling, bytes := Tbl.putMany 0 (s.cslot n).bytes o l, words := (s.cslot n).words ++ (List.range (ceilDiv (o + l.length) 4)).filter (fun w => o ≤ 4 * w && 4 * w + 4 ≤ o + l.length && !(s.cslot n).words.contains w) } ∧ x.complete = false) ∧
  (∃ (s : State) (n o : Nat) (l : List Byte), 2 ≤ s.dev.code ∧ s.box.stage = .idle ∧ n < 256 ∧ o + l.length ≤ 4096 ∧ ((s.fld (slotReg n 0) 12 1 = 0 ∨ (s.cslot n).st = .exec))) ∧
  (∃ (s : State) (n o : Nat) (l : List Byte), 2 ≤ s.dev.code ∧ s.box.stage = .idle ∧ n < 256 ∧ o + l.length ≤ 4096 ∧ ((s.fld (slotReg n 0) 12 1 = 0 ∨ (s.cslot n).st = .exec))) ∧
  (∃ (s : State) (n o : Nat) (l : List Byte) (x : CmdSlot), 2 ≤ s.dev.code ∧ s.box.stage = .idle ∧ n < 256 ∧ o + l.length ≤ 4096 ∧ s.fld (slotReg n 0) 12 1 = 1 ∧ (s.cslot n).st ≠ .exec ∧ x = { s.cslot n with st := .filling, bytes := Tbl.putMany 0 (s.cslot n).bytes o l, words := (s.cslot n).words ++ (List.range (ceilDiv (o + l.length) 4)).filter (fun w => o ≤ 4 * w && 4 * w + 4 ≤ o + l.length && !(s.cslot n).words.contains w) } ∧ x.complete = true ∧ opKnown (leWord (x.cmd 16) 0 % 2 ^ 16) = true) ∧
  (∃ (s : State) (n : Nat), (s.cslot n).st = .filling ∧ (s.cslot n).words = []) ∧
  (∃ (s : State) (i : Nat) (e : Exec), s.execOf i = some e ∧ e.quiet = false ∧ e.long = true) ∧
  (∃ (s : State) (d t : Nat) (a : Ask), s.st.asks.find? (fun a => a.kind == .command && a.dst == d && a.tag == t) = some a) ∧
  (∃ (s : State) (i slot st : Nat) (e : Exec), s.execOf i = some e ∧ ((e.op = 0x0100 ∨ e.op = 0x0101)) ∧ e.data.getD 0 0 = 0 ∧ e.data.getD 1 0 = slot ∧ s.checkImage (e.data.getD 3 0) (e.data.getD 2 0) (Tbl.get [] s.cfg.flash slot) = st ∧ st ≠ 0) ∧
  (∃ (s : State) (i slot st : Nat) (e : Exec), s.execOf i = some e ∧ ((e.op = 0x0100 ∨ e.op = 0x0101)) ∧ e.data.getD 0 0 = 0 ∧ e.data.getD 1 0 = slot ∧ s.checkImage (e.data.getD 3 0) (e.data.getD 2 0) (Tbl.get [] s.cfg.flash slot) = st ∧ st ≠ 0) ∧
  (∃ (s : State) (i n o h : Nat) (e : Exec), s.execOf i = some e ∧ e.op = 0x0606 ∧ bit (leWord e.params 4) 0 = true ∧ h = leWord e.params 0 + leWord e.params 1 * 2 ^ 32 ∧ o = leWord e.params 2 + leWord e.params 3 * 2 ^ 32 ∧ n = leWord e.params 5 + leWord e.params 6 * 2 ^ 32 ∧ n ≠ 0 ∧ s.ueIn o n = none) ∧
  (∃ (s : State) (i n o : Nat) (e : Exec) (l : List Byte), s.execOf i = some e ∧ e.op = 0x0606 ∧ bit (leWord e.params 4) 0 = false ∧ o = leWord e.params 2 + leWord e.params 3 * 2 ^ 32 ∧ n = leWord e.params 5 + leWord e.params 6 * 2 ^ 32 ∧ n ≠ 0 ∧ l.length = n) :=
  ⟨⟨readySt, 255, 4092, [1, 2, 3, 4], slotWith 4092 [1, 2, 3, 4], by decide +kernel, by decide +kernel, by decide +kernel, by decide +kernel, by decide +kernel, by decide +kernel, rfl, by decide +kernel⟩,
   ⟨{ State.reset with dev := .ready }, 255, 4096, [], by decide +kernel⟩,
   ⟨readySt.setSlot 255 { st := .exec }, 255, 4096, [], by decide +kernel⟩,
   ⟨readySt, 255, 0, cmdPkt.payload, slotWith 0 cmdPkt.payload, by decide +kernel, by decide +kernel, by decide +kernel, by decide +kernel, by decide +kernel, by decide +kernel, rfl, by decide +kernel⟩,
   ⟨State.reset.setSlot 255 { st := .filling }, 255, by decide +kernel⟩,
   ⟨execSt State.reset { id := 3, long := true }, 3, { id := 3, long := true }, by decide +kernel⟩,
   ⟨{ State.reset with st := { asks := [{ kind := .command, dst := 8193, tag := 65535 }] } }, 8193, 65535, { kind := .command, dst := 8193, tag := 65535 }, by decide +kernel⟩,
   ⟨execSt State.reset { op := 0x0100, data := [0, 5, 0, 0] }, 0, 5, 0x12, { op := 0x0100, data := [0, 5, 0, 0] }, by decide +kernel⟩,
   ⟨execSt State.reset { op := 0x0101, data := [0, 5, 160, 1] }, 0, 5, 0x12, { op := 0x0101, data := [0, 5, 160, 1] }, by decide +kernel⟩,
   ⟨execSt State.reset { op := 0x0606, params := leBytes 16 0 ++ leBytes 4 1 ++ leBytes 8 64 }, 0, 64, 0, 0, { op := 0x0606, params := leBytes 16 0 ++ leBytes 4 1 ++ leBytes 8 64 }, by decide +kernel⟩,
   ⟨execSt State.reset { op := 0x0606, params := leBytes 16 0 ++ leBytes 4 0 ++ leBytes 8 64 }, 0, 64, 0, { op := 0x0606, params := leBytes 16 0 ++ leBytes 4 0 ++ leBytes 8 64 }, List.replicate 64 0, by decide +kernel⟩⟩

/-- A command of job `j` from slot 255 with the parameter words `w`. -/
def slotCmd (j : Nat) (w : List Nat) : Cmd := { src := .slot 255, tag := 7, job := j, params := w.flatMap (leBytes 4) }
/-- A command of another module with the parameter words `w`. -/
def peerCmd (w : List Nat) : Cmd := { src := .fabric 8193, tag := 7, params := w.flatMap (leBytes 4) }
/-- The module of `rackSt`, deployed, in ACTIVE, serving slot 255. -/
def actSt : State := { rackSt with dev := .active, regs := [(slotReg 255 0, 2 ^ 12)], sec := { lc := 2 } }
/-- The hypotheses of ModuleAndLinkCommands can be met. -/
theorem witness_ModuleAndLinkCommands :
  (∃ (s u : State) (i : OpInfo) (c : Cmd), i = { op := 0x0000, lens := fun l => 16 ≤ l && l ≤ 4048, states := stWCRA, a := true } ∧ s.Takes i c ∧ u = s.cmdBegin c) ∧
  (∃ (s u : State) (i : OpInfo) (c : Cmd), i = { op := 0x0000, lens := fun l => 16 ≤ l && l ≤ 4048, states := stWCRA, a := true } ∧ s.Takes i c ∧ u = s.cmdBegin c) ∧
  (∃ (s u : State) (i : OpInfo) (c : Cmd), i = { op := 0x0001, lens := lenIs 16, states := stWCRA, a := true } ∧ s.Takes i c ∧ u = s.cmdBegin c) ∧
  (∃ (s u : State) (i : OpInfo) (c : Cmd), i = { op := 0x0002, lens := lenIs 16, states := stWCRA, a := true } ∧ s.Takes i c ∧ u = s.cmdBegin c) ∧
  (∃ (s u : State) (i : OpInfo) (c : Cmd), i = { op := 0x0003, lens := lenIs 16, states := stRA, j := true } ∧ s.Takes i c ∧ u = s.cmdBegin c) ∧
  (∃ (s u : State) (i : OpInfo) (c : Cmd), i = { op := 0x0004, lens := lenIs 16, states := stWCRA, m := true } ∧ s.Takes i c ∧ u = s.cmdBegin c) ∧
  (∃ (s u : State) (i : OpInfo) (c : Cmd), i = { op := 0x0100, lens := lenIs 32, states := stCR, m := true, long := true } ∧ s.Takes i c ∧ u = s.cmdBegin c ∧ bits (c.p 0) 1 3 = 0 ∧ bits (c.p 0) 8 24 = 0 ∧ ((bit (c.p 0) 0 = true ∨ bits (c.p 0) 4 4 ≠ 0)) ∧ u.cfg.pend = none) ∧
  (∃ (s u : State) (i : OpInfo) (c : Cmd), i = { op := 0x0101, lens := lenIs 32, states := stRA, m := true, long := true } ∧ s.Takes i c ∧ u = s.cmdBegin c ∧ bit (c.p 0) 3 = false ∧ bits (c.p 0) 8 24 = 0 ∧ ((bit (c.p 0) 2 = true ∨ bits (c.p 0) 4 4 ≠ 0)) ∧ u.cfg.pend = none) ∧
  (∃ (s u : State) (i : OpInfo) (c : Cmd), i = { op := 0x0102, lens := lenIs 28, states := stRA, m := true, long := true } ∧ s.Takes i c ∧ u = s.cmdBegin c ∧ c.p 0 = 0 ∧ u.cfg.pend = none ∧ u.overCheck (cfgImages u.cfg.base u.cfg.active) (cfgImages u.cfg.base (u.overNext 0)) (u.sec.lc == 3) = none) ∧
  (∃ (s u : State) (i : OpInfo) (c : Cmd), i = { op := 0x0103, lens := lenIs 16, states := stCRA, m := true } ∧ s.Takes i c ∧ u = s.cmdBegin c ∧ u.cfg.base = none ∧ u.cfg.active = []) ∧
  (∃ (s u : State) (i : OpInfo) (c : Cmd), i = { op := 0x0200, lens := lenIs 24, states := stRA, m := true, perm := fun s => bits (c.p 1) 9 2 == 0 || s.instrument } ∧ s.Takes i c ∧ u = s.cmdBegin c ∧ bits (c.p 0) 8 24 = 0 ∧ u.portThere (cmdPort c) = true ∧ bits (c.p 1) 11 21 = 0 ∧ bits (c.p 1) 4 2 ≠ 0 ∧ bits (c.p 1) 4 2 ≠ 3 ∧ bits (c.p 1) 9 2 ≠ 3 ∧ bit (c.p 1) 0 = true) ∧
  (∃ (s u : State) (i : OpInfo) (c : Cmd), i = { op := 0x0201, lens := lenIs 20, states := stRA, m := true, long := true } ∧ s.Takes i c ∧ u = s.cmdBegin c ∧ bits (c.p 0) 9 23 = 0 ∧ u.portThere (cmdPort c) = true ∧ bit (c.p 0) 8 = true) ∧
  (∃ (s u : State) (i : OpInfo) (c : Cmd), i = { op := 0x0201, lens := lenIs 20, states := stRA, m := true, long := true } ∧ s.Takes i c ∧ u = s.cmdBegin c ∧ bits (c.p 0) 9 23 = 0 ∧ u.portThere (cmdPort c) = true ∧ bit (c.p 0) 8 = false) ∧
  (∃ (s u : State) (i : OpInfo) (c : Cmd), i = { op := 0x0202, lens := lenIs 20, states := stRA, m := true } ∧ s.Takes i c ∧ u = s.cmdBegin c ∧ bits (c.p 0) 8 24 = 0 ∧ u.portThere (cmdPort c) = true ∧ (u.port (cmdPort c)).st = .quarantine) ∧
  (∃ (s u : State) (i : OpInfo) (c : Cmd), i = { op := 0x0202, lens := lenIs 20, states := stRA, m := true } ∧ s.Takes i c ∧ u = s.cmdBegin c ∧ bits (c.p 0) 8 24 = 0 ∧ u.portThere (cmdPort c) = true ∧ (u.port (cmdPort c)).st ≠ .quarantine) ∧
  (∃ (s u : State) (i : OpInfo) (c : Cmd), i = { op := 0x0203, lens := lenIs 20, states := stRA, m := true } ∧ s.Takes i c ∧ u = s.cmdBegin c ∧ bits (c.p 0) 8 24 = 0 ∧ u.portThere (cmdPort c) = true) ∧
  (∃ (s u : State) (i : OpInfo) (c : Cmd) (x : Port), i = { op := 0x0204, lens := lenIs 20, states := stRA, m := true } ∧ s.Takes i c ∧ u = s.cmdBegin c ∧ bits (c.p 0) 8 24 = 0 ∧ u.portThere (cmdPort c) = true ∧ x = u.port (cmdPort c)) ∧
  (∃ (s u : State) (i : OpInfo) (c : Cmd) (e : Part) (j : Nat), i = { op := 0x0300, lens := lenIs 40, states := stRA, m := true, mirrored := true, perm := fun s => !(Machine.Part.mk (c.p 0) (c.p 1) (c.p 2) (c.p 3)).valid || s.sec.lc == 2 || s.sec.lc == 3 } ∧ s.Takes i c ∧ u = s.cmdBegin c ∧ e = Machine.Part.mk (c.p 0) (c.p 1) (c.p 2) (c.p 3) ∧ j = bits e.w0 0 12 ∧ j ≠ 0 ∧ bits e.w0 12 4 = 0 ∧ e.planes ≠ 0 ∧ e.planes < 2 ^ u.pl.planes ∧ bits e.w1 27 5 = 0 ∧ descOk e.slice.chip 4 false = true ∧ descOk e.slice.pkg 4 false = true ∧ descOk e.slice.tray 8 false = true ∧ bits e.w2 18 6 = 0 ∧ e.tweight ≠ 0 ∧ descOk e.slice.x u.pl.x true = true ∧ descOk e.slice.y u.pl.y true = true ∧ e.w3 < 2 ∧ Tbl.get none u.partPend j = none ∧ ((e.valid = true ∨ u.jobOwns j = false)) ∧ u.partClash j e = false) ∧
  (∃ (s u : State) (i : OpInfo) (c : Cmd), i = { op := 0x0301, lens := lenIs 20, states := stRA, m := true } ∧ s.Takes i c ∧ u = s.cmdBegin c ∧ c.p 0 < 4096 ∧ Tbl.get none u.partPend (c.p 0) = none) :=
  ⟨⟨readySt, _, _, slotCmd 0 [], rfl, takes_of (by decide +kernel), rfl⟩,
   ⟨readySt, _, _, { slotCmd 0 [] with params := List.replicate 4032 0 }, rfl, takes_of (by decide +kernel), rfl⟩,
   ⟨readySt, _, _, slotCmd 0 [], rfl, takes_of (by decide +kernel), rfl⟩,
   ⟨readySt, _, _, slotCmd 0 [], rfl, takes_of (by decide +kernel), rfl⟩,
   ⟨actSt, _, _, slotCmd 1 [], rfl, takes_of (by decide +kernel), rfl⟩,
   ⟨readySt, _, _, slotCmd 0 [], rfl, takes_of (by decide +kernel), rfl⟩,
   ⟨readySt, _, _, slotCmd 0 [1, 0, 0, 0], rfl, takes_of (by decide +kernel), rfl, by decide +kernel⟩,
   ⟨readySt, _, _, slotCmd 0 [4, 0, 0, 0], rfl, takes_of (by decide +kernel), rfl, by decide +kernel⟩,
   ⟨readySt, _, _, slotCmd 0 [0, 0, 0], rfl, takes_of (by decide +kernel), rfl, by decide +kernel⟩,
   ⟨readySt, _, _, slotCmd 0 [], rfl, takes_of (by decide +kernel), rfl, by decide +kernel⟩,
   ⟨readySt, _, _, slotCmd 0 [191, 0x11], rfl, takes_of (by decide +kernel), rfl, by decide +kernel⟩,
   ⟨readySt, _, _, slotCmd 0 [256 + 191], rfl, takes_of (by decide +kernel), rfl, by decide +kernel⟩,
   ⟨readySt, _, _, slotCmd 0 [191], rfl, takes_of (by decide +kernel), rfl, by decide +kernel⟩,
   ⟨readySt.setPort 191 { st := .quarantine }, _, _, slotCmd 0 [191], rfl, takes_of (by decide +kernel), rfl, by decide +kernel⟩,
   ⟨readySt, _, _, slotCmd 0 [191], rfl, takes_of (by decide +kernel), rfl, by decide +kernel⟩,
   ⟨readySt, _, _, slotCmd 0 [191], rfl, takes_of (by decide +kernel), rfl, by decide +kernel⟩,
   ⟨readySt, _, _, slotCmd 0 [191], _, rfl, takes_of (by decide +kernel), rfl, by decide +kernel, by decide +kernel, rfl⟩,
   ⟨{ actSt with parts := [] }, _, _, slotCmd 0 [(part0 {}).w0 + 4095, (part0 {}).w1, (part0 {}).w2, 1, 0, 0], _, 4095, rfl, takes_of (by decide +kernel), rfl, rfl, by decide +kernel⟩,
   ⟨actSt, _, _, slotCmd 0 [4095], rfl, takes_of (by decide +kernel), rfl, by decide +kernel⟩⟩

/-- The hypotheses of QueueCommands can be met. -/
theorem witness_QueueCommands :
  (∃ (s u : State) (i : OpInfo) (c : Cmd), i = { op := 0x0380, lens := lenIs 20, states := stRA, p := true } ∧ s.Takes i c ∧ u = s.cmdBegin c ∧ bits (c.p 0) 9 23 = 0) ∧
  (∃ (s u : State) (i : OpInfo) (c : Cmd) (t q : Nat), i = { op := 0x0400, lens := lenIs 24, states := stA, j := true, change := true } ∧ s.Takes i c ∧ u = s.cmdBegin c ∧ t = bits (c.p 0) 8 2 ∧ ((t = 2 ∨ t = 3)) ∧ bits (c.p 0) 10 22 = 0 ∧ u.portThere (cmdPort c) = true ∧ 1 ≤ c.p 1 ∧ c.p 1 ≤ 255 ∧ u.jobHere c.job = true ∧ ((List.range 61).map (· + 1)).find? (fun q => (u.queue (portQ (cmdPort c) q)).valid && !(u.queue (portQ (cmdPort c) q)).releasing && (u.queue (portQ (cmdPort c) q)).job == c.job && (u.queue (portQ (cmdPort c) q)).tc == t) = none ∧ ((List.range 61).map (· + 1)).find? (fun q => !(u.queue (portQ (cmdPort c) q)).valid && !u.flows.any (fun f => f.port == cmdPort c && f.queue == q)) = some q) ∧
  (∃ (s u : State) (i : OpInfo) (c : Cmd) (t q : Nat), i = { op := 0x0400, lens := lenIs 24, states := stA, j := true, change := true } ∧ s.Takes i c ∧ u = s.cmdBegin c ∧ t = bits (c.p 0) 8 2 ∧ ((t = 2 ∨ t = 3)) ∧ bits (c.p 0) 10 22 = 0 ∧ u.portThere (cmdPort c) = true ∧ 1 ≤ c.p 1 ∧ c.p 1 ≤ 255 ∧ u.jobHere c.job = true ∧ ((List.range 61).map (· + 1)).find? (fun q => (u.queue (portQ (cmdPort c) q)).valid && !(u.queue (portQ (cmdPort c) q)).releasing && (u.queue (portQ (cmdPort c) q)).job == c.job && (u.queue (portQ (cmdPort c) q)).tc == t) = none ∧ ((List.range 61).map (· + 1)).find? (fun q => !(u.queue (portQ (cmdPort c) q)).valid && !u.flows.any (fun f => f.port == cmdPort c && f.queue == q)) = some q) ∧
  (∃ (s u : State) (i : OpInfo) (c : Cmd) (q : Nat) (x : Queue), i = { op := 0x0401, lens := lenIs 20, states := stA, j := true } ∧ s.Takes i c ∧ u = s.cmdBegin c ∧ bits (c.p 0) 14 18 = 0 ∧ q = bits (c.p 0) 8 6 ∧ 1 ≤ q ∧ q ≤ 61 ∧ u.portThere (cmdPort c) = true ∧ x = u.queue (portQ (cmdPort c) q) ∧ x.valid = true ∧ x.releasing = false ∧ x.job = c.job ∧ x.tc ≠ 1) ∧
  (∃ (s u : State) (i : OpInfo) (c : Cmd) (q : Nat) (x : Queue), i = { op := 0x0402, lens := lenIs 28, states := stA, j := true, change := true } ∧ s.Takes i c ∧ u = s.cmdBegin c ∧ bits (c.p 0) 15 17 = 0 ∧ q = bits (c.p 0) 8 6 ∧ 1 ≤ q ∧ q ≤ 61 ∧ u.portThere (cmdPort c) = true ∧ x = u.queue (portQ (cmdPort c) q) ∧ x.valid = true ∧ x.releasing = false ∧ x.job = c.job ∧ x.tc ≠ 1 ∧ x.shapeEn = false ∧ c.p 1 < 2 ^ 20 ∧ 17 ≤ c.p 2 ∧ c.p 2 ≤ 65535) ∧
  (∃ (s u : State) (i : OpInfo) (c : Cmd) (q : Nat) (x : Queue), i = { op := 0x0402, lens := lenIs 28, states := stA, j := true, change := true } ∧ s.Takes i c ∧ u = s.cmdBegin c ∧ bits (c.p 0) 15 17 = 0 ∧ q = bits (c.p 0) 8 6 ∧ 1 ≤ q ∧ q ≤ 61 ∧ u.portThere (cmdPort c) = true ∧ x = u.queue (portQ (cmdPort c) q) ∧ x.valid = true ∧ x.releasing = false ∧ x.job = c.job ∧ x.tc ≠ 1 ∧ x.shapeEn = false ∧ c.p 1 < 2 ^ 20 ∧ 17 ≤ c.p 2 ∧ c.p 2 ≤ 65535) ∧
  (∃ (s u : State) (i : OpInfo) (c : Cmd) (k t b e : Nat), i = { op := 0x0403, lens := lenIs 32, states := stA, j := true, change := true } ∧ s.Takes i c ∧ u = s.cmdBegin c ∧ k = 32 * cmdPort c + bits (c.p 0) 8 5 ∧ t = bits (c.p 0) 14 2 ∧ t ≠ 1 ∧ bits (c.p 0) 16 16 = 0 ∧ u.portThere (cmdPort c) = true ∧ (u.useOf (cmdPort c)).use = 0 ∧ c.p 1 < 2 ^ 20 ∧ c.p 2 < 2 ^ 20 ∧ c.p 1 ≤ c.p 2 ∧ b = bits (c.p 3) 0 16 ∧ e = bits (c.p 3) 16 16 ∧ 17 ≤ b ∧ b ≤ e ∧ (u.policer k).en = false) :=
  ⟨⟨actSt, _, _, peerCmd [511], rfl, takes_of (by decide +kernel), rfl, by decide +kernel⟩,
   ⟨actSt, _, _, slotCmd 1 [2 * 2 ^ 8, 255], 2, 1, rfl, takes_of (by decide +kernel), rfl, by decide +kernel⟩,
   ⟨actSt, _, _, slotCmd 1 [3 * 2 ^ 8, 1], 3, 1, rfl, takes_of (by decide +kernel), rfl, by decide +kernel⟩,
   ⟨actSt.setQueue (portQ 0 61) { valid := true, job := 1, tc := 2 }, _, _, slotCmd 1 [61 * 2 ^ 8], 61, _, rfl, takes_of (by decide +kernel), rfl, by decide +kernel, by decide +kernel, by decide +kernel, by decide +kernel, by decide +kernel, rfl, by decide +kernel⟩,
   ⟨actSt.setQueue (portQ 0 1) { valid := true, job := 1, tc := 2 }, _, _, slotCmd 1 [2 ^ 8, 2 ^ 20 - 1, 17], 1, _, rfl, takes_of (by decide +kernel), rfl, by decide +kernel, by decide +kernel, by decide +kernel, by decide +kernel, by decide +kernel, rfl, by decide +kernel⟩,
   ⟨actSt.setQueue (portQ 0 61) { valid := true, job := 1, tc := 2 }, _, _, slotCmd 1 [61 * 2 ^ 8, 0, 65535], 61, _, rfl, takes_of (by decide +kernel), rfl, by decide +kernel, by decide +kernel, by decide +kernel, by decide +kernel, by decide +kernel, rfl, by decide +kernel⟩,
   ⟨actSt, _, _, slotCmd 1 [31 * 2 ^ 8, 0, 2 ^ 20 - 1, 17 + 17 * 2 ^ 16], 31, 0, 17, 17, rfl, takes_of (by decide +kernel), rfl, by decide +kernel⟩⟩

/-- An option that holds a pair holds its components. -/
theorem some_pair {α β : Type} {x : Option (α × β)} (h : x.isSome = true) : x = some ((x.get h).1, (x.get h).2) := by
  cases x with
  | none => cases h
  | some y => rfl
/-- A delay that this leaf has not measured is at most 2,000 ns (R39, log 23). -/
theorem linkDelay_le {s : State} {p : Option Nat} {a b : Nat}
    (h : (match p with | some p => Tbl.get ({} : PortTime) s.time.ports p | none => ({} : PortTime)).valid = false) : s.linkDelay p a b ≤ 2000 := by
  have g : Config.linkDelay a b % 2001 ≤ 2000 := Nat.le_of_lt_succ (Nat.mod_lt _ (by decide))
  cases p with
  | none => exact g
  | some p =>
    have h : (Tbl.get ({} : PortTime) s.time.ports p).valid = false := h
    simpa [State.linkDelay, h] using g
/-- A flow of job 1 from chip 0 to chip 1. -/
def admitCmd : Cmd := slotCmd 1 [0, 1, 1, 1, 4132, 2 ^ 32 - 1]
/-- The flow's first handle at its leaf. -/
def flowA : Flow := { handle := 65536, job := 1, phase := .committed, admits := true }
/-- A reservation that module 8193 holds here. -/
def flowB : Flow := { handle := 65536, job := 1, src := 8193 }
/-- The hypotheses of FlowAdmissionCommands can be met. -/
theorem witness_FlowAdmissionCommands :
  (∃ (s u : State) (i : OpInfo) (c : Cmd) (p pref d : Nat) (f g : Flow) (v : State), i = { op := 0x0404, lens := lenIs 40, states := stA, j := true, change := true, long := true } ∧ s.Takes i c ∧ u = s.cmdBegin c ∧ u.downPort (c.p 0) = some p ∧ c.p 0 < 8192 ∧ u.inJob c.job (c.p 0) = true ∧ c.p 1 < 9216 ∧ ((8192 ≤ c.p 1 ∨ u.inJob c.job (c.p 1) = true)) ∧ 1 ≤ c.p 2 ∧ c.p 2 < 2 ^ 20 ∧ 1 ≤ c.p 3 ∧ c.p 3 < 2 ^ 16 ∧ 1 ≤ c.p 4 ∧ c.p 4 ≤ 4132 ∧ f = { handle := ((List.range 65536).find? (fun k => (u.flowOf (k + c.job * 65536)).isNone)).getD 0 + c.job * 65536, job := c.job, src := c.p 0, dst := c.p 1, rate := c.p 2, burst := c.p 3, maxLen := c.p 4, dReq := c.p 5, ingress := p, next := (u.flowPath (c.p 1)).headD (c.p 1), path := u.flowPath (c.p 1), admits := true } ∧ pref = (if c.p 1 < 8192 then bits (c.p 1) 0 7 / 32 else denOf p) ∧ u.flowPath (c.p 1) = [] ∧ u.holdHop f (c.p 1) pref = some (v, g) ∧ g.path = [] ∧ d = g.hopBound + (v.updFlow g).linkDelay none (c.p 0) (v.updFlow g).ownId + (if g.port < 192 then (v.updFlow g).linkDelay (some g.port) (v.updFlow g).ownId (c.p 1) else 0) ∧ d ≤ g.dReq) ∧
  (∃ (s u : State) (i : OpInfo) (c : Cmd) (p pref : Nat) (f : Flow), i = { op := 0x0404, lens := lenIs 40, states := stA, j := true, change := true, long := true } ∧ s.Takes i c ∧ u = s.cmdBegin c ∧ u.downPort (c.p 0) = some p ∧ c.p 0 < 8192 ∧ u.inJob c.job (c.p 0) = true ∧ c.p 1 < 9216 ∧ ((8192 ≤ c.p 1 ∨ u.inJob c.job (c.p 1) = true)) ∧ 1 ≤ c.p 2 ∧ c.p 2 < 2 ^ 20 ∧ 1 ≤ c.p 3 ∧ c.p 3 < 2 ^ 16 ∧ 1 ≤ c.p 4 ∧ c.p 4 ≤ 4132 ∧ f = { handle := ((List.range 65536).find? (fun k => (u.flowOf (k + c.job * 65536)).isNone)).getD 0 + c.job * 65536, job := c.job, src := c.p 0, dst := c.p 1, rate := c.p 2, burst := c.p 3, maxLen := c.p 4, dReq := c.p 5, ingress := p, next := (u.flowPath (c.p 1)).headD (c.p 1), path := u.flowPath (c.p 1), admits := true } ∧ pref = (if c.p 1 < 8192 then bits (c.p 1) 0 7 / 32 else denOf p) ∧ ((u.flowPath (c.p 1) = [] ∨ u.time.domainValid = true)) ∧ u.holdHop f ((u.flowPath (c.p 1)).headD (c.p 1)) pref = none) ∧
  (∃ (s u : State) (i : OpInfo) (c : Cmd) (f : Flow) (t : Nat), i = { op := 0x0405, lens := lenIs 20, states := stA, j := true } ∧ s.Takes i c ∧ u = s.cmdBegin c ∧ u.flowOf (c.p 0) = some f ∧ f.job = c.job ∧ f.phase = .committed ∧ t = u.boundaryAfter u.domainNow) ∧
  (∃ (s u : State) (i : OpInfo) (c : Cmd) (f : Flow), i = { op := 0x0406, lens := lenIs 20, states := stA, j := true } ∧ s.Takes i c ∧ u = s.cmdBegin c ∧ u.flowOf (c.p 0) = some f ∧ f.job = c.job) ∧
  (∃ (s u : State) (i : OpInfo) (c : Cmd), i = { op := 0x0406, lens := lenIs 20, states := stA, j := true } ∧ s.Takes i c ∧ u = s.cmdBegin c ∧ u.flowOf (c.p 0) = none) ∧
  (∃ (s u : State) (i : OpInfo) (c : Cmd) (f g : Flow) (v : State), i = { op := 0x0480, lens := lenIs 48, states := stA, p := true } ∧ s.Takes i c ∧ u = s.cmdBegin c ∧ bits (c.p 0) 0 2 = 0 ∧ bits (c.p 0) 10 22 = 0 ∧ bits (c.p 0) 2 8 < 192 ∧ c.p 1 < 2 ^ 28 ∧ c.p 2 < 2 ^ 14 ∧ 1 ≤ c.p 3 ∧ c.p 3 < 2 ^ 20 ∧ 1 ≤ c.p 4 ∧ c.p 4 < 2 ^ 16 ∧ 1 ≤ c.p 5 ∧ c.p 5 ≤ 4132 ∧ f = { handle := c.p 1, job := c.p 1 / 65536, src := srcEndpoint c, dst := c.p 2, rate := c.p 3, burst := c.p 4, maxLen := c.p 5, ingress := bits (c.p 0) 2 8, next := c.p 2 } ∧ u.hopFlow (c.p 1) (srcEndpoint c) = none ∧ u.holdHop f (c.p 2) (denOf (bits (c.p 0) 2 8)) = some (v, g)) ∧
  (∃ (s u : State) (i : OpInfo) (c : Cmd) (f : Flow), i = { op := 0x0480, lens := lenIs 48, states := stA, p := true } ∧ s.Takes i c ∧ u = s.cmdBegin c ∧ bits (c.p 0) 0 2 = 1 ∧ bits (c.p 0) 10 22 = 0 ∧ u.hopFlow (c.p 1) (srcEndpoint c) = some f ∧ f.phase = .held) ∧
  (∃ (s u : State) (i : OpInfo) (c : Cmd) (f : Flow), i = { op := 0x0480, lens := lenIs 48, states := stA, p := true } ∧ s.Takes i c ∧ u = s.cmdBegin c ∧ bits (c.p 0) 0 2 = 2 ∧ bits (c.p 0) 10 22 = 0 ∧ u.hopFlow (c.p 1) (srcEndpoint c) = some f) :=
  ⟨⟨actSt, _, _, admitCmd, 0, 0, _, _, _, _, rfl, takes_of (by decide +kernel), rfl, by decide +kernel, by decide +kernel, by decide +kernel, by decide +kernel, by decide +kernel, by decide +kernel, by decide +kernel, by decide +kernel, by decide +kernel, by decide +kernel, by decide +kernel, rfl, rfl, by decide +kernel, some_pair (by decide +kernel), by decide +kernel, rfl, by refine Nat.le_trans (Nat.add_le_add (Nat.add_le_add (show _ ≤ 1000000000 by decide +kernel) (linkDelay_le (by decide +kernel))) (show _ ≤ 2000 from ?_)) (by decide +kernel); split <;> first | exact linkDelay_le (by decide +kernel) | decide⟩,
   ⟨{ actSt with faults := { degraded := [(0, 0)] } }, _, _, admitCmd, 0, 0, _, rfl, takes_of (by decide +kernel), rfl, by decide +kernel, by decide +kernel, by decide +kernel, by decide +kernel, by decide +kernel, by decide +kernel, by decide +kernel, by decide +kernel, by decide +kernel, by decide +kernel, by decide +kernel, rfl, rfl, by decide +kernel⟩,
   ⟨{ actSt with flows := [flowA] }, _, _, slotCmd 1 [65536], flowA, _, rfl, takes_of (by decide +kernel), rfl, by decide +kernel, by decide +kernel, by decide +kernel, rfl⟩,
   ⟨{ actSt with flows := [flowA] }, _, _, slotCmd 1 [65536], flowA, rfl, takes_of (by decide +kernel), rfl, by decide +kernel⟩,
   ⟨actSt, _, _, slotCmd 1 [65536], rfl, takes_of (by decide +kernel), rfl, by decide +kernel⟩,
   ⟨actSt, _, _, peerCmd [764, 2 ^ 28 - 1, 1, 1, 65535, 4132, 0, 0], _, _, _, rfl, takes_of (by decide +kernel), rfl, by decide +kernel, by decide +kernel, by decide +kernel, by decide +kernel, by decide +kernel, by decide +kernel, by decide +kernel, by decide +kernel, by decide +kernel, by decide +kernel, by decide +kernel, rfl, by decide +kernel, some_pair (by decide +kernel)⟩,
   ⟨{ actSt with flows := [flowB] }, _, _, peerCmd [1, 65536, 0, 0, 0, 0, 0, 0], flowB, rfl, takes_of (by decide +kernel), rfl, by decide +kernel⟩,
   ⟨{ actSt with flows := [flowB] }, _, _, peerCmd [2, 65536, 0, 0, 0, 0, 0, 0], flowB, rfl, takes_of (by decide +kernel), rfl, by decide +kernel⟩⟩

/-- A table that gives every key below `n` the same value. -/
theorem get_const {α : Type} (d v : α) (f : Nat → Nat × α) (hf : ∀ k, f k = (k, v)) : ∀ (l : List Nat) (i : Nat), i ∈ l → Tbl.get d (l.map f) i = v
  | k :: l, i, h => by
    rw [List.map_cons, hf k]
    by_cases e : k = i
    · simp [Tbl.get, e]
    · rw [Tbl.get, if_neg e]
      exact get_const d v f hf l i ((List.mem_cons.mp h).resolve_left (fun g => e g.symm))
/-- A descriptor of job 1 whose group is chip 0: an ALL_REDUCE of one FP32 element. -/
def descA : List Nat := [2 * 2 ^ 18 + 12 * 2 ^ 20, 1 + 64 * 2 ^ 12 + 255 * 2 ^ 24, 0, 0, 1, 0, 2 ^ 32 - 1, 0, 0, 0, 0, 0, 0, 0, 0, 0]
/-- Context 4095 of job 1 in a state, coordinated here. -/
def ctxSt (st : CtxState) : State := actSt.setCtx 4095 { ctxOf 0 4 with state := st, coord := true }
/-- Every context number is in use. -/
def fullCtx : State := { actSt with coll := { actSt.coll with ctxs := (List.range 4096).map (fun k => (k, { state := .armed })) } }
/-- The hypotheses of ContextCommands can be met. -/
theorem witness_ContextCommands :
  (∃ (s u : State) (i : OpInfo) (c : Cmd) (x : Ctx) (k : Nat), i = { op := 0x0500, lens := lenIs 80, states := stA, j := true, change := true, mirrored := true } ∧ s.Takes i c ∧ u = s.cmdBegin c ∧ x = u.ctxShape ((List.range 16).map c.p) ∧ (u.descChecks x ++ [(2, chipRack ((u.groupMembers (groupSlice ((List.range 16).map c.p))).head?.getD 0) == (u.pl.rx, u.pl.ry) && !u.pl.spine)]).all (·.2) = true ∧ x.job = c.job ∧ ((x.epiCores = 0 ∨ ∀ b, u.epiBinding x = some b → b.job = c.job)) ∧ ((x.op = 5 → (Tbl.get ({} : PlaceTable) u.coll.tables x.place).job = c.job)) ∧ u.ctxPick 0 = some k ∧ u.ctxItem x = 0 ∧ x.leaves.filter (· != u.ownId) = [] ∧ (u.ctxHold k x true).ownId = u.ownId) ∧
  (∃ (s u : State) (i : OpInfo) (c : Cmd) (x : Ctx), i = { op := 0x0500, lens := lenIs 80, states := stA, j := true, change := true, mirrored := true } ∧ s.Takes i c ∧ u = s.cmdBegin c ∧ x = u.ctxShape ((List.range 16).map c.p) ∧ (u.descChecks x ++ [(2, chipRack ((u.groupMembers (groupSlice ((List.range 16).map c.p))).head?.getD 0) == (u.pl.rx, u.pl.ry) && !u.pl.spine)]).all (·.2) = true ∧ x.job = c.job ∧ ((x.epiCores = 0 ∨ ∀ b, u.epiBinding x = some b → b.job = c.job)) ∧ ((x.op = 5 → (Tbl.get ({} : PlaceTable) u.coll.tables x.place).job = c.job)) ∧ u.ctxPick 0 = none) ∧
  (∃ (s u : State) (i : OpInfo) (c : Cmd), i = { op := 0x0501, lens := lenIs 36, states := stA, j := true, change := true, mirrored := true } ∧ s.Takes i c ∧ u = s.cmdBegin c ∧ c.p 0 < 4096 ∧ u.mustCoord c = true ∧ u.otherLeaves (c.p 0) = [] ∧ u.domainNow < c.p64 1 ∧ (u.ctx (c.p 0)).state = .done ∧ (u.ctx (c.p 0)).job = c.job) ∧
  (∃ (s u : State) (i : OpInfo) (c : Cmd), i = { op := 0x0502, lens := lenIs 20, states := stA, j := true, mirrored := true } ∧ s.Takes i c ∧ u = s.cmdBegin c ∧ c.p 0 < 4096 ∧ u.mustCoord c = true ∧ u.otherLeaves (c.p 0) = [] ∧ (((u.ctx (c.p 0)).state = .done ∨ (u.ctx (c.p 0)).state = .failed)) ∧ (u.ctx (c.p 0)).job = c.job) ∧
  (∃ (s u : State) (i : OpInfo) (c : Cmd), i = { op := 0x0502, lens := lenIs 20, states := stA, j := true, mirrored := true } ∧ s.Takes i c ∧ u = s.cmdBegin c ∧ c.p 0 < 4096 ∧ u.mustCoord c = true ∧ u.otherLeaves (c.p 0) = [] ∧ (((u.ctx (c.p 0)).state = .done ∨ (u.ctx (c.p 0)).state = .failed)) ∧ (u.ctx (c.p 0)).job = c.job) ∧
  (∃ (s u : State) (i : OpInfo) (c : Cmd), i = { op := 0x0503, lens := lenIs 20, states := stA, j := true, mirrored := true } ∧ s.Takes i c ∧ u = s.cmdBegin c ∧ c.p 0 < 4096 ∧ u.mustCoord c = true ∧ u.otherLeaves (c.p 0) = [] ∧ (((u.ctx (c.p 0)).state = .armed ∨ (u.ctx (c.p 0)).state = .running)) ∧ (u.ctx (c.p 0)).job = c.job) ∧
  (∃ (s u : State) (i : OpInfo) (c : Cmd), i = { op := 0x0503, lens := lenIs 20, states := stA, j := true, mirrored := true } ∧ s.Takes i c ∧ u = s.cmdBegin c ∧ c.p 0 < 4096 ∧ u.mustCoord c = true ∧ u.otherLeaves (c.p 0) = [] ∧ (((u.ctx (c.p 0)).state = .armed ∨ (u.ctx (c.p 0)).state = .running)) ∧ (u.ctx (c.p 0)).job = c.job) ∧
  (∃ (s u : State) (i : OpInfo) (c : Cmd), i = { op := 0x0504, lens := lenIs 20, states := stA, j := true } ∧ s.Takes i c ∧ u = s.cmdBegin c ∧ c.p 0 < 4096 ∧ (((u.ctx (c.p 0)).desc = [] ∨ (u.ctx (c.p 0)).job = c.job))) ∧
  (∃ (s u : State) (i : OpInfo) (c : Cmd), i = { op := 0x0504, lens := lenIs 20, states := stA, j := true } ∧ s.Takes i c ∧ u = s.cmdBegin c ∧ c.p 0 < 4096 ∧ (((u.ctx (c.p 0)).desc = [] ∨ (u.ctx (c.p 0)).job = c.job))) ∧
  (∃ (s u : State) (i : OpInfo) (c : Cmd) (x : Ctx), i = { op := 0x0580, lens := fun l => 24 ≤ l && l ≤ 88 && l % 4 == 0, states := stA, p := true } ∧ s.Takes i c ∧ u = s.cmdBegin c ∧ x = u.ctxShape ((List.range 16).map (fun k => c.p (2 + k))) ∧ c.p 0 = 0 ∧ c.len = 88 ∧ c.p 1 < 4096 ∧ (u.descChecks x).all (·.2) = true ∧ u.ctxFree (c.p 1) = true ∧ u.ctxItem x = 0) ∧
  (∃ (s u : State) (i : OpInfo) (c : Cmd), i = { op := 0x0580, lens := fun l => 24 ≤ l && l ≤ 88 && l % 4 == 0, states := stA, p := true } ∧ s.Takes i c ∧ u = s.cmdBegin c ∧ c.p 0 = 1 ∧ c.p 1 < 4096 ∧ (u.ctx (c.p 1)).state = .reserving) ∧
  (∃ (s u : State) (i : OpInfo) (c : Cmd), i = { op := 0x0580, lens := fun l => 24 ≤ l && l ≤ 88 && l % 4 == 0, states := stA, p := true } ∧ s.Takes i c ∧ u = s.cmdBegin c ∧ c.p 0 = 2 ∧ c.p 1 < 4096) ∧
  (∃ (s u : State) (i : OpInfo) (c : Cmd), i = { op := 0x0580, lens := fun l => 24 ≤ l && l ≤ 88 && l % 4 == 0, states := stA, p := true } ∧ s.Takes i c ∧ u = s.cmdBegin c ∧ c.p 0 = 3 ∧ c.p 1 < 4096 ∧ c.len = 40 ∧ (u.ctx (c.p 1)).state = .done) ∧
  (∃ (s u : State) (i : OpInfo) (c : Cmd), i = { op := 0x0580, lens := fun l => 24 ≤ l && l ≤ 88 && l % 4 == 0, states := stA, p := true } ∧ s.Takes i c ∧ u = s.cmdBegin c ∧ c.p 0 = 4 ∧ c.p 1 < 4096 ∧ (((u.ctx (c.p 1)).state = .done ∨ (u.ctx (c.p 1)).state = .failed))) ∧
  (∃ (s u : State) (i : OpInfo) (c : Cmd), i = { op := 0x0580, lens := fun l => 24 ≤ l && l ≤ 88 && l % 4 == 0, states := stA, p := true } ∧ s.Takes i c ∧ u = s.cmdBegin c ∧ c.p 0 = 5 ∧ c.p 1 < 4096 ∧ (((u.ctx (c.p 1)).state = .armed ∨ (u.ctx (c.p 1)).state = .running))) ∧
  (∃ (s u : State) (i : OpInfo) (c : Cmd), i = { op := 0x0580, lens := fun l => 24 ≤ l && l ≤ 88 && l % 4 == 0, states := stA, p := true } ∧ s.Takes i c ∧ u = s.cmdBegin c ∧ c.p 0 = 6 ∧ c.p 1 < 4096 ∧ c.len = 28) :=
  ⟨⟨actSt, _, _, slotCmd 1 descA, _, 0, rfl, takes_of (by decide +kernel), rfl, rfl, by decide +kernel, by decide +kernel, Or.inl (by decide +kernel), by decide +kernel⟩,
   ⟨fullCtx, _, _, slotCmd 1 descA, _, rfl, takes_of (by decide +kernel), rfl, rfl, by decide +kernel, by decide +kernel, Or.inl (by decide +kernel), by decide +kernel, by refine List.find?_eq_none.mpr (fun k hk => ?_); have hl : k < 4096 := (by simpa using hk); have e : Tbl.get {} fullCtx.coll.ctxs k = ({ state := .armed } : Ctx) := get_const _ _ _ (fun _ => rfl) _ _ (List.mem_range.mpr hl); change ¬ State.ctxFree _ k = true; unfold State.ctxFree; change ¬ ((Tbl.get {} fullCtx.coll.ctxs k : Ctx).state == CtxState.free && _ && _ && _) = true; rw [e, show (({ state := .armed } : Ctx).state == CtxState.free) = false from rfl]; exact Bool.false_ne_true⟩,
   ⟨ctxSt .done, _, _, slotCmd 1 [4095, 1, 0, 0, 0], rfl, takes_of (by decide +kernel), rfl, by decide +kernel⟩,
   ⟨ctxSt .done, _, _, slotCmd 1 [4095], rfl, takes_of (by decide +kernel), rfl, by decide +kernel⟩,
   ⟨ctxSt .failed, _, _, slotCmd 1 [4095], rfl, takes_of (by decide +kernel), rfl, by decide +kernel⟩,
   ⟨ctxSt .armed, _, _, slotCmd 1 [4095], rfl, takes_of (by decide +kernel), rfl, by decide +kernel⟩,
   ⟨ctxSt .running, _, _, slotCmd 1 [4095], rfl, takes_of (by decide +kernel), rfl, by decide +kernel⟩,
   ⟨actSt, _, _, slotCmd 1 [4095], rfl, takes_of (by decide +kernel), rfl, by decide +kernel⟩,
   ⟨ctxSt .done, _, _, slotCmd 1 [4095], rfl, takes_of (by decide +kernel), rfl, by decide +kernel⟩,
   ⟨actSt, _, _, peerCmd (0 :: 4095 :: descA), _, rfl, takes_of (by decide +kernel), rfl, rfl, by decide +kernel⟩,
   ⟨ctxSt .reserving, _, _, peerCmd [1, 4095], rfl, takes_of (by decide +kernel), rfl, by decide +kernel⟩,
   ⟨actSt, _, _, peerCmd [2, 4095], rfl, takes_of (by decide +kernel), rfl, by decide +kernel⟩,
   ⟨ctxSt .done, _, _, peerCmd [3, 4095, 1, 0, 0, 0], rfl, takes_of (by decide +kernel), rfl, by decide +kernel⟩,
   ⟨ctxSt .failed, _, _, peerCmd [4, 4095], rfl, takes_of (by decide +kernel), rfl, by decide +kernel⟩,
   ⟨ctxSt .running, _, _, peerCmd [5, 4095], rfl, takes_of (by decide +kernel), rfl, by decide +kernel⟩,
   ⟨actSt, _, _, peerCmd [6, 4095, 0], rfl, takes_of (by decide +kernel), rfl, by decide +kernel⟩⟩

/-- Job 1 owns visible cores 0 and 119, region 0 of WGT, program 0 and, with it, binding 0 of a kind. -/
def progSt (kind : Nat) : State :=
  let s := actSt.setRegion 0 { state := .ready, type := 1, job := 1, frames := 1, phys := [0] }
  { s with sett := { s.sett with
      owner := [(0, 1), (119, 1)]
      programs := [(0, { job := 1, present := true, image := progImg })]
      bindings := [(0, { job := 1, present := true, program := 256, kind := kind })] } }
/-- The hypotheses of TableCommands can be met. -/
theorem witness_TableCommands :
  (∃ (s u : State) (i : OpInfo) (c : Cmd) (t first n : Nat) (tab new : PlaceTable) (es w : List Nat), i = { op := 0x0505, lens := lenIs (32 + 8 * bits (c.p 1) 10 9), states := stA, j := true, change := true, mirrored := true } ∧ s.Takes i c ∧ u = s.cmdBegin c ∧ t = bits (c.p 0) 0 8 ∧ first = bits (c.p 1) 0 10 ∧ n = bits (c.p 1) 10 9 ∧ bits (c.p 0) 9 23 = 0 ∧ bit (c.p 0) 8 = false ∧ bits (c.p 1) 19 13 = 0 ∧ n ≤ 508 ∧ first + n ≤ 1024 ∧ c.p 2 < 1024 ∧ c.p 3 = 0 ∧ es = (List.range n).map (fun k => c.p64 (4 + 2 * k)) ∧ ((∀ e ∈ es, bits e 58 6 = 0 ∧ ∀ k, k ≤ bits e 56 2 → u.inJob c.job (bits e (14 * k) 14) = true)) ∧ tab = Tbl.get {} u.coll.tables t ∧ ((tab.job = 0 ∨ tab.job = c.job)) ∧ u.tableInUse t = false ∧ w = (List.range n).foldl (fun l k => if l.contains (first + k) then l else (first + k) :: l) tab.written ∧ new = { job := c.job, entries := (List.range n).foldl (fun m k => Tbl.put 0 m (first + k) (es.getD k 0)) tab.entries, written := w, experts := none }) ∧
  (∃ (s u : State) (i : OpInfo) (c : Cmd) (t first n : Nat) (tab new : PlaceTable) (es w : List Nat), i = { op := 0x0505, lens := lenIs (32 + 8 * bits (c.p 1) 10 9), states := stA, j := true, change := true, mirrored := true } ∧ s.Takes i c ∧ u = s.cmdBegin c ∧ t = bits (c.p 0) 0 8 ∧ first = bits (c.p 1) 0 10 ∧ n = bits (c.p 1) 10 9 ∧ bits (c.p 0) 9 23 = 0 ∧ bit (c.p 0) 8 = true ∧ bits (c.p 1) 19 13 = 0 ∧ n ≤ 508 ∧ first + n ≤ 1024 ∧ c.p 2 < 1024 ∧ c.p 3 = 0 ∧ es = (List.range n).map (fun k => c.p64 (4 + 2 * k)) ∧ ((∀ e ∈ es, bits e 58 6 = 0 ∧ ∀ k, k ≤ bits e 56 2 → u.inJob c.job (bits e (14 * k) 14) = true)) ∧ tab = Tbl.get {} u.coll.tables t ∧ ((tab.job = 0 ∨ tab.job = c.job)) ∧ u.tableInUse t = false ∧ w = (List.range n).foldl (fun l k => if l.contains (first + k) then l else (first + k) :: l) tab.written ∧ ((∀ k, k ≤ c.p 2 → k ∈ w)) ∧ new = { job := c.job, entries := (List.range n).foldl (fun m k => Tbl.put 0 m (first + k) (es.getD k 0)) tab.entries, written := w, experts := some (c.p 2 + 1) }) ∧
  (∃ (s u : State) (i : OpInfo) (c : Cmd) (t n fmt dim base rows r size mib b0 p0 : Nat) (b : Binding) (p : Program) (e : EmbTable), i = { op := 0x0506, lens := lenIs 52, states := stA, j := true, change := true } ∧ s.Takes i c ∧ u = s.cmdBegin c ∧ t = bits (c.p 0) 0 8 ∧ n = bits (c.p 0) 8 6 ∧ fmt = bits (c.p 0) 14 2 ∧ dim = bits (c.p 1) 0 11 ∧ base = c.p64 4 ∧ rows = bits (c.p64 6) 0 41 ∧ bits (c.p 0) 16 16 = 0 ∧ 1 ≤ n ∧ n ≤ 32 ∧ fmt ≤ 2 ∧ bits (c.p 1) 11 21 = 0 ∧ 1 ≤ dim ∧ dim ≤ 1024 ∧ u.bindingOf (c.p 2) = some (b0, b) ∧ b.kind = 3 ∧ b.job = c.job ∧ u.regionOf (c.p 3) = some r ∧ (u.region r).type ≠ 0 ∧ (u.region r).job = c.job ∧ size = (u.region r).size ∧ base % 64 = 0 ∧ bits (c.p64 6) 41 23 = 0 ∧ 1 ≤ rows ∧ rows ≤ 2 ^ 40 ∧ c.p 8 % 64 = 0 ∧ dim * fmtBits fmt / 8 ≤ c.p 8 ∧ base + (rows - 1) * c.p 8 + dim * fmtBits fmt / 8 ≤ size ∧ (Tbl.get ({} : EmbTable) u.coll.embs t).dim = 0 ∧ u.programOf b.program = some (p0, p) ∧ mib = imgField p.image 20 4 ∧ n ≤ (u.freeCores c.job).length ∧ u.spillFits (((u.freeCores c.job).take n).filterMap u.physOf) mib = true ∧ e = { job := c.job, binding := c.p 2, region := c.p 3, base := base, rows := rows, dim := dim, fmt := fmt, stride := c.p 8, cores := (u.freeCores c.job).take n }) ∧
  (∃ (s u : State) (i : OpInfo) (c : Cmd) (e : EmbTable), i = { op := 0x0507, lens := lenIs 20, states := stA, j := true } ∧ s.Takes i c ∧ u = s.cmdBegin c ∧ c.p 0 < 256 ∧ e = Tbl.get {} u.coll.embs (c.p 0) ∧ e.dim ≠ 0 ∧ e.job = c.job) :=
  ⟨⟨actSt, _, _, slotCmd 1 [255, 1023 + 2 ^ 10, 1023, 0, 0, 0], _, _, _, _, _, _, _, rfl, takes_of (by decide +kernel), rfl, rfl, rfl, rfl, by decide +kernel, by decide +kernel, by decide +kernel, by decide +kernel, by decide +kernel, by decide +kernel, by decide +kernel, rfl, by decide +kernel, rfl, by decide +kernel, by decide +kernel, rfl, rfl⟩,
   ⟨actSt, _, _, slotCmd 1 [255 + 256, 2 ^ 10, 0, 0, 0, 0], _, _, _, _, _, _, _, rfl, takes_of (by decide +kernel), rfl, rfl, rfl, rfl, by decide +kernel, by decide +kernel, by decide +kernel, by decide +kernel, by decide +kernel, by decide +kernel, by decide +kernel, rfl, by decide +kernel, rfl, by decide +kernel, by decide +kernel, rfl, by decide +kernel, rfl⟩,
   ⟨progSt 3, _, _, slotCmd 1 [255 + 2 ^ 8, 1, 256, 4096, 0, 0, 1, 0, 64], _, _, _, _, _, _, 0, _, _, 0, 0, { job := 1, present := true, program := 256, kind := 3 }, { job := 1, present := true, image := progImg }, _, rfl, takes_of (by decide +kernel), rfl, rfl, rfl, rfl, rfl, rfl, rfl, by decide +kernel, by decide +kernel, by decide +kernel, by decide +kernel, by decide +kernel, by decide +kernel, by decide +kernel, by decide +kernel, by decide +kernel, by decide +kernel, by decide +kernel, by decide +kernel, by decide +kernel, rfl, by decide +kernel, by decide +kernel, by decide +kernel, by decide +kernel, by decide +kernel, by decide +kernel, by decide +kernel, by decide +kernel, by decide +kernel, rfl, by decide +kernel, by decide +kernel, rfl⟩,
   ⟨{ actSt with coll := { embs := [(255, { job := 1, dim := 1 })] } }, _, _, slotCmd 1 [255], _, rfl, takes_of (by decide +kernel), rfl, by decide +kernel, rfl, by decide +kernel⟩⟩

/-- `actSt` with full interleave sets in every den. -/
def tierSt : State := { actSt with mem := { tiers := (List.range 8).map (fun k => (k, { setN := if k % 2 = 0 then 64 else 32 })) } }
/-- Job 1's region 0 of one frame in a state. -/
def rgnIn (st : RegionState) : State := tierSt.setRegion 0 { state := st, job := 1, frames := 1, phys := [0] }
/-- The hypotheses of RegionCommands can be met. -/
theorem witness_RegionCommands :
  (∃ (s u : State) (i : OpInfo) (c : Cmd) (sl : Bool) (pl n k f : Nat) (ph : List Nat) (r : Region) (a : Nat), i = { op := 0x0600, lens := lenIs 24, states := stA, j := true, change := true, long := true, mirrored := bit (c.p 0) 9 } ∧ s.Takes i c ∧ u = s.cmdBegin c ∧ sl = bit (c.p 0) 0 ∧ pl = bits (c.p 0) 3 3 ∧ n = bits (c.p 1) 0 24 ∧ bits (c.p 0) 1 2 < 3 ∧ pl < 5 ∧ bits (c.p 0) 10 22 = 0 ∧ 1 ≤ n ∧ bits (c.p 1) 24 8 = 0 ∧ ((pl = 4 → n % 4 = 0)) ∧ c.job ≠ 0 ∧ ((bit (c.p 0) 9 = true → u.paired2 = true)) ∧ u.rebuilding sl pl = false ∧ (List.range 4096).find? (fun k => (u.region k).state == .free) = some k ∧ u.freeRun sl (pl == 4) n = some f ∧ u.physFor sl pl n = some ph ∧ r = { state := .wiping, type := bits (c.p 0) 1 2, slow := sl, place := pl, prot := bit (c.p 0) 9, fabWr := bit (c.p 0) 6, fabRd := bit (c.p 0) 7, settWr := bit (c.p 0) 8, job := c.job, gen := if (u.region k).job = 0 then 0 else ((u.region k).gen + 1) % 256, frame := f, frames := n, phys := ph } ∧ a = baseMem + 0x10000 + 0x20 * k) ∧
  (∃ (s u : State) (i : OpInfo) (c : Cmd) (sl : Bool) (pl n k f : Nat) (ph : List Nat) (r : Region) (a : Nat), i = { op := 0x0600, lens := lenIs 24, states := stA, j := true, change := true, long := true, mirrored := bit (c.p 0) 9 } ∧ s.Takes i c ∧ u = s.cmdBegin c ∧ sl = bit (c.p 0) 0 ∧ pl = bits (c.p 0) 3 3 ∧ n = bits (c.p 1) 0 24 ∧ bits (c.p 0) 1 2 < 3 ∧ pl < 5 ∧ bits (c.p 0) 10 22 = 0 ∧ 1 ≤ n ∧ bits (c.p 1) 24 8 = 0 ∧ ((pl = 4 → n % 4 = 0)) ∧ c.job ≠ 0 ∧ ((bit (c.p 0) 9 = true → u.paired2 = true)) ∧ u.rebuilding sl pl = false ∧ (List.range 4096).find? (fun k => (u.region k).state == .free) = some k ∧ u.freeRun sl (pl == 4) n = some f ∧ u.physFor sl pl n = some ph ∧ r = { state := .wiping, type := bits (c.p 0) 1 2, slow := sl, place := pl, prot := bit (c.p 0) 9, fabWr := bit (c.p 0) 6, fabRd := bit (c.p 0) 7, settWr := bit (c.p 0) 8, job := c.job, gen := if (u.region k).job = 0 then 0 else ((u.region k).gen + 1) % 256, frame := f, frames := n, phys := ph } ∧ a = baseMem + 0x10000 + 0x20 * k) ∧
  (∃ (s u : State) (i : OpInfo) (c : Cmd) (k : Nat) (r : Region), i = { op := 0x0601, lens := lenIs 20, states := stA, j := true, long := true, mirrored := (u.region k).prot } ∧ s.Takes i c ∧ u = s.cmdBegin c ∧ s.regionOf (c.p 0) = some k ∧ s.region k = u.region k ∧ u.regionOf (c.p 0) = some k ∧ r = u.region k ∧ r.job = c.job ∧ ((r.state = .ready ∨ r.state = .lost)) ∧ u.regionNamed k = false) ∧
  (∃ (s u : State) (i : OpInfo) (c : Cmd) (k : Nat) (r : Region), i = { op := 0x0601, lens := lenIs 20, states := stA, j := true, long := true, mirrored := (u.region k).prot } ∧ s.Takes i c ∧ u = s.cmdBegin c ∧ s.regionOf (c.p 0) = some k ∧ s.region k = u.region k ∧ u.regionOf (c.p 0) = some k ∧ r = u.region k ∧ r.job = c.job ∧ ((r.state = .ready ∨ r.state = .lost)) ∧ u.regionNamed k = false) ∧
  (∃ (s u : State) (i : OpInfo) (c : Cmd) (k : Nat) (r : Region) (ph : List Nat), i = { op := 0x0602, lens := lenIs 20, states := stA, j := true, change := true, long := true, mirrored := (u.region k).prot } ∧ s.Takes i c ∧ u = s.cmdBegin c ∧ s.regionOf (c.p 0) = some k ∧ s.region k = u.region k ∧ u.regionOf (c.p 0) = some k ∧ r = u.region k ∧ r.job = c.job ∧ r.state = .lost ∧ u.rebuilding r.slow r.place = false ∧ ((r.prot = true → u.paired2 = true)) ∧ u.physFor r.slow r.place r.frames = some ph) ∧
  (∃ (s u : State) (i : OpInfo) (c : Cmd) (k : Nat), i = { op := 0x0603, lens := lenIs 20, states := stA, j := true } ∧ s.Takes i c ∧ u = s.cmdBegin c ∧ u.regionOf (c.p 0) = some k ∧ (u.region k).job = c.job) ∧
  (∃ (s u : State) (i : OpInfo) (c : Cmd), i = { op := 0x0603, lens := lenIs 20, states := stA, j := true } ∧ s.Takes i c ∧ u = s.cmdBegin c ∧ u.regionOf (c.p 0) = none) ∧
  (∃ (s u : State) (i : OpInfo) (c : Cmd), i = { op := 0x0604, lens := lenIs 20, states := stRA, m := true } ∧ s.Takes i c ∧ u = s.cmdBegin c ∧ bits (c.p 0) 11 21 = 0 ∧ u.chanExists (bit (c.p 0) 9) (bits (c.p 0) 0 9) = true) ∧
  (∃ (s u : State) (i : OpInfo) (c : Cmd), i = { op := 0x0604, lens := lenIs 20, states := stRA, m := true } ∧ s.Takes i c ∧ u = s.cmdBegin c ∧ bits (c.p 0) 11 21 = 0) ∧
  (∃ (s u : State) (i : OpInfo) (c : Cmd) (sl : Bool) (ch : Nat), i = { op := 0x0605, lens := lenIs 20, states := stRA, m := true, long := true, force := true } ∧ s.Takes i c ∧ u = s.cmdBegin c ∧ sl = bit (c.p 0) 9 ∧ ch = bits (c.p 0) 0 9 ∧ bits (c.p 0) 10 22 = 0 ∧ u.chanExists sl ch = true ∧ (u.chan sl ch).st ≠ 3 ∧ (u.chan sl ch).st ≠ 4 ∧ c.force = false ∧ u.retrainBreaks (ch / u.tierChans sl) = false) ∧
  (∃ (s u : State) (i : OpInfo) (c : Cmd) (sl : Bool) (ch : Nat), i = { op := 0x0605, lens := lenIs 20, states := stRA, m := true, long := true, force := true } ∧ s.Takes i c ∧ u = s.cmdBegin c ∧ sl = bit (c.p 0) 9 ∧ ch = bits (c.p 0) 0 9 ∧ bits (c.p 0) 10 22 = 0 ∧ u.chanExists sl ch = true ∧ (u.chan sl ch).st ≠ 3 ∧ (u.chan sl ch).st ≠ 4 ∧ c.force = true) :=
  ⟨⟨tierSt, _, _, slotCmd 1 [0, 1], _, _, _, 0, 0, _, _, _, rfl, takes_of (by decide +kernel), rfl, rfl, rfl, rfl, by decide +kernel, by decide +kernel, by decide +kernel, by decide +kernel, by decide +kernel, by decide +kernel, by decide +kernel, by decide +kernel, by decide +kernel, by decide +kernel, by decide +kernel, (Option.some_get (by decide +kernel)).symm, rfl, rfl⟩,
   ⟨tierSt, _, _, slotCmd 1 [4 * 2 ^ 3 + 1, 4], _, _, _, 0, 0, _, _, _, rfl, takes_of (by decide +kernel), rfl, rfl, rfl, rfl, by decide +kernel, by decide +kernel, by decide +kernel, by decide +kernel, by decide +kernel, by decide +kernel, by decide +kernel, by decide +kernel, by decide +kernel, by decide +kernel, by decide +kernel, (Option.some_get (by decide +kernel)).symm, rfl, rfl⟩,
   ⟨rgnIn .ready, _, _, slotCmd 1 [4096], 0, _, rfl, takes_of (by decide +kernel), rfl, by decide +kernel, by decide +kernel, by decide +kernel, rfl, by decide +kernel⟩,
   ⟨rgnIn .lost, _, _, slotCmd 1 [4096], 0, _, rfl, takes_of (by decide +kernel), rfl, by decide +kernel, by decide +kernel, by decide +kernel, rfl, by decide +kernel⟩,
   ⟨rgnIn .lost, _, _, slotCmd 1 [4096], 0, _, _, rfl, takes_of (by decide +kernel), rfl, by decide +kernel, by decide +kernel, by decide +kernel, rfl, by decide +kernel, by decide +kernel, by decide +kernel, by decide +kernel, (Option.some_get (by decide +kernel)).symm⟩,
   ⟨rgnIn .ready, _, _, slotCmd 1 [4096], 0, rfl, takes_of (by decide +kernel), rfl, by decide +kernel⟩,
   ⟨actSt, _, _, slotCmd 1 [4096], rfl, takes_of (by decide +kernel), rfl, by decide +kernel⟩,
   ⟨actSt, _, _, slotCmd 0 [512 + 127], rfl, takes_of (by decide +kernel), rfl, by decide +kernel⟩,
   ⟨actSt, _, _, slotCmd 0 [1024], rfl, takes_of (by decide +kernel), rfl, by decide +kernel⟩,
   ⟨actSt, _, _, slotCmd 0 [512 + 127], _, _, rfl, takes_of (by decide +kernel), rfl, rfl, rfl, by decide +kernel⟩,
   ⟨actSt, _, _, { slotCmd 0 [255] with force := true }, _, _, rfl, takes_of (by decide +kernel), rfl, rfl, rfl, by decide +kernel⟩⟩

/-- Job 1's binding 0 of kind 0 with visible core 0, in a state. -/
def bindSt (st : BindSt) : State :=
  let s := progSt 0
  { s with sett := { s.sett with bindings := [(0, { job := 1, present := true, program := 256, cores := [0], st := st })] } }
/-- That binding. -/
def bindA (st : BindSt) : Binding := { job := 1, present := true, program := 256, cores := [0], st := st }
/-- Job 1's program. -/
def progA : Program := { job := 1, present := true, image := progImg }
/-- The hypotheses of CoreAndProgramCommands can be met. -/
theorem witness_CoreAndProgramCommands :
  (∃ (s u : State) (i : OpInfo) (c : Cmd) (vs : List Nat), i = { op := 0x0700, lens := lenIs 36, states := stA, m := true } ∧ s.Takes i c ∧ u = s.cmdBegin c ∧ vs = cmdBitmap c 1 ∧ 1 ≤ c.p 0 ∧ c.p 0 < 4096 ∧ ((∀ v ∈ vs, (u.coreOwner v = 0 ∨ u.coreOwner v = c.p 0) ∧ u.coreBound v = false ∧ u.coreThere v = true))) ∧
  (∃ (s u : State) (i : OpInfo) (c : Cmd) (vs : List Nat), i = { op := 0x0701, lens := lenIs 36, states := stA, m := true } ∧ s.Takes i c ∧ u = s.cmdBegin c ∧ vs = cmdBitmap c 1 ∧ c.p 0 = 0 ∧ (∀ v ∈ vs, u.coreBound v = false)) ∧
  (∃ (s u : State) (i : OpInfo) (c : Cmd) (k : Nat) (r : Region), i = { op := 0x0702, lens := lenIs 36, states := stA, j := true, change := true, long := true, mirrored := true } ∧ s.Takes i c ∧ u = s.cmdBegin c ∧ c.p 0 = 1 ∧ u.regionOf (c.p 1) = some k ∧ r = u.region k ∧ r.job = c.job ∧ c.p64 2 + c.p 4 ≤ r.size ∧ r.state = .ready ∧ u.ueIn (r.base + c.p64 2) (c.p 4) = none) ∧
  (∃ (s u : State) (i : OpInfo) (c : Cmd) (v : State), i = { op := 0x0702, lens := fun l => 32 ≤ l, states := stA, j := true, change := true, long := false, mirrored := true } ∧ s.Takes i c ∧ u = s.cmdBegin c ∧ v = u.dropStaging c.src ∧ c.p 0 = 0 ∧ c.p 1 = 0 ∧ c.p 3 = 0 ∧ (c.params.drop 16).length < c.p 2 ∧ (c.params.drop 16).length % 4 = 0) ∧
  (∃ (s u : State) (i : OpInfo) (c : Cmd), i = { op := 0x0702, lens := fun l => 32 ≤ l, states := stA, j := true, change := true, long := true, mirrored := true } ∧ s.Takes i c ∧ u = s.cmdBegin c ∧ c.p 0 = 0 ∧ c.p 1 = 0 ∧ c.p 3 = 0 ∧ (c.params.drop 16).length = c.p 2) ∧
  (∃ (s u : State) (i : OpInfo) (c : Cmd) (k : Nat) (p : Program), i = { op := 0x0703, lens := lenIs 20, states := stA, j := true, mirrored := imgMirrored p.image } ∧ s.Takes i c ∧ u = s.cmdBegin c ∧ s.programOf (c.p 0) = some (k, p) ∧ u.programOf (c.p 0) = some (k, p) ∧ p.job = c.job ∧ ((∀ e ∈ u.sett.bindings, e.2.present = false ∨ e.2.program ≠ c.p 0))) ∧
  (∃ (s u : State) (i : OpInfo) (c : Cmd) (n k k0 h : Nat) (vs : List Nat) (p : Program) (b : Binding), i = { op := 0x0704, lens := bindLen c, states := stA, j := true, change := true, mirrored := imgMirrored p.image } ∧ s.Takes i c ∧ u = s.cmdBegin c ∧ n = bits (c.p 1) 0 13 ∧ vs = cmdBitmap c 2 ∧ s.programOf (c.p 0) = some (k0, p) ∧ u.programOf (c.p 0) = some (k0, p) ∧ bits (c.p 1) 13 19 = 0 ∧ n = imgField p.image 24 4 ∧ imgField p.image 6 1 = 0 ∧ vs.length = imgField p.image 8 2 ∧ p.job = c.job ∧ ((∀ v ∈ vs, u.coreThere v = true ∧ u.coreOwner v = c.job ∧ u.coreFree v = true)) ∧ (List.range 256).find? (fun k => !(Tbl.get ({} : Binding) u.sett.bindings k).present) = some k ∧ h = objHandle k c.job (Tbl.get ({} : Binding) u.sett.bindings k).gen ∧ b = { job := c.job, gen := (Tbl.get ({} : Binding) u.sett.bindings k).gen, present := true, program := c.p 0, kind := 0, params := (c.params.drop 24).take n, cores := vs } ∧ (∀ x ∈ vs.filterMap u.physOf, (u.core x).gated = false)) ∧
  (∃ (s u : State) (i : OpInfo) (c : Cmd) (k : Nat) (b : Binding), i = { op := 0x0705, lens := lenIs 20, states := stA, j := true, mirrored := b.kind == 1 || b.kind == 2 } ∧ s.Takes i c ∧ u = s.cmdBegin c ∧ s.bindingOf (c.p 0) = some (k, b) ∧ u.bindingOf (c.p 0) = some (k, b) ∧ b.job = c.job ∧ ((b.kind = 0 → u.coresOf (c.p 0) = [])) ∧ ((b.kind ≠ 0 → ∀ e ∈ u.sett.cores, e.2.binding ≠ c.p 0))) ∧
  (∃ (s u : State) (i : OpInfo) (c : Cmd) (k : Nat) (b : Binding), i = { op := 0x0705, lens := lenIs 20, states := stA, j := true, mirrored := b.kind == 1 || b.kind == 2 } ∧ s.Takes i c ∧ u = s.cmdBegin c ∧ s.bindingOf (c.p 0) = some (k, b) ∧ u.bindingOf (c.p 0) = some (k, b) ∧ b.job = c.job ∧ ((b.kind = 0 → u.coresOf (c.p 0) = [])) ∧ ((b.kind ≠ 0 → ∀ e ∈ u.sett.cores, e.2.binding ≠ c.p 0))) ∧
  (∃ (s u : State) (i : OpInfo) (c : Cmd) (k k0 : Nat) (b : Binding) (p : Program), i = { op := 0x0706, lens := lenIs 20, states := stA, j := true, change := true } ∧ s.Takes i c ∧ u = s.cmdBegin c ∧ u.bindingOf (c.p 0) = some (k, b) ∧ b.job = c.job ∧ b.kind = 0 ∧ b.st = .idle ∧ u.programOf b.program = some (k0, p) ∧ b.cores.length ≤ (b.cores.filterMap u.physOf).length ∧ u.spillFits (b.cores.filterMap u.physOf) (imgField p.image 20 4) = true) ∧
  (∃ (s u : State) (i : OpInfo) (c : Cmd) (k : Nat) (b : Binding), i = { op := 0x0707, lens := lenIs 20, states := stA, j := true, long := true } ∧ s.Takes i c ∧ u = s.cmdBegin c ∧ u.bindingOf (c.p 0) = some (k, b) ∧ b.job = c.job ∧ b.kind = 0 ∧ b.st = .done) ∧
  (∃ (s u : State) (i : OpInfo) (c : Cmd) (k : Nat) (b : Binding), i = { op := 0x0707, lens := lenIs 20, states := stA, j := true, long := true } ∧ s.Takes i c ∧ u = s.cmdBegin c ∧ u.bindingOf (c.p 0) = some (k, b) ∧ b.job = c.job ∧ b.kind = 0 ∧ b.st ≠ .done) ∧
  (∃ (s u : State) (i : OpInfo) (c : Cmd) (k : Nat) (b : Binding), i = { op := 0x0708, lens := lenIs 20, states := stA, j := true } ∧ s.Takes i c ∧ u = s.cmdBegin c ∧ u.bindingOf (c.p 0) = some (k, b) ∧ b.job = c.job) ∧
  (∃ (s u : State) (i : OpInfo) (c : Cmd) (k : Nat) (b : Binding) (l : List SettCore), i = { op := 0x0709, lens := lenIs 20, states := stA, j := true } ∧ s.Takes i c ∧ u = s.cmdBegin c ∧ u.bindingOf (c.p 0) = some (k, b) ∧ b.job = c.job ∧ l = (u.sett.cores.filter (fun e => e.2.binding == c.p 0)).map (·.2)) :=
  ⟨⟨actSt, _, _, slotCmd 0 [4095, 1, 0, 0, 2 ^ 23], _, rfl, takes_of (by decide +kernel), rfl, rfl, by decide +kernel⟩,
   ⟨actSt, _, _, slotCmd 0 [0, 1, 0, 0, 2 ^ 23], _, rfl, takes_of (by decide +kernel), rfl, rfl, by decide +kernel⟩,
   ⟨rgnIn .ready, _, _, slotCmd 1 [1, 4096, 2 ^ 26 - 4, 0, 4], 0, _, rfl, takes_of (by decide +kernel), rfl, by decide +kernel, by decide +kernel, rfl, by decide +kernel⟩,
   ⟨actSt, _, _, slotCmd 1 [0, 0, 8, 0, 5], _, rfl, takes_of (by decide +kernel), rfl, rfl, by decide +kernel⟩,
   ⟨actSt, _, _, slotCmd 1 [0, 0, 4, 0, 5], rfl, takes_of (by decide +kernel), rfl, by decide +kernel⟩,
   ⟨{ progSt 0 with sett := { (progSt 0).sett with bindings := [] } }, _, _, slotCmd 1 [256], 0, progA, rfl, takes_of (by decide +kernel), rfl, by decide +kernel⟩,
   ⟨progSt 0, _, _, slotCmd 1 [256, 0, 1, 0, 0, 0], _, 1, 0, _, _, progA, _, rfl, takes_of (by decide +kernel), rfl, rfl, rfl, by decide +kernel, by decide +kernel, by decide +kernel, rfl, by decide +kernel, by decide +kernel, by decide +kernel, by decide +kernel, by decide +kernel, rfl, rfl, by decide +kernel⟩,
   ⟨progSt 0, _, _, slotCmd 1 [256], 0, { job := 1, present := true, program := 256 }, rfl, takes_of (by decide +kernel), rfl, by decide +kernel⟩,
   ⟨progSt 3, _, _, slotCmd 1 [256], 0, { job := 1, present := true, program := 256, kind := 3 }, rfl, takes_of (by decide +kernel), rfl, by decide +kernel⟩,
   ⟨bindSt .idle, _, _, slotCmd 1 [256], 0, 0, bindA .idle, progA, rfl, takes_of (by decide +kernel), rfl, by decide +kernel⟩,
   ⟨bindSt .done, _, _, slotCmd 1 [256], 0, bindA .done, rfl, takes_of (by decide +kernel), rfl, by decide +kernel⟩,
   ⟨bindSt .running, _, _, slotCmd 1 [256], 0, bindA .running, rfl, takes_of (by decide +kernel), rfl, by decide +kernel⟩,
   ⟨bindSt .running, _, _, slotCmd 1 [256], 0, bindA .running, rfl, takes_of (by decide +kernel), rfl, by decide +kernel⟩,
   ⟨bindSt .running, _, _, slotCmd 1 [256], 0, bindA .running, _, rfl, takes_of (by decide +kernel), rfl, by decide +kernel, by decide +kernel, rfl⟩⟩

/-- A mirrored pair's member 0, with partner 1023, in a state of the pair. -/
def pairIn (s : State) (st : Nat) : State := { s with place := some { paired := true, partner := 1023 }, pair := { st := st }, sec := { s.sec with lc := 2 } }
/-- The hypotheses of PairCommands can be met. -/
theorem witness_PairCommands :
  (∃ (s u : State) (i : OpInfo) (c : Cmd) (v : State), i = { op := 0x0800, lens := lenIs 20, states := stR, m := true, long := true, perm := fun s => s.mayPair } ∧ s.Takes i c ∧ u = s.cmdBegin c ∧ bits (c.p 0) 11 21 = 0 ∧ u.pl.paired = true ∧ bits (c.p 0) 0 10 = u.pl.partner ∧ bits (c.p 0) 10 1 = u.pl.member ∧ ((u.pair.st = 0 ∨ u.pair.st = 6)) ∧ v = u.pairStart) ∧
  (∃ (s u : State) (i : OpInfo) (c : Cmd) (v : State), i = { op := 0x0800, lens := lenIs 20, states := stR, m := true, long := true, perm := fun s => s.mayPair } ∧ s.Takes i c ∧ u = s.cmdBegin c ∧ bits (c.p 0) 11 21 = 0 ∧ u.pl.paired = true ∧ bits (c.p 0) 0 10 = u.pl.partner ∧ bits (c.p 0) 10 1 = u.pl.member ∧ ((u.pair.st = 0 ∨ u.pair.st = 6)) ∧ v = u.pairStart) ∧
  (∃ (s u : State) (i : OpInfo) (c : Cmd), i = { op := 0x0800, lens := lenIs 20, states := stR, m := true, long := true, perm := fun s => s.mayPair } ∧ s.Takes i c ∧ u = s.cmdBegin c ∧ bits (c.p 0) 0 10 ≠ u.pl.partner) ∧
  (∃ (s u : State) (i : OpInfo) (c : Cmd), i = { op := 0x0801, lens := lenIs 16, states := stRA, m := true } ∧ s.Takes i c ∧ u = s.cmdBegin c ∧ u.pair.st = 2) ∧
  (∃ (s u : State) (i : OpInfo) (c : Cmd), i = { op := 0x0801, lens := lenIs 16, states := stRA, m := true } ∧ s.Takes i c ∧ u = s.cmdBegin c ∧ u.pair.st ≠ 2) ∧
  (∃ (s u : State) (i : OpInfo) (c : Cmd), i = { op := 0x0802, lens := lenIs 16, states := stRA, m := true } ∧ s.Takes i c ∧ u = s.cmdBegin c) ∧
  (∃ (s u : State) (i : OpInfo) (c : Cmd) (v : State), i = { op := 0x0803, lens := lenIs 16, states := stRA, m := true, long := true } ∧ s.Takes i c ∧ u = s.cmdBegin c ∧ u.pair.st = 3 ∧ u.mirrorUp ≠ [] ∧ v = u.pairSet 5) :=
  ⟨⟨pairIn readySt 0, _, _, slotCmd 0 [1023], _, rfl, takes_of (by decide +kernel), rfl, by decide +kernel, by decide +kernel, by decide +kernel, by decide +kernel, by decide +kernel, rfl⟩,
   ⟨pairIn readySt 6, _, _, slotCmd 0 [1023], _, rfl, takes_of (by decide +kernel), rfl, by decide +kernel, by decide +kernel, by decide +kernel, by decide +kernel, by decide +kernel, rfl⟩,
   ⟨pairIn readySt 0, _, _, slotCmd 0 [1022], rfl, takes_of (by decide +kernel), rfl, by decide +kernel⟩,
   ⟨pairIn actSt 2, _, _, slotCmd 0 [], rfl, takes_of (by decide +kernel), rfl, by decide +kernel⟩,
   ⟨pairIn actSt 3, _, _, slotCmd 0 [], rfl, takes_of (by decide +kernel), rfl, by decide +kernel⟩,
   ⟨pairIn actSt 0, _, _, slotCmd 0 [], rfl, takes_of (by decide +kernel), rfl⟩,
   ⟨(pairIn actSt 3).setPort 191 { st := .active }, _, _, slotCmd 0 [], _, rfl, takes_of (by decide +kernel), rfl, by decide +kernel, by decide +kernel, rfl⟩⟩

/-- `actSt` in the SERVICE state, which permits the instrument functions. -/
def servSt : State := { actSt with sec := { lc := 3 } }
/-- The hypotheses of FaultCommands can be met. -/
theorem witness_FaultCommands :
  (∃ (s u : State) (i : OpInfo) (c : Cmd) (n : Nat), i = { op := 0x0900, lens := lenIs 20, states := stWCRA, m := true } ∧ s.Takes i c ∧ u = s.cmdBegin c ∧ n = bits (c.p 0) 8 8 ∧ 1 ≤ n ∧ n ≤ 64 ∧ bits (c.p 0) 16 16 = 0) ∧
  (∃ (s u : State) (i : OpInfo) (c : Cmd) (n : Nat), i = { op := 0x0900, lens := lenIs 20, states := stWCRA, m := true } ∧ s.Takes i c ∧ u = s.cmdBegin c ∧ n = bits (c.p 0) 8 8 ∧ 1 ≤ n ∧ n ≤ 64 ∧ bits (c.p 0) 16 16 = 0) ∧
  (∃ (s u : State) (i : OpInfo) (c : Cmd), i = { op := 0x0901, lens := lenIs 20, states := stCRA, m := true } ∧ s.Takes i c ∧ u = s.cmdBegin c ∧ bits (c.p 0) 11 21 = 0) ∧
  (∃ (s u : State) (i : OpInfo) (c : Cmd) (w k : Nat) (x : SourceInfo) (v : State), i = { op := 0x0902, lens := lenIs 20, states := stCRA, m := true } ∧ s.Takes i c ∧ u = s.cmdBegin c ∧ w = namedWord (c.p 0) ∧ k = namedSource (c.p 0) ∧ bits (c.p 0) 15 17 = 0 ∧ bits (c.p 0) 11 3 ≤ 4 ∧ sourceInfo w k = some x ∧ ((x.floor = 5 → bits (c.p 0) 11 3 = 4 ∧ bit (c.p 0) 14 = false)) ∧ ((x.floor ≠ 5 → x.floor ≤ bits (c.p 0) 11 3)) ∧ sourceExists w k = true ∧ v = (if sourceLocked w k then u else u.setFld (faultReg w (0x40 + 4 * k)) 0 3 (bits (c.p 0) 11 3))) ∧
  (∃ (s u : State) (i : OpInfo) (c : Cmd), i = { op := 0x0903, lens := lenIs 20, states := stCRA, m := true, perm := fun s => s.mayForce } ∧ s.Takes i c ∧ u = s.cmdBegin c ∧ bits (c.p 0) 11 21 = 0) ∧
  (∃ (s u : State) (i : OpInfo) (c : Cmd), i = { op := 0x0904, lens := lenIs 20, states := stRA, m := true, long := true } ∧ s.Takes i c ∧ u = s.cmdBegin c ∧ c.p 0 < 128 ∧ (u.core (c.p 0)).binding = 0) ∧
  (∃ (s u : State) (i : OpInfo) (c : Cmd), i = { op := 0x0905, lens := lenIs 16, states := stR, m := true, perm := fun s => s.sec.lc == 3 } ∧ s.Takes i c ∧ u = s.cmdBegin c) ∧
  (∃ (s u : State) (i : OpInfo) (c : Cmd) (n : Nat), i = { op := 0x0906, lens := lenIs 20, states := stWCRA, m := true } ∧ s.Takes i c ∧ u = s.cmdBegin c ∧ n = bits (c.p 0) 6 7 ∧ 1 ≤ n ∧ n ≤ 64 ∧ bits (c.p 0) 13 19 = 0) ∧
  (∃ (s u : State) (i : OpInfo) (c : Cmd) (n : Nat), i = { op := 0x0906, lens := lenIs 20, states := stWCRA, m := true } ∧ s.Takes i c ∧ u = s.cmdBegin c ∧ n = bits (c.p 0) 6 7 ∧ 1 ≤ n ∧ n ≤ 64 ∧ bits (c.p 0) 13 19 = 0) :=
  ⟨⟨actSt, _, _, slotCmd 0 [64 * 2 ^ 8], 64, rfl, takes_of (by decide +kernel), rfl, by decide +kernel⟩,
   ⟨actSt, _, _, slotCmd 0 [2 ^ 8], 1, rfl, takes_of (by decide +kernel), rfl, by decide +kernel⟩,
   ⟨actSt, _, _, slotCmd 0 [2047], rfl, takes_of (by decide +kernel), rfl, by decide +kernel⟩,
   ⟨actSt, _, _, slotCmd 0 [4 * 2 ^ 11], _, _, (sourceInfo 0 0).get (by decide), _, rfl, takes_of (by decide +kernel), rfl, rfl, rfl, by decide +kernel, by decide +kernel, (Option.some_get _).symm, by decide +kernel, by decide +kernel, by decide +kernel, rfl⟩,
   ⟨servSt, _, _, slotCmd 0 [2047], rfl, takes_of (by decide +kernel), rfl, by decide +kernel⟩,
   ⟨actSt, _, _, slotCmd 0 [127], rfl, takes_of (by decide +kernel), rfl, by decide +kernel⟩,
   ⟨{ servSt with dev := .ready }, _, _, slotCmd 0 [], rfl, takes_of (by decide +kernel), rfl⟩,
   ⟨actSt, _, _, slotCmd 0 [64 * 2 ^ 6], 64, rfl, takes_of (by decide +kernel), rfl, by decide +kernel⟩,
   ⟨actSt, _, _, slotCmd 0 [2 ^ 6], 1, rfl, takes_of (by decide +kernel), rfl, by decide +kernel⟩⟩

/-- A provisioned module, in READY, whose owner's key is all zeros. -/
def ownedReady : State := { readySt with sec := { lc := 1, owner := some (List.replicate 32 0) } }

/-- Ed25519 is a constant without a body (log 11): where it verifies the owner's signature, OWNER_KEY is authorised. -/
theorem witness_PowerAndSecurityCommands_owner (h : Config.ed25519Verify (List.replicate 32 0) (ownedReady.ownerMessage (List.replicate 32 0)) (List.replicate 64 0) = true) :
    ownedReady.Takes { op := 0x0B01, lens := lenIs 112, states := stCRA, m := true, perm := fun s => s.sec.lc != 4 } (slotCmd 0 (List.replicate 24 0)) ∧
      (ownedReady.cmdBegin (slotCmd 0 (List.replicate 24 0))).ownerAuth ((slotCmd 0 (List.replicate 24 0)).params.take 32)
        (((slotCmd 0 (List.replicate 24 0)).params.drop 32).take 64) = true := ⟨takes_of (by decide +kernel), h⟩

/-- Where it verifies the owner's signature, a provisioned module may be deployed. -/
theorem witness_PowerAndSecurityCommands_change (h : Config.ed25519Verify (List.replicate 32 0) (ownedReady.lcMessage 2) (List.replicate 64 0) = true) :
    bits ((slotCmd 0 (2 :: List.replicate 24 0)).p 0) 3 29 = 0 ∧ bits ((slotCmd 0 (2 :: List.replicate 24 0)).p 0) 0 3 = 2 ∧
      ownedReady.lcCheck 2 (List.replicate 32 0) (List.replicate 64 0) = 0 := by
  refine ⟨by decide +kernel, by decide +kernel, ?_⟩
  unfold State.lcCheck
  rw [h]
  decide +kernel
/-- The hypotheses of PowerAndSecurityCommands can be met. -/
theorem witness_PowerAndSecurityCommands :
  (∃ (s u : State) (i : OpInfo) (c : Cmd), i = { op := 0x0A00, lens := lenIs 20, states := stCRA, m := true } ∧ s.Takes i c ∧ u = s.cmdBegin c ∧ 1500 ≤ c.p 0 ∧ c.p 0 ≤ 3800) ∧
  (∃ (s u : State) (i : OpInfo) (c : Cmd), i = { op := 0x0A00, lens := lenIs 20, states := stCRA, m := true } ∧ s.Takes i c ∧ u = s.cmdBegin c ∧ 1500 ≤ c.p 0 ∧ c.p 0 ≤ 3800) ∧
  (∃ (s u : State) (i : OpInfo) (c : Cmd), i = { op := 0x0A00, lens := lenIs 20, states := stCRA, m := true } ∧ s.Takes i c ∧ u = s.cmdBegin c ∧ ((c.p 0 < 1500 ∨ 3800 < c.p 0))) ∧
  (∃ (s u : State) (i : OpInfo) (c : Cmd), i = { op := 0x0A00, lens := lenIs 20, states := stCRA, m := true } ∧ s.Takes i c ∧ u = s.cmdBegin c ∧ ((c.p 0 < 1500 ∨ 3800 < c.p 0))) ∧
  (∃ (s u : State) (i : OpInfo) (c : Cmd), i = { op := 0x0A02, lens := lenIs 16, states := stCRA, m := true } ∧ s.Takes i c ∧ u = s.cmdBegin c) ∧
  (∃ (s u : State) (i : OpInfo) (c : Cmd), i = { op := 0x0A01, lens := lenIs 20, states := stCRA, m := true, long := true } ∧ s.Takes i c ∧ u = s.cmdBegin c ∧ c.p 0 = 0 ∧ u.power.busy = false ∧ u.power.pstate = 1 ∧ u.gatedCores = []) ∧
  (∃ (s u : State) (i : OpInfo) (c : Cmd), i = { op := 0x0A01, lens := lenIs 20, states := stCRA, m := true, long := true } ∧ s.Takes i c ∧ u = s.cmdBegin c ∧ c.p 0 = 0 ∧ u.power.busy = false ∧ u.power.pstate = 2) ∧
  (∃ (s u : State) (i : OpInfo) (c : Cmd), i = { op := 0x0A01, lens := lenIs 20, states := stCRA, m := true, long := true } ∧ s.Takes i c ∧ u = s.cmdBegin c ∧ c.p 0 = 1 ∧ u.power.busy = false ∧ u.power.pstate = 0) ∧
  (∃ (s u : State) (i : OpInfo) (c : Cmd), i = { op := 0x0A01, lens := lenIs 20, states := stCRA, m := true, long := true } ∧ s.Takes i c ∧ u = s.cmdBegin c ∧ c.p 0 = 2 ∧ u.power.busy = false ∧ u.power.pstate < 2 ∧ u.mustStay = false) ∧
  (∃ (s u : State) (i : OpInfo) (c : Cmd), i = { op := 0x0A01, lens := lenIs 20, states := stCRA, m := true, long := true } ∧ s.Takes i c ∧ u = s.cmdBegin c ∧ c.p 0 = 2 ∧ u.power.busy = false ∧ u.power.pstate < 2 ∧ u.mustStay = true) ∧
  (∃ (s u : State) (i : OpInfo) (c : Cmd), i = { op := 0x0A01, lens := lenIs 20, states := stCRA, m := true, long := true } ∧ s.Takes i c ∧ u = s.cmdBegin c ∧ c.p 0 = 3 ∧ u.power.busy = false ∧ u.power.pstate < 2 ∧ u.mustStay = false) ∧
  (∃ (s u : State) (i : OpInfo) (c : Cmd), i = { op := 0x0A01, lens := lenIs 20, states := stCRA, m := true, long := true } ∧ s.Takes i c ∧ u = s.cmdBegin c ∧ c.p 0 = 3 ∧ u.power.busy = false ∧ u.power.pstate < 2 ∧ u.mustStay = true) ∧
  (∃ (s u : State) (i : OpInfo) (c : Cmd), i = { op := 0x0B01, lens := lenIs 112, states := stCRA, m := true, perm := fun s => s.sec.lc != 4 } ∧ s.Takes i c ∧ u = s.cmdBegin c ∧ u.ownerAuth (c.params.take 32) ((c.params.drop 32).take 64) = false) ∧
  (∃ (s u : State) (i : OpInfo) (c : Cmd), i = { op := 0x0B02, lens := lenIs 24, states := stR, m := true } ∧ s.Takes i c ∧ u = s.cmdBegin c ∧ c.p 0 = 0 ∧ u.sec.ctr0 < c.p 1 ∧ c.p 1 ≤ 255 ∧ c.p 1 ≤ u.sec.fwCtr) ∧
  (∃ (s u : State) (i : OpInfo) (c : Cmd), i = { op := 0x0B02, lens := lenIs 24, states := stR, m := true } ∧ s.Takes i c ∧ u = s.cmdBegin c ∧ c.p 0 = 1 ∧ u.sec.ctr1 < c.p 1 ∧ c.p 1 ≤ 255 ∧ ((∀ e ∈ u.cfg.active, ∀ x, e.2 = some x → c.p 1 ≤ imgCtr x.bytes)) ∧ ((∀ b, u.cfg.base = some b → c.p 1 ≤ imgCtr b.bytes)) ∧ ((u.cfg.bootBase = 0 ∨ c.p 1 ≤ imgCtr (Tbl.get [] u.cfg.flash u.cfg.bootBase)))) ∧
  (∃ (s u : State) (i : OpInfo) (c : Cmd), i = { op := 0x0B03, lens := lenIs 16, states := stCRA, m := true } ∧ s.Takes i c ∧ u = s.cmdBegin c) ∧
  (∃ (s : State) (c : Cmd), s.Takes lcInfo c ∧ bits (c.p 0) 3 29 = 0 ∧ bits (c.p 0) 0 3 ≤ 4 ∧ s.lcCheck (bits (c.p 0) 0 3) ((c.params.drop 4).take 32) ((c.params.drop 36).take 64) ≠ 0) :=
  ⟨⟨actSt, _, _, slotCmd 0 [3800], rfl, takes_of (by decide +kernel), rfl, by decide +kernel⟩,
   ⟨actSt, _, _, slotCmd 0 [1500], rfl, takes_of (by decide +kernel), rfl, by decide +kernel⟩,
   ⟨actSt, _, _, slotCmd 0 [3801], rfl, takes_of (by decide +kernel), rfl, by decide +kernel⟩,
   ⟨actSt, _, _, slotCmd 0 [1499], rfl, takes_of (by decide +kernel), rfl, by decide +kernel⟩,
   ⟨actSt, _, _, slotCmd 0 [], rfl, takes_of (by decide +kernel), rfl⟩,
   ⟨{ actSt with power := { pstate := 1 } }, _, _, slotCmd 0 [0], rfl, takes_of (by decide +kernel), rfl, by decide +kernel⟩,
   ⟨{ actSt with power := { pstate := 2 } }, _, _, slotCmd 0 [0], rfl, takes_of (by decide +kernel), rfl, by decide +kernel⟩,
   ⟨actSt, _, _, slotCmd 0 [1], rfl, takes_of (by decide +kernel), rfl, by decide +kernel⟩,
   ⟨actSt, _, _, slotCmd 0 [2], rfl, takes_of (by decide +kernel), rfl, by decide +kernel⟩,
   ⟨ctxSt .running, _, _, slotCmd 0 [2], rfl, takes_of (by decide +kernel), rfl, by decide +kernel⟩,
   ⟨{ actSt with power := { pstate := 1 } }, _, _, slotCmd 0 [3], rfl, takes_of (by decide +kernel), rfl, by decide +kernel⟩,
   ⟨ctxSt .running, _, _, slotCmd 0 [3], rfl, takes_of (by decide +kernel), rfl, by decide +kernel⟩,
   ⟨actSt, _, _, slotCmd 0 (List.replicate 24 0), rfl, takes_of (by decide +kernel), rfl, by decide +kernel⟩,
   ⟨{ ownedReady with sec := { fwCtr := 255 } }, _, _, slotCmd 0 [0, 255], rfl, takes_of (by decide +kernel), rfl, by decide +kernel⟩,
   ⟨ownedReady, _, _, slotCmd 0 [1, 255], rfl, takes_of (by decide +kernel), rfl, by decide +kernel, by decide +kernel, by decide +kernel, (by intro e he; exact absurd he List.not_mem_nil), (by intro b hb; cases hb), by decide +kernel⟩,
   ⟨actSt, _, _, slotCmd 0 [], rfl, takes_of (by decide +kernel), rfl⟩,
   ⟨readySt, slotCmd 0 (0 :: List.replicate 24 0), takes_of (by decide +kernel), by decide +kernel⟩⟩

/-- The hypotheses of MirrorAndFoxCommands can be met. -/
theorem witness_MirrorAndFoxCommands :
  (∃ (s u : State) (i : OpInfo) (c : Cmd) (k : Nat) (x : Mirror), i = { op := 0x0C00, lens := lenIs 36, states := stRA, change := true, j := true, m := true } ∧ s.Takes i c ∧ u = s.cmdBegin c ∧ k = bits (c.p 0) 0 5 ∧ x = mirrorRec c ∧ bits (c.p 0) 5 27 = 0 ∧ x.dir ≤ 2 ∧ x.port ≤ 47 ∧ bits (c.p 1) 23 9 = 0 ∧ bits (c.p 2) 24 8 = 0 ∧ bits (c.p 3) 12 20 = 0 ∧ u.portThere x.aport = true ∧ 2 ≤ x.snap16 ∧ x.adst < 9216 ∧ bits (c.p 4) 30 2 = 0 ∧ (((u.mirror k).en = false ∨ (u.mirror k).job = c.job)) ∧ ((c.job = 0 → u.instrument = true)) ∧ ((c.job ≠ 0 → u.dev ≠ .ready ∧ u.jobHere c.job = true ∧ u.inJob c.job x.adst = true ∧ (x.bad = true → u.instrument = true)))) ∧
  (∃ (s u : State) (i : OpInfo) (c : Cmd) (k : Nat) (x : Mirror), i = { op := 0x0C00, lens := lenIs 36, states := stRA, change := true, j := true, m := true } ∧ s.Takes i c ∧ u = s.cmdBegin c ∧ k = bits (c.p 0) 0 5 ∧ x = mirrorRec c ∧ bits (c.p 0) 5 27 = 0 ∧ x.dir ≤ 2 ∧ x.port ≤ 47 ∧ bits (c.p 1) 23 9 = 0 ∧ bits (c.p 2) 24 8 = 0 ∧ bits (c.p 3) 12 20 = 0 ∧ u.portThere x.aport = true ∧ 2 ≤ x.snap16 ∧ x.adst < 9216 ∧ bits (c.p 4) 30 2 = 0 ∧ (((u.mirror k).en = false ∨ (u.mirror k).job = c.job)) ∧ ((c.job = 0 → u.instrument = true)) ∧ ((c.job ≠ 0 → u.dev ≠ .ready ∧ u.jobHere c.job = true ∧ u.inJob c.job x.adst = true ∧ (x.bad = true → u.instrument = true)))) ∧
  (∃ (s u : State) (i : OpInfo) (c : Cmd) (k : Nat), i = { op := 0x0C01, lens := lenIs 20, states := stRA, j := true, m := true } ∧ s.Takes i c ∧ u = s.cmdBegin c ∧ k = bits (c.p 0) 0 5 ∧ bits (c.p 0) 5 27 = 0 ∧ (((u.mirror k).en = false ∨ (u.mirror k).job = c.job))) ∧
  (∃ (s u : State) (i : OpInfo) (c : Cmd) (n : Nat) (x : FoxStream) (v : State), i = { op := 0x0C02, lens := lenIs 64, states := stRA, change := true, j := true, m := true } ∧ s.Takes i c ∧ u = s.cmdBegin c ∧ n = bits (c.p 0) 0 5 ∧ bits (c.p 0) 5 27 = 0 ∧ n < 24 ∧ u.foxMay n c.job = true ∧ x = streamRec c ∧ (streamChecks s n c x).all (·.2) = true ∧ (u.foxUnit n).running = false ∧ u.streamJobOk n c.job x = true ∧ (if x.en && !x.switched then u.foxQueue (8 * n + x.port) x else some u) = some v) ∧
  (∃ (s u : State) (i : OpInfo) (c : Cmd) (n : Nat) (x : FoxFlow), i = { op := 0x0C02, lens := lenIs 32, states := stRA, change := true, j := true, m := true } ∧ s.Takes i c ∧ u = s.cmdBegin c ∧ n = bits (c.p 0) 0 5 ∧ bits (c.p 0) 5 27 = 0 ∧ n < 24 ∧ u.foxMay n c.job = true ∧ x = { en := bit (c.p 1) 6, ports := bits (c.p 2) 0 8, any := bit (c.p 2) 8, sid := bits (c.p 2) 9 9, payEn := bit (c.p 2) 18, protoEn := bit (c.p 2) 19, hist := bits (c.p 2) 20 3, histEn := bit (c.p 2) 23, job := bits (c.p 3) 0 12 } ∧ bits (c.p 1) 0 2 = 1 ∧ bits (c.p 1) 7 25 = 0 ∧ bits (c.p 2) 24 8 = 0 ∧ bits (c.p 3) 12 20 = 0 ∧ (u.foxUnit n).running = false ∧ ((x.protoEn = true → u.instrument = true)) ∧ ((c.job ≠ 0 → x.job = c.job ∧ u.foxPortsIn n c.job = true))) ∧
  (∃ (s u : State) (i : OpInfo) (c : Cmd) (n : Nat) (v : State), i = { op := 0x0C02, lens := lenIs 24, states := stRA, change := true, j := true, m := true } ∧ s.Takes i c ∧ u = s.cmdBegin c ∧ n = bits (c.p 0) 0 5 ∧ bits (c.p 0) 5 27 = 0 ∧ n < 24 ∧ u.foxMay n c.job = true ∧ c.p 1 = 2 ∧ (u.foxUnit n).running = false ∧ v = u.foxClaim n c.job) ∧
  (∃ (s u : State) (i : OpInfo) (c : Cmd) (n : Nat), i = { op := 0x0C03, lens := lenIs 28, states := stRA, change := true, j := true, m := true } ∧ s.Takes i c ∧ u = s.cmdBegin c ∧ n = bits (c.p 0) 0 5 ∧ bits (c.p 0) 5 27 = 0 ∧ n < 24 ∧ u.foxMay n c.job = true ∧ c.p64 1 ≤ u.now) ∧
  (∃ (s u : State) (i : OpInfo) (c : Cmd) (n : Nat), i = { op := 0x0C03, lens := lenIs 28, states := stRA, change := true, j := true, m := true } ∧ s.Takes i c ∧ u = s.cmdBegin c ∧ n = bits (c.p 0) 0 5 ∧ bits (c.p 0) 5 27 = 0 ∧ n < 24 ∧ u.foxMay n c.job = true ∧ u.now < c.p64 1) ∧
  (∃ (s u : State) (i : OpInfo) (c : Cmd) (n : Nat), i = { op := 0x0C04, lens := lenIs 20, states := stRA, j := true, m := true } ∧ s.Takes i c ∧ u = s.cmdBegin c ∧ n = bits (c.p 0) 0 5 ∧ bits (c.p 0) 5 27 = 0 ∧ n < 24 ∧ u.foxMay n c.job = true) ∧
  (∃ (s u : State) (i : OpInfo) (c : Cmd) (n : Nat), i = { op := 0x0C05, lens := lenIs 20, states := stRA, j := true, m := true } ∧ s.Takes i c ∧ u = s.cmdBegin c ∧ n = bits (c.p 0) 0 5 ∧ bits (c.p 0) 5 27 = 0 ∧ n < 24 ∧ u.foxMay n c.job = true) :=
  ⟨⟨servSt, _, _, slotCmd 0 [31, 0, 0, 0, 191 + 255 * 2 ^ 8 + 9215 * 2 ^ 16], _, _, rfl, takes_of (by decide +kernel), rfl, rfl, rfl, by decide +kernel⟩,
   ⟨actSt, _, _, slotCmd 1 [31, 0, 0, 0, 191 + 2 * 2 ^ 8], _, _, rfl, takes_of (by decide +kernel), rfl, rfl, rfl, by decide +kernel⟩,
   ⟨actSt, _, _, slotCmd 0 [31], _, rfl, takes_of (by decide +kernel), rfl, rfl, by decide +kernel⟩,
   ⟨servSt, _, _, slotCmd 0 [23, 2 ^ 6, 2 ^ 22, 0, 24 + 4096 * 2 ^ 13, 0, 17, 0, 0, 0, 0, 0], _, _, _, rfl, takes_of (by decide +kernel), rfl, rfl, by decide +kernel, by decide +kernel, by decide +kernel, rfl, by decide +kernel, by decide +kernel, by decide +kernel, (Option.some_get (by decide +kernel)).symm⟩,
   ⟨servSt, _, _, slotCmd 0 [23, 1, 0, 0], _, _, rfl, takes_of (by decide +kernel), rfl, rfl, by decide +kernel, by decide +kernel, by decide +kernel, rfl, by decide +kernel⟩,
   ⟨servSt, _, _, slotCmd 0 [23, 2], _, _, rfl, takes_of (by decide +kernel), rfl, rfl, by decide +kernel, by decide +kernel, by decide +kernel, by decide +kernel, by decide +kernel, rfl⟩,
   ⟨servSt, _, _, slotCmd 0 [23, 0, 0], _, rfl, takes_of (by decide +kernel), rfl, rfl, by decide +kernel⟩,
   ⟨servSt, _, _, slotCmd 0 [23, 1, 0], _, rfl, takes_of (by decide +kernel), rfl, rfl, by decide +kernel⟩,
   ⟨servSt, _, _, slotCmd 0 [23], _, rfl, takes_of (by decide +kernel), rfl, rfl, by decide +kernel⟩,
   ⟨servSt, _, _, slotCmd 0 [23], _, rfl, takes_of (by decide +kernel), rfl, rfl, by decide +kernel⟩⟩

/-- A pair of a pair's components. -/
theorem pair_eta {α β : Type} (x : α × β) : (x.1, x.2) = x := rfl
/-- The parameters of an injection of a kind on port 191. -/
def injCmd (k p1 p2 : Nat) : Cmd := slotCmd 0 [191 + k * 2 ^ 8, p1, p2]
/-- GOLDEN_SET with EN 0 for one emulated member on port 5: a SUM of 32 FP32 elements in chunks of 4 KiB. -/
def goldCmd0 : Cmd := slotCmd 0 [12 * 2 ^ 17, 4095, 8192, 1, 1 + 2 ^ 4, 7, 7, 0, 0, 32, 0, 1, 5, 1]
/-- The same, with EN 1. -/
def goldCmd : Cmd := slotCmd 0 [2 ^ 22 + 12 * 2 ^ 17, 4095, 8192, 1, 1 + 2 ^ 4, 7, 7, 0, 0, 32, 0, 1, 5, 1]
/-- The hypotheses of GoldenAndInjectionCommands can be met. -/
theorem witness_GoldenAndInjectionCommands :
  (∃ (s u : State) (i : OpInfo) (c : Cmd) (n : Nat) (ports : List Nat), i = { op := 0x0C06, lens := lenIs (64 + 8 * bits (c.p 11) 0 5), states := stRA, m := true, perm := fun s => s.instrument } ∧ s.Takes i c ∧ u = s.cmdBegin c ∧ bit (c.p 0) 22 = false ∧ n = bits (c.p 11) 0 5 ∧ (u.goldenChecks c).all (·.2) = true ∧ ports = (List.range n).map (fun e => bits (c.p (12 + 2 * e)) 0 8) ∧ ((∀ p ∈ ports, (u.pl.paired = false ∨ p ∉ pairPorts) ∧ u.flowsOn p = []))) ∧
  (∃ (s u : State) (i : OpInfo) (c : Cmd) (n d k b : Nat) (ports : List Nat) (v w : State) (g : GoldenSt) (ms : List Member), i = { op := 0x0C06, lens := lenIs (64 + 8 * bits (c.p 11) 0 5), states := stRA, m := true, perm := fun s => s.instrument } ∧ s.Takes i c ∧ u = s.cmdBegin c ∧ bit (c.p 0) 22 = true ∧ n = bits (c.p 11) 0 5 ∧ (u.goldenChecks c).all (·.2) = true ∧ ports = (List.range n).map (fun e => bits (c.p (12 + 2 * e)) 0 8) ∧ ((∀ p ∈ ports, (u.pl.paired = false ∨ p ∉ pairPorts) ∧ u.flowsOn p = [])) ∧ v = u.goldenEnd ∧ g = { en := true, words := (List.range 12).map c.p, startAt := v.now, tc := 1 + v.free % 2, win := 1 + v.used.free % 64 } ∧ d = denOf (ports.getD 0 0) ∧ v.ctxPick 0 = some k ∧ b = (if Tbl.get 0 v.mem.p1Backing d = 0 then 16384 else Tbl.get 0 v.mem.p1Backing d) ∧ v.claimed d + 16 * g.ctx.blocks ≤ b ∧ (w, ms) = (List.range n).foldl (fun (a : State × List Member) e => (a.1.used, a.2 ++ [goldMember c e a.1.free])) (v.used.used, [])) ∧
  (∃ (s u : State) (i : OpInfo) (c : Cmd), i = { op := 0x0C07, lens := fun l => 20 ≤ l && l ≤ 64 && l % 4 == 0, states := stRA, m := true, perm := fun s => s.instrument } ∧ s.Takes i c ∧ u = s.cmdBegin c ∧ bits (c.p 0) 8 24 = 0 ∧ u.portThere (cmdPort c) = true) ∧
  (∃ (s u : State) (i : OpInfo) (c : Cmd) (v : State), i = { op := 0x0C07, lens := fun l => 28 ≤ l && l ≤ 64 && l % 4 == 0, states := stRA, m := true, perm := fun s => s.instrument } ∧ s.Takes i c ∧ u = s.cmdBegin c ∧ bits (c.p 0) 8 8 = 1 ∧ bits (c.p 0) 16 16 = 0 ∧ u.portThere (cmdPort c) = true ∧ (u.inj (cmdPort c)).kind = 0 ∧ 1 ≤ bits (c.p 1) 8 6 ∧ bits (c.p 1) 8 6 ≤ 48 ∧ bits (c.p 1) 14 18 = 0 ∧ c.p 2 ≠ 0 ∧ v = u.setInj (cmdPort c) { mask := bits (c.p 1) 0 8, symbols := bits (c.p 1) 8 6, count := c.p 2, kind := 1, delayed := (u.inj (cmdPort c)).delayed }) ∧
  (∃ (s u : State) (i : OpInfo) (c : Cmd) (v : State), i = { op := 0x0C07, lens := fun l => 28 ≤ l && l ≤ 64 && l % 4 == 0, states := stRA, m := true, perm := fun s => s.instrument } ∧ s.Takes i c ∧ u = s.cmdBegin c ∧ bits (c.p 0) 8 8 = 1 ∧ bits (c.p 0) 16 16 = 0 ∧ u.portThere (cmdPort c) = true ∧ (u.inj (cmdPort c)).kind = 0 ∧ 1 ≤ bits (c.p 1) 8 6 ∧ bits (c.p 1) 8 6 ≤ 48 ∧ bits (c.p 1) 14 18 = 0 ∧ c.p 2 ≠ 0 ∧ v = u.setInj (cmdPort c) { mask := bits (c.p 1) 0 8, symbols := bits (c.p 1) 8 6, count := c.p 2, kind := 1, delayed := (u.inj (cmdPort c)).delayed }) ∧
  (∃ (s u : State) (i : OpInfo) (c : Cmd) (v : State), i = { op := 0x0C07, lens := fun l => 28 ≤ l && l ≤ 64 && l % 4 == 0, states := stRA, m := true, perm := fun s => s.instrument } ∧ s.Takes i c ∧ u = s.cmdBegin c ∧ bits (c.p 0) 8 8 = 2 ∧ bits (c.p 0) 16 16 = 0 ∧ u.portThere (cmdPort c) = true ∧ (u.inj (cmdPort c)).kind = 0 ∧ bits (c.p 1) 8 24 = 0 ∧ 1 ≤ c.p 2 ∧ c.p 2 ≤ 65535 ∧ v = (u.setInj (cmdPort c) { mask := bits (c.p 1) 0 8, count := c.p 2, kind := 2, delayed := (u.inj (cmdPort c)).delayed }).bump (injReg (cmdPort c) 4)) ∧
  (∃ (s u : State) (i : OpInfo) (c : Cmd) (v : State), i = { op := 0x0C07, lens := fun l => 28 ≤ l && l ≤ 64 && l % 4 == 0, states := stRA, m := true, perm := fun s => s.instrument } ∧ s.Takes i c ∧ u = s.cmdBegin c ∧ bits (c.p 0) 8 8 = 3 ∧ bits (c.p 0) 16 16 = 0 ∧ u.portThere (cmdPort c) = true ∧ (u.inj (cmdPort c)).kind = 0 ∧ bits (c.p 1) 20 12 = 0 ∧ c.p 2 ≠ 0 ∧ v = u.setInj (cmdPort c) { injMatch c with kind := 3, delayed := (u.inj (cmdPort c)).delayed }) ∧
  (∃ (s u : State) (i : OpInfo) (c : Cmd) (v : State), i = { op := 0x0C07, lens := fun l => 28 ≤ l && l ≤ 64 && l % 4 == 0, states := stRA, m := true, perm := fun s => s.instrument } ∧ s.Takes i c ∧ u = s.cmdBegin c ∧ bits (c.p 0) 8 8 = 4 ∧ bits (c.p 0) 16 16 = 0 ∧ u.portThere (cmdPort c) = true ∧ (u.inj (cmdPort c)).kind = 0 ∧ bits (c.p 1) 20 12 = 0 ∧ c.p 2 ≠ 0 ∧ v = u.setInj (cmdPort c) { injMatch c with kind := 4, delayed := (u.inj (cmdPort c)).delayed }) ∧
  (∃ (s u : State) (i : OpInfo) (c : Cmd) (v : State), i = { op := 0x0C07, lens := fun l => 28 ≤ l && l ≤ 64 && l % 4 == 0, states := stRA, m := true, perm := fun s => s.instrument } ∧ s.Takes i c ∧ u = s.cmdBegin c ∧ bits (c.p 0) 8 8 = 5 ∧ bits (c.p 0) 16 16 = 0 ∧ u.portThere (cmdPort c) = true ∧ (u.inj (cmdPort c)).kind = 0 ∧ bits (c.p 1) 20 12 = 0 ∧ c.p 2 ≠ 0 ∧ v = u.setInj (cmdPort c) { injMatch c with kind := 5, delayed := (u.inj (cmdPort c)).delayed }) ∧
  (∃ (s u : State) (i : OpInfo) (c : Cmd) (v : State), i = { op := 0x0C07, lens := fun l => 32 ≤ l && l ≤ 64 && l % 4 == 0, states := stRA, m := true, perm := fun s => s.instrument } ∧ s.Takes i c ∧ u = s.cmdBegin c ∧ bits (c.p 0) 8 8 = 6 ∧ bits (c.p 0) 16 16 = 0 ∧ u.portThere (cmdPort c) = true ∧ (u.inj (cmdPort c)).kind = 0 ∧ bits (c.p 1) 20 12 = 0 ∧ c.p 2 ≠ 0 ∧ 1 ≤ c.p 3 ∧ c.p 3 ≤ 1000000 ∧ v = u.setInj (cmdPort c) { injMatch c with delayNs := c.p 3, kind := 6, delayed := (u.inj (cmdPort c)).delayed }) ∧
  (∃ (s u : State) (i : OpInfo) (c : Cmd) (v : State), i = { op := 0x0C07, lens := fun l => 28 ≤ l && l ≤ 64 && l % 4 == 0, states := stRA, m := true, perm := fun s => s.instrument } ∧ s.Takes i c ∧ u = s.cmdBegin c ∧ bits (c.p 0) 8 8 = 7 ∧ bits (c.p 0) 16 16 = 0 ∧ u.portThere (cmdPort c) = true ∧ (u.inj (cmdPort c)).kind = 0 ∧ bits (c.p 1) 8 24 = 0 ∧ c.p 2 ≠ 0 ∧ v = (u.setInj (cmdPort c) { mask := bits (c.p 1) 0 8, count := c.p 2, kind := 7, delayed := (u.inj (cmdPort c)).delayed }).bump (injReg (cmdPort c) 4)) ∧
  (∃ (s u : State) (i : OpInfo) (c : Cmd) (v : State), i = { op := 0x0C07, lens := fun l => 28 ≤ l && l ≤ 64 && l % 4 == 0, states := stRA, m := true, perm := fun s => s.instrument } ∧ s.Takes i c ∧ u = s.cmdBegin c ∧ bits (c.p 0) 8 8 = 8 ∧ bits (c.p 0) 16 16 = 0 ∧ u.portThere (cmdPort c) = true ∧ (u.inj (cmdPort c)).kind = 0 ∧ c.p 1 = 0 ∧ c.p 2 ≠ 0 ∧ v = (u.setInj (cmdPort c) { count := c.p 2, kind := 8, delayed := (u.inj (cmdPort c)).delayed }).bump (injReg (cmdPort c) 4)) ∧
  (∃ (s u : State) (i : OpInfo) (c : Cmd), i = { op := 0x0C07, lens := fun l => 28 ≤ l && l ≤ 64 && l % 4 == 0, states := stRA, m := true, perm := fun s => s.instrument } ∧ s.Takes i c ∧ u = s.cmdBegin c ∧ bits (c.p 0) 8 8 = 4 ∧ bits (c.p 0) 16 16 = 0 ∧ u.portThere (cmdPort c) = true ∧ (u.inj (cmdPort c)).kind ≠ 0 ∧ bits (c.p 1) 20 12 = 0 ∧ c.p 2 ≠ 0) ∧
  (∃ (s : State) (p : Nat), p < 192 ∧ (s.inj p).kind = 1) ∧
  (∃ (s : State) (p : Nat), p < 192 ∧ ((s.inj p).kind = 2 ∨ (s.inj p).kind = 7 ∨ (s.inj p).kind = 8)) ∧
  (∃ (s : State) (p : Nat), p < 192 ∧ ((s.inj p).kind = 2 ∨ (s.inj p).kind = 7 ∨ (s.inj p).kind = 8)) ∧
  (∃ (s : State) (p : Nat), p < 192 ∧ ((s.inj p).kind = 2 ∨ (s.inj p).kind = 7 ∨ (s.inj p).kind = 8)) :=
  ⟨⟨servSt, _, _, goldCmd0, _, _, rfl, takes_of (by decide +kernel), rfl, by decide +kernel, rfl, by decide +kernel, rfl, by decide +kernel⟩,
   ⟨servSt, _, _, goldCmd, _, _, 0, _, _, _, _, _, _, rfl, takes_of (by decide +kernel), rfl, by decide +kernel, rfl, by decide +kernel, rfl, by decide +kernel, rfl, rfl, rfl, by decide +kernel, rfl, (by generalize hr : State.free (servSt.cmdBegin goldCmd).goldenEnd % 2 = r; have h2 : r < 2 := (hr ▸ Nat.mod_lt _ (by decide)); rcases r with _ | _ | r <;> first | omega | decide +kernel), pair_eta _⟩,
   ⟨servSt, _, _, slotCmd 0 [191], rfl, takes_of (by decide +kernel), rfl, by decide +kernel⟩,
   ⟨servSt, _, _, injCmd 1 (48 * 2 ^ 8) 1, _, rfl, takes_of (by decide +kernel), rfl, by decide +kernel, by decide +kernel, by decide +kernel, by decide +kernel, by decide +kernel, by decide +kernel, by decide +kernel, by decide +kernel, rfl⟩,
   ⟨servSt, _, _, injCmd 1 (2 ^ 8) 1, _, rfl, takes_of (by decide +kernel), rfl, by decide +kernel, by decide +kernel, by decide +kernel, by decide +kernel, by decide +kernel, by decide +kernel, by decide +kernel, by decide +kernel, rfl⟩,
   ⟨servSt, _, _, injCmd 2 255 65535, _, rfl, takes_of (by decide +kernel), rfl, by decide +kernel, by decide +kernel, by decide +kernel, by decide +kernel, by decide +kernel, by decide +kernel, by decide +kernel, rfl⟩,
   ⟨servSt, _, _, injCmd 3 0 1, _, rfl, takes_of (by decide +kernel), rfl, by decide +kernel, by decide +kernel, by decide +kernel, by decide +kernel, by decide +kernel, by decide +kernel, rfl⟩,
   ⟨servSt, _, _, injCmd 4 0 1, _, rfl, takes_of (by decide +kernel), rfl, by decide +kernel, by decide +kernel, by decide +kernel, by decide +kernel, by decide +kernel, by decide +kernel, rfl⟩,
   ⟨servSt, _, _, injCmd 5 0 1, _, rfl, takes_of (by decide +kernel), rfl, by decide +kernel, by decide +kernel, by decide +kernel, by decide +kernel, by decide +kernel, by decide +kernel, rfl⟩,
   ⟨servSt, _, _, slotCmd 0 [191 + 6 * 2 ^ 8, 0, 1, 1000000], _, rfl, takes_of (by decide +kernel), rfl, by decide +kernel, by decide +kernel, by decide +kernel, by decide +kernel, by decide +kernel, by decide +kernel, by decide +kernel, by decide +kernel, rfl⟩,
   ⟨servSt, _, _, injCmd 7 255 1, _, rfl, takes_of (by decide +kernel), rfl, by decide +kernel, by decide +kernel, by decide +kernel, by decide +kernel, by decide +kernel, by decide +kernel, rfl⟩,
   ⟨servSt, _, _, injCmd 8 0 (2 ^ 32 - 1), _, rfl, takes_of (by decide +kernel), rfl, by decide +kernel, by decide +kernel, by decide +kernel, by decide +kernel, by decide +kernel, by decide +kernel, rfl⟩,
   ⟨servSt.setInj 191 { kind := 1 }, _, _, injCmd 4 0 1, rfl, takes_of (by decide +kernel), rfl, by decide +kernel⟩,
   ⟨State.reset.setInj 191 { kind := 1 }, 191, by decide +kernel⟩,
   ⟨State.reset.setInj 191 { kind := 8 }, 191, by decide +kernel⟩,
   ⟨State.reset.setInj 191 { kind := 2 }, 191, by decide +kernel⟩,
   ⟨State.reset.setInj 191 { kind := 7 }, 191, by decide +kernel⟩⟩

/-- A state whose interrupts wait behind the hold-off, which is enabled. -/
def heldOff : State := { State.reset.setReg (baseFault + 0x2004) 1 with faults := { State.reset.faults with holdoff := true, irqWait := true } }
/-- A state whose black box stands at a stage. -/
def boxAt (st : BoxStage) : State := { State.reset with box := { State.reset.box with stage := st } }
/-- A state with the host link up and Keeper running. -/
def hostUp : State := { State.reset with host := { State.reset.host with linkUp := true }, sec := { State.reset.sec with keeperUp := true } }
/-- The hypotheses of FaultRegisterRows can be met. -/
theorem witness_FaultRegisterRows :
  (∃ (w : Nat), w ≤ 4) ∧
  (∃ (w : Nat), w ≤ 4) ∧
  (∃ (w : Nat), w < 128) ∧
  (∃ (s : State), s.faults.holdoff = true ∧ s.faults.irqWait = true ∧ s.fld (baseFault + 0x2004) 0 1 = 1) ∧
  (∃ (s : State), s.faults.holdoff = true ∧ s.faults.irqWait = false) ∧
  (∃ (s : State), s.box.stage = .waitCapture) ∧
  (∃ (s : State) (b : Bool) (v : State), s.box.stage = .writing ∧ s.power.pinLow = false ∧ s.box.pfWarn = false ∧ b = true ∧ v = { s with box := { s.box with stage := .idle, oldRecords := s.box.records, oldSnapshot := s.box.snapshot, records := s.box.owl, snapshot := s.box.snap, valid := true, unread := true, bank := if s.box.valid then 1 - s.box.bank else s.box.bank, seq := (s.box.seq + 1) % 2 ^ 16 } }) ∧
  (∃ (s : State) (w m : Nat), w ≤ 4 ∧ m < 2 ^ 64 ∧ s.host.linkUp = true ∧ s.served (faultReg w 0) = true) :=
  ⟨⟨4, by decide +kernel⟩,
   ⟨4, by decide +kernel⟩,
   ⟨127, by decide +kernel⟩,
   ⟨heldOff, by decide +kernel⟩,
   ⟨{ heldOff with faults := { heldOff.faults with irqWait := false } }, by decide +kernel⟩,
   ⟨boxAt .waitCapture, by decide +kernel⟩,
   ⟨boxAt .writing, true, _, by decide +kernel, by decide +kernel, by decide +kernel, by decide +kernel, rfl⟩,
   ⟨hostUp, 4, 2 ^ 64 - 1, by decide +kernel⟩⟩

/-- A state whose device state is `d`. -/
def devAt (d : DevState) : State := { State.reset with dev := d }
/-- A READY module with a cap of `w` W. -/
def capAt (w : Nat) : State := { devAt .ready with power := { State.reset.power with cap := w } }
/-- A READY module whose den 3 has stepped down once for its temperature. -/
def hotDen : State := { devAt .ready with power := { State.reset.power with thermal := [(3, [0])] } }
/-- The hypotheses of PowerRows can be met. -/
theorem witness_PowerRows :
  (∃ (s : State), s.dev ≠ .off ∧ s.power.waitStart = true ∧ s.power.pfWarn = false) ∧
  (∃ (s : State), s.dev ≠ .off ∧ s.power.pfWarn = false ∧ s.power.inReset = false) ∧
  (∃ (s : State) (mv ma temp : Nat) (l : List Nat) (v : State), s.dev ≠ .off ∧ 35000 ≤ mv ∧ mv ≤ 60000 ∧ l = (mv * ma / 1000 :: s.power.samples).take 100 ∧ v = { s with power := { s.power with vin := mv, iin := ma, stage1 := temp, samples := l, pin := l.foldl (· + ·) 0 / (1000 * max 1 l.length), pload := s.free % 4096, v12 := s.used.free % 65536 } }) ∧
  (∃ (s : State) (mv ma temp : Nat) (l : List Nat) (v : State), s.dev ≠ .off ∧ 35000 ≤ mv ∧ mv ≤ 60000 ∧ l = (mv * ma / 1000 :: s.power.samples).take 100 ∧ v = { s with power := { s.power with vin := mv, iin := ma, stage1 := temp, samples := l, pin := l.foldl (· + ·) 0 / (1000 * max 1 l.length), pload := s.free % 4096, v12 := s.used.free % 65536 } }) ∧
  (∃ (s : State) (watts e : Nat), s.power.pstate < 2 ∧ 2 ≤ s.dev.code ∧ s.power.cap < watts ∧ s.lowerable (stepsOf s.power.capSteps) = some e) ∧
  (∃ (s : State) (watts : Nat), s.power.pstate < 2 ∧ 2 ≤ s.dev.code ∧ watts ≤ s.power.cap ∧ 100 * watts < 97 * s.power.cap ∧ 20 ≤ s.power.lowLoops + 1) ∧
  (∃ (s : State) (watts : Nat), s.power.pstate < 2 ∧ 2 ≤ s.dev.code ∧ s.power.cap < watts ∧ s.lowerable (stepsOf s.power.capSteps) = none) ∧
  (∃ (s : State) (d t e : Nat) (v : State), d < 4 ∧ 2 ≤ s.dev.code ∧ 100 ≤ t ∧ v = s.junction d t ∧ v.lowerable (stepsOf (v.thermalOf d)) = some e) ∧
  (∃ (s : State) (d t : Nat) (v : State), d < 4 ∧ 2 ≤ s.dev.code ∧ t < 97 ∧ v = s.junction d t ∧ v.power.skew.contains d = false ∧ v.thermalOf d ≠ []) ∧
  (∃ (s : State) (k : Nat), k < 195 ∧ (s.island k).mhz ≠ (s.island k).target) ∧
  (∃ (s : State) (p : Nat), p < 96 ∧ p ∉ s.power.stopped) ∧
  (∃ (d : Nat), d < 4) ∧
  (∃ (s : State) (v : State), s.power.refLost = false ∧ v = { s with power := { s.power with refLost := true } }) :=
  ⟨⟨{ State.reset with power := { State.reset.power with waitStart := true } }, by decide +kernel⟩,
   ⟨State.reset, by decide +kernel⟩,
   ⟨State.reset, 35000, 1000, 40, _, _, by decide +kernel, by decide +kernel, by decide +kernel, rfl, rfl⟩,
   ⟨State.reset, 60000, 1000, 40, _, _, by decide +kernel, by decide +kernel, by decide +kernel, rfl, rfl⟩,
   ⟨capAt 600, 601, 0, by decide +kernel⟩,
   ⟨{ capAt 600 with power := { (capAt 600).power with lowLoops := 19 } }, 581, by decide +kernel⟩,
   ⟨{ capAt 600 with power := { (capAt 600).power with capSteps := List.replicate 20 0 ++ List.replicate 20 1 ++ List.replicate 20 2 } }, 601, by decide +kernel⟩,
   ⟨devAt .ready, 3, 100, 0, _, by decide +kernel, by decide +kernel, by decide +kernel, rfl, by decide +kernel⟩,
   ⟨hotDen, 3, 96, _, by decide +kernel, by decide +kernel, by decide +kernel, rfl, by decide +kernel⟩,
   ⟨State.reset.setIsland 194 { State.reset.island 194 with mhz := 250, target := 500 }, 194, by decide +kernel⟩,
   ⟨State.reset, 95, by decide +kernel⟩,
   ⟨3, by decide +kernel⟩,
   ⟨State.reset, _, by decide +kernel, rfl⟩⟩

/-- A READY module on its way to power state `t`. -/
def toward (t : Nat) : State := { devAt .ready with power := { State.reset.power with busy := true, target := t } }
/-- A module in HIBERNATE. -/
def asleep : State := { devAt .ready with power := { State.reset.power with pstate := 3, hibMeas := State.reset.fwMeasured true } }
/-- A module in HIBERNATE that wakes. -/
def waking : State := { asleep with power := { asleep.power with busy := true } }
/-- A module whose core 127 is gated and bound to binding 5. -/
def gatedCore : State := (devAt .ready).setCore 127 { (devAt .ready).core 127 with gated := true, binding := 5 }
/-- The hypotheses of PowerStateRows can be met. -/
theorem witness_PowerStateRows :
  (∃ (s : State) (u v w : State), s.power.busy = true ∧ s.power.target = 2 ∧ u = ((s.sw.held.map (·.id)).foldl (fun s k => s.residenceOut k) s).flushWhere (fun _ => true) ∧ u.power.target = 2 ∧ v = ({ u with power := { u.power with pstate := 2 } } : State).retarget.stopClocks true ∧ w = v.powerReached 2 ∧ w.power.wakeReq = false) ∧
  (∃ (s : State), ((s.power.busy = false ∨ s.power.target < 2))) ∧
  (∃ (s : State) (u v : State), s.power.busy = true ∧ s.power.target = 3 ∧ s.power.owner = none ∧ u = (List.range 192).foldl (fun s p => if (s.port p).st = .disabled then s else (s.outOfService p).setPort p { (s.outOfService p).port p with st := .disabled }) s ∧ v = { u with host := { u.host with linkUp := false, rate := 0, width := 0, flit := false, l0p := false } } ∧ ((List.range 195).foldl (fun s k => if k = 193 then s else s.setIsland k { s.island k with gated := true, mhz := 0 }) ({ v with lanes := [], power := { v.power with pstate := 3, busy := false, hibMeas := v.fwMeasured true } } : State)).power.wakeReq = false) ∧
  (∃ (s : State), s.power.pstate = 3 ∧ s.power.busy = false) ∧
  (∃ (s : State), s.power.busy = true ∧ 2 ≤ s.power.target) ∧
  (∃ (s : State), s.power.pstate = 3 ∧ s.power.busy = false) ∧
  (∃ (s : State), s.power.busy = true ∧ 2 ≤ s.power.target) ∧
  (∃ (s : State), s.power.busy = true ∧ s.power.pstate = 3 ∧ s.power.hibMeas = s.fwMeasured true) ∧
  (∃ (s : State), s.power.busy = true ∧ s.power.pstate = 3) ∧
  (∃ (s : State) (k : Nat) (v : State), k < 128 ∧ (s.core k).gated = true ∧ (s.core k).binding ≠ 0 ∧ s.power.busy = false ∧ v = (s.corePowered k).setIsland k { (s.corePowered k).island k with gated := false } ∧ v.power.busy = false) ∧
  (∃ (s : State) (d : Nat) (isl : List (Nat × Nat)) (u : State), d < 4 ∧ u = isl.foldl (fun s x => if x.1 < 160 && islandDen x.1 = d then s.setIsland x.1 { s.island x.1 with temp := x.2 } else s) s) ∧
  (∃ (s : State) (u v : State), s.power.busy = true ∧ s.power.pstate = 2 ∧ s.power.target = 0 ∧ u = ((({ s with power := { s.power with pstate := 0 } } : State).stopClocks false).retarget) ∧ v = u.setAccept (u.dev.code ≥ 4 && u.pair.st != 4)) :=
  ⟨⟨toward 2, _, _, _, by decide +kernel, by decide +kernel, rfl, by decide +kernel, rfl, rfl, by decide +kernel⟩,
   ⟨toward 1, by decide +kernel⟩,
   ⟨toward 3, _, _, by decide +kernel, by decide +kernel, by decide +kernel, rfl, rfl, by decide +kernel⟩,
   ⟨asleep, by decide +kernel⟩,
   ⟨toward 2, by decide +kernel⟩,
   ⟨asleep, by decide +kernel⟩,
   ⟨toward 3, by decide +kernel⟩,
   ⟨waking, by decide +kernel, by decide +kernel, rfl⟩,
   ⟨waking, by decide +kernel⟩,
   ⟨gatedCore, 127, _, by decide +kernel, by decide +kernel, by decide +kernel, by decide +kernel, rfl, by decide +kernel⟩,
   ⟨State.reset, 3, [(127, 95)], _, by decide +kernel, rfl⟩,
   ⟨{ toward 0 with power := { (toward 0).power with pstate := 2 } }, _, _, by decide +kernel, by decide +kernel, by decide +kernel, rfl, rfl⟩⟩

/-- The hypotheses of ResetAndEpochRows can be met. -/
theorem witness_ResetAndEpochRows :
  (∃ (s : State) (v w : State), s.power.pinLow = false ∧ s.box.stage = .idle ∧ s.dev ≠ .off ∧ v = { s with power := { s.power with pinLow := true } } ∧ w = v.moduleReset 3 none false) ∧
  (∃ (s : State), s.power.pinLow = true ∧ s.power.inReset = true ∧ s.power.waitStart = false) ∧
  (∃ (s : State) (slot key ctr : Nat) (v : State), s.dev = .boot ∧ s.power.phase ≠ 0 ∧ s.power.inReset = false ∧ s.power.waitStart = false ∧ slot ≤ 1 ∧ key ≤ 3 ∧ s.sec.revoke.testBit key = false ∧ s.sec.ctr0 ≤ ctr ∧ v = { s with dev := .wipe, fwRelease := s.releaseOf slot true, sec := { s.sec with slot := slot, key := key, fwCtr := ctr, fallback := slot == 1 && s.sec.armed != some 1, armed := none, keeperUp := true, owlRelease := s.releaseOf slot false }, cfg := { s.cfg with pools := if s.cfg.bootBase = 0 then [] else poolsRec (Tbl.get [] s.cfg.flash s.cfg.bootBase) }, power := { s.power with phase := 4, wipeAt := s.clk, tKeeper := s.msSince s.power.startAt, prog := 0 } }) ∧
  (∃ (s : State) (key ctr : Nat), ((s.sec.revoke.testBit key = true ∨ ctr < s.sec.ctr0))) ∧
  (∃ (s : State) (key ctr : Nat), ((s.sec.revoke.testBit key = true ∨ ctr < s.sec.ctr0))) ∧
  (∃ (s : State) (slow : Bool) (ch : Nat), s.dev = .wipe ∧ s.chanExists slow ch = true) ∧
  (∃ (s : State) (slow : Bool) (ch d k : Nat) (v : State), s.dev = .wipe ∧ s.chanExists slow ch = true ∧ d = ch / s.tierChans slow ∧ k = ch % s.tierChans slow ∧ (s.tier d slow).fenced.testBit k = false ∧ v = s.setChan slow ch { s.chan slow ch with st := 4 }) ∧
  (∃ (s : State) (l : List (Nat × Nat × Nat)) (v : State), s.dev = .wipe ∧ v = ([0, 1, 2, 3].foldl (fun s d => (s.chooseSet d false).chooseSet d true) (s.startTests l).startRepairs).layAreas) ∧
  (∃ (s : State), s.dev ≠ .off ∧ s.power.inReset = false ∧ s.power.pstate ≠ 3) ∧
  (∃ (d : Nat), d < 4) :=
  ⟨⟨State.reset, _, _, by decide +kernel, by decide +kernel, by decide +kernel, rfl, rfl⟩,
   ⟨{ State.reset with power := { State.reset.power with pinLow := true, inReset := true } }, by decide +kernel⟩,
   ⟨{ State.reset with power := { State.reset.power with phase := 3 } }, 1, 3, 5, _, by decide +kernel, by decide +kernel, by decide +kernel, by decide +kernel, by decide +kernel, by decide +kernel, by decide +kernel, by decide +kernel, rfl⟩,
   ⟨{ State.reset with sec := { State.reset.sec with revoke := 8 } }, 3, 5, by decide +kernel⟩,
   ⟨{ State.reset with sec := { State.reset.sec with ctr0 := 9 } }, 0, 8, by decide +kernel⟩,
   ⟨devAt .wipe, true, 127, by decide +kernel⟩,
   ⟨devAt .wipe, true, 127, _, _, _, by decide +kernel, by decide +kernel, rfl, rfl, by decide +kernel, rfl⟩,
   ⟨devAt .wipe, [], _, by decide +kernel, rfl⟩,
   ⟨State.reset, by decide +kernel⟩,
   ⟨3, by decide +kernel⟩⟩

/-- Member `m` of a pair in pair state `st`, out of contact since the clock `l`. -/
def memberAt (m st : Nat) (l : Option Nat) : State :=
  { State.reset with place := some { paired := true, member := m, partner := 1023 }, pair := { st := st, lostAt := l } }
/-- A link-management packet with a first word. -/
def pairPkt (w : Nat) : Pkt := { hdr := { type := 0x30 }, payload := leBytes 4 w }
/-- A member out of contact, told by down port 0 whether its chip still hears the partner. -/
def toldAt (m : Nat) (b : Bool) : State :=
  { (memberAt m 2 (some 0)).setPort 0 { st := .active } with pair := { st := 2, lostAt := some 0, homes := [(0, some (0, b))] } }
/-- A module in FORMING whose mirror port 191 is ACTIVE. -/
def formingSt : State := (memberAt 0 1 none).setPort 191 { st := .active }
/-- The partner's information as the module expects it. -/
def partnerInfo : PairInfo := { index := 1023, member := 1 }
/-- The hypotheses of PairRows can be met. -/
theorem witness_PairRows :
  (∃ (s : State), s.pl.paired = false) ∧
  (∃ (s : State) (u v : State) (t : Nat), s.pl.paired = true ∧ s.pair.lastHb = some t ∧ u = (if t + 2 * us < s.clk then s.bump (basePair + 0x28) else s) ∧ v = { u with pair := { u.pair with hbSeq := (u.pair.hbSeq + 1) % 2 ^ 32 } }) ∧
  (∃ (s : State) (p b : Nat) (pkt : Pkt) (u : State), p ∈ pairPorts ∧ s.pl.paired = true ∧ pkt.hdr.type = 0x30 ∧ bits (leWord pkt.payload 0) 0 8 = 3 ∧ (p, pkt) ∈ s.sw.delivered ∧ u = s.taken p pkt ∧ b = bits (leWord pkt.payload 0) 8 3 ∧ u.pair.st ≠ 1) ∧
  (∃ (s : State) (u : State), s.pair.st = 2 ∧ s.pair.lostAt = none ∧ u = (({ s with pair := { s.pair with lostAt := some s.clk, lastHb := none } } : State).bump (basePair + 0x2C)).event { word := 4, source := mPairLost } ∧ u.pair.st = 2 ∧ u.downUp ≠ []) ∧
  (∃ (s : State) (u : State), s.pair.st = 2 ∧ s.pair.lostAt = none ∧ u = (({ s with pair := { s.pair with lostAt := some s.clk, lastHb := none } } : State).bump (basePair + 0x2C)).event { word := 4, source := mPairLost } ∧ u.pair.st = 2 ∧ u.downUp = []) ∧
  (∃ (s : State), s.pair.st = 2 ∧ s.pair.lostAt ≠ none ∧ s.reports ≠ [] ∧ (∀ b ∈ s.reports, b = false)) ∧
  (∃ (s : State), s.pair.st = 2 ∧ s.pair.lostAt ≠ none ∧ ((s.reports = [] ∨ true ∈ s.reports)) ∧ s.pl.member = 1) ∧
  (∃ (s : State), s.pair.st = 2 ∧ s.pair.lostAt ≠ none ∧ ((s.reports = [] ∨ true ∈ s.reports)) ∧ s.pl.member = 0) ∧
  (∃ (s : State), s.pair.st = 2 ∧ s.pair.lostAt ≠ none ∧ ((s.reports = [] ∨ true ∈ s.reports)) ∧ s.pl.member = 0) ∧
  (∃ (s : State) (p : Nat) (pkt : Pkt) (u : State), p < 192 ∧ s.pl.paired = true ∧ (s.useOf p).use = 0 ∧ pkt.hdr.type = 0x30 ∧ bits (leWord pkt.payload 0) 0 8 = 4 ∧ (p, pkt) ∈ s.sw.delivered ∧ u = s.taken p pkt) ∧
  (∃ (s : State), s.dev = .ready ∧ s.mayPair = true ∧ s.pl.paired = true ∧ s.fld basePair 0 1 = 1 ∧ s.pair.st = 0) ∧
  (∃ (s : State), ((s.dev ≠ .ready ∨ s.mayPair = false ∨ s.pl.paired = false ∨ s.fld basePair 0 1 ≠ 1 ∨ s.pair.st ≠ 0))) ∧
  (∃ (s : State) (x : PairInfo), s.pair.st = 1 ∧ s.pairReason x = 0 ∧ s.partnerServes = false ∧ s.pair.owner = none) ∧
  (∃ (s : State) (x : PairInfo), s.pair.st = 1 ∧ s.pairReason x ≠ 0) ∧
  (∃ (s : State), s.pair.st = 5) ∧
  (∃ (s : State) (x : PairInfo), s.mirrorUp ≠ [] ∧ x.index = s.pl.partner ∧ x.plane = s.pl.plane ∧ x.rx = s.pl.rx ∧ x.ry = s.pl.ry ∧ x.member ≠ s.pl.member ∧ x.ck2l = s.ck2l ∧ x.line = 2 ∧ x.release = s.fwRelease ∧ x.pools = s.cfg.pools) :=
  ⟨⟨State.reset, by decide +kernel⟩,
   ⟨{ memberAt 0 2 none with pair := { st := 2, lastHb := some 0 } }, _, _, 0, by decide +kernel, by decide +kernel, rfl, rfl⟩,
   ⟨gets (memberAt 0 2 none) (pairPkt (3 + 2 * 256)), 191, _, pairPkt (3 + 2 * 256), _, by decide +kernel, by decide +kernel, by decide +kernel, by decide +kernel, by decide +kernel, rfl, rfl, by decide +kernel⟩,
   ⟨(memberAt 0 2 none).setPort 0 { st := .active }, _, by decide +kernel, by decide +kernel, rfl, by decide +kernel⟩,
   ⟨memberAt 0 2 none, _, by decide +kernel, by decide +kernel, rfl, by decide +kernel⟩,
   ⟨toldAt 0 false, by decide +kernel⟩,
   ⟨toldAt 1 true, by decide +kernel⟩,
   ⟨toldAt 0 true, by decide +kernel⟩,
   ⟨memberAt 0 2 (some 0), by decide +kernel⟩,
   ⟨{ memberAt 0 2 none with sw := { State.reset.sw with delivered := [(175, pairPkt (4 + 256))] } }, 175, pairPkt (4 + 256), _, by decide +kernel, by decide +kernel, by decide +kernel, by decide +kernel, by decide +kernel, by decide +kernel, rfl⟩,
   ⟨{ (memberAt 0 0 none).setReg basePair 1 with dev := .ready, sec := { lc := 2 } }, by decide +kernel⟩,
   ⟨State.reset, by decide +kernel⟩,
   ⟨formingSt, partnerInfo, by decide +kernel⟩,
   ⟨formingSt, { partnerInfo with member := 0 }, by decide +kernel⟩,
   ⟨memberAt 0 5 none, by decide +kernel⟩,
   ⟨formingSt, partnerInfo, by decide +kernel⟩⟩

/-- A module of state ACTIVE with all channels in their sets, whose host link is up. -/
def bar4St : State := { rgnIn .ready with host := { State.reset.host with linkUp := true } }
/-- The same with a command of an opcode that reads host memory. -/
def readingSt (op : Nat) : State := execSt State.reset { id := 9, op := op }
/-- The hypotheses of HostAccessRows can be met. -/
theorem witness_HostAccessRows :
  (∃ (s : State) (w n : Nat), s.bar4Serves = true ∧ n ≠ 0 ∧ s.checkHost (s.bar4Offset w) n = .ok ∧ s.windowCore (s.bar4Offset w) n = none ∧ s.ueIn (s.bar4Offset w) n = none) ∧
  (∃ (s : State) (w n : Nat), s.bar4Serves = true ∧ n ≠ 0 ∧ s.checkHost (s.bar4Offset w) n ≠ .ok) ∧
  (∃ (s : State) (w : Nat) (l : List Byte), s.bar4Serves = true ∧ l ≠ [] ∧ s.checkHost (s.bar4Offset w) l.length = .ok ∧ s.windowCore (s.bar4Offset w) l.length = none ∧ s.mirroredAt (s.bar4Offset w) = false) ∧
  (∃ (s : State) (l : List Byte), s.bar4Serves = true ∧ l ≠ []) ∧
  (∃ (s : State) (w : Nat) (l : List Byte), s.bar4Serves = true ∧ l ≠ [] ∧ s.checkHost (s.bar4Offset w) l.length ≠ .ok) ∧
  (∃ (s : State) (v : Nat) (u : State), s.host.linkUp = true ∧ s.served (baseCmd + 0x400) = true ∧ v < 2 ^ 64 ∧ u = s.setHost { s.host with highHeld := none }) ∧
  (∃ (s : State) (id : Nat) (e : Exec), s.execOf id = some e ∧ ((e.op = 0x0606 ∨ e.op = 0x0100 ∨ e.op = 0x0101))) ∧
  (∃ (s : State) (id : Nat) (e : Exec), s.execOf id = some e ∧ ((e.op = 0x0606 ∨ e.op = 0x0100 ∨ e.op = 0x0101))) ∧
  (∃ (v : Nat), v ≤ 63) ∧
  (∃ (s : State), s.host.linkUp = true ∧ s.host.l0p = false ∧ s.fld (baseCmd + 0x40C) 0 1 ≠ 0) ∧
  (∃ (s : State) (rate width : Nat), s.host.linkUp = false ∧ s.power.inReset = false ∧ s.dev ≠ .off ∧ s.power.pstate ≠ 3 ∧ ((rate = 5 ∨ rate = 6)) ∧ ((width = 4 ∨ width = 8))) ∧
  (∃ (s : State), s.host.linkUp = true) ∧
  (∃ (s : State) (d mps mrrs : Nat), s.host.linkUp = true ∧ ((d = 0 ∨ d = 3)) ∧ sizeOk mps 512 = true ∧ sizeOk mrrs 4096 = true) ∧
  (∃ (s : State) (off : Nat), s.host.linkUp = true ∧ s.served off = true ∧ off % 4 = 0 ∧ legalAccess off 4 = true ∧ (s.dropHeld (if 4 ≤ off && wideReg (off - 4) then off - 4 else off)).word off ≠ none ∧ wideReg off = false ∧ ((off < 4 ∨ wideReg (off - 4) = false))) ∧
  (∃ (off : Nat), wideReg off = true) ∧
  (∃ (s : State) (off : Nat), s.host.linkUp = true ∧ s.served off = true ∧ legalAccess off 4 = true ∧ 4 ≤ off ∧ wideReg (off - 4) = true ∧ wideReg off = false) ∧
  (∃ (s : State), s.host.linkUp = true) ∧
  (∃ (s : State), s.host.linkUp = true) ∧
  (∃ (s : State) (off : Nat), s.host.linkUp = true ∧ s.served (off / 4 * 4) = true ∧ s.word (off / 4 * 4) = none) ∧
  (∃ (s : State) (off : Nat), s.host.linkUp = true ∧ s.served (off / 4 * 4) = true ∧ s.word (off / 4 * 4) = none) :=
  ⟨⟨bar4St, 2 ^ 26 - 4, 4, by decide +kernel⟩,
   ⟨bar4St, 2 ^ 26 - 4, 8, by decide +kernel⟩,
   ⟨bar4St, 2 ^ 26 - 1, [7], by decide +kernel⟩,
   ⟨bar4St, [7], by decide +kernel⟩,
   ⟨bar4St, 2 ^ 26, [7], by decide +kernel⟩,
   ⟨hostUp, 2 ^ 64 - 1, _, by decide +kernel, by decide +kernel, by decide +kernel, rfl⟩,
   ⟨readingSt 0x0606, 9, { id := 9, op := 0x0606 }, by decide +kernel⟩,
   ⟨readingSt 0x0100, 9, { id := 9, op := 0x0100 }, by decide +kernel⟩,
   ⟨63, by decide +kernel⟩,
   ⟨hostUp.setReg (baseCmd + 0x40C) 1, by decide +kernel⟩,
   ⟨State.reset, 6, 8, by decide +kernel⟩,
   ⟨hostUp, by decide +kernel⟩,
   ⟨hostUp, 3, 512, 4096, by decide +kernel⟩,
   ⟨hostUp, linkReg 191 0, by decide +kernel⟩,
   ⟨baseTime, by decide +kernel⟩,
   ⟨hostUp, baseTime + 4, by decide +kernel⟩,
   ⟨hostUp, by decide +kernel⟩,
   ⟨hostUp, by decide +kernel⟩,
   ⟨hostUp, 0x7FFFFC, by decide +kernel⟩,
   ⟨hostUp, 0x7FFFFC, by decide +kernel⟩⟩

/-- A firmware image of kind 0 (Owl) or 1 (Keeper) without a body, whose signer's key is all zeros. -/
def fwImg (kind : Nat) : List Byte :=
  leBytes 4 0x57464B43 ++ leBytes 4 (1 + kind * 2 ^ 16) ++ leBytes 4 1 ++ leBytes 36 0 ++ leBytes 8 160 ++ leBytes 8 64 ++ List.replicate 96 0
/-- A module with Keeper running and one image pair in slot 1. -/
def updatedSt : State := { devAt .ready with sec := { keeperUp := true, fw := [(1, fwImg 0, fwImg 1)] } }
/-- A module with Keeper running and its first path in a protocol state. -/
def pathSt (x : SpdmPath) : State := hostUp.setPath 0 x
/-- Ed25519 and Lichavo's keys are constants without a body (log 11): where key 0 signed both images, both pass and the slot is armed. -/
theorem witness_ManagementRows_activate (hk : Config.lichavoKey 0 = List.replicate 32 0) (h0 : signatureOk (fwImg 0) = true)
    (h1 : signatureOk (fwImg 1) = true) :
    updatedSt.dev ≠ .off ∧ 1 = updatedSt.otherSlot ∧ updatedSt.sec.fw.find? (fun e => e.1 == 1) = some (1, fwImg 0, fwImg 1) ∧
      updatedSt.fwImageOk 0 (fwImg 0) = true ∧ updatedSt.fwImageOk 1 (fwImg 1) = true ∧ imgField (fwImg 0) 24 4 = imgField (fwImg 1) 24 4 := by
  have k : ∀ n, n < 2 → updatedSt.lichavo (signerOf (fwImg n)) = true := by
    intro n hn
    have e : signerOf (fwImg n) = List.replicate 32 0 := by rcases n with _ | _ | n <;> first | decide +kernel | omega
    unfold State.lichavo
    rw [e, List.any_eq_true]
    exact ⟨0, by decide, by rw [hk]; decide +kernel⟩
  refine ⟨by decide +kernel, by decide +kernel, by decide +kernel, ?_, ?_, by decide +kernel⟩
  · unfold State.fwImageOk; rw [h0, k 0 (by decide)]; decide +kernel
  · unfold State.fwImageOk; rw [h1, k 1 (by decide)]; decide +kernel
/-- The hypotheses of ManagementRows can be met. -/
theorem witness_ManagementRows :
  (∃ (s : State) (a : Nat), s.dev ≠ .off ∧ a < 128) ∧
  (∃ (s : State) (e : Nat), s.dev ≠ .off ∧ e < 256) ∧
  (∃ (s : State) (e : Nat), s.dev ≠ .off ∧ e < 256) ∧
  (∃ (s : State) (n d : Nat), s.dev ≠ .off ∧ n ≤ 18 ∧ d ≤ 3 ∧ (s.sensor n d).1 = true) ∧
  (∃ (s : State) (n d : Nat), s.dev ≠ .off ∧ n ≤ 18 ∧ d ≤ 3 ∧ (s.sensor n d).1 = false) ∧
  (∃ (s : State) (o : Nat), s.dev ≠ .off ∧ s.cfg.pend = none ∧ ((∀ e ∈ s.cmd.execs, e.op ≠ 0x0100 ∧ e.op ≠ 0x0101 ∧ e.op ≠ 0x0800)) ∧ o = s.otherSlot) ∧
  (∃ (s : State) (o : Nat), s.dev ≠ .off ∧ s.cfg.pend = none ∧ ((∀ e ∈ s.cmd.execs, e.op ≠ 0x0100 ∧ e.op ≠ 0x0101 ∧ e.op ≠ 0x0800)) ∧ o = s.otherSlot) ∧
  (∃ (s : State), s.dev ≠ .off ∧ s.sec.fw = []) ∧
  (∃ (s : State) (p : Nat), p = 0 ∧ s.sec.keeperUp = true ∧ s.power.inReset = false ∧ s.power.pstate ≠ 3) ∧
  (∃ (s : State) (p : Nat), p = 0 ∧ s.sec.keeperUp = false) ∧
  (∃ (s : State) (p : Nat), p = 0 ∧ s.sec.keeperUp = true ∧ s.power.inReset = false ∧ s.power.pstate ≠ 3 ∧ (s.path p).version = true) ∧
  (∃ (s : State) (p : Nat), p = 0 ∧ s.sec.keeperUp = true ∧ s.power.inReset = false ∧ s.power.pstate ≠ 3 ∧ (s.path p).version = false) ∧
  (∃ (s : State) (p : Nat), p = 0 ∧ s.sec.keeperUp = true ∧ s.power.inReset = false ∧ s.power.pstate ≠ 3 ∧ (s.path p).caps = true) ∧
  (∃ (s : State) (p : Nat), p = 0 ∧ s.sec.keeperUp = true ∧ s.power.inReset = false ∧ s.power.pstate ≠ 3 ∧ (s.path p).algs = true) ∧
  (∃ (s : State) (p : Nat), p = 0 ∧ s.sec.keeperUp = true ∧ s.power.inReset = false ∧ s.power.pstate ≠ 3 ∧ (s.path p).algs = true) ∧
  (∃ (s : State) (p : Nat) (nonce body : List Byte), p = 0 ∧ s.sec.keeperUp = true ∧ s.power.inReset = false ∧ s.power.pstate ≠ 3 ∧ (s.path p).algs = true ∧ body = nonce ++ Config.sha512 (Config.certChain s.sec.slot)) ∧
  (∃ (s : State) (p k : Nat) (nonce body : List Byte), p = 0 ∧ s.sec.keeperUp = true ∧ s.power.inReset = false ∧ s.power.pstate ≠ 3 ∧ (s.path p).algs = true ∧ 1 ≤ k ∧ k ≤ 11 ∧ body = s.sec.meas.getD (k - 1) [] ++ nonce) ∧
  (∃ (s : State) (p : Nat) (nonce body : List Byte), p = 0 ∧ s.sec.keeperUp = true ∧ s.power.inReset = false ∧ s.power.pstate ≠ 3 ∧ (s.path p).algs = true ∧ body = s.sec.meas.flatten ++ nonce) :=
  ⟨⟨State.reset, 127, by decide +kernel⟩,
   ⟨State.reset, 255, by decide +kernel⟩,
   ⟨State.reset, 255, by decide +kernel⟩,
   ⟨hostUp, 18, 3, by decide +kernel⟩,
   ⟨State.reset, 5, 3, by decide +kernel⟩,
   ⟨State.reset, 0, by decide +kernel, by decide +kernel, (by intro e he; exact absurd he List.not_mem_nil), by decide +kernel⟩,
   ⟨hostUp, 1, by decide +kernel, by decide +kernel, (by intro e he; exact absurd he List.not_mem_nil), by decide +kernel⟩,
   ⟨State.reset, by decide +kernel⟩,
   ⟨hostUp, 0, by decide +kernel⟩,
   ⟨State.reset, 0, by decide +kernel⟩,
   ⟨pathSt { version := true }, 0, by decide +kernel⟩,
   ⟨hostUp, 0, by decide +kernel⟩,
   ⟨pathSt { version := true, caps := true }, 0, by decide +kernel⟩,
   ⟨pathSt { version := true, caps := true, algs := true }, 0, by decide +kernel⟩,
   ⟨pathSt { version := true, caps := true, algs := true }, 0, by decide +kernel⟩,
   ⟨pathSt { version := true, caps := true, algs := true }, 0, [], _, by decide +kernel, by decide +kernel, by decide +kernel, by decide +kernel, by decide +kernel, rfl⟩,
   ⟨pathSt { version := true, caps := true, algs := true }, 0, 11, List.replicate 32 0, _, by decide +kernel, by decide +kernel, by decide +kernel, by decide +kernel, by decide +kernel, by decide +kernel, by decide +kernel, rfl⟩,
   ⟨pathSt { version := true, caps := true, algs := true }, 0, List.replicate 32 0, _, by decide +kernel, by decide +kernel, by decide +kernel, by decide +kernel, by decide +kernel, rfl⟩⟩

/-- BULK_XFER of `n` bytes between host address 0 and offset `o`. -/
def bulkCmd (j o dir n : Nat) : Cmd := slotCmd j [0, 0, o, 0, dir, n, 0]
/-- The hypotheses of BulkCommands can be met. -/
theorem witness_BulkCommands :
  (∃ (s u : State) (i : OpInfo) (c : Cmd) (o n : Nat), i = { op := 0x0606, lens := lenIs 44, states := stRA, j := true, m := true, long := true } ∧ s.Takes i c ∧ u = s.cmdBegin c ∧ o = c.p64 2 ∧ n = c.p64 5 ∧ c.p64 0 % 64 = 0 ∧ o < 2 ^ 48 ∧ bits (c.p 4) 1 31 = 0 ∧ n % 64 = 0 ∧ n ≤ 2 ^ 40 ∧ n ≠ 0 ∧ c.job = 0 ∧ u.checkHost o n = .ok ∧ bit (c.p 4) 0 = false) ∧
  (∃ (s u : State) (i : OpInfo) (c : Cmd) (o n : Nat), i = { op := 0x0606, lens := lenIs 44, states := stRA, j := true, m := true, long := true } ∧ s.Takes i c ∧ u = s.cmdBegin c ∧ o = c.p64 2 ∧ n = c.p64 5 ∧ c.p64 0 % 64 = 0 ∧ o < 2 ^ 48 ∧ bits (c.p 4) 1 31 = 0 ∧ n % 64 = 0 ∧ n ≤ 2 ^ 40 ∧ n ≠ 0 ∧ c.job = 0 ∧ u.checkHost o n = .ok ∧ bit (c.p 4) 0 = true) ∧
  (∃ (s u : State) (i : OpInfo) (c : Cmd) (o n k : Nat), i = { op := 0x0606, lens := lenIs 44, states := stRA, j := true, m := true, long := true } ∧ s.Takes i c ∧ u = s.cmdBegin c ∧ o = c.p64 2 ∧ n = c.p64 5 ∧ c.p64 0 % 64 = 0 ∧ o < 2 ^ 48 ∧ bits (c.p 4) 1 31 = 0 ∧ n % 64 = 0 ∧ n ≤ 2 ^ 40 ∧ n ≠ 0 ∧ c.job ≠ 0 ∧ u.reservedRange u.visMax o n = false ∧ u.regionSpan o n = some k ∧ (u.region k).job = c.job ∧ (u.region k).state = .ready ∧ bit (c.p 4) 0 = false) ∧
  (∃ (s u : State) (i : OpInfo) (c : Cmd) (o n k : Nat), i = { op := 0x0606, lens := lenIs 44, states := stRA, j := true, m := true, long := true } ∧ s.Takes i c ∧ u = s.cmdBegin c ∧ o = c.p64 2 ∧ n = c.p64 5 ∧ c.p64 0 % 64 = 0 ∧ o < 2 ^ 48 ∧ bits (c.p 4) 1 31 = 0 ∧ n % 64 = 0 ∧ n ≤ 2 ^ 40 ∧ n ≠ 0 ∧ c.job ≠ 0 ∧ u.reservedRange u.visMax o n = false ∧ u.regionSpan o n = some k ∧ (u.region k).job = c.job ∧ (u.region k).state = .ready ∧ bit (c.p 4) 0 = true) ∧
  (∃ (s u : State) (i : OpInfo) (c : Cmd) (o n : Nat), i = { op := 0x0606, lens := lenIs 44, states := stRA, j := true, m := true, long := true } ∧ s.Takes i c ∧ u = s.cmdBegin c ∧ o = c.p64 2 ∧ n = c.p64 5 ∧ c.p64 0 % 64 = 0 ∧ o < 2 ^ 48 ∧ bits (c.p 4) 1 31 = 0 ∧ n % 64 = 0 ∧ n ≤ 2 ^ 40 ∧ n ≠ 0 ∧ bit (c.p 4) 0 = true ∧ c.job ≠ 0 ∧ u.reservedRange u.visMax o n = false ∧ u.regionSpan o n = none) :=
  ⟨⟨rgnIn .ready, _, _, bulkCmd 0 (2 ^ 26 - 64) 0 64, _, _, rfl, takes_of (by decide +kernel), rfl, rfl, rfl, by decide +kernel⟩,
   ⟨rgnIn .ready, _, _, bulkCmd 0 0 1 (2 ^ 26), _, _, rfl, takes_of (by decide +kernel), rfl, rfl, rfl, by decide +kernel⟩,
   ⟨rgnIn .ready, _, _, bulkCmd 1 (2 ^ 26 - 64) 0 64, _, _, 0, rfl, takes_of (by decide +kernel), rfl, rfl, rfl, by decide +kernel⟩,
   ⟨rgnIn .ready, _, _, bulkCmd 1 0 1 (2 ^ 26), _, _, 0, rfl, takes_of (by decide +kernel), rfl, rfl, rfl, by decide +kernel⟩,
   ⟨rgnIn .ready, _, _, bulkCmd 1 (2 ^ 26 - 64) 1 128, _, _, rfl, takes_of (by decide +kernel), rfl, rfl, rfl, by decide +kernel⟩⟩

/-- Fox unit 23 in the state `x`, a microsecond after reset. -/
def foxSt (x : FoxUnit) : State := { State.reset with time := { State.reset.time with clock := us }, inst := { fox := [(23, x)] } }
/-- A running stream of unit 23, through the switch or onto its port 191. -/
def streamA (b : Bool) : FoxStream := { en := true, port := 7, switched := b, rate := 1, burst := 1, running := true }
/-- A golden session whose member's port 191 has a packet of a type. -/
def goldSt (t : Nat) : State :=
  { State.reset with inst := { golden := { en := true, members := [{ port := 191, ep := 8193 }], inbox := [(191, { hdr := { type := t, dst := 8193 } })] } } }
/-- The hypotheses of FoxAndGoldenRows can be met. -/
theorem witness_FoxAndGoldenRows :
  (∃ (s : State) (n : Nat) (u : FoxUnit), (s.foxUnit n).start ≠ none ∧ u = { s.foxUnit n with streams := (s.foxUnit n).streams.map (fun e => (e.1, { e.2 with n := 0, tok := ((256 * e.2.burst : Nat) : Rat), tokAt := s.clk, running := e.2.en })), flows := (s.foxUnit n).flows.map (fun e => (e.1, { e.2 with base := 0, seen := [], highest := none, running := e.2.en })), running := true, start := none, settling := false }) ∧
  (∃ (s : State) (n : Nat), (s.foxUnit n).start = none) ∧
  (∃ (s : State) (n k : Nat) (x y : FoxStream) (t : Rat) (pkt : Pkt) (v w : State), x = Tbl.get {} (s.foxUnit n).streams k ∧ (s.foxUnit n).running = true ∧ x.running = true ∧ t = x.tok + rateOf x.rate * ((s.clk - x.tokAt : Nat) : Rat) / 1000000000000 ∧ 0 < t ∧ t ≤ ((256 * x.burst : Nat) : Rat) ∧ x.lenMode ≠ 2 ∧ pkt = x.packet n k s.ownId s.free ∧ y = { x with n := x.n + 1, tok := t - (pkt.hdr.bytesTotal : Rat), tokAt := s.clk, running := !(x.count != 0 && x.count == x.n + 1) } ∧ v = s.setFox n { s.foxUnit n with streams := Tbl.put {} (s.foxUnit n).streams k y } ∧ w = (v.bump64 (foxReg n (0x100 + 0x10 * k)) 1).bump64 (foxReg n (0x108 + 0x10 * k)) pkt.hdr.bytesTotal ∧ x.switched = true) ∧
  (∃ (s : State) (n k : Nat) (x y : FoxStream) (t : Rat) (pkt : Pkt) (v w : State) (hd : Hdr), x = Tbl.get {} (s.foxUnit n).streams k ∧ (s.foxUnit n).running = true ∧ x.running = true ∧ t = x.tok + rateOf x.rate * ((s.clk - x.tokAt : Nat) : Rat) / 1000000000000 ∧ 0 < t ∧ t ≤ ((256 * x.burst : Nat) : Rat) ∧ x.lenMode ≠ 2 ∧ pkt = x.packet n k s.ownId s.free ∧ y = { x with n := x.n + 1, tok := t - (pkt.hdr.bytesTotal : Rat), tokAt := s.clk, running := !(x.count != 0 && x.count == x.n + 1) } ∧ v = s.setFox n { s.foxUnit n with streams := Tbl.put {} (s.foxUnit n).streams k y } ∧ w = (v.bump64 (foxReg n (0x100 + 0x10 * k)) 1).bump64 (foxReg n (0x108 + 0x10 * k)) pkt.hdr.bytesTotal ∧ x.switched = false ∧ x.tc = 0 ∧ s.eligible (8 * n + x.port) 0 = true ∧ hd = { pkt.hdr with ver := if (w.port (8 * n + x.port)).ver = 0 then 2 else (w.port (8 * n + x.port)).ver }) ∧
  (∃ (s : State) (n : Nat) (v : State), (s.foxUnit n).settling = true ∧ v = ((s.foxUnit n).flows.filter (fun e => e.2.running)).foldl (fun s e => s.settleFlow n e.1) s) ∧
  (∃ (s : State) (p : Nat) (pkt : Pkt) (m : Member) (v : State), p < 192 ∧ s.emulated p = some m ∧ (p, pkt) ∈ s.gold.inbox ∧ s.gold.stopped = false ∧ pkt.hdr.dst = m.ep ∧ v = s.setGold { s.gold with inbox := s.gold.inbox.erase (p, pkt) } ∧ pkt.hdr.type = 0x09) ∧
  (∃ (s : State) (p : Nat) (pkt : Pkt) (m : Member) (v : State), p < 192 ∧ s.emulated p = some m ∧ (p, pkt) ∈ s.gold.inbox ∧ s.gold.stopped = false ∧ pkt.hdr.dst = m.ep ∧ v = s.setGold { s.gold with inbox := s.gold.inbox.erase (p, pkt) } ∧ pkt.hdr.type = 0x04) :=
  ⟨⟨foxSt { start := some 0, streams := [(15, streamA true)] }, 23, _, by decide +kernel, rfl⟩,
   ⟨State.reset, 23, by decide +kernel⟩,
   ⟨foxSt { running := true, streams := [(15, streamA true)] }, 23, 15, _, _, _, _, _, _, rfl, by decide +kernel, by decide +kernel, rfl, by decide +kernel, by decide +kernel, by decide +kernel, rfl, rfl, rfl, rfl, by decide +kernel⟩,
   ⟨(foxSt { running := true, streams := [(15, streamA false)] }).setPort 191 { st := .active, routed := true }, 23, 15, _, _, _, _, _, _, _, rfl, by decide +kernel, by decide +kernel, rfl, by decide +kernel, by decide +kernel, by decide +kernel, rfl, rfl, rfl, rfl, by decide +kernel, by decide +kernel, by decide +kernel, rfl⟩,
   ⟨foxSt { settling := true, flows := [(7, { running := true })] }, 23, _, by decide +kernel, rfl⟩,
   ⟨goldSt 9, 191, { hdr := { type := 9, dst := 8193 } }, { port := 191, ep := 8193 }, _, by decide +kernel, by decide +kernel, by decide +kernel, by decide +kernel, by decide +kernel, rfl, by decide +kernel⟩,
   ⟨goldSt 4, 191, { hdr := { type := 4, dst := 8193 } }, { port := 191, ep := 8193 }, _, by decide +kernel, by decide +kernel, by decide +kernel, by decide +kernel, by decide +kernel, rfl, by decide +kernel⟩⟩

/-- The hypotheses of StepTakesTheFrontCommand can be met. -/
theorem witness_StepTakesTheFrontCommand : ∃ (s : State), s.pending = [] :=
  ⟨State.reset, by decide +kernel⟩

/-- The hypotheses of RackTimeAdvances can be met. -/
theorem witness_RackTimeAdvances :
  (∃ (s : State), s.time.rackPs + 6400 < 1000 * 2 ^ 64) ∧
  (∃ (s : State), s.time.rackPs < 1000 * 2 ^ 64 ∧ 1000 * 2 ^ 64 ≤ s.time.rackPs + 6400) ∧
  (∃ (s : State), s.time.rackPs < 1000 * 2 ^ 64) ∧
  (∃ (v : Nat), 15625 ≤ v ∧ v ≤ 156250000) ∧
  (∃ (v : Nat), 15625 ≤ v ∧ v ≤ 156250000) ∧
  (∃ (v : Nat), (v < 15625 ∨ 156250000 < v)) ∧
  (∃ (v : Nat), (v < 15625 ∨ 156250000 < v)) :=
  ⟨⟨{ State.reset with time := { State.reset.time with rackPs := 1000 * 2 ^ 64 - 6401 } }, by decide +kernel⟩,
   ⟨{ State.reset with time := { State.reset.time with rackPs := 1000 * 2 ^ 64 - 6400 } }, by decide +kernel⟩,
   ⟨{ State.reset with time := { State.reset.time with rackPs := 1000 * 2 ^ 64 - 1 } }, by decide +kernel⟩,
   ⟨15625, by decide +kernel⟩,
   ⟨156250000, by decide +kernel⟩,
   ⟨15624, by decide +kernel⟩,
   ⟨156250001, by decide +kernel⟩⟩

/-- The hypotheses of NoReactionIsOwedAfterAStep can be met. -/
theorem witness_NoReactionIsOwedAfterAStep : ∃ (s t : State), step s = .next t :=
  ⟨State.reset, _, rfl⟩

/-- The hypotheses of EveryStepCompletesAndTakesOneCommand can be met. -/
theorem witness_EveryStepCompletesAndTakesOneCommand :
  (∃ (s t : State) (c : Instr) (rest : List Instr), s.pending = c :: rest ∧ step s = .next t) ∧
  (∃ (s t : State), s.pending = [] ∧ step s = .next t) ∧
  (∃ (s t : State), s.QueueWf ∧ step s = .next t) :=
  ⟨⟨{ State.reset with pending := [.epochMissing, .epochPulse] }, _, .epochMissing, [.epochPulse], by decide +kernel, rfl⟩,
   ⟨State.reset, _, by decide +kernel, rfl⟩,
   ⟨{ State.reset with pending := [.epochMissing] }, _, (by intro c hc; rw [List.mem_singleton.mp hc]; decide), rfl⟩⟩

/-- The hypotheses of AQuietStateSettlesAsItIs can be met. -/
theorem witness_AQuietStateSettlesAsItIs : ∃ (s : State), s.Quiet :=
  ⟨State.reset, ⟨by decide +kernel, by decide +kernel, (fun e he => absurd he List.not_mem_nil), by decide +kernel⟩⟩

/-- A header with every field at its largest value. -/
def fullHdr : Hdr :=
  { ver := 15, type := 63, tc := 3, dl := true, color := 3, ce := true, ece := true, late := true, hops := 63, rsv0 := 255, dst := 2 ^ 14 - 1,
    src := 2 ^ 14 - 1, rsv1 := 15, job := 4095, rsv2 := 127, len := 8191, seq := 2 ^ 32 - 1, offset := 2 ^ 48 - 1, ctx := 4095, rsv5 := 15,
    msg := 2 ^ 16 - 1, chunk := 2 ^ 16 - 1, deadline := 2 ^ 32 - 1 }
/-- The hypotheses of HeaderFieldsStandInTheirWords can be met. -/
theorem witness_HeaderFieldsStandInTheirWords : ∃ (h : Hdr), h.ok = true :=
  ⟨fullHdr, by decide +kernel⟩

/-- The hypotheses of TrailersIgnoreTheMutableFields can be met. -/
theorem witness_TrailersIgnoreTheMutableFields : ∃ (h : Hdr), h.hops = 0 ∧ h.dl = false ∧ h.ce = false ∧ h.ece = false ∧ h.late = false :=
  ⟨{ fullHdr with hops := 0, dl := false, ce := false, ece := false, late := false }, by decide +kernel⟩

/-- The hypotheses of ExactSumsDoNotDependOnOrder can be met. -/
theorem witness_ExactSumsDoNotDependOnOrder :
  (∃ (l k : List Dec), l.Perm k) ∧
  (∃ (l : List Dec), .nan ∈ l) ∧
  (∃ (l : List Dec), .inf true ∈ l ∧ .inf false ∈ l) ∧
  (∃ (l : List Dec), l ≠ [] ∧ (∀ x ∈ l, x = .zero true)) :=
  ⟨⟨[.fin false 1 0, .inf true], [.inf true, .fin false 1 0], (List.Perm.swap _ _ _)⟩,
   ⟨[.zero true, .nan], by decide +kernel⟩,
   ⟨[.inf true, .inf false], by decide +kernel⟩,
   ⟨[.zero true], by decide +kernel⟩⟩

/-- An overlay change waits that touches every kind. -/
def pendSt (s : State) : State := { s with cfg := { s.cfg with pend := some { kinds := 15 } } }
/-- The hypotheses of APendingOverlayChangeHoldsOffOthers can be met. -/
theorem witness_APendingOverlayChangeHoldsOffOthers :
  (∃ (s u : State) (i : OpInfo) (c : Cmd) (x : OverlayPend), i = { op := 0x0102, lens := lenIs 28, states := stRA, m := true, long := true } ∧ s.Takes i c ∧ u = s.cmdBegin c ∧ u.cfg.pend = some x ∧ c.p 0 = 0) ∧
  (∃ (s u : State) (i : OpInfo) (c : Cmd) (x : OverlayPend), i = { op := 0x0101, lens := lenIs 32, states := stRA, m := true, long := true } ∧ s.Takes i c ∧ u = s.cmdBegin c ∧ u.cfg.pend = some x ∧ bit (c.p 0) 3 = false ∧ bits (c.p 0) 8 24 = 0 ∧ ((bit (c.p 0) 2 = true ∨ bits (c.p 0) 4 4 ≠ 0)) ∧ x.kinds.testBit (bits (c.p 0) 0 2) = true) ∧
  (∃ (s u : State) (i : OpInfo) (c : Cmd) (x : OverlayPend), i = { op := 0x0100, lens := lenIs 32, states := stCR, m := true, long := true } ∧ s.Takes i c ∧ u = s.cmdBegin c ∧ u.cfg.pend = some x ∧ bits (c.p 0) 1 3 = 0 ∧ bits (c.p 0) 8 24 = 0 ∧ ((bit (c.p 0) 0 = true ∨ bits (c.p 0) 4 4 ≠ 0))) ∧
  (∃ (s : State), s.dev = .off) :=
  ⟨⟨pendSt actSt, _, _, slotCmd 0 [0, 0, 0], { kinds := 15 }, rfl, takes_of (by decide +kernel), rfl, by decide +kernel⟩,
   ⟨pendSt actSt, _, _, slotCmd 0 [7, 0, 0, 0], { kinds := 15 }, rfl, takes_of (by decide +kernel), rfl, by decide +kernel⟩,
   ⟨pendSt readySt, _, _, slotCmd 0 [1, 0, 0, 0], { kinds := 15 }, rfl, takes_of (by decide +kernel), rfl, by decide +kernel⟩,
   ⟨{ State.reset with dev := .off }, by decide +kernel⟩⟩

/-- A state that masks the first 32 sources of every word. -/
def maskedSt : State := (List.range 5).foldl (fun s w => s.setReg (faultReg w 8) (2 ^ 32 - 1)) State.reset
/-- The hypotheses of MaskedSourcesOnlyRecord can be met. -/
theorem witness_MaskedSourcesOnlyRecord :
  (∃ (s t : State) (e : Event), sourceExists e.word e.source = true ∧ s.masked e.word e.source = true ∧ t = s.event e) ∧
  (∃ (s t : State) (e : Event), sourceExists e.word e.source = true ∧ s.masked e.word e.source = true ∧ t = s.event e) :=
  ⟨⟨maskedSt, _, { word := 4, source := mPairLost }, by decide +kernel, by decide +kernel, rfl⟩,
   ⟨maskedSt, _, { word := 3, source := 0 }, by decide +kernel, by decide +kernel, rfl⟩⟩

/-- The hypotheses of WhatMemoryReadsAfterAWrite can be met. -/
theorem witness_WhatMemoryReadsAfterAWrite :
  (∃ (o : Nat) (l : List Byte), o % 64 = 0 ∧ l.length = 64) ∧
  (∃ (s : State) (o : Nat) (l : List Byte), l ≠ [] ∧ l.length < 64 ∧ o % 64 + l.length ≤ 64 ∧ s.wcbOf (o / 64) = none ∧ (s.wcbPeers (o / 64)).length < 64) ∧
  (∃ (s : State) (o : Nat) (l : List Byte), l ≠ [] ∧ l.length < 64 ∧ o % 64 + l.length ≤ 64 ∧ s.wcbOf (o / 64) = none ∧ (s.wcbPeers (o / 64)).length < 64) ∧
  (∃ (s : State), s.mem.wcb = []) ∧
  (∃ (n k : Nat), k < n) :=
  ⟨⟨64, List.replicate 64 1, by decide +kernel⟩,
   ⟨State.reset, 2 ^ 40 - 1, [7], by decide +kernel⟩,
   ⟨State.reset, 0, List.replicate 63 7, by decide +kernel⟩,
   ⟨State.reset, by decide +kernel⟩,
   ⟨1, 0, by decide +kernel⟩⟩

/-- The hypotheses of CommandsOfASourceThatIsNotServedDoNothing can be met. -/
theorem witness_CommandsOfASourceThatIsNotServedDoNothing : ∃ (s : State) (c : Cmd) (i : Instr), s.serves c.src = false ∧ i ∈ [ .echo c, .getInfo c, .getState c, .getJob c, .getStats c, .baseLoad c, .overlayStage c, .overlayApply c, .configQuery c, .linkSet c, .linkDrain c, .linkResume c, .linkRecheck c, .linkRetrain c, .linkQuery c, .partWrite c, .partRead c, .routeNotice c, .queueCfg c, .queueRelease c, .shaperSet c, .policerSet c, .tc1Admit c, .tc1Release c, .tc1Query c, .tc1HopHold c, .tc1HopCommit c, .tc1HopRelease c, .ctxCreate c, .ctxRearm c, .ctxRelease c, .ctxAbort c, .ctxQuery c, .moePlace c, .moePlaceCommit c, .embCreate c, .embRelease c, .ctxPeerHold c, .ctxPeerCommit c, .ctxPeerRelease c, .ctxPeerRearm c, .ctxPeerFree c, .ctxPeerAbort c, .ctxPeerFail c, .regionCreate c, .regionRelease c, .regionReload c, .regionQuery c, .memFlush c, .memFlushAll c, .memRetrain c, .bulkXferToModule c, .bulkXferToHost c, .coreAssign c, .coreReturn c, .progLoadRegion c, .progLoadPart c, .progUnload c, .bind c, .unbind c, .launch c, .progWait c, .progStop c, .progQuery c, .pairForm c, .pairBreak c, .pairStatus c, .pairResync c, .faultRead c, .faultClear c, .faultCfg c, .faultForce c, .selftest c, .repairReset c, .blackboxRead c, .powerCap c, .powerStateRun c, .powerStateTrim c, .powerStateDrowse c, .powerStateHibernate c, .powerRead c, .lcChange c, .ownerKey c, .rollbackAdvance c, .measureRead c, .mirrorSet c, .mirrorClear c, .foxCfgStream c, .foxCfgChecker c, .foxCfgClear c, .foxStart c, .foxStop c, .foxRead c, .goldenSet c, .injectDisarm c, .injectSymbol c, .injectSync c, .injectTrailer c, .injectDrop c, .injectDuplicate c, .injectDelay c, .injectXoff c, .injectSilence c] :=
  ⟨readySt, { src := .slot 254 }, .echo { src := .slot 254 }, by decide +kernel, List.mem_cons_self⟩

/-- A module with slot 255 enabled and a host that serves its writes. -/
def answerSt : State := { readySt with host := { State.reset.host with linkUp := true, bme := true } }
/-- The hypotheses of RepliesOfASlot can be met. -/
theorem witness_RepliesOfASlot :
  (∃ (tag st op dev job : Nat) (p e n : Nat) (q : List Nat) (r : Nat), tag < 2 ^ 16 ∧ st < 2 ^ 16 ∧ op < 2 ^ 16 ∧ dev < 16 ∧ job < 16 ∧ p < 1024 ∧ e < 2 ^ 16 ∧ n < 4096 ∧ r < 2 ^ 32 ∧ (∀ x ∈ q, x < 2 ^ 32)) ∧
  (∃ (s u : State) (n tag op job pr base : Nat) (a : Ans) (x : CmdSlot), x = s.cslot n ∧ u = s.setSlot n { x with rseq := nextSeq x.rseq, st := .idle, bytes := [], words := [] } ∧ base = u.reg (slotReg n 8) / 4096 * 4096 + u.reg (slotReg n 12) * 2 ^ 32 ∧ u.fld (slotReg n 0) 12 1 = 1 ∧ u.canMaster = true ∧ a.block ≠ [] ∧ ((u.hostWrite (base + 64) a.block).hostWrite base (replyBytes tag a.status op s.dev.code (s.jobState job) true pr a.err a.block.length a.q (nextSeq x.rseq))).fld (slotReg n 0) 13 1 = 0) ∧
  (∃ (s u : State) (n : Nat) (x : CmdSlot), x = s.cslot n ∧ u = s.setSlot n { x with rseq := nextSeq x.rseq, st := .idle, bytes := [], words := [] } ∧ u.fld (slotReg n 0) 12 1 ≠ 1) ∧
  (∃ (a : Ans), a.status ≠ 0x30) :=
  ⟨⟨2 ^ 16 - 1, 2 ^ 16 - 1, 2 ^ 16 - 1, 15, 15, 1023, 2 ^ 16 - 1, 4095, List.replicate 10 (2 ^ 32 - 1), 2 ^ 32 - 1, by decide +kernel⟩,
   ⟨answerSt, _, 255, 65535, 0x0101, 0, 0, _, { status := 0, block := [1] }, _, rfl, rfl, rfl, by decide +kernel⟩,
   ⟨State.reset, _, 255, _, rfl, rfl, by decide +kernel⟩,
   ⟨{ status := 0 }, by decide +kernel⟩⟩

/-- The hypotheses of AnsweringLeavesTheRest can be met. -/
theorem witness_AnsweringLeavesTheRest :
  (∃ (s t : State) (c : Cmd) (n : Nat), c.src = .slot n ∧ t = s.cmdBegin c) ∧
  (∃ (s t : State) (pr n tag op job : Nat) (a : Ans), t = s.finalReplyAt pr (.slot n) tag op job a) :=
  ⟨⟨State.reset, _, { src := .slot 255 }, 255, by decide +kernel, rfl⟩,
   ⟨State.reset, _, 0, 255, 0, 0, 0, { status := 0 }, rfl⟩⟩

/-- A lookup of one bag of one row. -/
def bagOne (i : Nat) : List Byte := leBytes 4 (2 ^ 16) ++ leBytes 4 0 ++ leBytes 8 1 ++ leBytes 8 i
/-- A lookup of 64 empty bags. -/
def bagsNone : List Byte := leBytes 4 (63 * 2 ^ 8) ++ leBytes 4 0 ++ List.replicate 128 0
/-- A table of one FP32 element a row. -/
def tableA : EmbTable := { rows := 1, dim := 1, stride := 64 }
/-- The hypotheses of EmbpoolAnswersByItsLayout can be met. -/
theorem witness_EmbpoolAnswersByItsLayout :
  (∃ (l : List Byte) (r : PoolReq), poolReqOf l = some r) ∧
  (∃ (l : List Byte) (r : PoolReq), poolReqOf l = some r) ∧
  (∃ (l : List Byte), poolReqOf l = none) ∧
  (∃ (t : EmbTable) (l : List Byte) (r : PoolReq) (n : Nat), poolReqOf l = some r ∧ n ∈ r.idx ∧ t.rows ≤ n) ∧
  (∃ (t : EmbTable) (f : Nat → Nat → List Byte) (l a : List Byte) (r : PoolReq), poolReqOf l = some r ∧ embPool t f l = some a) :=
  ⟨⟨bagOne 0, { lens := [1], idx := [0] }, by decide +kernel⟩,
   ⟨bagsNone, { nbag := 64, lens := List.replicate 64 0 }, by decide +kernel⟩,
   ⟨[], by decide +kernel⟩,
   ⟨tableA, bagOne 1, { lens := [1], idx := [1] }, 1, by decide +kernel⟩,
   ⟨tableA, (fun _ n => List.replicate n 0), bagOne 0, (leBytes 16 0 ++ leBytes 4 0), { lens := [1], idx := [0] }, by decide +kernel⟩⟩

end Sys2Proof.Tests
end

section
/-! PROOF. One equation for each row of the operation table that names a port: below 192 the row does its operation, and what follows is settled. -/

namespace Sys2Proof.Machine

/-- A row whose check of its operand holds does its operation. -/
theorem next_settle_if_pos (s u : State) {q : Prop} [Decidable q] (h : q) :
    (.next (settle s (if q then u else s)) : Host.Outcome State Fault Refusal) = .next (settle s u) := by
  rw [if_pos h]

variable (s : State) {p : Nat} (hp : p < 192)
include hp

theorem exec_fcStateReceived (m : Nat) : exec (.fcStateReceived p m) s = .next (settle s (s.fcIn p m)) :=
  next_settle_if_pos s (s.fcIn p m) hp

theorem exec_fcStateRepeatTimer : exec (.fcStateRepeatTimer p) s = .next (settle s (s.fcRepeat p)) :=
  next_settle_if_pos s (s.fcRepeat p) hp

theorem exec_xoffStuck : exec (.xoffStuck p) s = .next (settle s (s.xoffStuck p)) :=
  next_settle_if_pos s (s.xoffStuck p) hp

theorem exec_tsSyncTimer : exec (.tsSyncTimer p) s = .next (settle s (s.tsSync p)) :=
  next_settle_if_pos s (s.tsSync p) hp

theorem exec_tsSyncReceived : exec (.tsSyncReceived p) s = .next (settle s (s.tsSyncIn p)) :=
  next_settle_if_pos s (s.tsSyncIn p) hp

theorem exec_tsRxReceived (t : Nat) : exec (.tsRxReceived p t) s = .next (settle s (s.tsRxIn p t)) :=
  next_settle_if_pos s (s.tsRxIn p t) hp

theorem exec_tsTxReceived (t : Nat) : exec (.tsTxReceived p t) s = .next (settle s (s.tsTxIn p t)) :=
  next_settle_if_pos s (s.tsTxIn p t) hp

theorem exec_tsExchangeTimeout : exec (.tsExchangeTimeout p) s = .next (settle s (s.tsLost p)) :=
  next_settle_if_pos s (s.tsLost p) hp

theorem exec_drainReceived (b : Bool) : exec (.drainReceived p b) s = .next (settle s (s.drainIn p b)) :=
  next_settle_if_pos s (s.drainIn p b) hp

theorem exec_routingReceived (k : Pkt) : exec (.routingReceived p k) s = .next (settle s (s.routingIn p k)) :=
  next_settle_if_pos s (s.routingIn p k) hp

theorem exec_portDrained : exec (.portDrained p) s = .next (settle s (s.portDrained p)) :=
  next_settle_if_pos s (s.portDrained p) hp

theorem exec_linkEnable : exec (.linkEnable p) s = .next (settle s (s.linkEnable p)) :=
  next_settle_if_pos s (s.linkEnable p) hp

theorem exec_linkDisable : exec (.linkDisable p) s = .next (settle s (s.linkDisable p)) :=
  next_settle_if_pos s (s.linkDisable p) hp

theorem exec_retrain : exec (.retrain p) s = .next (settle s (s.linkRetrainWrite p)) :=
  next_settle_if_pos s (s.linkRetrainWrite p) hp

theorem exec_loopback (v : Nat) : exec (.loopback p v) s = .next (settle s (s.loopbackWrite p v)) :=
  next_settle_if_pos s (s.loopbackWrite p v) hp

end Sys2Proof.Machine
end

section
/-! PROOF. What each operation of a link does where its guard lets it (R41, R58, R74, R80, R81, R97, R111, R113, R129, R588). -/

namespace Sys2Proof.Machine

variable (s : State) {p : Nat}

/-! Flow control. -/

theorem State.fcIn_of_active (m : Nat) (h : (s.port p).st = .active) :
    s.fcIn p m = if m % 64 = 0 then (s.setPort p { s.port p with xoffRx := m % 256 }).condEnd (denOf p) fXoffStuck p
      else s.setPort p { s.port p with xoffRx := m % 256 } := by
  simp [State.fcIn, h]

theorem State.fcRepeat_of_active (h : (s.port p).st = .active) : s.fcRepeat p = s.emit (.lm p 0x01 (s.fcMask p)) := by
  simp [State.fcRepeat, h]

theorem State.xoffStuck_of_stopped (h : (s.port p).st = .active) (hx : (s.port p).xoffRx % 64 ≠ 0) :
    s.xoffStuck p = (s.setReg (linkReg p 0x44) (s.reg (linkReg p 0x44) ||| 2 ^ 16)).condBegin
      { word := denOf p, source := fXoffStuck, unit := p, kind := .port } := by
  simp [State.xoffStuck, h, hx]

/-! Timestamp exchanges. -/

theorem State.tsSync_of_idle (h : (s.port p).st = .active) (hv : (s.port p).ver = 2) (hu : (s.useOf p).use = 1) (ht : (s.port p).ts = none) :
    s.tsSync p = (s.setPort p { s.port p with ts := some { t1 := s.stamp } }).emit (.lm p 0x20 s.stamp) := by
  simp [State.tsSync, h, hv, hu, ht]

theorem State.tsSyncIn_of_active (h : (s.port p).st = .active) (hv : (s.port p).ver = 2) :
    s.tsSyncIn p = (s.emit (.lm p 0x21 s.stamp)).emit (.lm p 0x22 s.stamp) := by
  simp [State.tsSyncIn, h, hv]

theorem State.tsRxIn_of_open (t : Nat) {e : TsExchange} (h : (s.port p).ts = some e) :
    s.tsRxIn p t = s.setPort p { s.port p with ts := some { e with t2 := some (t % 2 ^ 48) } } := by
  simp [State.tsRxIn, h]

/-- A first exchange has no earlier one to take a rate from. -/
theorem State.tsTxIn_of_first {t1 t2 t4 : Nat} (t3 : Nat) (h : (s.port p).ts = some { t1 := t1, t2 := some t2, t4 := t4 })
    (hv : (Tbl.get ({} : PortTime) s.time.ports p).valid = false) :
    s.tsTxIn p t3 =
      (let d := (s.useOf p).dir
       let u := s.setPort p { s.port p with ts := none }
       ((({ u with time := { u.time with
         ports := Tbl.put {} u.time.ports p { offset := (exchangeOf t1 t2 (t3 % 2 ^ 48) s.stamp).1, delay := (exchangeOf t1 t2 (t3 % 2 ^ 48) s.stamp).2,
                                              rate := 0, at_ := s.clk, valid := true },
         dirs := Tbl.put {} u.time.dirs d { s.dirT d with good := min 255 ((s.dirT d).good + 1) } } } : State).remedian d).redomain)) := by
  simp only [State.tsTxIn, h, hv, Bool.false_and, Bool.false_eq_true, if_false]
  rfl

theorem State.tsLost_of_open {e : TsExchange} (h : (s.port p).ts = some e) :
    s.tsLost p = (s.setPort p { s.port p with ts := none }).bump (linkReg p 0x13C) := by
  simp [State.tsLost, State.bumpLink, h]

/-! Drains and ROUTING. -/

theorem State.drainIn_of_active (b : Bool) (h : (s.port p).st = .active) (hv : (s.port p).ver = 2) :
    s.drainIn p b = s.setPort p { s.port p with drainRx := b } := by
  simp [State.drainIn, h, hv]

theorem State.portDrained_of_empty (h : (s.port p).drainTx = true) (hq : s.queuesEmpty p = true) :
    s.portDrained p = (s.setPort p { s.port p with drained := true }).drainsEnd p (.ok []) := by
  simp [State.portDrained, h, hq]

/-- A packet taken is out of the delivered ones; the ports stay. -/
@[simp] theorem State.taken_port (k : Pkt) (q : Nat) : (s.taken p k).port q = s.port q := rfl

theorem State.routingIn_of_active (k : Pkt) (h : (s.port p).st = .active) :
    s.routingIn p k = ((s.taken p k).setPort p { s.port p with accept := bit (leWord k.payload 0) 8 }).judgeRouting p := by
  simp [State.routingIn, h]

/-! ENABLE, RETRAIN and LOOPBACK. -/

/-- A field of a register is none of a port's state. -/
@[simp] theorem State.setFld_port (a lo n v q : Nat) : (s.setFld a lo n v).port q = s.port q := rfl

/-- An even port is not the upper half of a ×8 port, so that nothing keeps it from being enabled (R12, R74). -/
theorem State.linkEnable_of_even (ht : s.portThere p = true) (he : p % 2 = 0) (h : (s.port p).st = .disabled) :
    s.linkEnable p = (s.setFld (linkReg p 0) 0 1 1).enterHunt p := by
  simp [State.linkEnable, State.enablePort, ht, he, h]

theorem State.linkDisable_of_enabled (ht : s.portThere p = true) (h : s.fld (linkReg p 0) 0 1 = 1) :
    s.linkDisable p = s.disablePort p := by
  simp [State.linkDisable, ht, h]

theorem State.retrainPort_of_running (h : (s.port p).st ≠ .disabled) :
    s.retrainPort p = ((s.outOfService p).linkEv p evRetrained).enterHunt p := by
  simp [State.retrainPort, h]

theorem State.linkRetrainWrite_of_there (ht : s.portThere p = true) : s.linkRetrainWrite p = s.retrainPort p := by
  simp [State.linkRetrainWrite, ht]

/-- LOOPBACK 1 and 2 are for the instrument functions, 0 is for every module (R97). -/
theorem State.loopbackWrite_of_allowed {v : Nat} (ht : s.portThere p = true) (h : v = 0 ∨ v < 3 ∧ s.instrument = true) :
    s.loopbackWrite p v = s.setLoopback p v := by
  rcases h with rfl | ⟨hv, hi⟩
  · simp [State.loopbackWrite, ht]
  · simp [State.loopbackWrite, ht, hv, hi]

end Sys2Proof.Machine
end

section
/-! PROOF. A step, the clock and reset. -/

namespace Sys2Proof.Machine

/-! One step (R54, R372). -/

theorem step_of_pending_cons (c : Instr) (rest : List Instr) (s : State) :
    step { s with pending := c :: rest } = exec c { s with pending := rest } := rfl

theorem step_of_pending_nil {s : State} (h : s.pending = []) : step s = .next (settle s s.tick) := by
  rw [step, h]

/-! Rack time (R54, R569). -/

theorem State.clockOn_rackPs (s : State) : s.clockOn.time.rackPs = (s.time.rackPs + 6400) % (1000 * 2 ^ 64) := rfl

theorem State.readTime_low (s : State) : s.readTime 0x00 = some (s.now % 2 ^ 32) := rfl
theorem State.readTime_high (s : State) : s.readTime 0x04 = some (s.now / 2 ^ 32 % 2 ^ 32) := rfl
theorem State.readTime_period (s : State) : s.readTime 0x10 = some s.time.period := rfl

/-- Rack time within its 64 bits of ns is read as it stands. -/
theorem State.now_of_lt {s : State} (h : s.time.rackPs < 1000 * 2 ^ 64) : s.now = s.time.rackPs / 1000 :=
  Nat.mod_eq_of_lt (Nat.div_lt_of_lt_mul h)

theorem State.epochPeriod_of_within (s : State) {v : Nat} (lo : 15625 ≤ v) (hi : v ≤ 156250000) :
    s.epochPeriod v = { s with time := { s.time with period := v } } := by
  simp [State.epochPeriod, within, lo, hi]

theorem State.epochPeriod_of_outside (s : State) {v : Nat} (h : v < 15625 ∨ 156250000 < v) : s.epochPeriod v = s := by
  have hw : within v 15625 156250000 = false := by simp [within]; omega
  simp [State.epochPeriod, hw]

/-! Reset (R505, R520). -/

theorem State.reset_queueWf : State.reset.QueueWf := fun _ h => absurd h List.not_mem_nil

theorem State.reset_quiet : State.reset.Quiet := ⟨rfl, rfl, fun _ h => absurd h List.not_mem_nil, rfl⟩

/-- No slot of the table of bindings is in use. -/
theorem State.reset_bindingOf (h : Nat) : State.reset.bindingOf h = none := rfl

/-- No slot of the table of programs is in use. -/
theorem State.reset_programOf (h : Nat) : State.reset.programOf h = none := rfl

/-- No line waits in a write-combining entry, and memory lists no byte. -/
theorem State.reset_memByte (o : Nat) : State.reset.memByte o = 0 := rfl

end Sys2Proof.Machine
end

section
/-! PROOF. The obligations on the messages and rows of a link, on a step, on rack time and on reset. -/

namespace Sys2Proof.Proofs

open Sys2Proof Sys2Proof.Machine

/-- Settles O4: row by row, the row's own equation and then what its operation does under the premises. -/
theorem linkMessages : Obligations.LinkMessages := by
  refine ⟨?fcIn, ?fcRepeat, ?stuck, ?sync, ?syncIn, ?rx, ?tx, ?lost, ?drain, ?routings, ?routing, ?drained, ?enable, ?disable, ?retrain, ?loopback⟩
  case fcIn => intro s p m hp h; rw [exec_fcStateReceived s hp, s.fcIn_of_active m h]
  case fcRepeat => intro s p hp h; rw [exec_fcStateRepeatTimer s hp, s.fcRepeat_of_active h]
  case stuck => intro s p hp h hx; rw [exec_xoffStuck s hp, s.xoffStuck_of_stopped h hx]
  case sync => intro s p hp h hv hu ht; rw [exec_tsSyncTimer s hp, s.tsSync_of_idle h hv hu ht]; rfl
  case syncIn => intro s p hp h hv; rw [exec_tsSyncReceived s hp, s.tsSyncIn_of_active h hv]; rfl
  case rx => intro s p t e hp h; rw [exec_tsRxReceived s hp, s.tsRxIn_of_open t h]
  case tx => intro s p t3 t1 t2 t4 hp h hv; rw [exec_tsTxReceived s hp, s.tsTxIn_of_first t3 h hv]; rfl
  case lost => intro s p e hp h; rw [exec_tsExchangeTimeout s hp, s.tsLost_of_open h]
  case drain => intro s p b hp h hv; rw [exec_drainReceived s hp, s.drainIn_of_active b h hv]
  case routings => intro s; rfl
  case routing => intro s p k hp h; rw [exec_routingReceived s hp, s.routingIn_of_active k h]
  case drained => intro s p hp h hq; rw [exec_portDrained s hp, s.portDrained_of_empty h hq]
  case enable => intro s p hp ht he h; rw [exec_linkEnable s hp, s.linkEnable_of_even ht he h]
  case disable => intro s p hp ht h; rw [exec_linkDisable s hp, s.linkDisable_of_enabled ht h]; rfl
  case retrain => intro s p hp ht h; rw [exec_retrain s hp, s.linkRetrainWrite_of_there ht, s.retrainPort_of_running h]; rfl
  case loopback => intro s p v hp ht h; rw [exec_loopback s hp, s.loopbackWrite_of_allowed ht h]; rfl

/-- Settles O36: by the two cases of a step, the queue with a command at its front and the empty queue. -/
theorem stepTakesTheFrontCommand : Obligations.StepTakesTheFrontCommand :=
  ⟨step_of_pending_cons, fun _ => step_of_pending_nil, fun _ _ _ => ⟨rfl, rfl⟩⟩

/-- Settles O37: one cycle adds 6,400 ps modulo 2^64 ns, so the sum stands where it stays below that and has wrapped once where it does not. -/
theorem rackTimeAdvances : Obligations.RackTimeAdvances := by
  refine ⟨?below, ?wraps, ?halves, ?taken, ?ignored, State.readTime_period, rfl, rfl⟩
  case below =>
    intro s h
    rw [s.clockOn_rackPs, Nat.mod_eq_of_lt h]
  case wraps =>
    intro s h hw
    rw [s.clockOn_rackPs]
    omega
  case halves =>
    intro s h
    refine ⟨_, _, s.readTime_low, s.readTime_high, Nat.mod_lt _ (by decide), Nat.mod_lt _ (by decide), ?_⟩
    rw [State.now_of_lt h]
    omega
  case taken =>
    intro s v lo hi
    rw [s.epochPeriod_of_within lo hi]
  case ignored =>
    intro s v h
    exact s.epochPeriod_of_outside h

/-- Settles O39: every table of the reset state that the statement reads is empty, so that each key holds its table's default. -/
theorem resetState : Obligations.ResetState :=
  ⟨rfl, rfl, rfl, rfl, reset_memory_wf, rfl, State.reset_queueWf, State.reset_quiet, fun _ => rfl, fun _ => rfl, fun _ => rfl, fun _ => rfl,
    State.reset_bindingOf, State.reset_programOf, State.reset_memByte, fun _ => rfl, rfl, rfl⟩

end Sys2Proof.Proofs
end

section
/-! PROOF. One equation for each row of a lane's lock, of training and of a link's width in service. -/

namespace Sys2Proof.Machine

variable (s : State)

theorem exec_codewordReceived (l : Nat) (syms : List Nat) (ovf : Bool) :
    exec (.codewordReceived l syms ovf) s = .next (settle s (s.codeword l syms ovf)) := rfl

theorem exec_tsBlockReceived (l : Nat) (t : TsBlock) : exec (.tsBlockReceived l t) s = .next (settle s (s.tsBlock l t)) := rfl

variable {p : Nat} (hp : p < 192)
include hp

theorem exec_huntDegradeTimeout : exec (.huntDegradeTimeout p) s = .next (settle s (s.huntDegrade p)) :=
  next_settle_if_pos s (s.huntDegrade p) hp

theorem exec_trainRetryHoldExpiry : exec (.trainRetryHoldExpiry p) s = .next (settle s (s.retryOver p)) :=
  next_settle_if_pos s (s.retryOver p) hp

theorem exec_holdDownExpiry : exec (.holdDownExpiry p) s = .next (settle s (s.holdDownOver p)) :=
  next_settle_if_pos s (s.holdDownOver p) hp

theorem exec_eqComplete (pass offset : Nat) : exec (.eqComplete p pass offset) s = .next (settle s (s.eqComplete p pass offset)) :=
  next_settle_if_pos s (s.eqComplete p pass offset) hp

theorem exec_eqTimeout (h : (s.port p).st = .eq) : exec (.eqTimeout p) s = .next (settle s (s.trainFail p false)) :=
  (next_settle_if_pos s _ hp).trans (next_settle_if_pos s (s.trainFail p false) h)

theorem exec_deskewTimeout (h : (s.port p).st = .deskew) : exec (.deskewTimeout p) s = .next (settle s (s.trainFail p false)) :=
  (next_settle_if_pos s _ hp).trans (next_settle_if_pos s (s.trainFail p false) h)

theorem exec_identTimeout (h : (s.port p).st = .ident) : exec (.identTimeout p) s = .next (settle s (s.trainFail p false)) :=
  (next_settle_if_pos s _ hp).trans (next_settle_if_pos s (s.trainFail p false) h)

theorem exec_deskewComplete (ids : List Nat) : exec (.deskewComplete p ids) s = .next (settle s (s.deskewDone p ids)) :=
  next_settle_if_pos s (s.deskewDone p ids) hp

theorem exec_identityRepeatTimer : exec (.identityRepeatTimer p) s = .next (settle s (s.identityRepeat p)) :=
  next_settle_if_pos s (s.identityRepeat p) hp

theorem exec_identityMessageReceived (k : Pkt) : exec (.identityMessageReceived p k) s = .next (settle s (s.identityIn p k)) :=
  next_settle_if_pos s (s.identityIn p k) hp

theorem exec_downHoldExpiry (h : (s.port p).loss = true) : exec (.downHoldExpiry p) s = .next (settle s (s.enterDown p)) :=
  (next_settle_if_pos s _ hp).trans (next_settle_if_pos s (s.enterDown p) h)

theorem exec_identityCheckTimeout (h : (s.port p).idCheck = true) :
    exec (.identityCheckTimeout p) s = .next (settle s (s.enterDown p)) :=
  (next_settle_if_pos s _ hp).trans (next_settle_if_pos s (s.enterDown p) h)

theorem exec_widthChangeTimeout : exec (.widthChangeTimeout p) s = .next (settle s (s.widthTimeout p)) :=
  next_settle_if_pos s (s.widthTimeout p) hp

theorem exec_laneErrorLimitExceeded (i : Nat) : exec (.laneErrorLimitExceeded p i) s = .next (settle s (s.laneErrors p i)) :=
  next_settle_if_pos s (s.laneErrors p i) hp

theorem exec_widthReqReceived (m : Nat) : exec (.widthReqReceived p m) s = .next (settle s (s.widthReq p m)) :=
  next_settle_if_pos s (s.widthReq p m) hp

theorem exec_widthAckReceived (m : Nat) : exec (.widthAckReceived p m) s = .next (settle s (s.widthAck p m)) :=
  next_settle_if_pos s (s.widthAck p m) hp

theorem exec_widthSwitch : exec (.widthSwitch p) s = .next (settle s (s.widthSwitch p)) :=
  next_settle_if_pos s (s.widthSwitch p) hp

theorem exec_widenProposalLapse : exec (.widenProposalLapse p) s = .next (settle s (s.widenLapse p)) :=
  next_settle_if_pos s (s.widenLapse p) hp

theorem exec_laneRetrainReceived (m : Nat) : exec (.laneRetrainReceived p m) s = .next (settle s (s.laneRetrainIn p m)) :=
  next_settle_if_pos s (s.laneRetrainIn p m) hp

theorem exec_soakComplete (i : Nat) : exec (.soakComplete p i) s = .next (settle s (s.soakDone p i)) :=
  next_settle_if_pos s (s.soakDone p i) hp

theorem exec_laneRetrainComplete (i : Nat) : exec (.laneRetrainComplete p i) s = .next (settle s (s.laneRetrained p i)) :=
  next_settle_if_pos s (s.laneRetrained p i) hp

end Sys2Proof.Machine
end

section
/-! PROOF. What a lane's lock, training and the identity exchange do where their guards let them (R73–R79, R85, R90–R94). -/

namespace Sys2Proof.Machine

variable (s : State) {p : Nat}

theorem maskIn_iff (a b : Nat) : maskIn a b = true ↔ a &&& b = a := beq_iff_eq

/-! Lock and the waits of HUNT. -/

/-- The candidate position is judged on the codeword as it came, then with its polarity flipped (R62, R73). -/
theorem State.codeword_of_hunting {l : Nat} (syms : List Nat) (hst : (s.port (s.portOfLane l)).st = .hunt)
    (hretry : (s.port (s.portOfLane l)).retryHold = false) (hhold : (s.port (s.portOfLane l)).holdDown = false)
    (hidx : laneIdx (s.portOfLane l) l < 2 ^ (s.port (s.portOfLane l)).width) (hlock : (s.lane l).lock = .hunt) :
    s.codeword l syms false = s.setLane l
      (if s.fld (linkReg (s.portOfLane l) 0x10) 0 7 ≤ validHeaders syms then { s.lane l with lock := .test, good := 0, inverted := false }
       else if s.fld (linkReg (s.portOfLane l) 0x10) 0 7 ≤ validHeaders (flipPolarity syms) then
         { s.lane l with lock := .test, good := 0, inverted := true }
       else { s.lane l with pos := ((s.lane l).pos + 66) % 5760 }) := by
  have hin : ¬ 2 ^ (s.port (s.portOfLane l)).width ≤ laneIdx (s.portOfLane l) l := Nat.not_le.2 hidx
  simp [State.codeword, hst, hretry, hhold, hin, hlock, apply_ite (s.setLane l)]

theorem State.huntDegrade_of_some_locked (hst : (s.port p).st = .hunt) (hretry : (s.port p).retryHold = false) (hen : s.degradeEn p = true)
    (hkeep : keepMask (2 ^ (s.port p).width) (s.lockMask p) ≠ 0) :
    s.huntDegrade p = s.enterEq p (keepMask (2 ^ (s.port p).width) (s.lockMask p)) := by
  simp [State.huntDegrade, hst, hretry, hen, hkeep]

theorem State.retryOver_of_held (h : (s.port p).retryHold = true) : s.retryOver p = s.setPort p { s.port p with retryHold := false } := by
  simp [State.retryOver, h]

theorem State.holdDownOver_of_held (h : (s.port p).holdDown = true) :
    s.holdDownOver p = (s.setPort p { s.port p with holdDown := false }).enterHunt p := by
  simp [State.holdDownOver, h]

/-! Training. -/

/-- A block that repeats the last request is noted on the lane and the port, and answered no second time (R76). -/
theorem State.tsBlock_of_repeated {l : Nat} {t : TsBlock} (hst : (s.port (s.portOfLane l)).st = .eq)
    (hidx : laneIdx (s.portOfLane l) l < 2 ^ (s.port (s.portOfLane l)).width) (hpre : t.preset = false) (hreq : t.req = (s.lane l).lastReq) :
    s.tsBlock l t =
      (s.setLane l { s.lane l with farReady := t.rxReady, farWidth := some t.width, farLane := some t.lane, farGroup := t.group }).setPort
        (s.portOfLane l) { s.port (s.portOfLane l) with farWidth := some t.width } := by
  have hin : ¬ 2 ^ (s.port (s.portOfLane l)).width ≤ laneIdx (s.portOfLane l) l := Nat.not_le.2 hidx
  simp [State.tsBlock, hst, hin, hpre, hreq]

theorem State.eqComplete_of_passed {pass offset : Nat} (hst : (s.port p).st = .eq) (hoff : (s.port p).refmode = true ∨ offset ≤ 20)
    (hpass : (s.port p).trained &&& pass = (s.port p).trained) (hready : ∀ i ∈ bitsOf 8 (s.port p).trained, (s.lane (4 * p + i)).farReady = true) :
    s.eqComplete p pass offset = s.setPort p { s.port p with st := .deskew } := by
  have hin : (!(s.port p).refmode && decide (20 < offset)) = false := by rcases hoff with h | h <;> simp [h]
  have hall : (bitsOf 8 (s.port p).trained).all (fun i => (s.laneAt p i).farReady) = true := List.all_eq_true.2 hready
  simp [State.eqComplete, hst, hin, (maskIn_iff _ _).2 hpass, hall]

/-- The LANE values of a good deskew: one for each trained lane, each of the width, none twice (R79). -/
theorem State.deskewDone_of_aligned {ids : List Nat} (hst : (s.port p).st = .deskew) (hlen : ids.length = lanesIn (s.port p).trained)
    (hlt : ∀ i ∈ ids, i < s.fullLanes p) (hdup : ids.eraseDups.length = ids.length) : s.deskewDone p ids = s.enterIdent p := by
  have hall : ids.all (· < s.fullLanes p) = true := by simpa using hlt
  simp [State.deskewDone, hst, ← hlen, hall, hdup]

/-! Identity. -/

theorem State.identityRepeat_of_missing (hst : (s.port p).st = .ident) (hpeer : (s.port p).peer = none) :
    s.identityRepeat p = s.sendIdentity p := by
  simp [State.identityRepeat, hst, hpeer]

/-! What is expected at a port's far end, and whether an identity matches it, depends neither on the ports' states nor on the packets delivered. -/

@[simp] theorem State.expectOf_setPort (q : Nat) (x : Port) : (s.setPort q x).expectOf p = s.expectOf p := rfl
@[simp] theorem State.expectOf_taken (q : Nat) (k : Pkt) : (s.taken q k).expectOf p = s.expectOf p := rfl
@[simp] theorem State.identityMatches_setPort (q : Nat) (x : Port) (i : Identity) :
    (s.setPort q x).identityMatches p i = s.identityMatches p i := rfl
@[simp] theorem State.identityMatches_taken (q : Nat) (k : Pkt) (i : Identity) :
    (s.taken q k).identityMatches p i = s.identityMatches p i := rfl

/-- A side that is not held to version 1 and a far end of both versions run version 2 (R94). -/
theorem commonVersion_of_both {maxVer : Nat} (h : maxVer ≠ 1) : commonVersion maxVer 3 = 2 := by
  rw [commonVersion, ownVersions, if_neg h]
  decide

theorem State.negotiate_of_both {i : Identity} (hmax : (s.port p).maxVer ≠ 1) (hver : i.versions = 3) :
    s.negotiate p i = some (s.setPort p { s.port p with ver := 2 }) := by
  simp [State.negotiate, hver, commonVersion_of_both hmax]

theorem State.judgeIdentity_of_match {i : Identity} (hst : (s.port p).st = .ident) (hm : s.identityMatches p i = true) :
    s.judgeIdentity p i = s.activatePort p i false := by
  simp [State.judgeIdentity, hst, hm]

/-- A matching identity of both versions, once this side's own went out after it: noted, negotiated to version 2, and the port is ACTIVE (R91, R93, R94). -/
theorem State.identityIn_of_match {k : Pkt} {e : Nat × Nat × Nat} (hst : (s.port p).st = .ident) (hsent : (s.port p).sentAfter = true)
    (hmax : (s.port p).maxVer ≠ 1) (hver : (identityOf k.payload).versions = 3) (he : s.expectOf p = some e)
    (hm : s.identityMatches p (identityOf k.payload) = true) :
    s.identityIn p k =
      let i := identityOf k.payload
      ((s.taken p k).setPort p { s.port p with
        peer := some i, peerId := idWord i.endpoint i.port i.plane i.role, peerSerial := i.serial, peerFeat := i.features + i.fwLine * 2 ^ 16,
        expId := idWord e.1 e.2.1 s.pl.plane e.2.2, ver := 2 }).activatePort p i false := by
  simp only [State.identityIn, State.taken_port, State.expectOf_taken, he, hst, hsent, State.port_setPort_self]
  simp only [reduceCtorEq, ne_eq, not_true_eq_false, decide_false, Bool.false_and, Bool.false_eq_true, if_false, if_true]
  rw [State.negotiate_of_both _ (by simpa using hmax) hver]
  simp only [State.port_setPort_self, State.setPort_setPort]
  exact State.judgeIdentity_of_match _ (by simp) (by simpa using hm)

end Sys2Proof.Machine
end

section
/-! PROOF. What a link in service does where its guards let it (R75, R83, R84, R87–R89). -/

namespace Sys2Proof.Machine

variable (s : State) {p : Nat}

/-! A reduction that runs out and the errors of the last lane lead to DOWN (R84, R88). -/

theorem State.widthTimeout_of_reduction {c : WidthChange} (h : (s.port p).change = some c) (hw : c.widen = false) :
    s.widthTimeout p = s.enterDown p := by
  simp [State.widthTimeout, h, hw]

theorem State.laneErrors_of_last {i : Nat} (hst : (s.port p).st = .active) (hi : (s.port p).active.testBit i = true)
    (hlast : lanesIn (s.port p).active ≤ 1) : s.laneErrors p i = s.enterDown p := by
  simp [State.laneErrors, hst, hi, hlast]

/-! The exchange of masks. -/

theorem State.widthReq_of_unproposed (m : Nat) (hst : (s.port p).st = .active) (hver : (s.port p).ver = 2) (hch : (s.port p).change = none) :
    s.widthReq p m = (s.setPort p { s.port p with
      change := some { mask := s.healthyMask p, widen := decide (lanesIn (s.port p).active < lanesIn (s.healthyMask p &&& m)),
                       agreed := some (s.healthyMask p &&& m) } }).emit (.lm p 0x11 (s.healthyMask p &&& m)) := by
  simp [State.widthReq, hst, hver, hch]

theorem State.widthAck_of_within {m : Nat} {c : WidthChange} (hst : (s.port p).st = .active) (hch : (s.port p).change = some c)
    (hm : m &&& c.mask = m) : s.widthAck p m = s.setPort p { s.port p with change := some { c with agreed := some m } } := by
  simp [State.widthAck, hst, hch, (maskIn_iff _ _).2 hm]

/-- Fewer lanes: the time of the last widening stays, and the port is DEGRADED (R83, R86). -/
theorem State.widthSwitch_of_fewer {a : Nat} {c : WidthChange} (hst : (s.port p).st = .active) (hch : (s.port p).change = some c)
    (ha : c.agreed = some a) (hpos : a ≠ 0) (hlt : lanesIn a < lanesIn (s.port p).active) :
    s.widthSwitch p =
      let u := (((s.setPort p { s.port p with active := a, change := none, egressHeld := false }).soloLanes p
        ((s.port p).active - ((s.port p).active &&& a))).joinLanes p a).bumpLink p 0x128
      ((u.linkEv p evDegraded).condBegin { word := denOf p, source := fWidthDegraded, unit := p, kind := .port }).tc1WidthFell p := by
  have hne : a ≠ (s.port p).active := fun h => by simp [h] at hlt
  have hnw : ¬ lanesIn (s.port p).active < lanesIn a := Nat.not_lt.2 (Nat.le_of_lt hlt)
  simp only [State.widthSwitch, hch, ha, hst, hpos, hne, hnw, ne_eq, not_true_eq_false, if_false]

theorem State.widenLapse_of_proposal {c : WidthChange} (h : (s.port p).change = some c) (hw : c.widen = true) :
    s.widenLapse p = (bitsOf 8 (c.mask - (c.mask &&& (s.port p).active))).foldl
      (fun s i => s.setLane (4 * p + i) { s.laneAt p i with soaking := true }) (s.setPort p { s.port p with change := none }) := by
  simp [State.widenLapse, h, hw]

/-! Lanes that train alone. -/

theorem State.laneRetrainIn_of_active (m : Nat) (hst : (s.port p).st = .active) (hver : (s.port p).ver = 2) :
    s.laneRetrainIn p m =
      let a := keepMask (s.fullLanes p) (s.healthyMask p &&& (s.port p).active - (s.healthyMask p &&& (s.port p).active &&& m))
      let u := (bitsOf 8 m).foldl (fun s i => s.setLane (4 * p + i) { s.laneAt p i with solo := true, soaking := false }) s
      (u.setPort p { u.port p with change := some { mask := a, agreed := some a } }).emit (.lm p 0x11 a) := by
  simp [State.laneRetrainIn, hst, hver]

/-- The first widening of a port has no earlier one to keep 10 s from (R87). -/
theorem State.soakDone_of_first {i : Nat} (hst : (s.port p).st = .active) (hver : (s.port p).ver = 2) (hen : s.restoreEn p = true)
    (hsoak : (s.lane (4 * p + i)).soaking = true) (hlock : (s.lane (4 * p + i)).lock = .locked) (hch : (s.port p).change = none)
    (hlast : (s.port p).lastWiden = none) (hlt : lanesIn (s.port p).active < lanesIn (keepMask (s.fullLanes p) (s.healthyMask p))) :
    s.soakDone p i = (s.setPort p { s.port p with change := some { mask := keepMask (s.fullLanes p) (s.healthyMask p), widen := true } }).emit
      (.lm p 0x10 (keepMask (s.fullLanes p) (s.healthyMask p))) := by
  simp [State.soakDone, State.laneAt, hst, hver, hen, hsoak, hlock, hch, hlast, hlt]

theorem State.laneRetrained_of_solo {i : Nat} (hst : (s.port p).st = .active) (hsolo : (s.lane (4 * p + i)).solo = true) :
    s.laneRetrained p i =
      (s.setLane (4 * p + i) { s.lane (4 * p + i) with lock := .locked, errOk := true, soaking := true, win := [] }).linkEv p evRetrained := by
  simp [State.laneRetrained, State.laneAt, hst, hsolo]

end Sys2Proof.Machine
end

section
/-! PROOF. The obligations on a lane's lock, on training and on a link in service. -/

namespace Sys2Proof.Proofs

open Sys2Proof Sys2Proof.Machine

/-- Settles O1: row by row, the row's own equation and then what its operation does under the premises. -/
theorem linkLock : Obligations.LinkLock := by
  refine ⟨?codeword, ?degrade, ?retry, ?hold⟩
  case codeword => intro s l syms hst hr hh hi hl; rw [exec_codewordReceived, s.codeword_of_hunting syms hst hr hh hi hl]
  case degrade => intro s p hp hst hr hen hk; rw [exec_huntDegradeTimeout s hp, s.huntDegrade_of_some_locked hst hr hen hk]; rfl
  case retry => intro s p hp h; rw [exec_trainRetryHoldExpiry s hp, s.retryOver_of_held h]
  case hold => intro s p hp h; rw [exec_holdDownExpiry s hp, s.holdDownOver_of_held h]

/-- Settles O2: the three time limits are one failure of training; every other row by its own equation and what its operation does under the premises. -/
theorem linkTraining : Obligations.LinkTraining := by
  refine ⟨?block, ?eq, ?limits, ?deskew, ?repeatId, ?identity⟩
  case block => intro s l t hst hi hpre hreq; rw [exec_tsBlockReceived, s.tsBlock_of_repeated hst hi hpre hreq]
  case eq => intro s p pass offset hp hst ho ht hr; rw [exec_eqComplete s hp, s.eqComplete_of_passed hst ho ht hr]
  case limits =>
    intro s p i hp h
    have hfail : exec i s = .next (settle s (s.trainFail p false)) := by
      rcases h with ⟨rfl, h⟩ | ⟨rfl, h⟩ | ⟨rfl, h⟩
      · exact exec_eqTimeout s hp h
      · exact exec_deskewTimeout s hp h
      · exact exec_identTimeout s hp h
    rw [hfail]
    rfl
  case deskew => intro s p ids hp hst hl hi hd; rw [exec_deskewComplete s hp, s.deskewDone_of_aligned hst hl hi hd]; rfl
  case repeatId => intro s p hp hst hpeer; rw [exec_identityRepeatTimer s hp, s.identityRepeat_of_missing hst hpeer]
  case identity =>
    intro s p k e hp hst hs hmax hv he hm
    rw [exec_identityMessageReceived s hp, s.identityIn_of_match hst hs hmax hv he hm]

/-- Settles O3: the four events that take a port DOWN are one entry to DOWN; every other row by its own equation and what its operation does under
the premises. -/
theorem linkService : Obligations.LinkService := by
  refine ⟨?down, ?req, ?ack, ?switch, ?lapse, ?retrainIn, ?soak, ?retrained⟩
  case down =>
    intro s p i hp h
    have hdown : exec i s = .next (settle s (s.enterDown p)) := by
      rcases h with ⟨rfl, h⟩ | ⟨rfl, h⟩ | ⟨rfl, c, hch, hw⟩ | ⟨k, rfl, hst, hk, hlast⟩
      · exact exec_downHoldExpiry s hp h
      · exact exec_identityCheckTimeout s hp h
      · rw [exec_widthChangeTimeout s hp, s.widthTimeout_of_reduction hch hw]
      · rw [exec_laneErrorLimitExceeded s hp, s.laneErrors_of_last hst hk hlast]
    rw [hdown]
    rfl
  case req => intro s p m hp hst hv hch; rw [exec_widthReqReceived s hp, s.widthReq_of_unproposed m hst hv hch]
  case ack => intro s p m c hp hst hch hm; rw [exec_widthAckReceived s hp, s.widthAck_of_within hst hch hm]
  case switch => intro s p a c hp hst hch ha h0 hlt; rw [exec_widthSwitch s hp, s.widthSwitch_of_fewer hst hch ha h0 hlt]; rfl
  case lapse => intro s p c hp hch hw; rw [exec_widenProposalLapse s hp, s.widenLapse_of_proposal hch hw]; rfl
  case retrainIn => intro s p m hp hst hv; rw [exec_laneRetrainReceived s hp, s.laneRetrainIn_of_active m hst hv]; rfl
  case soak => intro s p i hp hst hv hen hs hl hch hlast hlt; rw [exec_soakComplete s hp, s.soakDone_of_first hst hv hen hs hl hch hlast hlt]
  case retrained => intro s p i hp hst hsolo; rw [exec_laneRetrainComplete s hp, s.laneRetrained_of_solo hst hsolo]; rfl

end Sys2Proof.Proofs
end

section
/-! PROOF. A packet's header in words and bytes (R101, R6), and the CRC-32C of its trailer (R106). -/

namespace Sys2Proof

/-! Fields of a number, as quotient and remainder. -/

theorem bits_eq_div_mod (x lo n : Nat) : bits x lo n = x / 2 ^ lo % 2 ^ n := by rw [bits, Nat.shiftRight_eq_div_pow]

/-- A number below `2 ^ n` is its own low field of `n` bits. -/
theorem bits_zero_of_lt {x n : Nat} (h : x < 2 ^ n) : bits x 0 n = x := Nat.mod_eq_of_lt h

theorem b2n_lt_two (b : Bool) : b2n b < 2 := by cases b <;> decide

theorem bit_eq_iff (x i : Nat) (b : Bool) : bit x i = b ↔ x / 2 ^ i % 2 = b2n b := by
  have h := Nat.mod_two_eq_zero_or_one (x / 2 ^ i)
  rw [bit, bits_eq_div_mod, Nat.pow_one]
  cases b <;> rcases h with h | h <;> simp [h, b2n]

/-! The fields of a header whose fields lie within their widths (R101). -/

/-- The check of the widths, field by field in the order of the words. -/
theorem Hdr.ok_iff (h : Hdr) : h.ok = true ↔
    (h.ver < 16 ∧ h.type < 64 ∧ h.tc < 4 ∧ h.color < 4 ∧ h.hops < 64 ∧ h.rsv0 < 256) ∧ (h.dst < 2 ^ 14 ∧ h.src < 2 ^ 14 ∧ h.rsv1 < 16) ∧
    (h.job < 4096 ∧ h.rsv2 < 128 ∧ h.len < 8192) ∧ h.seq < 2 ^ 32 ∧ (h.offset < 2 ^ 48 ∧ h.ctx < 4096 ∧ h.rsv5 < 16) ∧
    (h.msg < 2 ^ 16 ∧ h.chunk < 2 ^ 16) ∧ h.deadline < 2 ^ 32 := by
  simp [Hdr.ok, and_assoc]

section
variable {h : Hdr} (ok : h.ok = true)
include ok

theorem Hdr.words_lt : ∀ w ∈ h.words, w < 2 ^ 32 := by
  obtain ⟨⟨hver, htype, htc, hcolor, hhops, hrsv0⟩, ⟨hdst, hsrc, hrsv1⟩, ⟨hjob, hrsv2, hlen⟩, hseq, ⟨hoff, hctx, hrsv5⟩,
    ⟨hmsg, hchunk⟩, hdead⟩ := h.ok_iff.1 ok
  have := b2n_lt_two h.dl
  have := b2n_lt_two h.ce
  have := b2n_lt_two h.ece
  have := b2n_lt_two h.late
  simp only [Hdr.words, List.forall_mem_cons, List.not_mem_nil, false_imp_iff, implies_true, and_true]
  and_intros <;> omega

/-- Word 0: version, type, class, the flags, hops. -/
theorem Hdr.word0_fields :
    let w := h.words.getD 0 0
    bits w 28 4 = h.ver ∧ bits w 22 6 = h.type ∧ bits w 20 2 = h.tc ∧ bit w 19 = h.dl ∧ bits w 17 2 = h.color ∧ bit w 16 = h.ce ∧
    bit w 15 = h.ece ∧ bit w 14 = h.late ∧ bits w 8 6 = h.hops ∧ bits w 0 8 = h.rsv0 := by
  obtain ⟨⟨hver, htype, htc, hcolor, hhops, hrsv0⟩, -⟩ := h.ok_iff.1 ok
  have hdl := b2n_lt_two h.dl
  have hce := b2n_lt_two h.ce
  have hece := b2n_lt_two h.ece
  have hlate := b2n_lt_two h.late
  simp only [Hdr.words, List.getD_cons_zero, bits_eq_div_mod, bit_eq_iff]
  and_intros <;> omega

/-- Word 1: destination and source. -/
theorem Hdr.word1_fields :
    let w := h.words.getD 1 0
    bits w 18 14 = h.dst ∧ bits w 4 14 = h.src ∧ bits w 0 4 = h.rsv1 := by
  obtain ⟨-, ⟨hdst, hsrc, hrsv1⟩, -⟩ := h.ok_iff.1 ok
  simp only [Hdr.words, List.getD_cons_succ, List.getD_cons_zero, bits_eq_div_mod]
  and_intros <;> omega

/-- Word 2: job and length. -/
theorem Hdr.word2_fields :
    let w := h.words.getD 2 0
    bits w 20 12 = h.job ∧ bits w 13 7 = h.rsv2 ∧ bits w 0 13 = h.len := by
  obtain ⟨-, -, ⟨hjob, hrsv2, hlen⟩, -⟩ := h.ok_iff.1 ok
  simp only [Hdr.words, List.getD_cons_succ, List.getD_cons_zero, bits_eq_div_mod]
  and_intros <;> omega

/-- Words 4 and 5 as one number: offset and context. -/
theorem Hdr.word45_fields :
    let w := h.words.getD 4 0 + h.words.getD 5 0 * 2 ^ 32
    bits w 0 48 = h.offset ∧ bits w 48 12 = h.ctx ∧ bits w 60 4 = h.rsv5 := by
  obtain ⟨-, -, -, -, ⟨hoff, hctx, hrsv5⟩, -⟩ := h.ok_iff.1 ok
  simp only [Hdr.words, List.getD_cons_succ, List.getD_cons_zero, bits_eq_div_mod]
  and_intros <;> omega

/-- Words 4 and 5 one by one, as a reader takes them: the offset is cut at bit 32. -/
theorem Hdr.word4_word5_fields :
    bits (h.words.getD 4 0) 0 32 + bits (h.words.getD 5 0) 0 16 * 2 ^ 32 = h.offset ∧ bits (h.words.getD 5 0) 16 12 = h.ctx ∧
    bits (h.words.getD 5 0) 28 4 = h.rsv5 := by
  obtain ⟨-, -, -, -, ⟨hoff, hctx, hrsv5⟩, -⟩ := h.ok_iff.1 ok
  simp only [Hdr.words, List.getD_cons_succ, List.getD_cons_zero, bits_eq_div_mod]
  and_intros <;> omega

/-- Word 6: message and chunk. -/
theorem Hdr.word6_fields :
    let w := h.words.getD 6 0
    bits w 0 16 = h.msg ∧ bits w 16 16 = h.chunk := by
  obtain ⟨-, -, -, -, -, ⟨hmsg, hchunk⟩, -⟩ := h.ok_iff.1 ok
  simp only [Hdr.words, List.getD_cons_succ, List.getD_cons_zero, bits_eq_div_mod]
  and_intros <;> omega

/-- Reading a header's words gives the header back. -/
theorem Hdr.ofWords_words : Hdr.ofWords h.words = h := by
  obtain ⟨hver, htype, htc, hdl, hcolor, hce, hece, hlate, hhops, hrsv0⟩ := Hdr.word0_fields ok
  obtain ⟨hdst, hsrc, hrsv1⟩ := Hdr.word1_fields ok
  obtain ⟨hjob, hrsv2, hlen⟩ := Hdr.word2_fields ok
  obtain ⟨hoff, hctx, hrsv5⟩ := Hdr.word4_word5_fields ok
  obtain ⟨hmsg, hchunk⟩ := Hdr.word6_fields ok
  obtain ⟨-, -, -, hseq, -, -, hdead⟩ := h.ok_iff.1 ok
  have h3 : bits (h.words.getD 3 0) 0 32 = h.seq := bits_zero_of_lt hseq
  have h7 : bits (h.words.getD 7 0) 0 32 = h.deadline := bits_zero_of_lt hdead
  simp only [Hdr.ofWords, hver, htype, htc, hdl, hcolor, hce, hece, hlate, hhops, hrsv0, hdst, hsrc, hrsv1, hjob, hrsv2, hlen, h3, hoff, hctx,
    hrsv5, hmsg, hchunk, h7]

end

/-! Little-endian words (R6). -/

@[simp] theorem leBytes_length (n x : Nat) : (leBytes n x).length = n := by
  induction n generalizing x with
  | zero => rfl
  | succ n ih => simp [leBytes, ih]

theorem leNat_leBytes (n x : Nat) : leNat (leBytes n x) = x % 256 ^ n := by
  induction n generalizing x with
  | zero => simp [leBytes, leNat, Nat.mod_one]
  | succ n ih =>
    have hb : (BitVec.ofNat 8 (x % 256)).toNat = x % 256 := by simp
    rw [leBytes, leNat, ih, hb, Nat.pow_succ', Nat.mod_mul]

/-- Word `n` of the bytes of a list of words is the list's element `n`. -/
theorem leWord_flatMap_leBytes (l : List Nat) (n : Nat) (hl : ∀ w ∈ l, w < 2 ^ 32) : leWord (l.flatMap (leBytes 4)) n = l.getD n 0 := by
  induction l generalizing n with
  | nil => simp [leWord, leNat]
  | cons w l ih =>
    obtain ⟨hw, hl⟩ := List.forall_mem_cons.1 hl
    cases n with
    | zero =>
      have ht : (leBytes 4 w ++ l.flatMap (leBytes 4)).take 4 = leBytes 4 w := List.take_left' (leBytes_length 4 w)
      rw [leWord, List.flatMap_cons, Nat.mul_zero, List.drop_zero, ht, leNat_leBytes, List.getD_cons_zero]
      exact Nat.mod_eq_of_lt hw
    | succ n =>
      have hd : (leBytes 4 w ++ l.flatMap (leBytes 4)).drop (4 * (n + 1)) = (l.flatMap (leBytes 4)).drop (4 * n) := by
        rw [Nat.mul_succ, Nat.add_comm, ← List.drop_drop, List.drop_left' (leBytes_length 4 w)]
      rw [leWord, List.flatMap_cons, hd, List.getD_cons_succ]
      exact ih n hl

theorem Hdr.bytes_length (h : Hdr) : h.bytes.length = 32 := by
  simp [Hdr.bytes, Hdr.words]

/-! The trailer (R106). -/

/-- The header is its own frozen form where the mutable fields are zero. -/
theorem Hdr.frozen_of_zero {h : Hdr} (hhops : h.hops = 0) (hdl : h.dl = false) (hce : h.ce = false) (hece : h.ece = false) (hlate : h.late = false) :
    h.frozen = h := by
  cases h
  subst hhops hdl hce hece hlate
  rfl

end Sys2Proof

namespace Sys2Proof.Machine

theorem crcBit_lt {c : Nat} (h : c < 2 ^ 32) : crcBit c < 2 ^ 32 := by
  rw [crcBit]
  split
  · exact Nat.xor_lt_two_pow (by omega) (by decide)
  · omega

theorem crcByte_lt {c : Nat} (b : Byte) (h : c < 2 ^ 32) : crcByte c b < 2 ^ 32 := by
  have hb : b.toNat < 2 ^ 32 := Nat.lt_trans b.isLt (by decide)
  have hx : c ^^^ b.toNat < 2 ^ 32 := Nat.xor_lt_two_pow h hb
  exact crcBit_lt (crcBit_lt (crcBit_lt (crcBit_lt (crcBit_lt (crcBit_lt (crcBit_lt (crcBit_lt hx)))))))

theorem crcUpdate_lt {c : Nat} (l : List Byte) (h : c < 2 ^ 32) : crcUpdate c l < 2 ^ 32 := by
  induction l generalizing c with
  | nil => exact h
  | cons b l ih => exact ih (crcByte_lt b h)

theorem crc32c_lt (l : List Byte) : crc32c l < 2 ^ 32 := Nat.xor_lt_two_pow (crcUpdate_lt l (by decide)) (by decide)

/-- The trailer takes a header by its frozen form only. -/
theorem trailerOf_congr {h k : Hdr} (l : List Byte) (e : h.frozen = k.frozen) : trailerOf h l = trailerOf k l := by
  rw [trailerOf, trailerOf, e]

end Sys2Proof.Machine
end

section
/-! PROOF. The obligations on a packet's header and trailer. -/

namespace Sys2Proof.Proofs

open Sys2Proof Sys2Proof.Machine

/-- Settles O42: word by word, then by the words' bytes. -/
theorem headerFieldsStandInTheirWords : Obligations.HeaderFieldsStandInTheirWords := by
  refine ⟨?fields, fun h ok => Hdr.ofWords_words ok, ?bytes⟩
  case fields =>
    intro h ok
    obtain ⟨hver, htype, htc, hdl, hcolor, hce, hece, hlate, hhops, hrsv0⟩ := Hdr.word0_fields ok
    obtain ⟨hdst, hsrc, hrsv1⟩ := Hdr.word1_fields ok
    obtain ⟨hjob, hrsv2, hlen⟩ := Hdr.word2_fields ok
    obtain ⟨hoff, hctx, hrsv5⟩ := Hdr.word45_fields ok
    obtain ⟨hmsg, hchunk⟩ := Hdr.word6_fields ok
    exact ⟨rfl, Hdr.words_lt ok, hver, htype, htc, hdl, hcolor, hce, hece, hlate, hhops, hrsv0, hdst, hsrc, hrsv1, hjob, hrsv2, hlen, rfl, hoff, hctx,
      hrsv5, hmsg, hchunk, rfl⟩
  case bytes =>
    intro h ok
    exact ⟨h.bytes_length, fun n _ => leWord_flatMap_leBytes h.words n (Hdr.words_lt ok)⟩

/-- Settles O43: the trailer sees a header only through its frozen form, and every step of the division keeps the running value within 32 bits. -/
theorem trailersIgnoreTheMutableFields : Obligations.TrailersIgnoreTheMutableFields := by
  refine ⟨by decide +kernel, fun h k l e => trailerOf_congr l e, ?unfrozen, crc32c_lt⟩
  intro h l hhops hdl hce hece hlate
  rw [trailerOf, Hdr.frozen_of_zero hhops hdl hce hece hlate]

end Sys2Proof.Proofs
end

section
/-! PROOF. What the queue, shaper and policer commands do where Keeper takes them (R389, R390). -/

namespace Sys2Proof.Machine

variable {s : State} {c : Cmd}

/-- A command that Keeper takes ends with what its body answers. -/
theorem State.runCmd_of_body {i : OpInfo} {b : State → State × Ans} {v : State} {a : Ans} (h : s.Takes i c) (hb : b (s.cmdBegin c) = (v, a)) :
    s.runCmd i c b = v.cmdEnd i c a := by
  rw [State.runCmd_takes s i c b h, hb]

/-- A queue that the command's job holds is handed to the command. -/
theorem State.withQueue_of_owned {q : Nat} (k : Queue → State × Ans) (hv : (s.queue (portQ (cmdPort c) q)).valid = true)
    (hr : (s.queue (portQ (cmdPort c) q)).releasing = false) (hj : (s.queue (portQ (cmdPort c) q)).job = c.job) :
    s.withQueue c q k = k (s.queue (portQ (cmdPort c) q)) := by
  simp [State.withQueue, hv, hr, hj]

theorem exec_routeNotice (s : State) (c : Cmd) : exec (.routeNotice c) s = .next (settle s (s.routeNoticeIn c)) := rfl
theorem exec_queueCfg (s : State) (c : Cmd) : exec (.queueCfg c) s = .next (settle s (s.queueCfg c)) := rfl
theorem exec_queueRelease (s : State) (c : Cmd) : exec (.queueRelease c) s = .next (settle s (s.queueRelease c)) := rfl
theorem exec_shaperSet (s : State) (c : Cmd) : exec (.shaperSet c) s = .next (settle s (s.shaperSet c)) := rfl
theorem exec_policerSet (s : State) (c : Cmd) : exec (.policerSet c) s = .next (settle s (s.policerSet c)) := rfl

end Sys2Proof.Machine
end

section
/-! PROOF. The obligation on the commands of queues, shapers and policers. -/

namespace Sys2Proof.Proofs

open Sys2Proof Sys2Proof.Machine

/-- Settles O16: each command passes the checks of its parameter words, and what is left of its body is the branch that the premises choose. -/
theorem queueCommands : Obligations.QueueCommands := by
  refine ⟨?notice, ?cfg, ?release, ?shaper, ?policer⟩
  case notice =>
    intro s u i c hi ht hu h0
    subst hi hu
    rw [exec_routeNotice, State.routeNoticeIn, State.runCmd_of_body ht]
    exact Ans.check_ok _ _ _ (by simp [h0])
  case cfg =>
    intro s u i c t q hi ht hu htc htc' h0 hp h1 h255 hhere hmine hfree
    subst hi hu htc
    rw [exec_queueCfg, State.queueCfg, State.runCmd_of_body ht]
    rw [Ans.check_ok _ _ _ (by simp [h0, hp, htc', h1, h255])]
    simp [hmine, hfree, hhere]
  case release =>
    intro s u i c q x hi ht hu h0 hq h1 h61 hp hx hv hr hj htc
    subst hi hu hq hx
    rw [exec_queueRelease, State.queueRelease, State.runCmd_of_body ht]
    rw [Ans.check_ok _ _ _ (by simp [h0, hp, h1, h61]), State.withQueue_of_owned _ hv hr hj, if_neg htc]
  case shaper =>
    intro s u i c q x hi ht hu h0 hq h1 h61 hp hx hv hr hj htc hen hrate h17 hb
    subst hi hu hq hx
    rw [exec_shaperSet, State.shaperSet, State.runCmd_of_body ht]
    rw [Ans.check_ok _ _ _ (by simp [-Nat.reducePow, h0, hp, Nat.ne_of_gt h1, hrate, h17, hb]), State.withQueue_of_owned _ hv hr hj, if_neg htc]
    simp [hen]
  case policer =>
    intro s u i c k t b e hi ht hu hk htc htc' h0 hp huse hcir hpir hle hb he h17 hbe hen
    subst hi hu hk htc hb he
    rw [exec_policerSet, State.policerSet, State.runCmd_of_body ht]
    rw [Ans.check_ok _ _ _ (by simp [-Nat.reducePow, h0, hp, huse, htc', hcir, hpir, hle, h17, hbe])]
    simp [hen]

end Sys2Proof.Proofs
end

section
/-! PROOF. What the timers of end-to-end streams do where their guards let them (R114, R118, R120, R122, R127), one equation for each row first. -/

namespace Sys2Proof.Machine

variable {s : State} {dst tc : Nat}

theorem exec_resendTimeout (q : Nat) : exec (.resendTimeout dst tc q) s = .next (settle s (s.resendTimeout dst tc q)) := rfl
theorem exec_pathHoldTimeout : exec (.pathHoldTimeout dst tc) s = .next (settle s (s.pathHold dst tc)) := rfl
theorem exec_operationDeadline : exec (.operationDeadline dst tc) s = .next (settle s (s.opDeadline dst tc)) := rfl
theorem exec_ackTimer : exec (.ackTimer dst tc) s = .next (settle s (s.ackTimer dst tc)) := rfl
theorem exec_rateIncreaseTimer : exec (.rateIncreaseTimer dst tc) s = .next (settle s (s.rateUp dst tc)) := rfl
theorem exec_openRepeatTimer : exec (.openRepeatTimer dst tc) s = .next (settle s (s.openRepeat dst tc)) := rfl
theorem exec_responseTimeout (i : Nat) : exec (.responseTimeout i) s = .next (settle s (s.responseTimeout i)) := rfl

/-! An outstanding packet's RTO (R120): resent, held after RESEND_MAX, held for want of a route. -/

section
variable {q : Nat} {o : OutPkt} (hfind : (s.txs dst tc).out.find? (fun o => o.pkt.hdr.seq == q) = some o)
include hfind

theorem State.resendTimeout_of_fewer (hroute : s.unroutable o = false) (hno : o.noRoute = false) (hheld : o.heldAt = none)
    (hlt : o.resends < s.resendMax) :
    s.resendTimeout dst tc q = ((s.countResend o).offerPkt o).modOut dst tc q (fun o =>
      { o with resends := if o.busy then o.resends else o.resends + 1, busy := false, sentAt := s.clk }) := by
  simp [State.resendTimeout, hfind, hroute, hno, hheld, hlt]

theorem State.resendTimeout_of_spent (hroute : s.unroutable o = false) (hno : o.noRoute = false) (hheld : o.heldAt = none) (hbusy : o.busy = false)
    (hmax : s.resendMax ≤ o.resends) :
    s.resendTimeout dst tc q = (s.pathLost o.origin o.pkt).modOut dst tc q (fun o => { o with heldAt := some s.clk }) := by
  simp [State.resendTimeout, hfind, hroute, hno, hheld, hbusy, Nat.not_lt.2 hmax]

theorem State.resendTimeout_of_unroutable (hroute : s.unroutable o = true) (hheld : o.heldAt = none) :
    s.resendTimeout dst tc q = (s.pathLost o.origin o.pkt).modOut dst tc q (fun o => { o with heldAt := some s.clk, noRoute := true }) := by
  simp [State.resendTimeout, hfind, hroute, hheld]

end

/-! The end of a hold (R120), with deadline and without. -/

theorem State.pathHold_of_held (h : (s.txs dst tc).out.any (fun o => o.heldAt.isSome && o.deadline.isNone) = true) :
    s.pathHold dst tc = s.endHold dst tc 0x41 := if_pos h

theorem State.opDeadline_of_held (h : (s.txs dst tc).out.any (fun o => o.heldAt.isSome && o.deadline.isSome) = true) :
    s.opDeadline dst tc = s.endHold dst tc 0x40 := if_pos h

/-! The timers of acknowledgement, rate, OPEN and responses (R114, R118, R122, R127). -/

/-- A source whose packets to the partner's identifier (R433) have no open stream is sent one ACK. -/
theorem State.ackTimer_of_first (hopen : (s.rxs dst tc).open_ = true) (hfirst : (s.rxs dst tc).firstAt.isSome = true)
    (hpartner : ((s.sendAck dst tc).rxs (dst + 16384) tc).open_ = false) : s.ackTimer dst tc = s.sendAck dst tc := by
  simp [State.ackTimer, hopen, hfirst, hpartner]

/-- The rate rises by 1/64 of the rate of the port toward the destination, and is free again at the port's own. -/
theorem State.rateUp_of_limited {p : Nat} {l : List Nat} {r : Rat} (hroute : (s.route { dst := dst, tc := tc } none none).list = p :: l)
    (hrate : (s.txs dst tc).rate = some r) :
    s.rateUp dst tc = s.setTxs dst tc { s.txs dst tc with
      rate := if s.payloadRate p ≤ r + s.payloadRate p / 64 then none else some (r + s.payloadRate p / 64) } := by
  simp [State.rateUp, hroute, hrate]

theorem State.openRepeat_of_unanswered (h : (s.txs dst tc).phase = .opening ∨ (s.txs dst tc).phase = .busy) :
    s.openRepeat dst tc = s.openAtSeq dst tc (s.txs dst tc).first := by
  simp [State.openRepeat, h]

/-- The block that an unanswered request came from: the Sett core of its den, or Keeper (R122). -/
def Ask.origin (a : Ask) : Origin := match a.core with | some c => .sett (coreDen c) | none => .keeper

/-- A request that still stands is sent again from the block that issued it. -/
theorem State.responseTimeout_of_asked {i : Nat} {a : Ask} (h : s.st.asks[i]? = some a) :
    s.responseTimeout i =
      ({ s with st := { s.st with asks := s.st.asks.set i { a with sentAt := s.clk } } } : State).sendPkt a.pkt a.origin none none := by
  rw [State.responseTimeout, h]
  rfl

end Sys2Proof.Machine
end

section
/-! PROOF. The obligation on the timers of end-to-end streams. -/

namespace Sys2Proof.Proofs

open Sys2Proof Sys2Proof.Machine

/-- Settles O8: row by row, the row's own equation and then what its operation does under the premises. -/
theorem streamTimers : Obligations.StreamTimers := by
  refine ⟨?resend, ?spent, ?unroutable, ?hold, ?deadline, ?ack, ?rate, ?reopen, ?response⟩
  case resend => intro s dst tc q o hf hr hn hh _ hlt; rw [exec_resendTimeout, State.resendTimeout_of_fewer hf hr hn hh hlt]
  case spent => intro s dst tc q o hf hr hn hh hb hmax; rw [exec_resendTimeout, State.resendTimeout_of_spent hf hr hn hh hb hmax]
  case unroutable => intro s dst tc q o hf hr hh; rw [exec_resendTimeout, State.resendTimeout_of_unroutable hf hr hh]
  case hold => intro s dst tc h; rw [exec_pathHoldTimeout, State.pathHold_of_held h]; rfl
  case deadline => intro s dst tc h; rw [exec_operationDeadline, State.opDeadline_of_held h]; rfl
  case ack => intro s src tc ho hf ha; rw [exec_ackTimer, State.ackTimer_of_first ho hf ha]; rfl
  case rate => intro s dst tc p l r hl hr; rw [exec_rateIncreaseTimer, State.rateUp_of_limited hl hr]
  case reopen => intro s dst tc h; rw [exec_openRepeatTimer, State.openRepeat_of_unanswered h]; rfl
  case response => intro s i a h; rw [exec_responseTimeout, State.responseTimeout_of_asked h]; rfl

end Sys2Proof.Proofs
end

section
/-! PROOF. A packet of a multicast that waits for a bridge with another copy riding on it, whose residence ends (R105, R151). -/

namespace Sys2Proof.Proofs

open Sys2Proof Sys2Proof.Machine

/-- A packet for port 48 of den 1 that waits in den 0 for the bridge, the copy for port 49 riding on it. -/
def bridgedWithRider : Held := { id := 1, port := some 48, att := some 48, riders := [{ port := 49 }] }

/-- Den 0 holds that packet and no other. -/
def holdsBridged : State := { State.reset with sw := { State.reset.sw with held := [bridgedWithRider] } }

/-- The copy that rides is lost with the packet, and port 49 counts it. -/
theorem residenceOut_counts_rider : (settle holdsBridged (holdsBridged.residenceOut 1)).ctr (linkReg 49 0x07C) = 1 := by decide +kernel

/-- Port 49 counts nothing where the packet alone is discarded. -/
theorem takeHeld_misses_rider :
    (settle holdsBridged ((holdsBridged.takeHeld bridgedWithRider).bumpLink 48 0x07C)).ctr (linkReg 49 0x07C) = 0 := by decide +kernel

/-- Refutes O5: the clause on RESIDENCE_TIMEOUT counts the packet at its own port only, and the row counts the copies that ride on it at theirs as
well. -/
theorem not_packetsIntoAndOutOfTheSwitch : ¬ Obligations.PacketsIntoAndOutOfTheSwitch := by
  unfold Obligations.PacketsIntoAndOutOfTheSwitch
  rintro ⟨-, -, -, -, -, -, -, -, residence, -⟩
  have hrow := residence holdsBridged 1 bridgedWithRider rfl (by decide)
  have hstate : settle holdsBridged (holdsBridged.residenceOut 1) =
      settle holdsBridged ((holdsBridged.takeHeld bridgedWithRider).bumpLink 48 0x07C) := Host.Outcome.next.inj hrow
  have hctr := residenceOut_counts_rider
  rw [hstate, takeHeld_misses_rider] at hctr
  exact absurd hctr (by decide)

end Sys2Proof.Proofs
end

section
/-! PROOF. What the commands of mirror sessions and Fox units do where Keeper takes them (R159, R399, R478, R523, R527, R528), one equation for each
row first. -/

namespace Sys2Proof.Machine

variable {s : State} {c : Cmd}

theorem exec_mirrorSet (s : State) (c : Cmd) : exec (.mirrorSet c) s = .next (settle s (s.mirrorSet c)) := rfl
theorem exec_mirrorClear (s : State) (c : Cmd) : exec (.mirrorClear c) s = .next (settle s (s.mirrorClear c)) := rfl
theorem exec_foxCfgStream (s : State) (c : Cmd) : exec (.foxCfgStream c) s = .next (settle s (s.foxCfgStream c)) := rfl
theorem exec_foxCfgChecker (s : State) (c : Cmd) : exec (.foxCfgChecker c) s = .next (settle s (s.foxCfgChecker c)) := rfl
theorem exec_foxCfgClear (s : State) (c : Cmd) : exec (.foxCfgClear c) s = .next (settle s (s.foxCfgClear c)) := rfl
theorem exec_foxStart (s : State) (c : Cmd) : exec (.foxStart c) s = .next (settle s (s.foxStart c)) := rfl
theorem exec_foxStop (s : State) (c : Cmd) : exec (.foxStop c) s = .next (settle s (s.foxStop c)) := rfl
theorem exec_foxRead (s : State) (c : Cmd) : exec (.foxRead c) s = .next (settle s (s.foxRead c)) := rfl

/-! Mirror sessions. -/

/-- A session that is off, or is the command's job's own, is held by no other job. -/
theorem State.mirror_free {k : Nat} (h : (s.mirror k).en = false ∨ (s.mirror k).job = c.job) :
    ((s.mirror k).en && decide ((s.mirror k).job ≠ c.job)) = false := by
  rcases h with h | h <;> simp [h]

/-- The refusals of R159 meet neither job 0 with the instrument permission nor a job of the rack with its analysis endpoint in its slice. -/
theorem State.mirror_allowed {x : Mirror} (hinst : c.job = 0 → s.instrument = true)
    (hslice : c.job ≠ 0 → s.dev ≠ .ready ∧ s.jobHere c.job = true ∧ s.inJob c.job x.adst = true ∧ (x.bad = true → s.instrument = true)) :
    (if c.job = 0 then !s.instrument else s.dev == .ready || !s.jobHere c.job || !s.inJob c.job x.adst || (x.bad && !s.instrument)) = false := by
  split
  next h => simp [hinst h]
  next h =>
    obtain ⟨hdev, hhere, hin, hbad⟩ := hslice h
    have hbad' : (x.bad && !s.instrument) = false := by cases hx : x.bad <;> simp [hbad, hx]
    simp [hdev, hhere, hin, hbad']

/-! Fox units. -/

/-- The unit that a Fox command names is there, and no permission keeps the command's job from it. -/
structure State.FoxOpen (s : State) (c : Cmd) : Prop where
  rest : bits (c.p 0) 5 27 = 0
  unit : bits (c.p 0) 0 5 < 24
  may : s.foxMay (bits (c.p 0) 0 5) c.job = true

/-- A command whose own checks hold acts on the unit that it names. -/
theorem State.withFox_of_open {extra : List (Nat × Bool)} (k : Nat → State × Ans) (h : s.FoxOpen c) (hx : extra.all (·.2) = true) :
    s.withFox c extra k = k (bits (c.p 0) 0 5) := by
  rw [State.withFox, Ans.check_ok _ _ _ (by simp [h.rest, h.unit, hx]), if_pos h.may]

/-- A FOX_CFG that Keeper takes has its KIND's effect on a unit that does not run (R399). -/
theorem State.foxCfg_of_stopped {len : Nat} {chk : Nat → List (Nat × Bool)} {k : State → Nat → State × Ans} {v : State} {a : Ans}
    (ht : s.Takes { op := 0x0C02, lens := lenIs len, states := stRA, j := true, m := true, change := true } c) (h : (s.cmdBegin c).FoxOpen c)
    (hx : (chk (bits (c.p 0) 0 5)).all (·.2) = true) (hrun : ((s.cmdBegin c).foxUnit (bits (c.p 0) 0 5)).running = false)
    (hk : k (s.cmdBegin c) (bits (c.p 0) 0 5) = (v, a)) :
    s.foxCfg c len chk k = v.cmdEnd { op := 0x0C02, lens := lenIs len, states := stRA, j := true, m := true, change := true } c a := by
  rw [State.foxCfg, State.runCmd_of_body ht]
  rw [State.withFox_of_open _ h hx, hrun]
  exact hk

/-- A checker of a job other than 0 counts that job's packets, on ports of its slice; PROTO_EN is for the instrument functions (R478). -/
theorem State.checker_allowed {n : Nat} {x : FoxFlow} (hproto : x.protoEn = true → s.instrument = true)
    (hjob : c.job ≠ 0 → x.job = c.job ∧ s.foxPortsIn n c.job = true) :
    ((x.protoEn && !s.instrument) || (decide (c.job ≠ 0) && (decide (x.job ≠ c.job) || !s.foxPortsIn n c.job))) = false := by
  have hproto' : (x.protoEn && !s.instrument) = false := by cases h : x.protoEn <;> simp [hproto, h]
  have hjob' : (decide (c.job ≠ 0) && (decide (x.job ≠ c.job) || !s.foxPortsIn n c.job)) = false := by
    by_cases h : c.job = 0
    · simp [h]
    · simp [hjob h]
  rw [hproto', hjob', Bool.or_false]

end Sys2Proof.Machine
end

section
/-! PROOF. The obligation on the commands of mirror sessions and Fox units. -/

namespace Sys2Proof.Proofs

open Sys2Proof Sys2Proof.Machine

/-- Settles O25: each command passes the checks of its parameter words and of its permission, and what is left of its body is the branch that the
premises choose. -/
theorem mirrorAndFoxCommands : Obligations.MirrorAndFoxCommands := by
  refine ⟨?set, ?clear, ?stream, ?checker, ?reset, ?now, ?armed, ?stop, ?read⟩
  case set =>
    intro s u i c k x hi ht hu hk hx h0 hdir hport h1 h2 h3 hap hsnap hadst h4 hheld hinst hslice
    subst hi hu hk hx
    rw [exec_mirrorSet, State.mirrorSet, State.runCmd_of_body ht]
    rw [Ans.check_ok _ _ _ (by simp [h0, hdir, hport, h1, h2, h3, hap, hsnap, hadst, h4])]
    exact if_neg (by rw [State.mirror_free hheld, State.mirror_allowed hinst hslice]; decide)
  case clear =>
    intro s u i c k hi ht hu hk h0 hheld
    subst hi hu hk
    rw [exec_mirrorClear, State.mirrorClear, State.runCmd_of_body ht]
    rw [Ans.check_ok _ _ _ (by simp [h0])]
    exact if_neg (ne_true_of_eq_false (State.mirror_free hheld))
  case stream =>
    intro s u i c n x v hi ht hu hn h0 hlt hmay hx hchk hrun hjob hq
    subst hi hu hn hx
    rw [exec_foxCfgStream, State.foxCfgStream, State.foxCfg_of_stopped ht ⟨h0, hlt, hmay⟩ hchk hrun]
    simp only [hjob, hq]
    rfl
  case checker =>
    intro s u i c n x hi ht hu hn h0 hlt hmay hx hk h1 h2 h3 hrun hproto hjob
    subst hi hu hn
    rw [exec_foxCfgChecker, State.foxCfgChecker, State.foxCfg_of_stopped ht ⟨h0, hlt, hmay⟩ (by simp [hk, h1, h2, h3]) hrun]
    subst hx
    exact if_neg (ne_true_of_eq_false (State.checker_allowed hproto hjob))
  case reset =>
    intro s u i c n v hi ht hu hn h0 hlt hmay h1 hrun hv
    subst hi hu hn hv
    rw [exec_foxCfgClear, State.foxCfgClear, State.foxCfg_of_stopped ht ⟨h0, hlt, hmay⟩ (by simp [h1]) hrun rfl]
  case now =>
    intro s u i c n hi ht hu hn h0 hlt hmay hle
    subst hi hu hn
    rw [exec_foxStart, State.foxStart, State.runCmd_of_body ht]
    rw [State.withFox_of_open _ ⟨h0, hlt, hmay⟩ rfl, if_pos hle]
  case armed =>
    intro s u i c n hi ht hu hn h0 hlt hmay hlt'
    subst hi hu hn
    rw [exec_foxStart, State.foxStart, State.runCmd_of_body ht]
    rw [State.withFox_of_open _ ⟨h0, hlt, hmay⟩ rfl, if_neg (Nat.not_le.2 hlt')]
  case stop =>
    intro s u i c n hi ht hu hn h0 hlt hmay
    subst hi hu hn
    rw [exec_foxStop, State.foxStop, State.runCmd_of_body ht]
    rw [State.withFox_of_open _ ⟨h0, hlt, hmay⟩ rfl]
  case read =>
    intro s u i c n hi ht hu hn h0 hlt hmay
    subst hi hu hn
    rw [exec_foxRead, State.foxRead, State.runCmd_of_body ht]
    rw [State.withFox_of_open _ ⟨h0, hlt, hmay⟩ rfl]

end Sys2Proof.Proofs
end

section
/-! PROOF. A page of a deep segment that is read back while no cell of the den is free on die (R146, R157). -/

namespace Sys2Proof.Proofs

open Sys2Proof Sys2Proof.Machine

/-- A TC2 packet of one cell in the deep segment of queue 1 of port 0, its cell given back to the die. -/
def pagedPacket : Held :=
  { id := 1, pkt := { hdr := { tc := 2 } }, port := some 0, att := some 0, queue := 1, arrived := 1, complete := true, released := true, deep := true }

/-- Den 0 holds that packet in one page, and every cell of its P0 is in use. -/
def holdsPaged : State :=
  (({ State.reset with sw := { State.reset.sw with held := [pagedPacket] } } : State).setQueue (qKey 0 0 1) { pages := [1] }).setPool 0 0
    { State.reset.pool 0 0 with used := (State.reset.pool 0 0).size, level := 3 }

/-- The page has been read back and is freed. -/
def pageFreed : State :=
  (holdsPaged.setQueue (qKey 0 0 1) { holdsPaged.queue (qKey 0 0 1) with pages := [], deepRead := (holdsPaged.queue (qKey 0 0 1)).deepRead + 1 }).givePage
    0 pagedPacket.pkt.hdr.tc

/-- The packet finds no cell on die. -/
theorem pageFreed_unDeep : pageFreed.unDeep (qKey 0 0 1) 0 [pagedPacket] = none := by decide +kernel

/-- The page of a packet that finds no cell waits in its queue. -/
theorem readPage_keeps_page : ((settle holdsPaged (holdsPaged.readPage 0 0 1)).queue (qKey 0 0 1)).pages = [1] := by decide +kernel

/-- Freed all the same, the page is no longer in its queue. -/
theorem pageFreed_pages : ((settle holdsPaged pageFreed).queue (qKey 0 0 1)).pages = [] := by decide +kernel

/-- Refutes O7: the clause on a page read back frees it in any case, and the row leaves the page in its queue while a packet whose cells are all back
finds no cell free on die. -/
theorem not_deepPagesAndSamples : ¬ Obligations.DeepPagesAndSamples := by
  unfold Obligations.DeepPagesAndSamples
  rintro ⟨-, readBack, -, -⟩
  have hrow := readBack holdsPaged 0 0 1 1 [] pagedPacket [] (by decide) (by decide) rfl rfl
  have hstate : settle holdsPaged (holdsPaged.readPage 0 0 1) =
      settle holdsPaged ((pageFreed.unDeep (qKey 0 0 1) 0 [pagedPacket]).getD pageFreed) := Host.Outcome.next.inj hrow
  rw [pageFreed_unDeep, Option.getD_none] at hstate
  have hpages := readPage_keeps_page
  rw [hstate, pageFreed_pages] at hpages
  exact absurd hpages (by decide)

end Sys2Proof.Proofs
end

section
/-! PROOF. What the commands of TC1 flows do where Keeper takes them (R187, R390), one equation for each row first. -/

namespace Sys2Proof.Machine

variable {s : State} {c : Cmd}

theorem exec_tc1Admit (s : State) (c : Cmd) : exec (.tc1Admit c) s = .next (settle s (s.tc1Admit c)) := rfl
theorem exec_tc1Release (s : State) (c : Cmd) : exec (.tc1Release c) s = .next (settle s (s.tc1Release c)) := rfl
theorem exec_tc1Query (s : State) (c : Cmd) : exec (.tc1Query c) s = .next (settle s (s.tc1Query c)) := rfl
theorem exec_tc1HopHold (s : State) (c : Cmd) : exec (.tc1HopHold c) s = .next (settle s (s.tc1HopHold c)) := rfl
theorem exec_tc1HopCommit (s : State) (c : Cmd) : exec (.tc1HopCommit c) s = .next (settle s (s.tc1HopCommit c)) := rfl
theorem exec_tc1HopRelease (s : State) (c : Cmd) : exec (.tc1HopRelease c) s = .next (settle s (s.tc1HopRelease c)) := rfl

/-- The parameter words of a TC1_ADMIT name endpoints of the job, the source at port `p`, and a rate, burst and largest packet in range (R390). -/
structure State.AdmitWords (s : State) (c : Cmd) (p : Nat) : Prop where
  down : s.downPort (c.p 0) = some p
  src : c.p 0 < 8192
  srcJob : s.inJob c.job (c.p 0) = true
  dst : c.p 1 < 9216
  dstJob : 8192 ≤ c.p 1 ∨ s.inJob c.job (c.p 1) = true
  rate : 1 ≤ c.p 2 ∧ c.p 2 < 2 ^ 20
  burst : 1 ≤ c.p 3 ∧ c.p 3 < 2 ^ 16
  maxLen : 1 ≤ c.p 4 ∧ c.p 4 ≤ 4132

/-- The flow that a TC1_ADMIT asks for: the lowest handle of its job that no flow has, from port `p` over the modules to its destination (R187). -/
def State.admitFlow (s : State) (c : Cmd) (p : Nat) : Flow :=
  { handle := ((List.range 65536).find? (fun k => (s.flowOf (k + c.job * 65536)).isNone)).getD 0 + c.job * 65536, job := c.job, src := c.p 0,
    dst := c.p 1, rate := c.p 2, burst := c.p 3, maxLen := c.p 4, dReq := c.p 5, ingress := p,
    next := (s.flowPath (c.p 1)).headD (c.p 1), path := s.flowPath (c.p 1), admits := true }

/-- The den that the egress port of an admitted flow is preferred in (R187). -/
def admitDen (c : Cmd) (p : Nat) : Nat := if c.p 1 < 8192 then bits (c.p 1) 0 7 / 32 else denOf p

/-- The delay of a flow whose only hop is this leaf's: the bound of the hop and the links from its source and to its destination (R58, R187). -/
def State.firstDelay (s : State) (c : Cmd) (g : Flow) : Nat :=
  g.hopBound + s.linkDelay none (c.p 0) s.ownId + (if g.port < 192 then s.linkDelay (some g.port) s.ownId (c.p 1) else 0)

/-- The checks that TC1_ADMIT makes of its parameter words (R380, R390). -/
theorem State.AdmitWords.checks {p : Nat} (h : s.AdmitWords c p) :
    ([(0, (if c.p 0 < 8192 then s.downPort (c.p 0) else none).isSome && s.inJob c.job (c.p 0)),
      (1, c.p 1 < 9216 && (8192 ≤ c.p 1 || s.inJob c.job (c.p 1))), (2, 1 ≤ c.p 2 && c.p 2 < 2 ^ 20), (3, 1 ≤ c.p 3 && c.p 3 < 2 ^ 16),
      (4, 1 ≤ c.p 4 && c.p 4 ≤ 4132)] : List (Nat × Bool)).all (·.2) = true := by
  simp [-Nat.reducePow, h.down, h.src, h.srcJob, h.dst, h.dstJob, h.rate, h.burst, h.maxLen]

/-- A flow that ends at this leaf and whose own hop meets the delay it asks for is committed at once (R187). -/
theorem State.tc1Admit_of_met {i : OpInfo} {p : Nat} {v : State} {g : Flow}
    (hi : i = { op := 0x0404, lens := lenIs 40, states := stA, j := true, change := true, long := true }) (ht : s.Takes i c)
    (hw : (s.cmdBegin c).AdmitWords c p) (hpath : (s.cmdBegin c).flowPath (c.p 1) = [])
    (hhold : (s.cmdBegin c).holdHop ((s.cmdBegin c).admitFlow c p) (c.p 1) (admitDen c p) = some (v, g)) (hg : g.path = [])
    (hd : (v.updFlow g).firstDelay c g ≤ g.dReq) :
    s.tc1Admit c = ((v.updFlow g).commitPath g (v.updFlow g).nextExecId ((v.updFlow g).firstDelay c g)).cmdEnd i c
      { goes := true, data := [g.handle, 2, 0, (v.updFlow g).firstDelay c g] } := by
  subst hi
  rw [State.tc1Admit, State.runCmd_of_body ht]
  rw [Ans.check_ok _ _ _ hw.checks]
  simp only [State.admitFlow, admitDen, hpath, List.headD_nil] at hhold
  simp only [hw.down, hw.src, hpath, hhold, hg, if_true, Option.getD_some, List.isEmpty_nil, List.headD_nil, Bool.not_true, Bool.false_and,
    Bool.true_or, Bool.false_eq_true, if_false]
  exact if_neg (Nat.not_lt.2 hd)

/-- A flow that this leaf's own hop cannot take is refused with RESOURCE_BUSY, the hop 1 (R187, R390). -/
theorem State.tc1Admit_of_refused {i : OpInfo} {p : Nat}
    (hi : i = { op := 0x0404, lens := lenIs 40, states := stA, j := true, change := true, long := true }) (ht : s.Takes i c)
    (hw : (s.cmdBegin c).AdmitWords c p) (htime : (s.cmdBegin c).flowPath (c.p 1) = [] ∨ (s.cmdBegin c).time.domainValid = true)
    (hhold : (s.cmdBegin c).holdHop ((s.cmdBegin c).admitFlow c p) (((s.cmdBegin c).flowPath (c.p 1)).headD (c.p 1)) (admitDen c p) = none) :
    s.tc1Admit c = (s.cmdBegin c).cmdEnd i c { status := 0x21, q := [0, 0, 1] } := by
  subst hi
  rw [State.tc1Admit, State.runCmd_of_body ht]
  rw [Ans.check_ok _ _ _ hw.checks]
  have hopen : (!((s.cmdBegin c).flowPath (c.p 1)).isEmpty && !(s.cmdBegin c).time.domainValid) = false := by
    rcases htime with h | h <;> simp [h]
  simp only [hw.down, hw.src, hopen, if_true, Option.getD_some, Bool.false_eq_true, if_false]
  split
  next => rfl
  next v g h =>
    have hnone : none = some (v, g) := by
      rw [← h, ← hhold, State.admitFlow, admitDen]
      cases (s.cmdBegin c).flowPath (c.p 1) <;> rfl
    exact absurd hnone nofun

/-- A flow of the command's job is handed to the command. -/
theorem State.withFlow_of_owned {f : Flow} (k : Flow → State × Ans) (hf : s.flowOf (c.p 0) = some f) (hj : f.job = c.job) :
    s.withFlow c k = k f := by
  rw [State.withFlow, hf]
  exact if_neg (not_not_intro hj)

/-- A handle that no flow has is BAD_PARAM (R380). -/
theorem State.withFlow_of_none (k : Flow → State × Ans) (hf : s.flowOf (c.p 0) = none) : s.withFlow c k = (s, .bad 0) := by
  rw [State.withFlow, hf]

end Sys2Proof.Machine
end

section
/-! PROOF. The obligation on the commands of TC1 flows. -/

namespace Sys2Proof.Proofs

open Sys2Proof Sys2Proof.Machine

/-- Settles O17: TC1_ADMIT by the choice of its own hop; every other command passes its checks, and what is left of its body is the branch that the
premises choose. -/
theorem flowAdmissionCommands : Obligations.FlowAdmissionCommands := by
  refine ⟨?meets, ?busy, ?release, ?query, ?unknown, ?hold, ?commit, ?free⟩
  case meets =>
    intro s u i c p pref d f g v hi ht hu hdown hsrc hsrcJob hdst hdstJob hr1 hr hb1 hb hl1 hl hf hpref hpath hhold hg hd hmet
    subst hi hu hpref hd hf
    rw [hpath] at hhold
    have hw : (s.cmdBegin c).AdmitWords c p := ⟨hdown, hsrc, hsrcJob, hdst, hdstJob, ⟨hr1, hr⟩, ⟨hb1, hb⟩, ⟨hl1, hl⟩⟩
    rw [exec_tc1Admit, State.tc1Admit_of_met rfl ht hw hpath (by rw [State.admitFlow, hpath]; exact hhold) hg hmet]
    rfl
  case busy =>
    intro s u i c p pref f hi ht hu hdown hsrc hsrcJob hdst hdstJob hr1 hr hb1 hb hl1 hl hf hpref htime hhold
    subst hi hu hpref hf
    have hw : (s.cmdBegin c).AdmitWords c p := ⟨hdown, hsrc, hsrcJob, hdst, hdstJob, ⟨hr1, hr⟩, ⟨hb1, hb⟩, ⟨hl1, hl⟩⟩
    rw [exec_tc1Admit, State.tc1Admit_of_refused rfl ht hw htime hhold]
  case release =>
    intro s u i c f t hi ht hu hf hj hph htm
    subst hi hu htm
    rw [exec_tc1Release, State.tc1Release, State.runCmd_of_body ht]
    rw [State.withFlow_of_owned _ hf hj, if_neg (not_not_intro hph)]
  case query =>
    intro s u i c f hi ht hu hf hj
    subst hi hu
    rw [exec_tc1Query, State.tc1Query, State.runCmd_of_body ht]
    rw [State.withFlow_of_owned _ hf hj]
  case unknown =>
    intro s u i c hi ht hu hf
    subst hi hu
    rw [exec_tc1Query, State.tc1Query, State.runCmd_of_body ht]
    rw [State.withFlow_of_none _ hf]
  case hold =>
    intro s u i c f g v hi ht hu hact h0 hin h1 h2 hr1 hr hb1 hb hl1 hl hf hnew hhold
    subst hi hu hf
    rw [exec_tc1HopHold, State.tc1HopHold, tc1HopInfo, State.runCmd_of_body ht]
    rw [Ans.check_ok _ _ _ (by simp [-Nat.reducePow, hact, h0, hin, h1, h2, hr1, hr, hb1, hb, hl1, hl])]
    simp only [hnew, hhold, Option.isSome_none, Bool.false_eq_true, if_false]
  case commit =>
    intro s u i c f hi ht hu hact h0 hf hph
    subst hi hu
    rw [exec_tc1HopCommit, State.tc1HopCommit, tc1HopInfo, State.runCmd_of_body ht]
    rw [Ans.check_ok _ _ _ (by simp [hact, h0]), hf]
    exact if_neg (not_not_intro hph)
  case free =>
    intro s u i c f hi ht hu hact h0 hf
    subst hi hu
    rw [exec_tc1HopRelease, State.tc1HopRelease, tc1HopInfo, State.runCmd_of_body ht]
    rw [Ans.check_ok _ _ _ (by simp [hact, h0]), hf]

end Sys2Proof.Proofs
end

section
/-! PROOF. What the commands of regions and channels do where Keeper takes them (R345, R346, R353, R358, R392), one equation for each row first. -/

namespace Sys2Proof.Machine

variable {s : State} {c : Cmd}

theorem exec_regionCreate (s : State) (c : Cmd) : exec (.regionCreate c) s = .next (settle s (s.regionCreate c)) := rfl
theorem exec_regionRelease (s : State) (c : Cmd) : exec (.regionRelease c) s = .next (settle s (s.regionRelease c)) := rfl
theorem exec_regionReload (s : State) (c : Cmd) : exec (.regionReload c) s = .next (settle s (s.regionReload c)) := rfl
theorem exec_regionQuery (s : State) (c : Cmd) : exec (.regionQuery c) s = .next (settle s (s.regionQuery c)) := rfl
theorem exec_memFlush (s : State) (c : Cmd) : exec (.memFlush c) s = .next (settle s (s.memFlush c)) := rfl
theorem exec_memFlushAll (s : State) (c : Cmd) : exec (.memFlushAll c) s = .next (settle s (s.memFlushAll c)) := rfl
theorem exec_memRetrain (s : State) (c : Cmd) : exec (.memRetrain c) s = .next (settle s (s.memRetrain c)) := rfl

/-! The region that a handle names (R380, steps 7 and 8). -/

/-- A region of the command's job is handed to the command. -/
theorem State.withRegion_of_owned {n : Nat} (k : Nat → State × Ans) (hn : s.regionOf (c.p 0) = some n) (hj : (s.region n).job = c.job) :
    s.withRegion c k = k n := by
  rw [State.withRegion, hn]
  exact if_neg (not_not_intro hj)

/-- A handle that is stale is BAD_PARAM. -/
theorem State.withRegion_of_none (k : Nat → State × Ans) (hn : s.regionOf (c.p 0) = none) : s.withRegion c k = (s, .bad 0) := by
  rw [State.withRegion, hn]

/-! A retrain on command (R192, R358). -/

/-- The parameter word of a MEM_RETRAIN names a channel of the variant that is neither in a retrain nor fenced. -/
structure State.CanRetrain (s : State) (c : Cmd) : Prop where
  rest : bits (c.p 0) 10 22 = 0
  there : s.chanExists (bit (c.p 0) 9) (bits (c.p 0) 0 9) = true
  notBusy : (s.chan (bit (c.p 0) 9) (bits (c.p 0) 0 9)).st ≠ 3
  notFenced : (s.chan (bit (c.p 0) 9) (bits (c.p 0) 0 9)).st ≠ 4

/-- Such a retrain starts where no admitted bound is broken, or where it is forced, and then puts the den's flows at risk. -/
theorem State.memRetrain_of_free {i : OpInfo} {d : Nat}
    (hi : i = { op := 0x0605, lens := lenIs 20, states := stRA, m := true, long := true, force := true }) (ht : s.Takes i c)
    (h : (s.cmdBegin c).CanRetrain c) (hd : d = bits (c.p 0) 0 9 / (s.cmdBegin c).tierChans (bit (c.p 0) 9))
    (hfree : c.force = true ∨ (s.cmdBegin c).retrainBreaks d = false) :
    s.memRetrain c =
      let u := (s.cmdBegin c).retrainStart (bit (c.p 0) 9) (bits (c.p 0) 0 9) false
      (if c.force then u.tc1DenRisk d true else u).cmdEnd i c
        { goes := true, data := [1024 * b2n (bit (c.p 0) 9) + bits (c.p 0) 0 9] } := by
  subst hi hd
  have hst : (decide (((s.cmdBegin c).chan (bit (c.p 0) 9) (bits (c.p 0) 0 9)).st = 3) ||
      decide (((s.cmdBegin c).chan (bit (c.p 0) 9) (bits (c.p 0) 0 9)).st = 4)) = false := by simp [h.notBusy, h.notFenced]
  have hgo : (!c.force && (s.cmdBegin c).retrainBreaks (bits (c.p 0) 0 9 / (s.cmdBegin c).tierChans (bit (c.p 0) 9))) = false := by
    rcases hfree with hf | hb
    · simp [hf]
    · simp [hb]
  rw [State.memRetrain, State.runCmd_of_body ht]
  rw [Ans.check_ok _ _ _ (by simp [h.rest, h.there])]
  simp only [hst, hgo, Bool.false_eq_true, if_false]

end Sys2Proof.Machine
end

section
/-! PROOF. The obligation on the commands of regions and channels. -/

namespace Sys2Proof.Proofs

open Sys2Proof Sys2Proof.Machine

/-- Settles O20: each command passes its checks, and what is left of its body is the branch that the premises choose. -/
theorem regionCommands : Obligations.RegionCommands := by
  refine ⟨?create, ?release, ?reload, ?query, ?stale, ?flush, ?flushAll, ?retrain, ?forced⟩
  case create =>
    intro s u i c sl pl n k f ph r a hi ht hu hsl hpl hn htype hpl5 h0 hn1 h1 hspread hjob hprot hreb hk hf hph hr ha
    subst hi hu hsl hpl hn hr ha
    have hpair : (bit (c.p 0) 9 && !(s.cmdBegin c).paired2) = false := by
      cases h : bit (c.p 0) 9 <;> simp [hprot, h]
    have hfour : (bits (c.p 0) 3 3 != 4 || bits (c.p 1) 0 24 % 4 == 0) = true := by
      by_cases h : bits (c.p 0) 3 3 = 4
      · simp [hspread h]
      · simp [h]
    rw [exec_regionCreate, State.regionCreate, State.runCmd_of_body ht]
    rw [Ans.check_ok _ _ _ (by simp [htype, hpl5, h0, hn1, h1, hfour, hjob])]
    simp only [hpair, hreb, hk, hf, hph, Bool.false_eq_true, if_false]
  case release =>
    intro s u i c k r hi ht hu hs hsame hk hr hj hst hnamed
    subst hi hu hr
    have hgo : ((decide (((s.cmdBegin c).region k).state ≠ .ready) && decide (((s.cmdBegin c).region k).state ≠ .lost)) ||
        (s.cmdBegin c).regionNamed k) = false := by
      rcases hst with h | h <;> simp [h, hnamed]
    rw [exec_regionRelease, State.regionRelease]
    simp only [hs, hsame]
    rw [State.runCmd_of_body ht]
    rw [State.withRegion_of_owned _ hk hj]
    exact if_neg (ne_true_of_eq_false hgo)
  case reload =>
    intro s u i c k r ph hi ht hu hs hsame hk hr hj hst hreb hprot hph
    subst hi hu hr
    have hgo : (decide (((s.cmdBegin c).region k).state ≠ .lost) || (s.cmdBegin c).rebuilding ((s.cmdBegin c).region k).slow
        ((s.cmdBegin c).region k).place || (((s.cmdBegin c).region k).prot && !(s.cmdBegin c).paired2)) = false := by
      cases h : ((s.cmdBegin c).region k).prot <;> simp [hst, hreb, hprot, h]
    rw [exec_regionReload, State.regionReload]
    simp only [hs, hsame]
    rw [State.runCmd_of_body ht]
    rw [State.withRegion_of_owned _ hk hj]
    simp only [hgo, hph, Bool.false_eq_true, if_false]
  case query =>
    intro s u i c k hi ht hu hk hj
    subst hi hu
    rw [exec_regionQuery, State.regionQuery, State.runCmd_of_body ht]
    rw [State.withRegion_of_owned _ hk hj]
  case stale =>
    intro s u i c hi ht hu hk
    subst hi hu
    rw [exec_regionQuery, State.regionQuery, State.runCmd_of_body ht]
    rw [State.withRegion_of_none _ hk]
  case flush =>
    intro s u i c hi ht hu h0 hch
    subst hi hu
    rw [exec_memFlush, State.memFlush, State.runCmd_of_body ht]
    rw [Ans.check_ok _ _ _ (by simp [h0, hch])]
  case flushAll =>
    intro s u i c hi ht hu h0
    subst hi hu
    rw [exec_memFlushAll, State.memFlushAll, State.runCmd_of_body ht]
    exact Ans.check_ok _ _ _ (by simp [h0])
  case retrain =>
    intro s u i c sl ch hi ht hu hsl hch h0 hthere hbusy hfenced hforce hbreaks
    subst hi hu hsl hch
    rw [exec_memRetrain, State.memRetrain_of_free rfl ht ⟨h0, hthere, hbusy, hfenced⟩ rfl (.inr hbreaks), hforce]
    rfl
  case forced =>
    intro s u i c sl ch hi ht hu hsl hch h0 hthere hbusy hfenced hforce
    subst hi hu hsl hch
    rw [exec_memRetrain, State.memRetrain_of_free rfl ht ⟨h0, hthere, hbusy, hfenced⟩ rfl (.inl hforce), hforce]
    rfl

end Sys2Proof.Proofs
end

section
/-! PROOF. What the commands of contexts do where Keeper takes them (R205–R209, R228, R229, R391), one equation for each row first. -/

namespace Sys2Proof.Machine

variable {s : State} {c : Cmd}

theorem exec_ctxCreate (s : State) (c : Cmd) : exec (.ctxCreate c) s = .next (settle s (s.ctxCreate c)) := rfl
theorem exec_ctxRearm (s : State) (c : Cmd) : exec (.ctxRearm c) s = .next (settle s (s.ctxRearm c)) := rfl
theorem exec_ctxRelease (s : State) (c : Cmd) : exec (.ctxRelease c) s = .next (settle s (s.ctxRelease c)) := rfl
theorem exec_ctxAbort (s : State) (c : Cmd) : exec (.ctxAbort c) s = .next (settle s (s.ctxAbort c)) := rfl
theorem exec_ctxQuery (s : State) (c : Cmd) : exec (.ctxQuery c) s = .next (settle s (s.ctxQuery c)) := rfl
theorem exec_ctxPeerHold (s : State) (c : Cmd) : exec (.ctxPeerHold c) s = .next (settle s (s.ctxPeerHold c)) := rfl
theorem exec_ctxPeerCommit (s : State) (c : Cmd) : exec (.ctxPeerCommit c) s = .next (settle s (s.ctxPeerCommit c)) := rfl
theorem exec_ctxPeerRelease (s : State) (c : Cmd) : exec (.ctxPeerRelease c) s = .next (settle s (s.ctxPeerRelease c)) := rfl
theorem exec_ctxPeerRearm (s : State) (c : Cmd) : exec (.ctxPeerRearm c) s = .next (settle s (s.ctxPeerRearm c)) := rfl
theorem exec_ctxPeerFree (s : State) (c : Cmd) : exec (.ctxPeerFree c) s = .next (settle s (s.ctxPeerFree c)) := rfl
theorem exec_ctxPeerAbort (s : State) (c : Cmd) : exec (.ctxPeerAbort c) s = .next (settle s (s.ctxPeerAbort c)) := rfl
theorem exec_ctxPeerFail (s : State) (c : Cmd) : exec (.ctxPeerFail c) s = .next (settle s (s.ctxPeerFail c)) := rfl

/-! A creation (R205, R207). -/

/-- The context `x` that a CTX_CREATE describes passes the checks of its descriptor at this leaf, which is the leaf of the member of rank 0, and
what it names belongs to the command's job (R204, R205, R385). -/
structure State.Creates (s : State) (c : Cmd) (x : Ctx) : Prop where
  shape : x = s.ctxShape ((List.range 16).map c.p)
  checks : (s.descChecks x ++
    [(2, chipRack ((s.groupMembers (groupSlice ((List.range 16).map c.p))).head?.getD 0) == (s.pl.rx, s.pl.ry) && !s.pl.spine)]).all (·.2) = true
  job : x.job = c.job
  epi : x.epiCores = 0 ∨ ∀ b, s.epiBinding x = some b → b.job = c.job
  place : x.op = 5 → (Tbl.get ({} : PlaceTable) s.coll.tables x.place).job = c.job

/-- A binding that such a context names for its epilogue is of no other job. -/
theorem State.Creates.epi_owned {x : Ctx} {b : Binding} (h : s.Creates c x) (hb : s.epiBinding x = some b) :
    ¬ (x.epiCores != 0 && b.job != c.job) = true := by
  rcases h.epi with h | h
  · simp [h]
  · simp [h b hb]

/-- Nor is the placement table that it names. -/
theorem State.Creates.place_owned {x : Ctx} (h : s.Creates c x) :
    ¬ (decide (x.op = 5) && decide ((Tbl.get ({} : PlaceTable) s.coll.tables x.place).job ≠ c.job)) = true := by
  by_cases h5 : x.op = 5
  · simp [h.place h5]
  · simp [h5]

/-- How a creation ends that a leaf alone can serve: the lowest free number is held and committed, or none is free and the answer is RESOURCE_BUSY
with item 1 (R205, R207, R391). -/
inductive State.CreateEnds (s : State) (x : Ctx) : State → Ans → Prop
  | held (k : Nat) (hpick : s.ctxPick 0 = some k) (hitem : s.ctxItem x = 0) (hleaves : x.leaves.filter (· != s.ownId) = [])
      (hown : (s.ctxHold k x true).ownId = s.ownId) : CreateEnds s x ((s.ctxHold k x true).ctxCommit k) (.ok [k])
  | busy (hpick : s.ctxPick 0 = none) : CreateEnds s x (s.createBusy s.ownId 1).1 { status := 0x21, q := [0, s.ownId + 65536] }

/-- A CTX_CREATE that passes its checks ends so. -/
theorem State.ctxCreate_of_creates {i : OpInfo} {x : Ctx} {v : State} {a : Ans}
    (hi : i = { op := 0x0500, lens := lenIs 80, states := stA, j := true, change := true, mirrored := true }) (ht : s.Takes i c)
    (h : (s.cmdBegin c).Creates c x) (he : (s.cmdBegin c).CreateEnds x v a) : s.ctxCreate c = v.cmdEnd i c a := by
  subst hi
  rw [State.ctxCreate, State.runCmd_of_body ht]
  simp only [← h.shape]
  rw [Ans.check_ok _ _ _ h.checks, if_neg (not_not_intro h.job)]
  refine (if_neg ?epi).trans ((if_neg h.place_owned).trans ?_)
  case epi =>
    split
    next b hb => exact h.epi_owned hb
    next => exact Bool.false_ne_true
  cases he with
  | held k hpick hitem hleaves hown =>
    simp only [hpick, hitem, hown, hleaves, ne_eq, not_true_eq_false, List.isEmpty_nil, if_false, if_true]
  | busy hpick =>
    rw [hpick]
    rfl

/-! Commands on a context (R208, R380, steps 7 to 9). -/

/-- A context of the command's job, in a state that the command allows, is handed to the command. -/
theorem State.withCtx_of_legal {extra : List (Nat × Bool)} {legal : CtxState → Bool} (k : Nat → State × Ans) (hx : c.p 0 < 4096)
    (hextra : extra.all (·.2) = true) (hlegal : legal (s.ctx (c.p 0)).state = true) (hj : (s.ctx (c.p 0)).job = c.job) :
    s.withCtx c extra legal k = k (c.p 0) := by
  rw [State.withCtx, Ans.check_ok _ _ _ (by simp [hx, hextra])]
  simp [hlegal, hj]

/-- The record of a context is told to its job, and to every job where nothing has been created (R231). -/
theorem State.ctxQuery_told {y : Ctx} (h : y.desc = [] ∨ y.job = c.job) : ¬ (!y.desc.isEmpty && decide (y.job ≠ c.job)) = true := by
  rcases h with h | h <;> simp [h]

end Sys2Proof.Machine
end

section
/-! PROOF. The obligation on the commands of contexts. -/

namespace Sys2Proof.Proofs

open Sys2Proof Sys2Proof.Machine

/-- Settles O18: a creation by whether a number is free; every other command passes its checks, and what is left of its body is the branch that the
premises choose. -/
theorem contextCommands : Obligations.ContextCommands := by
  refine ⟨?create, ?busy, ?rearm, ?release, ?abort, ?query, ?hold, ?commit, ?unhold, ?peerRearm, ?peerFree, ?peerAbort, ?peerFail⟩
  case create =>
    intro s u i c x k hi ht hu hx hchk hj hepi hpl hpick hitem hleaves hown
    subst hu
    rw [exec_ctxCreate, State.ctxCreate_of_creates hi ht ⟨hx, hchk, hj, hepi, hpl⟩ (.held k hpick hitem hleaves hown)]
  case busy =>
    intro s u i c x hi ht hu hx hchk hj hepi hpl hpick
    subst hu
    rw [exec_ctxCreate, State.ctxCreate_of_creates hi ht ⟨hx, hchk, hj, hepi, hpl⟩ (.busy hpick)]
  case rearm =>
    intro s u i c hi ht hu hlt hco hothers hdl hst hj
    subst hi hu
    rw [exec_ctxRearm, State.ctxRearm, State.runCmd_of_body ht]
    rw [State.withCtx_of_legal _ hlt (by simp [hco, hdl]) (by simp [hst]) hj]
    simp only [hothers, List.isEmpty_nil, if_true]
  case release =>
    intro s u i c hi ht hu hlt hco hothers hst hj
    subst hi hu
    rw [exec_ctxRelease, State.ctxRelease, State.runCmd_of_body ht]
    rw [State.withCtx_of_legal _ hlt (by simp [hco]) (by simpa using hst) hj]
    simp only [hothers, List.isEmpty_nil, if_true]
  case abort =>
    intro s u i c hi ht hu hlt hco hothers hst hj
    subst hi hu
    rw [exec_ctxAbort, State.ctxAbort, State.runCmd_of_body ht]
    rw [State.withCtx_of_legal _ hlt (by simp [hco]) (by simpa using hst) hj]
    simp only [hothers, List.isEmpty_nil, if_true]
  case query =>
    intro s u i c hi ht hu hlt hj
    subst hi hu
    rw [exec_ctxQuery, State.ctxQuery, State.runCmd_of_body ht]
    rw [Ans.check_ok _ _ _ (by simp [hlt])]
    exact if_neg (State.ctxQuery_told hj)
  case hold =>
    intro s u i c x hi ht hu hx h0 hlen hlt hchk hfree hitem
    subst hi hu hx
    rw [exec_ctxPeerHold, State.ctxPeerHold, ctxPeerInfo, State.runCmd_of_body ht]
    rw [Ans.check_ok _ _ _ (by simpa [h0, hlen, hlt, List.all_map, Function.comp_def] using hchk)]
    simp only [hfree, hitem, Bool.not_true, Bool.false_eq_true, ne_eq, not_true_eq_false, if_false]
  case commit =>
    intro s u i c hi ht hu h0 hlt hst
    subst hi hu
    rw [exec_ctxPeerCommit, State.ctxPeerCommit, ctxPeerInfo, State.runCmd_of_body ht]
    rw [Ans.check_ok _ _ _ (by simp [h0, hlt]), if_neg (not_not_intro hst)]
  case unhold =>
    intro s u i c hi ht hu h0 hlt
    subst hi hu
    rw [exec_ctxPeerRelease, State.ctxPeerRelease, ctxPeerInfo, State.runCmd_of_body ht]
    exact Ans.check_ok _ _ _ (by simp [h0, hlt])
  case peerRearm =>
    intro s u i c hi ht hu h0 hlt hlen hst
    subst hi hu
    rw [exec_ctxPeerRearm, State.ctxPeerRearm, ctxPeerInfo, State.runCmd_of_body ht]
    rw [Ans.check_ok _ _ _ (by simp [h0, hlt, hlen]), if_neg (not_not_intro hst)]
  case peerFree =>
    intro s u i c hi ht hu h0 hlt hst
    subst hi hu
    rw [exec_ctxPeerFree, State.ctxPeerFree, ctxPeerInfo, State.runCmd_of_body ht]
    rw [Ans.check_ok _ _ _ (by simp [h0, hlt])]
    exact if_neg (by rcases hst with h | h <;> simp [h])
  case peerAbort =>
    intro s u i c hi ht hu h0 hlt hst
    subst hi hu
    rw [exec_ctxPeerAbort, State.ctxPeerAbort, ctxPeerInfo, State.runCmd_of_body ht]
    rw [Ans.check_ok _ _ _ (by simp [h0, hlt])]
    exact if_neg (by rcases hst with h | h <;> simp [h])
  case peerFail =>
    intro s u i c hi ht hu h0 hlt hlen
    subst hi hu
    rw [exec_ctxPeerFail, State.ctxPeerFail, ctxPeerInfo, State.runCmd_of_body ht]
    exact Ans.check_ok _ _ _ (by simp [h0, hlt, hlen])

end Sys2Proof.Proofs
end

section
/-! PROOF. What Marten, the dispatch unit and the lookup path do with a packet handed to them (R221, R222, R323, R330, R332), one equation for each row
first. -/

namespace Sys2Proof.Machine

variable {s : State} {p : Nat} {k : Pkt}

/-- A packet of a member or of a ring goes to Marten by the row of its type. -/
theorem exec_collReceived {i : Pkt → Instr} (hp : p < 192)
    (hi : i = .collContribReceived p ∧ k.hdr.type = 0x08 ∨ i = .collPartialReceived p ∧ k.hdr.type = 0x0A) :
    exec (i k) s = .next (settle s (s.martenIn p k)) := by
  rcases hi with ⟨rfl, ht⟩ | ⟨rfl, ht⟩
  · exact (next_settle_if_pos s _ hp).trans (next_settle_if_pos s _ ht)
  · exact (next_settle_if_pos s _ hp).trans (next_settle_if_pos s _ ht)

theorem exec_moeDispatchReceived (hp : p < 192) : exec (.moeDispatchReceived p k) s = .next (settle s (s.dispatchIn p k)) :=
  next_settle_if_pos s (s.dispatchIn p k) hp

theorem exec_moeReturnReceived (hp : p < 192) : exec (.moeReturnReceived p k) s = .next (settle s (s.returnIn p k)) :=
  next_settle_if_pos s (s.returnIn p k) hp

theorem exec_embLookupReceived (hp : p < 192) : exec (.embLookupReceived p k) s = .next (settle s (s.lookupIn p k)) :=
  next_settle_if_pos s (s.lookupIn p k) hp

section
variable (hk : (p, k) ∈ s.sw.delivered)
include hk

/-! The checks of R222 decide before the stream accepts the packet where the window refuses it, and after it everywhere else (R221). -/

theorem State.martenIn_of_refused {b : Nat} (hv : (s.taken p k).check222 k.hdr k.payload.length = .refused b) :
    s.martenIn p k = ((s.taken p k).bump (ctxReg k.hdr.ctx 0x14)).sendStatus k.hdr 0x21 := by
  simp [State.martenIn, hk, hv]

theorem State.martenIn_of_accept {b m : Nat} (hv : (s.taken p k).check222 k.hdr k.payload.length = .accept b m)
    (hok : ((s.taken p k).acceptTracked p k.hdr).2 = true) :
    s.martenIn p k = ((s.taken p k).acceptTracked p k.hdr).1.toSlot k.hdr.ctx b m k := by
  simp [State.martenIn, hk, hv, hok]

theorem State.martenIn_of_notMember (hv : (s.taken p k).check222 k.hdr k.payload.length = .notMember)
    (hok : ((s.taken p k).acceptTracked p k.hdr).2 = true) :
    s.martenIn p k = (((s.taken p k).acceptTracked p k.hdr).1.bump (baseColl + 0x10)).failedStatus k.hdr := by
  simp [State.martenIn, hk, hv, hok]

/-- A lookup of a table that its job does not own is counted and refused (R332). -/
theorem State.lookupIn_of_unowned (ht : k.hdr.type = 0x14)
    (hno : (Tbl.get ({} : EmbTable) (s.taken p k).coll.embs k.hdr.ctx).job = 0 ∨
      (Tbl.get ({} : EmbTable) (s.taken p k).coll.embs k.hdr.ctx).job ≠ k.hdr.job) :
    s.lookupIn p k = ((s.taken p k).bump (baseColl + 0x38)).sendStatus k.hdr 0x22 := by
  simp [State.lookupIn, hk, ht, hno]

/-- A lookup of the table's own job is posted to the attached core with the fewest open items. -/
theorem State.lookupIn_of_owned {t : EmbTable} {c : Nat} (ht : k.hdr.type = 0x14)
    (hget : Tbl.get ({} : EmbTable) (s.taken p k).coll.embs k.hdr.ctx = t) (h0 : t.job ≠ 0) (hj : t.job = k.hdr.job)
    (hbest : bestBy (fun a b => decide ((s.taken p k).openItems a < (s.taken p k).openItems b)) (t.cores.filterMap (s.taken p k).physOf) = some c) :
    s.lookupIn p k = (s.taken p k).postItem c
      { kind := 3, ctx := k.hdr.ctx, first := k.hdr.msg, count := k.payload.length, src := k.hdr.src, cells := k.payload } := by
  simp [State.lookupIn, hk, ht, hget, ← hj, h0, hbest]

end

/-! A token packet (R323). -/

/-- A packet of a token that its running context's member sends, in the shape of R323, within the window and for a batch that has not begun. -/
structure State.TokenNew (s : State) (c : Ctx) (k : Pkt) : Prop where
  running : c.state = .running
  job : c.job = k.hdr.job
  op : c.op = 5
  serves : c.standby = false
  code : k.hdr.offset % 2 ^ 16 = 0
  aligned : k.hdr.offset / 2 ^ 16 % 4096 = 0
  token : k.hdr.msg < c.batchTokens
  within : k.hdr.offset / 2 ^ 16 < c.tokenBytes
  whole : k.payload.length = packetLen c.tokenBytes (k.hdr.offset / 2 ^ 16 / 4096)
  sender : c.locals.idxOf k.hdr.src = k.hdr.msg / c.tpm
  member : k.hdr.msg / c.tpm < c.locals.length
  window : c.resolve k.hdr.chunk < s.windowEnd c
  unfreed : c.h ≤ c.resolve k.hdr.chunk
  noneAbove : c.freedAbove = []
  unopened : c.batch (c.resolve k.hdr.chunk) = none

/-- Such a packet is taken into its batch (R323). -/
theorem State.dispatchIn_of_new {u : State} {c : Ctx} (hk : (p, k) ∈ s.sw.delivered) (ht : k.hdr.type = 0x10)
    (hc : (s.taken p k).ctx k.hdr.ctx = c) (h : (s.taken p k).TokenNew c k) (hok : (s.taken p k).acceptTracked p k.hdr = (u, true)) :
    s.dispatchIn p k = u.tokenPart k.hdr.ctx (c.resolve k.hdr.chunk) k := by
  have hlive : ((decide (c.state = .armed) || decide (c.state = .running)) && c.job == k.hdr.job && c.op == 5 && !c.standby) = true := by
    simp [h.running, h.job, h.op, h.serves]
  have hshape : (k.hdr.offset % 2 ^ 16 == 0 && k.hdr.offset / 2 ^ 16 % 4096 == 0 && decide (k.hdr.msg < c.batchTokens)
      && decide (k.hdr.offset / 2 ^ 16 < c.tokenBytes) && k.payload.length == packetLen c.tokenBytes (k.hdr.offset / 2 ^ 16 / 4096)) = true := by
    simp [-Nat.reducePow, h.code, h.aligned, h.token, h.within, h.whole]
  have hdel : s.sw.delivered.contains (p, k) = true := by simpa using hk
  simp only [State.dispatchIn, hdel, ht, hc, hok, hlive, hshape, h.sender, h.unopened]
  simp only [Nat.not_le.2 h.window, Nat.not_le.2 h.member, Nat.not_lt.2 h.unfreed, h.noneAbove, List.contains_nil, ne_eq, not_true_eq_false,
    decide_false, Bool.not_true, Bool.and_false, Bool.or_false, Bool.false_eq_true, if_false]

/-! A return (R330). -/

/-- A packet of the return of expert `e` for a token of batch `b`, from the replica that took the token: the expert is one of the token's accepted
ones, and the packet, in the shape of R330, has not come before. -/
structure State.ReturnNew (s : State) (k : Pkt) (b e off : Nat) : Prop where
  batch : (s.ctx k.hdr.ctx).resolve k.hdr.chunk = b
  offset : k.hdr.offset = e + off * 2 ^ 16
  code : e < 2 ^ 16
  running : (s.ctx k.hdr.ctx).state = .running
  job : (s.ctx k.hdr.ctx).job = k.hdr.job
  op : (s.ctx k.hdr.ctx).op = 5
  accepted : e ∈ (s.token k.hdr.ctx b k.hdr.msg).accepted
  replica : s.replica (s.ctx k.hdr.ctx) b k.hdr.msg e = k.hdr.src
  aligned : off % 4096 = 0
  within : off < (s.ctx k.hdr.ctx).tokenBytes
  whole : k.payload.length = packetLen (s.ctx k.hdr.ctx).tokenBytes (off / 4096)
  unfinished : (s.token k.hdr.ctx b k.hdr.msg).finished = false
  fresh : (e, off) ∉ (s.token k.hdr.ctx b k.hdr.msg).rets

/-- Such a packet goes to its batch (R330). -/
theorem State.returnIn_of_new {u : State} {b e off : Nat} (hk : (p, k) ∈ s.sw.delivered) (ht : k.hdr.type = 0x11)
    (hok : (s.taken p k).acceptTracked p k.hdr = (u, true)) (h : u.ReturnNew k b e off) : s.returnIn p k = u.toBatch k.hdr.ctx b k := by
  have hdel : s.sw.delivered.contains (p, k) = true := by simpa using hk
  have he : k.hdr.offset % 2 ^ 16 = e := by rw [h.offset, Nat.add_mul_mod_self_right, Nat.mod_eq_of_lt h.code]
  have hoff : k.hdr.offset / 2 ^ 16 = off := by rw [h.offset, Nat.add_mul_div_right _ _ (by decide), Nat.div_eq_of_lt h.code, Nat.zero_add]
  simp only [State.returnIn, hdel, ht, hok, he, hoff, h.batch, h.replica, h.whole]
  simp [h.running, h.job, h.op, h.accepted, h.aligned, Nat.not_le.2 h.within, h.unfinished, h.fresh]

end Sys2Proof.Machine
end

section
/-! PROOF. What a slot read back and the timers of a context do in the states they are for (R208, R209, R218, R219, R229, R257), one equation for each
row first. -/

namespace Sys2Proof.Machine

variable {s : State} {x : Nat}

theorem exec_accBlockReadbackComplete_ok (s : State) (x k : Nat) :
    exec (.accBlockReadbackComplete x k true) s = .next (settle s (s.readBack x k)) := rfl
theorem exec_accBlockReadbackComplete_bad (s : State) (x k : Nat) :
    exec (.accBlockReadbackComplete x k false) s = .next (settle s (s.readBackBad x k)) := rfl
theorem exec_noticeTimer (h : (s.ctx x).state = .running) : exec (.noticeTimer x) s = .next (settle s (s.notice x)) :=
  next_settle_if_pos s (s.notice x) h
theorem exec_stepTimeout (s : State) (x k ph r : Nat) : exec (.stepTimeout x k ph r) s = .next (settle s (s.stepTimeout x k ph r)) := rfl
theorem exec_ctxDeadlineExpiry (s : State) (x : Nat) :
    exec (.ctxDeadlineExpiry x) s = .next (settle s (if (s.ctx x).op = 5 then s.moeExpire x else s.ctxExpire x)) := rfl
theorem exec_failureNoticeRepeat (s : State) (x : Nat) : exec (.failureNoticeRepeat x) s = .next (settle s (s.failRepeat x)) := rfl
theorem exec_ctxReleaseHoldExpiry (s : State) (x : Nat) : exec (.ctxReleaseHoldExpiry x) s = .next (settle s (s.ctxHoldOver x)) := rfl

/-! A slot read back (R257). -/

section
variable {k : Nat} {z : Slot} (hz : (s.ctx x).slot k = some z) (hr : z.reading = true)
include hz hr

theorem State.readBack_of_reading :
    s.readBack x k =
      let a := (s.roomFor x k).bumpBy (martenReg z.unit 0x1C) z.spilled
      z.waiting.foldl (fun s q => if (a.ctx x).op = 5 then s.toBatch x k q else s.toSlot x k ((a.ctx x).locals.idxOf q.hdr.src) q)
        (a.setCtx x ((a.ctx x).putSlot { z with reading := false, waiting := [], onDie := z.onDie + z.spilled, spilled := 0 })) := by
  simp only [State.readBack, hz, hr, Bool.not_true, Bool.false_eq_true, if_false]

theorem State.readBackBad_of_reading : s.readBackBad x k = (s.areaUe (z.unit / 4) 2).failCtx x 0x50 .data := by
  simp only [State.readBackBad, hz, hr, Bool.not_true, Bool.false_eq_true, if_false]

end

/-! Timers of a context. -/

theorem State.stepTimeout_of_open {k ph r : Nat}
    (h : s.ctxOpenPkts x (fun h => h.type == 0x0A && h.chunk == k % 65536 && bits h.offset 44 4 == ph && bits h.offset 43 1 == r) = true) :
    s.stepTimeout x k ph r = s.failCtx x 0x40 .step := if_pos h

/-- An MoE context with nothing open at its deadline is DONE (log 22). -/
theorem State.moeExpire_of_idle (hst : (s.ctx x).state = .running) (hb : (s.ctx x).batches = []) (hopen : s.ctxOpenPkts x (fun _ => true) = false) :
    s.moeExpire x = s.setCtx x { s.ctx x with state := .done } := by
  simp [State.moeExpire, hst, hb, hopen]

theorem State.failRepeat_of_owed (hst : (s.ctx x).state = .failed) (hn : (s.ctx x).noticesLeft ≠ 0) :
    s.failRepeat x = (s.setCtx x { s.ctx x with noticesLeft := (s.ctx x).noticesLeft - 1 }).ctxStatus x (s.ctx x).failChunk (s.ctx x).status := by
  simp [State.failRepeat, hst, hn]

theorem State.ctxHoldOver_of_held (h : (s.ctx x).busyHold = true) : s.ctxHoldOver x = s.setCtx x { s.ctx x with busyHold := false } := if_pos h

end Sys2Proof.Machine
end

section
/-! PROOF. The obligation on Marten's packets and the timers of a context. -/

namespace Sys2Proof.Proofs

open Sys2Proof Sys2Proof.Machine

/-- Settles O10: row by row, the row's own equation and then what its operation does under the premises. -/
theorem martenPacketsAndTimers : Obligations.MartenPacketsAndTimers := by
  refine ⟨?accept, ?refused, ?notMember, ?readBack, ?bad, ?token, ?ret, ?lookup, ?unowned, ?notice, ?step, ?deadline, ?idle, ?repeated, ?hold⟩
  case accept =>
    intro s p c m k i hp hk hi hv hok
    rw [exec_collReceived hp hi, State.martenIn_of_accept hk hv hok]
  case refused =>
    intro s p c k i hp hk hi hv
    rw [exec_collReceived hp hi, State.martenIn_of_refused hk hv]
  case notMember =>
    intro s p k i hp hk hi hv hok
    rw [exec_collReceived hp hi, State.martenIn_of_notMember hk hv hok]
  case readBack =>
    intro s x k z hz hr
    rw [exec_accBlockReadbackComplete_ok, State.readBack_of_reading hz hr]
  case bad =>
    intro s x k z hz hr
    rw [exec_accBlockReadbackComplete_bad, State.readBackBad_of_reading hz hr]
  case token =>
    intro s u p k c hp hk ht hc hst hj hop hsb hcode hal htok hlt hlen hsrc hmem hwin hh hab hb hok
    rw [exec_moeDispatchReceived hp, State.dispatchIn_of_new hk ht hc
      ⟨hst, hj, hop, hsb, hcode, hal, htok, hlt, hlen, hsrc, hmem, hwin, hh, hab, hb⟩ hok]
  case ret =>
    intro s u p b e off k c t hp hk ht hok hc hb htok hoff he hst hj hop hacc hrep hal hlt hlen hfin hnew
    subst hc htok
    rw [exec_moeReturnReceived hp, State.returnIn_of_new hk ht hok ⟨hb, hoff, he, hst, hj, hop, hacc, hrep, hal, hlt, hlen, hfin, hnew⟩]
  case lookup =>
    intro s p c k t hp hk ht hget h0 hj hbest
    rw [exec_embLookupReceived hp, State.lookupIn_of_owned hk ht hget h0 hj hbest]
  case unowned =>
    intro s p k hp hk ht hno
    rw [exec_embLookupReceived hp, State.lookupIn_of_unowned hk ht hno]
  case notice => intro s x h; exact exec_noticeTimer h
  case step => intro s x k ph r h; rw [exec_stepTimeout, State.stepTimeout_of_open h]
  case deadline => intro s x hop; rw [exec_ctxDeadlineExpiry, if_neg hop]
  case idle => intro s x hop hst hb hopen; rw [exec_ctxDeadlineExpiry, if_pos hop, State.moeExpire_of_idle hst hb hopen]
  case repeated => intro s x hst hn; rw [exec_failureNoticeRepeat, State.failRepeat_of_owed hst hn]
  case hold => intro s x h; rw [exec_ctxReleaseHoldExpiry, State.ctxHoldOver_of_held h]

end Sys2Proof.Proofs
end

section
/-! PROOF. What the rows of a core's program do where the module runs and a program is on the core (R305, R306, R312, R313, R324), one equation for
each row first. -/

namespace Sys2Proof.Machine

variable {s : State} {c : Nat}

section
variable (hc : c < 128) (hp : s.power.pstate < 2)
include hc hp

/-- A row of one of the 128 cores has its effect while the module is neither in DROWSE nor in HIBERNATE (R496, R498). -/
theorem next_settle_onCore (k : State → State) :
    (.next (settle s (s.onCore c k)) : Host.Outcome State Fault Refusal) = .next (settle s (k s)) := by
  simp [State.onCore, hc, hp]

theorem exec_segmentFinished (n : Nat) : exec (.segmentFinished c n) s = .next (settle s (s.segFinished c n)) :=
  next_settle_onCore hc hp _
theorem exec_itemRelease (n : Nat) : exec (.itemRelease c n) s = .next (settle s (s.itemRelease c n)) :=
  next_settle_onCore hc hp _
theorem exec_dispatch (w : List Nat) : exec (.dispatch c w) s = .next (settle s (s.dispatchOut c w)) :=
  next_settle_onCore hc hp _
theorem exec_progExit (x : Nat) : exec (.progExit c x) s = .next (settle s (s.progExit c x)) :=
  next_settle_onCore hc hp _
theorem exec_controlTimerExpiry : exec (.controlTimerExpiry c) s = .next (settle s (s.timerExpiry c)) :=
  next_settle_onCore hc hp _
theorem exec_settProgFault (cause pc tv : Nat) : exec (.settProgFault c cause pc tv) s = .next (settle s (s.progFault c cause pc tv)) :=
  next_settle_onCore hc hp _
theorem exec_stopTimeout : exec (.stopTimeout c) s = .next (settle s (s.stopTimeout c)) :=
  next_settle_onCore hc hp _

end

theorem exec_repairLoad (hc : c < 128) : exec (.repairLoad c) s = .next (settle s (s.repairLoad c)) :=
  next_settle_if_pos s (s.repairLoad c) hc
theorem exec_selftestComplete (hc : c < 128) (res row : Nat) :
    exec (.selftestComplete c res row) s = .next (settle s (s.selftestEnd c res row)) :=
  next_settle_if_pos s (s.selftestEnd c res row) hc
theorem exec_charAllWrite (s : State) (v : Bool) : exec (.charAllWrite v) s = .next (settle s (s.charAllRow v)) := rfl
theorem exec_settStartLimit (hc : c < 128) : exec (.settStartLimit c) s = .next (settle s (s.startLimitEnds c)) :=
  next_settle_if_pos s (s.startLimitEnds c) hc

/-! Items of a program (R312, R324). -/

section
variable {n : Nat} {i : Item} (hl : (s.core c).live = true) (hi : (s.core c).item n = some i)
include hl hi

/-- A finished segment of plain elements, its chunk's slot open: its output joins the finished bytes of the slot (R224). -/
theorem State.segFinished_of_plain {z : Slot} {e : EpiSeg} (hk : i.kind = 1) (hz : (s.ctx i.ctx).slot i.chunk = some z)
    (he : z.epi.find? (fun e => e.lo == i.first) = some e) (hmx : isMx (s.ctx i.ctx).outF = false) (hmask : (s.ctx i.ctx).mask = false) :
    s.segFinished c n =
      let f := (s.ctx i.ctx).outF
      ((s.setCore c ((s.core c).dropItem n)).setCtx i.ctx ((s.ctx i.ctx).putSlot { z with
        fins := z.fins ++ [(e.lo * fmtBits f / 8, (List.range (rowData f e.vals.length)).map (fun a => Tbl.get 0 e.out a))],
        epi := z.epi.filter (fun e => e.lo != i.first) })).advance i.ctx i.chunk := by
  have hctx : (s.setCore c ((s.core c).dropItem n)).ctx i.ctx = s.ctx i.ctx := rfl
  simp [State.segFinished, hi, hl, hk, hctx, hz, he, hmx, hmask]

theorem State.itemRelease_of_open (hk : i.kind = 2 ∨ i.kind = 3) : s.itemRelease c n = s.setCore c ((s.core c).dropItem n) := by
  rcases hk with hk | hk <;> simp [State.itemRelease, hi, hl, hk]

end

/-- A DISPATCH that names an open TOKEN item by its number, context, batch and token (R324). -/
theorem State.dispatchOut_of_token {w : List Nat} {i : Item} (hl : (s.core c).live = true) (hi : (s.core c).item (bits (w.getD 0 0) 16 16) = some i)
    (hk : i.kind = 2) (hctx : i.ctx = bits (w.getD 1 0) 0 12) (hchunk : i.chunk % 2 ^ 32 = w.getD 2 0) (hfirst : i.first = w.getD 3 0) :
    s.dispatchOut c w = (s.setCore c ((s.core c).dropItem (bits (w.getD 0 0) 16 16))).gateToken i.ctx i.chunk i.first
      ((List.range (s.ctx i.ctx).nexp).map (fun e => rdNat (s.core c).rd (bits (w.getD 4 0) 0 23 + 4 * e) 4)) := by
  simp only [State.dispatchOut, hl, hi, Bool.not_true, Bool.false_eq_true, if_false]
  exact if_neg (by simp [-Nat.reducePow, -List.getD_eq_getElem?_getD, hk, hctx, hchunk, hfirst])

/-! The end of a program and its timer (R305, R306, R313). -/

section
variable (hl : (s.core c).live = true)
include hl

theorem State.progExit_of_live (x : Nat) :
    s.progExit c x = (s.setCore c { s.core c with exitCode := x % 2 ^ 32, array := none, vec := none, mov := none }).endCore c .exited := by
  simp [-Nat.reducePow, State.progExit, hl]

theorem State.timerExpiry_of_live : s.timerExpiry c = s.setCore c { s.core c with timerEv := true, st := (s.core c).woken 4 } := if_pos hl

/-- A fault of a program that serves a context: the context fails with the program's binding (R225, R306). -/
theorem State.progFault_of_serving {u : Nat} (cause pc tv : Nat) (hk : (s.core c).kind = 1 ∨ (s.core c).kind = 2) (hu : (s.core c).user = some u) :
    s.progFault c cause pc tv =
      ((((s.setCore c { s.core c with faultCause := cause % 256, faultPc := pc % 2 ^ 64, faultTval := tv % 2 ^ 64 }).coreEventAt c fSettProg (pc % 2 ^ 64)
        [(s.core c).binding, cause % 256]).haltCore c).haltBinding (s.core c).binding).failCtx u 0xFF .epilogue := by
  have hserves : (decide ((s.core c).kind = 1) || decide ((s.core c).kind = 2)) = true := by simpa using hk
  simp only [State.progFault, hl, hu, hserves, Bool.not_true, Bool.false_eq_true, if_false, if_true]

end

theorem State.stopTimeout_of_stopping (h : (s.core c).stopping = true) : s.stopTimeout c = s.haltCore c := if_pos h

/-! Repair loads, self-tests and CHAR_ALL (R279–R283). -/

/-- A waiting repair load of a core that is unbound and idle, CHAR_ALL neither in force nor written. -/
theorem State.repairLoad_of_ready (hnew : s.sett.charNew = none) (hall : s.sett.charAll = false) (hpend : (s.core c).repairPend = true)
    (hb : (s.core c).binding = 0) (hq : (s.core c).arrayQ = []) (ha : (s.core c).array = none) :
    s.repairLoad c = ((s.loadRepairs c).recount).remap := by
  simp [State.repairLoad, hnew, hall, hpend, hb, hq, ha]

theorem State.selftestEnd_of_core (hc : c < 128) (res row : Nat) :
    s.selftestEnd c res row = (s.selftestDone c res row).1.execsDone 0x0904 c (.ok [(s.selftestDone c res row).2]) :=
  if_neg (Nat.not_lt.2 (Nat.le_of_lt_succ hc))

/-- A core that passes needs no test; in SERVICE it leaves the fences (R278, log 99). -/
theorem State.selftestDone_of_pass (s : State) (c row : Nat) :
    s.selftestDone c 0 row =
      let u : State := if s.sec.lc = 3 ∧ s.sett.fences.contains c = true then
        { s with sett := { s.sett with fences := s.sett.fences.filter (· != c) } } else s
      (u.setCore c { u.core c with needTest := false }, 1) := by
  simp only [State.selftestDone, Bool.and_eq_true, decide_eq_true_eq, if_true]

/-- A core beyond repair, none of its spares in use, is fenced (R277, R278). -/
theorem State.selftestDone_of_unrepairable {row : Nat} (hspare : s.spareFor c row = none) (hunused : ∀ q, ((s.sparesOf c).getD q {}).used = false) :
    s.selftestDone c 1 row =
      let u : State := { s with sett := { s.sett with fences := if s.sett.fences.contains c = true then s.sett.fences else c :: s.sett.fences } }
      ((u.setCore c { u.core c with repairPend := true, needTest := false }).condBegin
        { word := coreDen c, source := fSettFenced, unit := c, kind := .core }, 4) := by
  have hold : (List.range 4).find? (fun q => ((s.sparesOf c).getD q {}).used && ((s.sparesOf c).getD q {}).row == row) = none := by
    simp only [hunused, Bool.false_and]
    rfl
  simp only [State.selftestDone, hold, hspare, Nat.one_ne_zero, if_false, if_true]

/-- A write of 1 to CHAR_ALL in SERVICE, no other job holding a binding (R283). -/
theorem State.charAllWrite_of_service (hlc : s.sec.lc = 3) (hnew : s.sett.charNew = none) (hall : s.sett.charAll = false)
    (hfree : s.sett.bindings.any (fun e => e.2.present && e.2.job != 0) = false) :
    s.charAllWrite true = (List.range 128).foldl (fun s c => s.setCore c { s.core c with repairPend := true })
      { s with sett := { s.sett with charNew := some true } } := by
  simp only [State.charAllWrite, hlc, hnew, hall, hfree]
  rfl

/-- A write of a served 32-bit register, no high half held, writes its word (R559–R562). -/
theorem State.bar0Write_of_word {a : Nat} (v : Nat) (hlink : s.host.linkUp = true) (hlegal : legalAccess a 4 = true) (hserved : s.served a = true)
    (hheld : s.host.highHeld = none) (hlow : wideReg a = false) (hhigh : wideReg (a - 4) = false) (hword : (s.word a).isSome = true) :
    s.bar0Write a 4 v = s.writeWord a (v % 2 ^ 32) := by
  have hdrop : s.dropHeld a = s := by rw [State.dropHeld, hheld]
  simp only [State.bar0Write, State.write4, hlink, hlegal, hserved, hlow, hhigh, hdrop, hword, Bool.not_true, Bool.or_false, Bool.and_false,
    Bool.false_eq_true, if_false, if_true]

/-- The row of CHAR_ALL writes the SETT_CFG word, which is no half of a 64-bit register. -/
theorem State.charAllRow_of_served (hlink : s.host.linkUp = true) (hserved : s.served (baseSett + 0x80000) = true) (hheld : s.host.highHeld = none) :
    s.charAllRow true = s.charAllWrite true := by
  rw [State.charAllRow, State.bar0Write_of_word _ hlink rfl hserved hheld rfl rfl rfl, State.writeWord, if_neg (by decide), if_pos rfl]
  rfl

/-! A held array (R485). -/

theorem State.startLimitEnds_of_held {q : QCmd} (hheld : c ∈ s.power.held) (hnext : (s.core c).arrayNext = some q) :
    s.startLimitEnds c = ({ s with power := { s.power with held := s.power.held.filter (· != c) } } : State).arrayStart c (arrCmd q.words).opc none := by
  have hnext' : (({ s with power := { s.power with held := s.power.held.filter (· != c) } } : State).core c).arrayNext = some q := hnext
  simp [State.startLimitEnds, hheld, hnext']

end Sys2Proof.Machine
end

section
/-! PROOF. The obligation on the programs and the repairs of a core. -/

namespace Sys2Proof.Proofs

open Sys2Proof Sys2Proof.Machine

/-- Settles O12: row by row, the row's own equation and then what its operation does under the premises. -/
theorem programsOfACore : Obligations.ProgramsOfACore := by
  refine ⟨?segment, ?release, ?dispatch, ?exit, ?timer, ?fault, ?stop, ?repair, ?pass, ?fence, ?charAll, ?held⟩
  case segment =>
    intro s c n i z e hc hp hl hi hk hz he hmx hmask
    rw [exec_segmentFinished hc hp, State.segFinished_of_plain hl hi hk hz he hmx hmask]
  case release =>
    intro s c n i hc hp hl hi hk
    rw [exec_itemRelease hc hp, State.itemRelease_of_open hl hi hk]
    rfl
  case dispatch =>
    intro s c n w i hc hp hl hn hi hk hctx hchunk hfirst
    have hnum : n = bits (w.getD 0 0) 16 16 := by rw [hn, bits_eq_div_mod]
    subst hnum
    rw [exec_dispatch hc hp, State.dispatchOut_of_token hl hi hk hctx hchunk hfirst]
    rfl
  case exit => intro s c x hc hp hl; rw [exec_progExit hc hp, State.progExit_of_live hl]
  case timer => intro s c hc hp hl; rw [exec_controlTimerExpiry hc hp, State.timerExpiry_of_live hl]
  case fault =>
    intro s c cause pc tv u hc hp hl hk hu
    rw [exec_settProgFault hc hp, State.progFault_of_serving hl cause pc tv hk hu]
  case stop => intro s c hc hp h; rw [exec_stopTimeout hc hp, State.stopTimeout_of_stopping h]
  case repair =>
    intro s c hc hnew hall hpend hb hq ha
    rw [exec_repairLoad hc, State.repairLoad_of_ready hnew hall hpend hb hq ha]
    rfl
  case pass =>
    intro s c row hc
    rw [exec_selftestComplete hc, State.selftestEnd_of_core hc, State.selftestDone_of_pass]
  case fence =>
    intro s c hc row hspare hunused
    rw [exec_selftestComplete hc, State.selftestEnd_of_core hc, State.selftestDone_of_unrepairable hspare hunused]
  case charAll =>
    intro s hlink hserved hheld hlc hnew hall hfree
    rw [exec_charAllWrite, State.charAllRow_of_served hlink hserved hheld, State.charAllWrite_of_service hlc hnew hall hfree]
  case held =>
    intro s c q hc hheld hnext
    rw [exec_settStartLimit hc, State.startLimitEnds_of_held hheld hnext]

end Sys2Proof.Proofs
end

section
/-! PROOF. The exact accumulator entry after a list of addends (R238, R239) and its finished value (R241): each field is a sum, an "any" or an "all" over
the addends, so none but the form depends on their order. -/

namespace Sys2Proof.Machine

variable {e : Entry} {l k : List Dec}

@[simp] theorem Entry.add_acc (e : Entry) (x : Dec) : (e.add x).acc = e.acc + x.units (-149) := by
  rcases x with _ | (_ | _) | _ | _ <;> simp [Entry.add, Dec.units]

@[simp] theorem Entry.add_nan (e : Entry) (x : Dec) : (e.add x).nan = (e.nan || x == .nan) := by
  rcases x with _ | (_ | _) | _ | _ <;> simp [Entry.add]

@[simp] theorem Entry.add_pinf (e : Entry) (x : Dec) : (e.add x).pinf = (e.pinf || x == .inf false) := by
  rcases x with _ | (_ | _) | _ | _ <;> simp [Entry.add]

@[simp] theorem Entry.add_ninf (e : Entry) (x : Dec) : (e.add x).ninf = (e.ninf || x == .inf true) := by
  rcases x with _ | (_ | _) | _ | _ <;> simp [Entry.add]

@[simp] theorem Entry.add_pres (e : Entry) (x : Dec) : (e.add x).pres = true := by
  rcases x with _ | (_ | _) | _ | _ <;> rfl

/-- An entry with no addend yet counts as one that has seen only −0. -/
@[simp] theorem Entry.add_neg0 (e : Entry) (x : Dec) : (e.add x).neg0 = ((!e.pres || e.neg0) && x == .zero true) := by
  rcases x with _ | (_ | _) | (_ | _) | _ <;> cases hpres : e.pres <;> simp [Entry.add, hpres]

theorem Entry.foldl_add_acc (l : List Dec) (e : Entry) : (l.foldl Entry.add e).acc = e.acc + (l.map (Dec.units (-149))).sum := by
  induction l generalizing e with
  | nil => simp
  | cons x l ih => simp only [List.foldl_cons, List.map_cons, List.sum_cons, ih, Entry.add_acc, Int.add_assoc]

/-- A flag that an addend of the kind `p` sets, and no addend clears, is set after a list iff it was set or the list has an addend of that kind. -/
theorem Entry.foldl_add_sticky {flag : Entry → Bool} {p : Dec → Bool} (hadd : ∀ e x, flag (e.add x) = (flag e || p x)) (l : List Dec) (e : Entry) :
    flag (l.foldl Entry.add e) = (flag e || l.any p) := by
  induction l generalizing e with
  | nil => simp
  | cons x l ih => simp [ih, hadd, Bool.or_assoc]

theorem Entry.foldl_add_neg0 (l : List Dec) (hpres : e.pres = true) :
    (l.foldl Entry.add e).neg0 = (e.neg0 && l.all (· == .zero true)) := by
  induction l generalizing e with
  | nil => simp
  | cons x l ih => simp [ih (Entry.add_pres e x), hpres, Bool.and_assoc]

/-! The sum of a list: the entry that starts at zero. -/

theorem Entry.units_sum_perm (h : l.Perm k) : (l.map (Dec.units (-149))).sum = (k.map (Dec.units (-149))).sum := by
  induction h with
  | nil => rfl
  | cons x _ ih => simp only [List.map_cons, List.sum_cons, ih]
  | swap x y l => simp only [List.map_cons, List.sum_cons, Int.add_left_comm]
  | trans _ _ ih₁ ih₂ => exact ih₁.trans ih₂

theorem Entry.sum_acc (l : List Dec) : (l.foldl Entry.add {}).acc = (l.map (Dec.units (-149))).sum := by
  simp [Entry.foldl_add_acc]

theorem Entry.sum_nan (l : List Dec) : (l.foldl Entry.add {}).nan = l.any (· == .nan) := by
  simpa using Entry.foldl_add_sticky Entry.add_nan l {}

theorem Entry.sum_pinf (l : List Dec) : (l.foldl Entry.add {}).pinf = l.any (· == .inf false) := by
  simpa using Entry.foldl_add_sticky Entry.add_pinf l {}

theorem Entry.sum_ninf (l : List Dec) : (l.foldl Entry.add {}).ninf = l.any (· == .inf true) := by
  simpa using Entry.foldl_add_sticky Entry.add_ninf l {}

theorem Entry.sum_pres (l : List Dec) : (l.foldl Entry.add {}).pres = l.any (fun _ => true) :=
  (Entry.foldl_add_sticky (fun e x => by simp) l {}).trans (Bool.false_or _)

theorem Entry.sum_pres_of_ne_nil (hl : l ≠ []) : (l.foldl Entry.add {}).pres = true := by
  simpa [Entry.sum_pres] using List.exists_mem_of_ne_nil l hl

theorem Entry.sum_neg0 (hl : l ≠ []) : (l.foldl Entry.add {}).neg0 = l.all (· == .zero true) := by
  cases l with
  | nil => exact absurd rfl hl
  | cons x l => simp [Entry.foldl_add_neg0 l (Entry.add_pres {} x)]

/-! The finished value (R241) by the entry's fields. -/

theorem Entry.value_of_nan (hpres : e.pres = true) (hnan : e.nan = true) : e.value = .nan := by simp [Entry.value, hpres, hnan]

theorem Entry.value_of_both_infs (hpres : e.pres = true) (hpinf : e.pinf = true) (hninf : e.ninf = true) : e.value = .nan := by
  simp [Entry.value, hpres, hpinf, hninf]

theorem Entry.value_of_zero (hpres : e.pres = true) (hnan : e.nan = false) (hpinf : e.pinf = false) (hninf : e.ninf = false) (hacc : e.acc = 0) :
    e.value = .zero e.neg0 := by
  simp [Entry.value, hpres, hnan, hpinf, hninf, hacc]

/-- The value is read from the sum and the flags alone, not from the form. -/
theorem Entry.value_congr {d : Entry} (hacc : d.acc = e.acc) (hnan : d.nan = e.nan) (hpinf : d.pinf = e.pinf) (hninf : d.ninf = e.ninf)
    (hpres : d.pres = e.pres) (hneg0 : d.neg0 = e.neg0) : d.value = e.value := by
  simp only [Entry.value, hacc, hnan, hpinf, hninf, hpres, hneg0]

theorem Entry.sum_neg0_perm (h : l.Perm k) : (l.foldl Entry.add {}).neg0 = (k.foldl Entry.add {}).neg0 := by
  by_cases hl : l = []
  · subst hl
    rw [h.symm.eq_nil]
  · have hk : k ≠ [] := fun hk => hl (hk ▸ h).eq_nil
    rw [Entry.sum_neg0 hl, Entry.sum_neg0 hk, h.all_eq]

theorem Entry.sum_value_perm (h : l.Perm k) : (l.foldl Entry.add {}).value = (k.foldl Entry.add {}).value := by
  refine Entry.value_congr ?acc ?nan ?pinf ?ninf ?pres (Entry.sum_neg0_perm h)
  case acc => rw [Entry.sum_acc, Entry.sum_acc, Entry.units_sum_perm h]
  case nan => rw [Entry.sum_nan, Entry.sum_nan, h.any_eq]
  case pinf => rw [Entry.sum_pinf, Entry.sum_pinf, h.any_eq]
  case ninf => rw [Entry.sum_ninf, Entry.sum_ninf, h.any_eq]
  case pres => rw [Entry.sum_pres, Entry.sum_pres, h.any_eq]

theorem Entry.sum_value_of_nan_mem (h : .nan ∈ l) : (l.foldl Entry.add {}).value = .nan :=
  Entry.value_of_nan (Entry.sum_pres_of_ne_nil (List.ne_nil_of_mem h)) (by simpa [Entry.sum_nan] using h)

theorem Entry.sum_value_of_both_infs_mem (hn : .inf true ∈ l) (hp : .inf false ∈ l) : (l.foldl Entry.add {}).value = .nan :=
  Entry.value_of_both_infs (Entry.sum_pres_of_ne_nil (List.ne_nil_of_mem hn)) (by simpa [Entry.sum_pinf] using hp)
    (by simpa [Entry.sum_ninf] using hn)

/-- Only −0 was added (R239, NEG0): no flag of an infinity or NaN is set and the sum is 0. -/
theorem Entry.sum_value_of_neg_zeros (hl : l ≠ []) (hz : ∀ x ∈ l, x = .zero true) : (l.foldl Entry.add {}).value = .zero true := by
  have hsame : l = List.replicate l.length (.zero true) := List.eq_replicate_of_mem hz
  have hneg0 : (l.foldl Entry.add {}).neg0 = true := by simpa [Entry.sum_neg0 hl] using hz
  have hnot (y : Dec) (hy : y ≠ .zero true) : l.any (· == y) = false := by
    simp only [List.any_eq_false, beq_iff_eq]
    exact fun x hx hxy => hy (hxy ▸ hz x hx)
  have hacc : (l.foldl Entry.add {}).acc = 0 := by
    rw [Entry.sum_acc, hsame]
    simp [Dec.units]
  rw [Entry.value_of_zero (Entry.sum_pres_of_ne_nil hl) (by rw [Entry.sum_nan, hnot _ (by decide)])
    (by rw [Entry.sum_pinf, hnot _ (by decide)]) (by rw [Entry.sum_ninf, hnot _ (by decide)]) hacc, hneg0]

end Sys2Proof.Machine
end

section
/-! PROOF. The obligation on the exact SUM. -/

namespace Sys2Proof.Proofs

open Sys2Proof Sys2Proof.Machine

/-- Settles O44: each field of the entry that the value is read from is the same for a list and its permutations. -/
theorem exactSumsDoNotDependOnOrder : Obligations.ExactSumsDoNotDependOnOrder := by
  refine ⟨?perm, ?nan, ?infs, ?acc, ?negZeros⟩
  case perm => exact fun l k h => Entry.sum_value_perm h
  case nan => exact fun l h => Entry.sum_value_of_nan_mem h
  case infs => exact fun l hn hp => Entry.sum_value_of_both_infs_mem hn hp
  case acc =>
    intro l
    rw [Entry.sum_acc]
    refine congrArg List.sum (List.map_congr_left fun x _ => ?_)
    cases x <;> rfl
  case negZeros => exact fun l hl hz => Entry.sum_value_of_neg_zeros hl hz

end Sys2Proof.Proofs
end

section
/-! PROOF. What the commands of faults, self-tests and the black box do where Keeper takes them (R396, R443–R448, R455, R459), one equation for each
row first. -/

namespace Sys2Proof.Machine

variable {s : State} {c : Cmd}

theorem exec_faultRead (s : State) (c : Cmd) : exec (.faultRead c) s = .next (settle s (s.faultRead c)) := rfl
theorem exec_faultClear (s : State) (c : Cmd) : exec (.faultClear c) s = .next (settle s (s.faultClear c)) := rfl
theorem exec_faultCfg (s : State) (c : Cmd) : exec (.faultCfg c) s = .next (settle s (s.faultCfg c)) := rfl
theorem exec_faultForce (s : State) (c : Cmd) : exec (.faultForce c) s = .next (settle s (s.faultForce c)) := rfl
theorem exec_selftest (s : State) (c : Cmd) : exec (.selftest c) s = .next (settle s (s.selftest c)) := rfl
theorem exec_repairReset (s : State) (c : Cmd) : exec (.repairReset c) s = .next (settle s (s.repairReset c)) := rfl
theorem exec_blackboxRead (s : State) (c : Cmd) : exec (.blackboxRead c) s = .next (settle s (s.blackboxRead c)) := rfl

/-- A source takes a class and a mask within its floor: with floor 5, class 4 unmasked alone; else each class from its floor up (R446, R447). -/
theorem SourceInfo.floor_allows {x : SourceInfo} {cls : Nat} {msk : Bool} (hfixed : x.floor = 5 → cls = 4 ∧ msk = false)
    (hfloor : x.floor ≠ 5 → x.floor ≤ cls) : (if x.floor = 5 then cls == 4 && !msk else decide (x.floor ≤ cls)) = true := by
  split
  next h => simp [hfixed h]
  next h => simp [hfloor h]

end Sys2Proof.Machine
end

section
/-! PROOF. The obligation on the commands of faults, self-tests and the black box. -/

namespace Sys2Proof.Proofs

open Sys2Proof Sys2Proof.Machine

/-- Settles O23: each command passes the checks of its parameter words, and what is left of its body is the branch that the premises choose. -/
theorem faultCommands : Obligations.FaultCommands := by
  refine ⟨?read, ?clear, ?cfg, ?force, ?selftest, ?reset, ?box⟩
  case read =>
    intro s u i c n hi ht hu hn h1 h64 h0
    subst hi hu hn
    rw [exec_faultRead, State.faultRead, State.runCmd_of_body ht]
    exact Ans.check_ok _ _ _ (by simp [h1, h64, h0])
  case clear =>
    intro s u i c hi ht hu h0
    subst hi hu
    rw [exec_faultClear, State.faultClear, State.runCmd_of_body ht]
    exact Ans.check_ok _ _ _ (by simp [h0])
  case cfg =>
    intro s u i c w k x v hi ht hu hw hk h0 hcls hx hfixed hfloor hthere hv
    subst hi hu hw hk hv
    rw [exec_faultCfg, State.faultCfg, State.runCmd_of_body ht]
    rw [Ans.check_ok _ _ _ (by simpa [h0, hcls, hx] using x.floor_allows hfixed hfloor)]
    exact if_neg (by simp [hthere])
  case force =>
    intro s u i c hi ht hu h0
    subst hi hu
    rw [exec_faultForce, State.faultForce, State.runCmd_of_body ht]
    exact Ans.check_ok _ _ _ (by simp [h0])
  case selftest =>
    intro s u i c hi ht hu hlt hfree
    subst hi hu
    rw [exec_selftest, State.selftest, State.runCmd_of_body ht]
    rw [Ans.check_ok _ _ _ (by simp [hlt]), if_neg (not_not_intro hfree)]
  case reset =>
    intro s u i c hi ht hu
    subst hi hu
    rw [exec_repairReset, State.repairReset, State.runCmd_of_body ht rfl]
  case box =>
    intro s u i c n hi ht hu hn h1 h64 h0
    subst hi hu hn
    rw [exec_blackboxRead, State.blackboxRead, State.runCmd_of_body ht]
    exact Ans.check_ok _ _ _ (by simp [h1, h64, h0])

end Sys2Proof.Proofs
end

section
/-! PROOF. What the commands of cores, programs and bindings do where Keeper takes them (R282, R310–R313, R393, R394), one equation for each row
first. -/

namespace Sys2Proof.Machine

variable {s : State} {c : Cmd}

theorem exec_coreAssign (s : State) (c : Cmd) : exec (.coreAssign c) s = .next (settle s (s.coreAssign c)) := rfl
theorem exec_coreReturn (s : State) (c : Cmd) : exec (.coreReturn c) s = .next (settle s (s.coreReturn c)) := rfl
theorem exec_progLoadRegion (s : State) (c : Cmd) : exec (.progLoadRegion c) s = .next (settle s (s.progLoadRegion c)) := rfl
theorem exec_progLoadPart (s : State) (c : Cmd) : exec (.progLoadPart c) s = .next (settle s (s.progLoadPart c)) := rfl
theorem exec_progUnload (s : State) (c : Cmd) : exec (.progUnload c) s = .next (settle s (s.progUnload c)) := rfl
theorem exec_bind (s : State) (c : Cmd) : exec (.bind c) s = .next (settle s (s.bind c)) := rfl
theorem exec_unbind (s : State) (c : Cmd) : exec (.unbind c) s = .next (settle s (s.unbind c)) := rfl
theorem exec_launch (s : State) (c : Cmd) : exec (.launch c) s = .next (settle s (s.launch c)) := rfl
theorem exec_progWait (s : State) (c : Cmd) : exec (.progWait c) s = .next (settle s (s.progWait c)) := rfl
theorem exec_progStop (s : State) (c : Cmd) : exec (.progStop c) s = .next (settle s (s.progStop c)) := rfl
theorem exec_progQuery (s : State) (c : Cmd) : exec (.progQuery c) s = .next (settle s (s.progQuery c)) := rfl

/-! The program and the binding that a handle names (R380, steps 7 and 8). -/

/-- A program of the command's job is handed to the command. -/
theorem State.withProgram_of_owned {n : Nat} {p : Program} (k : Nat → Program → State × Ans) (hp : s.programOf (c.p 0) = some (n, p))
    (hj : p.job = c.job) : s.withProgram c k = k n p := by
  rw [State.withProgram, hp]
  exact if_neg (not_not_intro hj)

/-- A binding of the command's job is handed to the command. -/
theorem State.withBinding_of_owned {n : Nat} {b : Binding} (k : Nat → Binding → State × Ans) (hb : s.bindingOf (c.p 0) = some (n, b))
    (hj : b.job = c.job) : s.withBinding c k = k n b := by
  rw [State.withBinding, hb]
  exact if_neg (not_not_intro hj)

/-! PROG_LOAD by parts (R394). -/

/-- A source's first part drops what the source had staged; it goes on where it is the whole image, and is staged where it falls short of IMAGE_LEN
in whole words. -/
theorem State.progLoadPart_of_first (s : State) {last : Bool} (h0 : c.p 0 = 0) (h1 : c.p 1 = 0) (h3 : c.p 3 = 0)
    (hlast : ((c.params.drop 16).length == c.p 2) = last) (hle : (c.params.drop 16).length ≤ c.p 2)
    (hwords : last = false → (c.params.drop 16).length % 4 = 0) :
    s.progLoadPart c =
      s.runCmd { op := 0x0702, lens := fun l => 32 ≤ l, states := stA, j := true, change := true, long := last, mirrored := true } c (fun s =>
        let v := s.dropStaging c.src
        if last then (v, { goes := true, data := (c.params.drop 16).map (·.toNat) })
        else ({ v with cmd := { v.cmd with staging := v.cmd.staging ++ [{ src := c.src, len := c.p 2, bytes := c.params.drop 16 }] } },
          .ok [(c.params.drop 16).length])) := by
  have hgo : (decide (c.p 2 < (c.params.drop 16).length) || (!last && (c.params.drop 16).length % 4 != 0) || decide (c.p 3 ≠ 0)) = false := by
    cases last <;> simp [-List.length_drop, Nat.not_lt.2 hle, hwords, h3]
  rw [State.progLoadPart]
  cases s.stagingOf c.src <;>
    simp only [h0, h1, hlast, hgo, beq_self_eq_true, if_true, Nat.zero_add, ne_eq, not_true_eq_false, if_false, Bool.not_true, Bool.false_eq_true,
      List.nil_append]

/-! BIND (R312, R393). -/

/-- A field that is 0 has its lowest bit clear and the rest of it 0. -/
theorem bits_succ_eq_zero {x lo n : Nat} (h : bits x lo (n + 1) = 0) : bit x lo = false ∧ bits x (lo + 1) n = 0 := by
  rw [bits_eq_div_mod, Nat.pow_succ'] at h
  constructor
  · have heven : x / 2 ^ lo % 2 = 0 := by rw [← Nat.mod_mul_right_mod, h]
    rw [bit, bits_eq_div_mod, Nat.pow_one, heven]
    rfl
  · rw [bits_eq_div_mod, Nat.pow_succ, ← Nat.div_div_eq_div_mul, ← Nat.mod_mul_right_div_self, h]

/-- Inline parameters are the first bytes after the fixed words; they lie on no line of a region. -/
theorem State.bindParams_of_inline (s : State) (n : Nat) (h : bit (c.p 1) 13 = false) : s.bindParams c n = .ok ((c.params.drop 24).take n) := by
  rw [State.bindParams, h]
  rfl

theorem State.bindUe_of_inline (s : State) (n : Nat) (h : bit (c.p 1) 13 = false) : s.bindUe c n = none := by
  rw [State.bindUe, h]
  rfl

/-- Cores that are there, owned by job `j` and free are refused for no reason that BIND has. -/
theorem State.bindable {vs : List Nat} {j : Nat} (h : ∀ v ∈ vs, s.coreThere v = true ∧ s.coreOwner v = j ∧ s.coreFree v = true) :
    vs.any (fun v => s.coreThere v && s.coreOwner v != j) = false ∧ vs.any (fun v => s.coreThere v && !s.coreFree v) = false ∧
      vs.any (fun v => !s.coreThere v) = false := by
  refine ⟨?own, ?free, ?there⟩
  case own => simpa using fun v hv _ => (h v hv).2.1
  case free => simpa using fun v hv _ => (h v hv).2.2
  case there => simpa using fun v hv => (h v hv).1

end Sys2Proof.Machine
end

section
/-! PROOF. The obligation on the commands of cores, programs and bindings. -/

namespace Sys2Proof.Proofs

open Sys2Proof Sys2Proof.Machine

/-- Settles O21: each command passes its checks, and what is left of its body is the branch that the premises choose. -/
theorem coreAndProgramCommands : Obligations.CoreAndProgramCommands := by
  refine ⟨?assign, ?giveBack, ?loadRegion, ?loadPart, ?loadWhole, ?unload, ?bind, ?unbind, ?launch, ?waitDone, ?waitOpen, ?stop, ?query⟩
  case assign =>
    intro s u i c vs hi ht hu hvs h1 hlt hmine
    subst hi hu hvs
    rw [exec_coreAssign, State.coreAssign, State.runCmd_of_body ht]
    rw [Ans.check_ok _ _ _ (by simp [hlt])]
    rw [if_neg, if_neg]
    · simpa using fun v hv => (hmine v hv).2.2
    · simpa using fun v hv => ⟨(hmine v hv).1.resolve_left, (hmine v hv).2.1⟩
  case giveBack =>
    intro s u i c vs hi ht hu hvs h0 hfree
    subst hi hu hvs
    rw [exec_coreReturn, State.coreReturn, State.runCmd_of_body ht]
    rw [Ans.check_ok _ _ _ (by simp [h0])]
    exact if_neg (by simpa using hfree)
  case loadRegion =>
    intro s u i c k r hi ht hu h0 hk hr hj hle hst hue
    subst hi hu hr
    rw [exec_progLoadRegion, State.progLoadRegion, State.runCmd_of_body ht]
    rw [Ans.check_ok _ _ _ (by simp [h0, hk]), hk]
    simp only [hj, hst, hue, Nat.not_lt.2 hle, ne_eq, not_true_eq_false, if_false]
  case loadPart =>
    intro s u i c v hi ht hu hv h0 h1 h3 hshort hwords
    subst hi hu hv
    rw [exec_progLoadPart, State.progLoadPart_of_first s h0 h1 h3 (beq_false_of_ne (Nat.ne_of_lt hshort)) (Nat.le_of_lt hshort) fun _ => hwords]
    rw [State.runCmd_of_body ht]
    exact if_neg Bool.false_ne_true
  case loadWhole =>
    intro s u i c hi ht hu h0 h1 h3 hwhole
    subst hi hu
    rw [exec_progLoadPart, State.progLoadPart_of_first s h0 h1 h3 (beq_iff_eq.2 hwhole) (Nat.le_of_eq hwhole) nofun]
    rw [State.runCmd_of_body ht]
    exact if_pos rfl
  case unload =>
    intro s u i c k p hi ht hu hs hp hj hfree
    subst hi hu
    rw [exec_progUnload, State.progUnload]
    simp only [hs]
    rw [State.runCmd_of_body ht]
    rw [State.withProgram_of_owned _ hp hj]
    exact if_neg (by simpa using fun n b hb hpresent => (hfree (n, b) hb).resolve_left (by simp [hpresent]))
  case bind =>
    intro s u i c n k k0 h vs p b hi ht hu hn hvs hs hp hrest hlen hkind hcores hj hmine hk hh hb hpower
    subst hi hu hn hvs hh hb
    obtain ⟨hinline, hrest⟩ := bits_succ_eq_zero hrest
    rw [exec_bind, State.bind]
    simp only [hs]
    rw [State.runCmd_of_body ht]
    simp only [hp]
    rw [Ans.check_ok _ _ _ (by simp [hkind, hcores, hlen, hrest]), if_neg (not_not_intro hj)]
    obtain ⟨hown, hfree, hthere⟩ := State.bindable hmine
    have hpowered : ((cmdBitmap c 2).filterMap (s.cmdBegin c).physOf).any (fun x => ((s.cmdBegin c).core x).gated) = false :=
      List.any_eq_false.2 fun x hx => by simp [hpower x hx]
    simp only [State.bindParams_of_inline _ _ hinline, State.bindUe_of_inline _ _ hinline, hown, hfree, hthere, hk, hpowered, hkind,
      Bool.false_eq_true, if_false]
  case unbind =>
    intro s u i c k b hi ht hu hs hb hj hcores hepi
    subst hi hu
    rw [exec_unbind, State.unbind]
    simp only [hs]
    rw [State.runCmd_of_body ht]
    rw [State.withBinding_of_owned _ hb hj]
    refine if_neg ?_
    split
    next h => simp [hcores h]
    next h => simpa using hepi h
  case launch =>
    intro s u i c k k0 b p hi ht hu hb hj hkind hst hp hle hfits
    subst hi hu
    rw [exec_launch, State.launch, State.runCmd_of_body ht]
    rw [State.withBinding_of_owned _ hb hj]
    simp only [hkind, hst, hp, Nat.not_lt.2 hle, hfits, ne_eq, not_true_eq_false, decide_false, Bool.or_self, Bool.not_true, Bool.false_eq_true, if_false]
  case waitDone =>
    intro s u i c k b hi ht hu hb hj hkind hst
    subst hi hu
    rw [exec_progWait, State.progWait, State.runCmd_of_body ht]
    rw [State.withBinding_of_owned _ hb hj, if_neg (not_not_intro hkind), if_pos hst]
  case waitOpen =>
    intro s u i c k b hi ht hu hb hj hkind hst
    subst hi hu
    rw [exec_progWait, State.progWait, State.runCmd_of_body ht]
    rw [State.withBinding_of_owned _ hb hj, if_neg (not_not_intro hkind), if_neg hst]
  case stop =>
    intro s u i c k b hi ht hu hb hj
    subst hi hu
    rw [exec_progStop, State.progStop, State.runCmd_of_body ht]
    rw [State.withBinding_of_owned _ hb hj]
  case query =>
    intro s u i c k b l hi ht hu hb hj hl
    subst hi hu hl
    rw [exec_progQuery, State.progQuery, State.runCmd_of_body ht]
    exact State.withBinding_of_owned _ hb hj

end Sys2Proof.Proofs
end

section
/-! PROOF. What the rows of a core's engines do where the module runs (R266, R269, R273, R296, R298, R299, R301, R302, R305, R307–R309), one equation
for each row first. -/

namespace Sys2Proof.Machine

variable {s : State} {c : Nat} {q : QCmd}

section
variable (hc : c < 128) (hp : s.power.pstate < 2)
include hc hp

theorem exec_aqCommit (w : List Nat) : exec (.aqCommit c w) s = .next (settle s (s.setCore c ((s.core c).aqCommit w))) :=
  next_settle_onCore hc hp _
theorem exec_vqCommit (w : List Nat) : exec (.vqCommit c w) s = .next (settle s (s.setCore c ((s.core c).vqCommit w))) :=
  next_settle_onCore hc hp _
theorem exec_mqCommit (w : List Nat) : exec (.mqCommit c w) s = .next (settle s (s.setCore c ((s.core c).mqCommit w))) :=
  next_settle_onCore hc hp _
theorem exec_matmul (e : Option (Nat × Nat)) : exec (.matmul c e) s = .next (settle s (s.arrayStart c 1 e)) :=
  next_settle_onCore hc hp _
theorem exec_elem (e : Option (Nat × Nat)) : exec (.elem c e) s = .next (settle s (s.arrayStart c 2 e)) :=
  next_settle_onCore hc hp _
theorem exec_arrayCompletion :
    exec (.arrayCompletion c) s = .next (settle s (if (s.core c).array.isSome then (s.arrayDone c).noteIdle c else s)) :=
  next_settle_onCore hc hp _
theorem exec_chain (e : Option (Nat × Nat)) : exec (.chain c e) s = .next (settle s (s.setCore c ((s.core c).chainStart e))) :=
  next_settle_onCore hc hp _
theorem exec_setpred : exec (.setpred c) s = .next (settle s (s.setPred c)) :=
  next_settle_onCore hc hp _
theorem exec_vectorCompletion : exec (.vectorCompletion c) s = .next (settle s (s.vecDone c)) :=
  next_settle_onCore hc hp _
theorem exec_movGet : exec (.movGet c) s = .next (settle s (s.movGet c)) :=
  next_settle_onCore hc hp _
theorem exec_movPut (l : List Nat) : exec (.movPut c l) s = .next (settle s (s.movPut c l)) :=
  next_settle_onCore hc hp _
theorem exec_gather : exec (.gather c) s = .next (settle s (s.movGather c)) :=
  next_settle_onCore hc hp _
theorem exec_send : exec (.send c) s = .next (settle s (s.movSend c)) :=
  next_settle_onCore hc hp _
theorem exec_moverCompletion : exec (.moverCompletion c) s = .next (settle s (s.movDone c)) :=
  next_settle_onCore hc hp _
theorem exec_acompPop : exec (.acompPop c) s = .next (settle s (s.acompPop c)) :=
  next_settle_onCore hc hp _
theorem exec_vsumPop : exec (.vsumPop c) s = .next (settle s (s.vsumPop c)) :=
  next_settle_onCore hc hp _
theorem exec_mcompPop : exec (.mcompPop c) s = .next (settle s (s.mcompPop c)) :=
  next_settle_onCore hc hp _
theorem exec_inboxPop : exec (.inboxPop c) s = .next (settle s (s.inboxPop c)) :=
  next_settle_onCore hc hp _

end

/-! The commits of the three queues hold alike: with no program on the core, or with the queue's 16 entries full (R305). -/

theorem SettCore.commit_goes {x : SettCore} {n : Nat} (hl : x.live = true) (hn : n < 16) : ¬ (!x.live || decide (16 ≤ n)) = true := by
  simp [hl, hn]

theorem SettCore.commit_holds (x : SettCore) {n : Nat} (hn : 16 ≤ n) : (!x.live || decide (16 ≤ n)) = true := by
  simp [hn]

/-! The array (R266, R269, R273, R275). -/

/-- The interlock lets a command of the array go only while the array is idle. -/
theorem SettCore.array_of_arrayNext {x : SettCore} (h : x.arrayNext = some q) : x.array = none := by
  cases ha : x.array with
  | none => rfl
  | some r => simp [SettCore.arrayNext, ha] at h

/-- The core once its array has taken the command `q`, with the outcome that its rules compute. -/
def SettCore.arrayTaken (x : SettCore) (q : QCmd) (e : Option (Nat × Nat)) : SettCore :=
  let r := arrRun x.rd x.panel q e
  { x with arrayQ := x.arrayQ.drop 1, array := some r.1, panel := r.2, bank := (x.bank + r.1.loads) % 2 }

/-- The array's next command starts by the row of its opcode, unless the current-step limit holds the core back (R485). -/
theorem State.arrayStart_of_next {opc : Nat} (e : Option (Nat × Nat)) (hc : c < 128) (hp : s.power.pstate < 2) (hheld : s.startHeld c = false)
    (hnext : (s.core c).arrayNext = some q) (hopc : opc = 2 ↔ (arrCmd q.words).opc = 2) :
    s.arrayStart c opc e = (s.noteStart c).setCore c ((s.core c).arrayTaken q e) := by
  have hidle : (s.core c).array = none := SettCore.array_of_arrayNext hnext
  have htaken : (s.core c).arrayStart opc e = (s.core c).arrayTaken q e := by
    simp [SettCore.arrayStart, SettCore.arrayTaken, hnext, hopc]
  have hchanged : (s.core c).arrayTaken q e ≠ s.core c := by
    intro h
    have harray := congrArg SettCore.array h
    rw [hidle] at harray
    exact absurd harray (Option.some_ne_none _)
  have hon : (decide (128 ≤ c) || decide (2 ≤ s.power.pstate) || (s.core c).array.isSome) = false := by
    simp only [Nat.not_le.2 hc, Nat.not_le.2 hp, hidle, Option.isSome_none, decide_false, Bool.or_self]
  rw [State.arrayStart, if_neg (ne_true_of_eq_false hon), if_neg (ne_true_of_eq_false hheld), htaken]
  exact if_neg hchanged

/-- The array completes: its writes, its record, its work. -/
theorem State.arrayDone_of_good {r : Running} (hr : (s.core c).array = some r) (he : r.err = none) :
    s.arrayDone c =
      ((s.setCore c { (s.core c).wr r.writes with array := none }).postArray c r.cmd r.status r.flags).bump64 (settReg c 0x148) r.work := by
  simp only [State.arrayDone, hr, he]

/-- With a detected error it then discards its queue, counts the error and raises SETT_ARRAY_ERR (R275). -/
theorem State.arrayDone_of_err {r : Running} {n : Nat} (hr : (s.core c).array = some r) (he : r.err = some n) :
    s.arrayDone c =
      (((((s.setCore c { (s.core c).wr r.writes with array := none }).postArray c r.cmd r.status r.flags).bump64 (settReg c 0x148)
        r.work).flushArray c).countArrayErr c n).coreEvent c fSettArray [n % 2 ^ 17] := by
  simp only [State.arrayDone, hr, he]

/-! The vector engine (R291–R300). -/

theorem SettCore.chainStart_of_next {x : SettCore} (e : Option (Nat × Nat)) (hnext : x.vecNext = some q) (hopc : (vecCmd q.words).opc ≠ 2) :
    x.chainStart e = { x with vecQ := x.vecQ.drop 1, vec := some (chainRun x.rd x.pred q e) } := by
  simp only [SettCore.chainStart, hnext, hopc, if_false]

/-- SETPRED with its reserved bits clear writes all eight predicates. -/
theorem State.setPred_of_next (hnext : (s.core c).vecNext = some q) (hopc : (vecCmd q.words).opc = 2) (hrsv : bits (q.words.getD 0 0) 4 3 = 0) :
    s.setPred c = (s.setCore c { s.core c with vecQ := (s.core c).vecQ.drop 1, pred := (vecCmd q.words).pval }).postVec c q 0
      (List.replicate 7 0) := by
  simp only [State.setPred, hnext, hopc, hrsv, ne_eq, not_true_eq_false, if_false, if_true]

/-- A chain without SETP completes, and no error: its writes, its record, its work. -/
theorem State.vecDone_of_good {r : Running} (hr : (s.core c).vec = some r) (he : r.err = none) (hsetp : r.setp = none) :
    s.vecDone c =
      ((s.setCore c { (s.core c).wr r.writes with vec := none }).postVec c r.cmd r.status r.summary).bump64 (settReg c 0x388) r.work := by
  simp only [State.vecDone, hr, he, hsetp]

/-! The mover (R307–R309). -/

section
variable (hnext : (s.core c).movNext = some q)
include hnext

/-- GET that a check of R308 refuses completes with that status and moves nothing. -/
theorem State.movGet_of_refused (hopc : (movCmd q.words).opc = 1) (hst : s.movCheck c (movCmd q.words) ≠ 0) :
    s.movGet c = s.movRun c q (s.movCheck c (movCmd q.words)) 0 := by
  simp [State.movGet, hnext, hopc, hst]

/-- GET from the tiers brings the lines that are good. -/
theorem State.movGet_of_tier (hopc : (movCmd q.words).opc = 1) (hst : s.movCheck c (movCmd q.words) = 0) (hspace : (movCmd q.words).space = 0) :
    s.movGet c =
      let r := s.getLines c (movCmd q.words).remote (movCmd q.words).local_ (movCmd q.words).len
      r.1.movRun c q (if r.2.2 = true then 0x50 else 0) r.2.1 := by
  simp [State.movGet, hnext, hopc, hst, hspace]

/-- PUT that a check of R308 refuses completes with that status and moves nothing. -/
theorem State.movPut_of_refused (l : List Nat) (hopc : (movCmd q.words).opc = 2) (hst : s.movCheck c (movCmd q.words) ≠ 0) :
    s.movPut c l = s.movRun c q (s.movCheck c (movCmd q.words)) 0 := by
  simp [State.movPut, hnext, hopc, hst]

/-- PUT whose local lines all read well writes every one. -/
theorem State.movPut_of_good (hopc : (movCmd q.words).opc = 2) (hst : s.movCheck c (movCmd q.words) = 0) :
    s.movPut c [] = (s.putLines c (movCmd q.words) []).movRun c q 0 (movCmd q.words).len := by
  simp [State.movPut, hnext, hopc, hst]

end

/-- The fields of a GATHER that R308 allows. -/
structure MovCmd.Gathers (k : MovCmd) : Prop where
  opc : k.opc = 3
  space : k.space = 0
  lenPos : 1 ≤ k.len
  len : k.len ≤ 131072
  localAligned : k.local_ % 64 = 0
  remoteAligned : k.remote % 64 = 0
  localFits : k.local_ + 64 * k.len ≤ sramSize
  remoteFits : k.remote + 8 * k.len ≤ sramSize

/-- The offsets that a GATHER reads from its list in local memory. -/
def State.gatherOffsets (s : State) (c : Nat) (k : MovCmd) : List Nat :=
  (List.range k.len).map (fun i => rdNat (s.core c).rd (k.remote % 2 ^ 23 + 8 * i) 8)

/-- GATHER whose sectors are aligned and in reach brings each to its place, in the list's order. -/
theorem State.movGather_of_reached (hnext : (s.core c).movNext = some q) (hk : (movCmd q.words).Gathers)
    (hoffs : ∀ o ∈ s.gatherOffsets c (movCmd q.words), o % 64 = 0 ∧ s.movReach c false o 64 = true) :
    s.movGather c =
      let r := (List.range (movCmd q.words).len).foldl (fun (z : State × Nat × Bool) i =>
        let g := z.1.getLines c ((s.gatherOffsets c (movCmd q.words)).getD i 0) ((movCmd q.words).local_ + 64 * i) 64
        (g.1, z.2.1 + g.2.1, z.2.2 || g.2.2)) (s, 0, false)
      r.1.movRun c q (if r.2.2 = true then 0x50 else 0) r.2.1 := by
  have haligned : (s.gatherOffsets c (movCmd q.words)).all (· % 64 == 0) = true := by simpa using fun o ho => (hoffs o ho).1
  have hreach : (s.gatherOffsets c (movCmd q.words)).all (fun o => s.movReach c false o 64) = true := by simpa using fun o ho => (hoffs o ho).2
  obtain ⟨hopc, hspace, hpos, hlen, hla, hra, hlf, hrf⟩ := hk
  rw [State.gatherOffsets] at haligned hreach
  simp only [State.movGather, hnext]
  rw [if_neg (not_not_intro hopc), if_neg, if_neg]
  · rfl
  · simp [-List.all_map, -Nat.reducePow, hreach]
  · simp [-List.all_map, -Nat.reducePow, hspace, Nat.pos_iff_ne_zero.1 hpos, hlen, hla, hra, hlf, hrf, haligned]

/-- The fields of a SEND to one destination that R308 allows. -/
structure MovCmd.SendsOne (k : MovCmd) : Prop where
  opc : k.opc = 4
  space : k.space ≤ 3
  remote : k.remote = 0
  len : k.len ≤ 4096
  one : k.ndst = 0
  localFits : k.local_ + 32 + k.len ≤ sramSize
  listFits : k.list ≤ sramSize

/-- SEND of a program that serves no context, with a legal type: the packet has the header's fields and the mover's own, and no deadline. -/
theorem State.movSend_of_one {h : Hdr} (hnext : (s.core c).movNext = some q) (hk : (movCmd q.words).SendsOne) (huser : (s.core c).user = none)
    (hh : h = Hdr.ofWords ((List.range 8).map (fun i => rdNat (s.core c).rd ((movCmd q.words).local_ + 4 * i) 4)))
    (htype : typeOk h.type h.tc = true) :
    s.movSend c =
      let hd : Hdr := { type := h.type, tc := h.tc, dst := h.dst, src := s.ownId, job := (s.bindOf c).job, len := (movCmd q.words).len,
                        offset := h.offset, ctx := h.ctx, chunk := h.chunk, msg := h.msg }
      (s.sendFrom c (Pkt.mk hd ((List.range (movCmd q.words).len).map (fun i => (s.core c).rd ((movCmd q.words).local_ + 32 + i)))) none 0).movRun c q 0
        (32 + (movCmd q.words).len) := by
  obtain ⟨hopc, hspace, hremote, hlen, hone, hlocal, hlist⟩ := hk
  subst hh
  simp only [State.movSend, hnext, huser, hone]
  rw [if_neg (not_not_intro hopc), if_neg]
  · rfl
  · simp [hspace, hremote, hlen, hlocal, hlist, htype]

theorem State.movDone_of_running {r : Running} (hr : (s.core c).mov = some r) :
    s.movDone c =
      let u := (s.setCore c { s.core c with mov := none }).postMov c r.cmd r.status r.bytes
      if r.status = 0x50 then u.bump (settReg c 0x3AC) else u := by
  simp only [State.movDone, hr]

end Sys2Proof.Machine
end

section
/-! PROOF. The obligation on the commands of a core's engines. -/

namespace Sys2Proof.Proofs

open Sys2Proof Sys2Proof.Machine

/-- Settles O11: row by row, the row's own equation and then what its engine does under the premises. -/
theorem engineCommandsOfACore : Obligations.EngineCommandsOfACore := by
  refine ⟨?aq, ?vq, ?mq, ?full, ?matmul, ?elem, ?arrayGood, ?arrayErr, ?chain, ?setpred, ?vector, ?refused, ?get, ?put, ?gather, ?send, ?mover, ?pops⟩
  case aq =>
    intro s c w hc hp hl hn
    rw [exec_aqCommit hc hp, SettCore.aqCommit, if_neg (SettCore.commit_goes hl hn)]
  case vq =>
    intro s c w hc hp hl hn
    rw [exec_vqCommit hc hp, SettCore.vqCommit, if_neg (SettCore.commit_goes hl hn)]
  case mq =>
    intro s c w hc hp hl hn
    rw [exec_mqCommit hc hp, SettCore.mqCommit, if_neg (SettCore.commit_goes hl hn)]
  case full =>
    intro s c w hc hp
    refine ⟨fun hn => ?_, fun hn => ?_, fun hn => ?_⟩
    · rw [exec_aqCommit hc hp, SettCore.aqCommit, if_pos (SettCore.commit_holds _ hn)]
    · rw [exec_vqCommit hc hp, SettCore.vqCommit, if_pos (SettCore.commit_holds _ hn)]
    · rw [exec_mqCommit hc hp, SettCore.mqCommit, if_pos (SettCore.commit_holds _ hn)]
  case matmul =>
    intro s c q e hc hp hheld hnext hopc
    rw [exec_matmul hc hp, State.arrayStart_of_next e hc hp hheld hnext (by simp [hopc])]
    rfl
  case elem =>
    intro s c q e hc hp hheld hnext hopc
    rw [exec_elem hc hp, State.arrayStart_of_next e hc hp hheld hnext (by simp [hopc])]
    rfl
  case arrayGood =>
    intro s c r hc hp hr he
    rw [exec_arrayCompletion hc hp, hr, Option.isSome_some, if_pos rfl, State.arrayDone_of_good hr he]
  case arrayErr =>
    intro s c n r hc hp hr he
    rw [exec_arrayCompletion hc hp, hr, Option.isSome_some, if_pos rfl, State.arrayDone_of_err hr he]
  case chain =>
    intro s c q e hc hp hnext hopc
    rw [exec_chain hc hp, SettCore.chainStart_of_next e hnext hopc]
  case setpred =>
    intro s c q hc hp hnext hopc hrsv
    rw [exec_setpred hc hp, State.setPred_of_next hnext hopc (by rw [bits_eq_div_mod, hrsv])]
  case vector =>
    intro s c r hc hp hr he hsetp
    rw [exec_vectorCompletion hc hp, State.vecDone_of_good hr he hsetp]
  case refused =>
    intro s c q l hc hp hnext hst
    refine ⟨fun hopc => ?_, fun hopc => ?_⟩
    · rw [exec_movGet hc hp, State.movGet_of_refused hnext hopc hst]
    · rw [exec_movPut hc hp, State.movPut_of_refused hnext l hopc hst]
  case get =>
    intro s c q hc hp hnext hopc hst hspace
    rw [exec_movGet hc hp, State.movGet_of_tier hnext hopc hst hspace]
  case put =>
    intro s c q hc hp hnext hopc hst
    rw [exec_movPut hc hp, State.movPut_of_good hnext hopc hst]
  case gather =>
    intro s c q hc hp hnext hopc hspace hpos hlen hla hra hlf hrf offs hoffs
    rw [exec_gather hc hp, State.movGather_of_reached hnext ⟨hopc, hspace, hpos, hlen, hla, hra, hlf, hrf⟩ hoffs]
    rfl
  case send =>
    intro s c q h hc hp hnext hopc hspace hremote hlen hone hlocal hlist huser hh htype
    rw [exec_send hc hp, State.movSend_of_one hnext ⟨hopc, hspace, hremote, hlen, hone, hlocal, hlist⟩ huser hh htype]
  case mover =>
    intro s c r hc hp hr
    rw [exec_moverCompletion hc hp, State.movDone_of_running hr]
  case pops =>
    intro s c r l hc hp
    refine ⟨fun hq => ?_, fun hq => ?_, fun hq => ?_, fun hq => ?_, fun hq => ?_⟩
    · rw [exec_acompPop hc hp, State.acompPop, hq]
      rfl
    · rw [exec_vsumPop hc hp, State.vsumPop, hq]
      rfl
    · rw [exec_mcompPop hc hp, State.mcompPop, hq]
      rfl
    · rw [exec_inboxPop hc hp, State.inboxPop, hq]
      rfl
    · rw [exec_acompPop hc hp, State.acompPop, hq]
      rfl

end Sys2Proof.Proofs
end

section
/-! PROOF. What the commands of placement and embedding tables do where Keeper takes them (R312, R313, R322, R332, R391), one equation for each row
first. -/

namespace Sys2Proof.Machine

variable {s : State} {c : Cmd}

theorem exec_moePlace (s : State) (c : Cmd) : exec (.moePlace c) s = .next (settle s (s.moePlace c)) := rfl
theorem exec_moePlaceCommit (s : State) (c : Cmd) : exec (.moePlaceCommit c) s = .next (settle s (s.moePlaceCommit c)) := rfl
theorem exec_embCreate (s : State) (c : Cmd) : exec (.embCreate c) s = .next (settle s (s.embCreate c)) := rfl
theorem exec_embRelease (s : State) (c : Cmd) : exec (.embRelease c) s = .next (settle s (s.embRelease c)) := rfl

/-! MOE_PLACE (R322, R391). -/

/-- The entries that a MOE_PLACE carries, from P4 on. -/
def placeEntries (c : Cmd) : List Nat := (List.range (bits (c.p 1) 10 9)).map fun k => c.p64 (4 + 2 * k)

/-- The numbers of the entries of a table that have been written after a MOE_PLACE: its own and the earlier ones. -/
def PlaceTable.writtenBy (tab : PlaceTable) (c : Cmd) : List Nat :=
  (List.range (bits (c.p 1) 10 9)).foldl (fun l k => if l.contains (bits (c.p 1) 0 10 + k) then l else (bits (c.p 1) 0 10 + k) :: l) tab.written

/-- A table after a MOE_PLACE, which is usable for `experts`. -/
def PlaceTable.placed (tab : PlaceTable) (c : Cmd) (experts : Option Nat) : PlaceTable :=
  { job := c.job,
    entries := (List.range (bits (c.p 1) 10 9)).foldl (fun m k => Tbl.put 0 m (bits (c.p 1) 0 10 + k) ((placeEntries c).getD k 0)) tab.entries,
    written := tab.writtenBy c, experts := experts }

/-- The table that a MOE_PLACE names. -/
def State.placeTable (s : State) (c : Cmd) : PlaceTable := Tbl.get {} s.coll.tables (bits (c.p 0) 0 8)

/-- A MOE_PLACE has its operands in their ranges, names replicas of its job only, and writes a table of its job or of none that no context uses; with
COMMIT, each of its experts has an entry (R322, R391). -/
structure State.Places (s : State) (c : Cmd) (commit : Bool) : Prop where
  reserved0 : bits (c.p 0) 9 23 = 0
  commits : bit (c.p 0) 8 = commit
  reserved1 : bits (c.p 1) 19 13 = 0
  count : bits (c.p 1) 10 9 ≤ 508
  within : bits (c.p 1) 0 10 + bits (c.p 1) 10 9 ≤ 1024
  experts : c.p 2 < 1024
  reserved3 : c.p 3 = 0
  entries : ∀ e ∈ placeEntries c, bits e 58 6 = 0 ∧ ∀ k, k ≤ bits e 56 2 → s.inJob c.job (bits e (14 * k) 14) = true
  job : (s.placeTable c).job = 0 ∨ (s.placeTable c).job = c.job
  unused : s.tableInUse (bits (c.p 0) 0 8) = false
  complete : commit = true → ∀ k, k ≤ c.p 2 → k ∈ (s.placeTable c).writtenBy c

/-- With COMMIT, no expert is without an entry. -/
theorem State.Places.covered {commit : Bool} (h : s.Places c commit) :
    (commit && !(List.range (c.p 2 + 1)).all ((s.placeTable c).writtenBy c).contains) = false := by
  cases commit with
  | false => rfl
  | true => simpa [Nat.lt_succ_iff] using h.complete rfl

/-- Such a MOE_PLACE writes its table and is answered OK. -/
theorem State.placeBody_of_places {commit : Bool} (h : s.Places c commit) :
    s.placeBody c commit =
      ({ s with coll := { s.coll with
          tables := Tbl.put {} s.coll.tables (bits (c.p 0) 0 8) ((s.placeTable c).placed c (if commit then some (c.p 2 + 1) else none)) } },
        .ok []) := by
  rw [State.placeBody]
  refine (Ans.check_ok _ _ _ ?ranges).trans ((if_neg ?owner).trans ((if_neg ?replicas).trans ((if_neg ?use).trans ((if_neg ?cover).trans rfl))))
  case ranges =>
    simpa [h.reserved0, h.commits, h.reserved1, h.count, h.within, h.experts, h.reserved3, placeEntries] using fun e he => (h.entries e he).1
  case owner => simpa [State.placeTable] using h.job.resolve_left
  case replicas => simpa [Nat.lt_succ_iff, placeEntries] using fun e he => (h.entries e he).2
  case use => simp [h.unused]
  case cover => exact Bool.eq_false_iff.1 h.covered

end Sys2Proof.Machine
end

section
/-! PROOF. The obligation on the commands of placement and embedding tables. -/

namespace Sys2Proof.Proofs

open Sys2Proof Sys2Proof.Machine

/-- Settles O19: each command passes its checks, and what is left of its body is the branch that the premises choose; MOE_PLACE is one argument with
and without COMMIT. -/
theorem tableCommands : Obligations.TableCommands := by
  refine ⟨?place, ?placeCommit, ?create, ?release⟩
  case place =>
    intro s u i c t first n tab new es w hi ht hu htab hfirst hn h0 hcommit h1 hcount hwithin hexperts h3 hes hentries hget hjob hunused hw hnew
    subst hi hu htab hfirst hn hes hget hw hnew
    rw [exec_moePlace, State.moePlace, moePlaceInfo]
    have hplaces : (s.cmdBegin c).Places c false := ⟨h0, hcommit, h1, hcount, hwithin, hexperts, h3, hentries, hjob, hunused, nofun⟩
    rw [State.runCmd_of_body ht (State.placeBody_of_places hplaces)]
    rfl
  case placeCommit =>
    intro s u i c t first n tab new es w hi ht hu htab hfirst hn h0 hcommit h1 hcount hwithin hexperts h3 hes hentries hget hjob hunused hw hall hnew
    subst hi hu htab hfirst hn hes hget hw hnew
    rw [exec_moePlaceCommit, State.moePlaceCommit, moePlaceInfo]
    have hplaces : (s.cmdBegin c).Places c true := ⟨h0, hcommit, h1, hcount, hwithin, hexperts, h3, hentries, hjob, hunused, fun _ => hall⟩
    rw [State.runCmd_of_body ht (State.placeBody_of_places hplaces)]
    rfl
  case create =>
    intro s u i c t n fmt dim base rows r size mib b0 p0 b p e hi ht hu htab hn hfmt hdim hbase hrows h0 hpos hle hfmtle h1 hdimpos hdimle hb hkind
      hbjob hr htype hrjob hsize hbasemod h7 hrowspos hrowsle hstride hfits hreach hnew hp hmib hfree hspill he
    subst hi hu htab hn hfmt hdim hbase hrows hsize hmib he
    have hlen : (((s.cmdBegin c).freeCores c.job).take (bits (c.p 0) 8 6)).length = bits (c.p 0) 8 6 := List.length_take_of_le hfree
    rw [exec_embCreate, State.embCreate, State.runCmd_of_body ht]
    simp only [hb, hr, Option.map_some]
    rw [Ans.check_ok _ _ _ (by simp [h0, hpos, hle, hfmtle, h1, hdimpos, hdimle, hkind, htype, hbasemod, h7, hrowspos, hrowsle, hstride, hfits,
      hreach, -Nat.reducePow])]
    simp only [hbjob, hrjob, hnew, hp, hlen, hspill, Nat.lt_irrefl, ne_eq, not_true_eq_false, bne_self_eq_false, decide_false, Bool.or_self,
      Bool.not_true, Bool.false_eq_true, if_false]
  case release =>
    intro s u i c e hi ht hu hlt he hdim hj
    subst hi hu he
    rw [exec_embRelease, State.embRelease, State.runCmd_of_body ht]
    rw [Ans.check_ok _ _ _ (by simp [hlt])]
    exact (if_neg hdim).trans (if_neg (not_not_intro hj))

end Sys2Proof.Proofs
end

section
/-! PROOF. What the bytes of module memory are after a write of a line, a write within a line that opens an entry, and a wipe (R345, R346, R353). -/

namespace Sys2Proof.Machine

/-! Sparse tables: a read after a run of writes and after a clearing, and how many entries a run of writes adds. -/

namespace Tbl

variable {α : Type} (d : α)

theorem get_putMany [DecidableEq α] (t : Tbl α) (i j : Nat) (l : List α) :
    get d (putMany d t i l) j = if i ≤ j ∧ j < i + l.length then l.getD (j - i) d else get d t j := by
  split
  next h =>
    obtain ⟨k, rfl⟩ := Nat.exists_eq_add_of_le h.1
    rw [get_putMany_in d l t i k (by omega), Nat.add_sub_cancel_left]
  next h => exact get_putMany_out d l t i j (by omega)

theorem get_clearWhere (t : Tbl α) (f : Nat → Bool) (j : Nat) : get d (clearWhere t f) j = if f j = true then d else get d t j := by
  induction t with
  | nil => exact (ite_self d).symm
  | cons x t ih =>
    obtain ⟨k, v⟩ := x
    rw [clearWhere] at ih ⊢
    by_cases hf : f k = true
    · rw [List.filter_cons_of_neg (by simp [hf]), ih, get]
      by_cases hk : k = j
      · rw [if_pos (hk ▸ hf), if_pos (hk ▸ hf)]
      · rw [if_neg hk]
    · rw [List.filter_cons_of_pos (by simp [hf]), get, get, ih]
      by_cases hk : k = j
      · rw [if_pos hk, if_pos hk, if_neg (hk ▸ hf)]
      · rw [if_neg hk, if_neg hk]

theorem length_insert (t : Tbl α) (i : Nat) (v : α) : (insert i v t).length = t.length + 1 := by
  induction t with
  | nil => rfl
  | cons x t ih =>
    rw [insert]
    split
    · rfl
    · rw [List.length_cons, ih, List.length_cons]

theorem length_put_le [DecidableEq α] (t : Tbl α) (i : Nat) (v : α) : (put d t i v).length ≤ t.length + 1 := by
  have herase : (erase t i).length ≤ t.length := List.length_filter_le _ _
  rw [put]
  split
  · exact Nat.le_succ_of_le herase
  · rw [length_insert]
    exact Nat.succ_le_succ herase

theorem length_putMany_le [DecidableEq α] (t : Tbl α) (i : Nat) (l : List α) : (putMany d t i l).length ≤ t.length + l.length := by
  induction l generalizing t i with
  | nil => exact Nat.le_refl _
  | cons v l ih =>
    calc (putMany d (put d t i v) (i + 1) l).length
      _ ≤ (put d t i v).length + l.length := ih _ _
      _ ≤ t.length + (l.length + 1) := by have := length_put_le d t i v; omega

end Tbl

variable {s : State} {e : WcbEntry}

/-! A byte as a reader sees it, with and without an entry of its line. -/

theorem State.memByte_of_no_entry {a : Nat} (h : s.wcbOf (lineOf a) = none) : s.memByte a = Tbl.get 0 s.mem.bytes a := by
  rw [State.memByte, h]

theorem State.memByte_of_entry {a : Nat} (h : s.wcbOf (lineOf a) = some e) :
    s.memByte a = (Tbl.get none e.bytes (a % 64)).getD (Tbl.get 0 s.mem.bytes a) := by
  simp only [State.memByte, h]
  cases Tbl.get none e.bytes (a % 64) <;> rfl

theorem State.memByte_congr {t : State} {a : Nat} (hentry : t.wcbOf (lineOf a) = s.wcbOf (lineOf a))
    (hbyte : Tbl.get 0 t.mem.bytes a = Tbl.get 0 s.mem.bytes a) : t.memByte a = s.memByte a := by
  rw [State.memByte, State.memByte, hentry, hbyte]

theorem State.memRead_getD (s : State) (o : Nat) {n k : Nat} (h : k < n) : (s.memRead o n).getD k 0 = s.memByte (o + k) := by
  simp [State.memRead, h]

/-! A write of one whole line drops the line's entry and goes to DRAM (R353). -/

theorem State.memWrite_of_line (s : State) {o : Nat} {l : List Byte} (ho : o % 64 = 0) (hl : l.length = 64) :
    s.memWrite o l = (s.wcbDrop (lineOf o)).dramLine (lineOf o) l := by
  have hne : l.isEmpty = false := by simp [← List.length_eq_zero_iff, hl]
  have htake : l.take 64 = l := List.take_of_length_le (Nat.le_of_eq hl)
  have hdrop : l.drop 64 = [] := List.drop_eq_nil_of_le (Nat.le_of_eq hl)
  simp [State.memWrite, State.memWriteFuel, hne, hl, ho, htake, hdrop]

theorem State.wcbOf_wcbDrop_self (s : State) (l : Nat) : (s.wcbDrop l).wcbOf l = none := by
  simp [State.wcbOf, State.wcbDrop]

theorem State.wcbOf_wcbDrop_ne (s : State) {l m : Nat} (h : m ≠ l) : (s.wcbDrop l).wcbOf m = s.wcbOf m := by
  have hsame : ∀ x : WcbEntry, ((x.line != l) = true ∧ (x.line == m) = true) ↔ (x.line == m) = true := fun x =>
    and_iff_right_of_imp fun hx => bne_iff_ne.2 fun hl => h ((beq_iff_eq.1 hx).symm.trans hl)
  simp only [State.wcbOf, State.wcbDrop, List.find?_filter, hsame, Bool.decide_eq_true]

theorem State.memByte_of_line_written (s : State) {m : Nat} {l : List Byte} (hl : l.length = 64) (a : Nat) :
    ((s.wcbDrop m).dramLine m l).memByte a = if lineOf a = m then l.getD (a - 64 * m) 0 else s.memByte a := by
  have hbyte : Tbl.get 0 ((s.wcbDrop m).dramLine m l).mem.bytes a =
      if 64 * m ≤ a ∧ a < 64 * m + l.length then l.getD (a - 64 * m) 0 else Tbl.get 0 s.mem.bytes a := Tbl.get_putMany 0 _ _ _ _
  have hline : (64 * m ≤ a ∧ a < 64 * m + l.length) ↔ lineOf a = m := by rw [hl, lineOf]; omega
  by_cases hm : lineOf a = m
  · have hentry : ((s.wcbDrop m).dramLine m l).wcbOf (lineOf a) = none := hm ▸ s.wcbOf_wcbDrop_self (lineOf a)
    rw [State.memByte_of_no_entry hentry, hbyte, if_pos (hline.2 hm), if_pos hm]
  · rw [if_neg hm]
    exact State.memByte_congr (s.wcbOf_wcbDrop_ne hm) (hbyte.trans (if_neg (mt hline.1 hm)))

/-! A write within a line that has no entry opens one, where its controller has a place free (R353). -/

theorem State.memWrite_within_line (s : State) {o : Nat} {l : List Byte} (hne : l ≠ []) (hl : l.length < 64) (hfit : o % 64 + l.length ≤ 64) :
    s.memWrite o l = s.wcbWrite (lineOf o) (o % 64) l := by
  have htake : l.take (64 - o % 64) = l := List.take_of_length_le (by omega)
  have hdrop : l.drop (64 - o % 64) = [] := List.drop_eq_nil_of_le (by omega)
  simp [State.memWrite, State.memWriteFuel, hne, htake, hdrop, Nat.ne_of_lt hl]

/-- The entry that a write of bytes of line `m`, from byte `f` of it, opens. -/
def State.openedEntry (s : State) (m f : Nat) (l : List Byte) : WcbEntry :=
  { line := m, bytes := Tbl.putMany none [] f (l.map some), openedAt := s.clk }

theorem State.wcbWrite_of_free {m f : Nat} {l : List Byte} (hl : l.length < 64) (hnone : s.wcbOf m = none) (hfree : (s.wcbPeers m).length < 64) :
    s.wcbWrite m f l = { s with mem := { s.mem with wcb := s.mem.wcb ++ [s.openedEntry m f l] } } := by
  have hshort : (Tbl.putMany none [] f (l.map some)).length ≠ 64 := by
    have := Tbl.length_putMany_le none [] f (l.map some)
    simp only [List.length_nil, List.length_map] at this
    omega
  simp [State.wcbWrite, State.openedEntry, hnone, Nat.not_le.2 hfree, hshort]

theorem State.wcbOf_opened (hnone : s.wcbOf e.line = none) (m : Nat) :
    State.wcbOf { s with mem := { s.mem with wcb := s.mem.wcb ++ [e] } } m = if m = e.line then some e else s.wcbOf m := by
  rw [State.wcbOf] at hnone ⊢
  rw [List.find?_append]
  by_cases h : m = e.line
  · have hfound : [e].find? (fun x => x.line == m) = some e := List.find?_cons_of_pos (beq_iff_eq.2 h.symm)
    rw [hfound, if_pos h, h, hnone, Option.none_or]
  · have hmissed : [e].find? (fun x => x.line == m) = none := List.find?_cons_of_neg fun he => h (beq_iff_eq.1 he).symm
    rw [hmissed, if_neg h, Option.or_none, State.wcbOf]

theorem State.openedEntry_byte (s : State) (m f : Nat) (l : List Byte) (k : Nat) :
    Tbl.get none (s.openedEntry m f l).bytes k = if f ≤ k ∧ k < f + l.length then some (l.getD (k - f) 0) else none := by
  rw [State.openedEntry, Tbl.get_putMany, List.length_map]
  split
  next h =>
    have hk : k - f < l.length := by omega
    simp [hk]
  next => rfl

theorem State.memByte_of_opened {m f : Nat} {l : List Byte} (hnone : s.wcbOf m = none) (a : Nat) :
    State.memByte { s with mem := { s.mem with wcb := s.mem.wcb ++ [s.openedEntry m f l] } } a =
      if lineOf a = m ∧ f ≤ a % 64 ∧ a % 64 < f + l.length then l.getD (a % 64 - f) 0 else s.memByte a := by
  have hentry := State.wcbOf_opened (e := s.openedEntry m f l) hnone (lineOf a)
  by_cases hm : lineOf a = m
  · rw [State.memByte_of_entry (hentry.trans (if_pos hm)), State.openedEntry_byte, State.memByte_of_no_entry (hm ▸ hnone)]
    by_cases hin : f ≤ a % 64 ∧ a % 64 < f + l.length <;> simp [hm, hin]
  · rw [State.memByte_congr (hentry.trans (if_neg hm)) rfl]
    simp [hm]

/-! A wipe clears the bytes of its region (R346). -/

theorem State.flushWhere_of_empty (s : State) (f : WcbEntry → Bool) (h : s.mem.wcb = []) : s.flushWhere f = s := by
  rw [State.flushWhere, h]
  rfl

theorem State.memByte_of_wiped (n a : Nat) (h : s.mem.wcb = []) :
    (s.wipeRegion n).memByte a = if (s.region n).base ≤ a ∧ a < (s.region n).base + (s.region n).size then 0 else s.memByte a := by
  have hempty : ∀ t : State, t.mem.wcb = [] → t.wcbOf (lineOf a) = none := fun t ht => by rw [State.wcbOf, ht]; rfl
  have hwcb : (s.wipeRegion n).mem.wcb = [] := by rw [State.wipeRegion, State.flushWhere_of_empty _ _ h]; exact h
  rw [State.memByte_of_no_entry (hempty _ hwcb), State.memByte_of_no_entry (hempty s h), State.wipeRegion, State.flushWhere_of_empty _ _ h]
  simp [Tbl.get_clearWhere]

end Sys2Proof.Machine
end

section
/-! PROOF. The obligation on what memory reads after a write. -/

namespace Sys2Proof.Proofs

open Sys2Proof Sys2Proof.Machine

/-- Settles O47: each write is first one operation on its line, then its bytes are those between `o` and its end. -/
theorem whatMemoryReadsAfterAWrite : Obligations.WhatMemoryReadsAfterAWrite := by
  refine ⟨?line, ?within, ?wipe, ?read⟩
  case line =>
    intro s o a l ho hl
    have hstart : 64 * lineOf o = o := by rw [lineOf]; omega
    have hrange : (lineOf a = lineOf o) ↔ (o ≤ a ∧ a < o + 64) := by rw [lineOf, lineOf]; omega
    rw [State.memWrite_of_line s ho hl, State.memByte_of_line_written s hl, hstart]
    simp only [hrange]
  case within =>
    intro s o a l hne hl hfit hnone hfree
    rw [← lineOf] at hnone hfree
    rw [State.memWrite_within_line s hne hl hfit, State.wcbWrite_of_free hl hnone hfree, State.memByte_of_opened hnone]
    have hrange : (lineOf a = lineOf o ∧ o % 64 ≤ a % 64 ∧ a % 64 < o % 64 + l.length) ↔ (o ≤ a ∧ a < o + l.length) := by
      rw [lineOf, lineOf]; omega
    simp only [hrange]
    split
    next h => rw [show a % 64 - o % 64 = a - o by omega]
    next => rfl
  case wipe => exact fun s n a h => State.memByte_of_wiped n a h
  case read => exact fun s o n k h => s.memRead_getD o h

end Sys2Proof.Proofs
end

section
/-! PROOF. What a bulk transfer does where Keeper takes it and its range is, or is not, the command's to use (R347, R348, R392, R546). -/

namespace Sys2Proof.Machine

variable {s : State} {c : Cmd}

theorem exec_bulkXferToModule (s : State) (c : Cmd) : exec (.bulkXferToModule c) s = .next (settle s (s.bulkToModule c)) := rfl
theorem exec_bulkXferToHost (s : State) (c : Cmd) : exec (.bulkXferToHost c) s = .next (settle s (s.bulkToHost c)) := rfl

/-- The operands of a BULK_XFER of some bytes are in their ranges (R392). -/
structure BulkRanges (c : Cmd) : Prop where
  host : c.p64 0 % 64 = 0
  offset : c.p64 2 < 2 ^ 48
  rest : bits (c.p 4) 1 31 = 0
  lines : c.p64 5 % 64 = 0
  atMost : c.p64 5 ≤ 2 ^ 40
  nonzero : c.p64 5 ≠ 0

/-- A command of job 0 may use what the host may; one of another job, a range within one READY region of its own (R347, R348). -/
inductive State.BulkPermitted (s : State) (c : Cmd) : Prop where
  | host (job : c.job = 0) (ok : s.checkHost (c.p64 2) (c.p64 5) = .ok)
  | own (k : Nat) (job : c.job ≠ 0) (tier : s.reservedRange s.visMax (c.p64 2) (c.p64 5) = false)
      (span : s.regionSpan (c.p64 2) (c.p64 5) = some k) (owner : (s.region k).job = c.job) (ready : (s.region k).state = .ready)

/-- The checks of the operands that both directions share. -/
theorem BulkRanges.checks (h : BulkRanges c) :
    ([(0, c.p64 0 % 64 == 0), (3, c.p64 2 < 2 ^ 48), (4, bits (c.p 4) 1 31 == 0), (5, c.p64 5 % 64 == 0 && c.p64 5 ≤ 2 ^ 40)] :
      List (Nat × Bool)).all (·.2) = true := by
  simp [h.host, h.offset, h.rest, h.lines, h.atMost, -Nat.reducePow]

theorem State.bulkCheck_of_permitted (k : State → State × Ans) (h : BulkRanges c) (hp : s.BulkPermitted c) : s.bulkCheck c k = k s := by
  rw [State.bulkCheck, Ans.check_ok _ _ _ h.checks]
  cases hp with
  | host job ok => simp [h.nonzero, job, ok]
  | own n job tier span owner ready => simp [h.nonzero, job, tier, span, owner, ready]

/-- A range in no region is not the job's own: NOT_OWNER, and the refusal is recorded. -/
theorem State.bulkCheck_of_no_region (k : State → State × Ans) (h : BulkRanges c) (hjob : c.job ≠ 0)
    (htier : s.reservedRange s.visMax (c.p64 2) (c.p64 5) = false) (hspan : s.regionSpan (c.p64 2) (c.p64 5) = none) :
    s.bulkCheck c k = (s.accViol (c.p64 2) c.job, .no 0x22) := by
  rw [State.bulkCheck, Ans.check_ok _ _ _ h.checks]
  simp [h.nonzero, hjob, htier, hspan]

theorem State.bulkToModule_of_permitted (ht : s.Takes bulkInfo c) (h : BulkRanges c) (hdir : bit (c.p 4) 0 = false)
    (hp : (s.cmdBegin c).BulkPermitted c) :
    s.bulkToModule c =
      (if (s.cmdBegin c).canMaster = true then (s.cmdBegin c).emit (.hostRead (c.p64 0) (c.p64 5)) else s.cmdBegin c).cmdEnd bulkInfo c
        { goes := true, data := [] } := by
  rw [State.bulkToModule, State.runCmd_of_body ht]
  rw [Ans.check_ok _ _ _ (by simp [hdir]), State.bulkCheck_of_permitted _ h hp]

theorem State.bulkToHost_of_permitted (ht : s.Takes bulkInfo c) (h : BulkRanges c) (hdir : bit (c.p 4) 0 = true)
    (hp : (s.cmdBegin c).BulkPermitted c) : s.bulkToHost c = (s.cmdBegin c).cmdEnd bulkInfo c { goes := true, data := [] } := by
  rw [State.bulkToHost, State.runCmd_of_body ht]
  rw [Ans.check_ok _ _ _ (by simp [hdir]), State.bulkCheck_of_permitted _ h hp]

end Sys2Proof.Machine
end

section
/-! PROOF. The obligation on bulk transfers. -/

namespace Sys2Proof.Proofs

open Sys2Proof Sys2Proof.Machine

/-- Settles O34: a range is permitted in the host's way or as the job's own, and each direction is one argument for both. -/
theorem bulkCommands : Obligations.BulkCommands := by
  refine ⟨?moduleHost, ?hostHost, ?moduleOwn, ?hostOwn, ?foreign⟩
  case moduleHost =>
    intro s u i c o n hi ht hu ho hn hhost hoff hrest hlines hmost hsome hjob hok hdir
    subst hi hu ho hn
    rw [exec_bulkXferToModule, State.bulkToModule_of_permitted ht ⟨hhost, hoff, hrest, hlines, hmost, hsome⟩ hdir (.host hjob hok), bulkInfo]
  case hostHost =>
    intro s u i c o n hi ht hu ho hn hhost hoff hrest hlines hmost hsome hjob hok hdir
    subst hi hu ho hn
    rw [exec_bulkXferToHost, State.bulkToHost_of_permitted ht ⟨hhost, hoff, hrest, hlines, hmost, hsome⟩ hdir (.host hjob hok), bulkInfo]
  case moduleOwn =>
    intro s u i c o n k hi ht hu ho hn hhost hoff hrest hlines hmost hsome hjob htier hspan howner hready hdir
    subst hi hu ho hn
    rw [exec_bulkXferToModule, State.bulkToModule_of_permitted ht ⟨hhost, hoff, hrest, hlines, hmost, hsome⟩ hdir
      (.own k hjob htier hspan howner hready), bulkInfo]
  case hostOwn =>
    intro s u i c o n k hi ht hu ho hn hhost hoff hrest hlines hmost hsome hjob htier hspan howner hready hdir
    subst hi hu ho hn
    rw [exec_bulkXferToHost, State.bulkToHost_of_permitted ht ⟨hhost, hoff, hrest, hlines, hmost, hsome⟩ hdir
      (.own k hjob htier hspan howner hready), bulkInfo]
  case foreign =>
    intro s u i c o n hi ht hu ho hn hhost hoff hrest hlines hmost hsome hdir hjob htier hspan
    subst hi hu ho hn
    rw [exec_bulkXferToHost, State.bulkToHost, bulkInfo, State.runCmd_of_body ht]
    rw [Ans.check_ok _ _ _ (by simp [hdir]), State.bulkCheck_of_no_region _ ⟨hhost, hoff, hrest, hlines, hmost, hsome⟩ hjob htier hspan]

end Sys2Proof.Proofs
end

section
/-! PROOF. Every row leaves the rest of the queue alone (R372), and a row that brings a packet of a source that is not served does nothing (R370, R377,
R460, R507). -/

namespace Sys2Proof.Machine

open Sys2Proof.Laws.RowOp (packet)

/-! One step of the queue. -/

theorem step_of_front {s : State} {c : Instr} {rest : List Instr} (hs : s.pending = c :: rest) : step s = exec c { s with pending := rest } := by
  rw [step, hs]

/-- A row keeps the queue that it finds. -/
theorem pending_of_exec {i : Instr} {s t : State} (h : exec i s = .next t) : t.pending = s.pending := by
  obtain ⟨u, hu⟩ := exec_settle i s
  rw [hu] at h
  cases h
  exact settle_pending s u

theorem step_answers (s : State) : ∃ t, step s = .next t := by
  rcases hs : s.pending with _ | ⟨c, rest⟩
  · exact ⟨_, step_of_pending_nil hs⟩
  · obtain ⟨u, hu⟩ := exec_settle c { s with pending := rest }
    exact ⟨_, (step_of_front hs).trans hu⟩

/-- A step leaves the queue without its front; the empty queue stays empty. -/
theorem pending_of_step {s t : State} (h : step s = .next t) : t.pending = s.pending.tail := by
  rcases hs : s.pending with _ | ⟨c, rest⟩
  · rw [step_of_pending_nil hs] at h
    cases h
    exact hs
  · rw [step_of_front hs] at h
    exact pending_of_exec h

/-! A source that Keeper does not serve. -/

section
variable {s : State} {c : Cmd}

/-- A row that asks first whether its packet's source is served does nothing where it is not. -/
theorem next_settle_of_unserved {i : Instr} {u : State} (h : s.serves c.src = false)
    (hrow : exec i s = .next (settle s (if !s.serves c.src then s else u))) : exec i s = .next (settle s s) := by
  rw [hrow, if_pos (by simp [h])]

theorem exec_lcChange (s : State) (c : Cmd) : exec (.lcChange c) s = .next (settle s (s.lcChange c)) := rfl

/-- LC_CHANGE burns its fuses behind the interpreter's run, and only where the source is served. -/
theorem State.lcChange_of_unserved (h : s.serves c.src = false) : s.lcChange c = s := by
  simp [State.lcChange, s.runCmd_unserved _ c _ h, h]

/-- Every row that brings a packet asks first whether its source is served, LC_CHANGE twice. -/
theorem exec_packet_of_unserved {i : Instr} (hp : packet i = some c) (h : s.serves c.src = false) : exec i s = .next (settle s s) := by
  cases i <;> cases hp
  case lcChange => rw [exec_lcChange, State.lcChange_of_unserved h]
  all_goals exact next_settle_of_unserved h rfl

end

end Sys2Proof.Machine
end

section
/-! PROOF. The obligations on what a step takes from the queue and on commands that are not served. -/

namespace Sys2Proof.Proofs

open Sys2Proof Sys2Proof.Machine

/-- Settles O40: every row answers the settled form of a state, and settling leaves the queue, so that a step leaves the queue's tail. -/
theorem everyStepCompletesAndTakesOneCommand : Obligations.EveryStepCompletesAndTakesOneCommand := by
  refine ⟨step_answers, ?front, ?empty, ?wf⟩
  case front =>
    intro s t c rest hs h
    rw [pending_of_step h, hs, List.tail_cons]
  case empty =>
    intro s t hs h
    rw [pending_of_step h, hs, List.tail_nil]
  case wf =>
    intro s t hwf h c hc
    rw [pending_of_step h] at hc
    exact hwf c (List.mem_of_mem_tail hc)

/-- Settles O48: every row listed brings the packet `c`, and a row that brings a packet of a source that is not served does nothing. -/
theorem commandsOfASourceThatIsNotServedDoNothing : Obligations.CommandsOfASourceThatIsNotServedDoNothing := by
  intro s c i h hi
  have hp : Laws.RowOp.packet i = some c := by
    revert i
    simp only [List.forall_mem_cons, List.not_mem_nil, false_imp_iff, implies_true, and_true]
    and_intros <;> rfl
  exact exec_packet_of_unserved hp h

end Sys2Proof.Proofs
end

section
/-! PROOF. What the commands of the mirrored pair do where Keeper takes them (R395, R420, R435–R437), one equation for each row first. -/

namespace Sys2Proof.Machine

variable {s : State} {c : Cmd}

theorem exec_pairForm (s : State) (c : Cmd) : exec (.pairForm c) s = .next (settle s (s.pairForm c)) := rfl
theorem exec_pairBreak (s : State) (c : Cmd) : exec (.pairBreak c) s = .next (settle s (s.pairBreak c)) := rfl
theorem exec_pairStatus (s : State) (c : Cmd) : exec (.pairStatus c) s = .next (settle s (s.pairStatus c)) := rfl
theorem exec_pairResync (s : State) (c : Cmd) : exec (.pairResync c) s = .next (settle s (s.pairResync c)) := rfl

/-- PAIR_FORM names word 0 where the partner that it asks for is not the module's own. -/
theorem State.pairForm_firstBad (h : bits (c.p 0) 0 10 ≠ s.pl.partner) :
    firstBad [(0, bits (c.p 0) 11 21 == 0 && s.pl.paired && bits (c.p 0) 0 10 == s.pl.partner && bits (c.p 0) 10 1 == s.pl.member)] = some 0 := by
  simp [firstBad, h]

end Sys2Proof.Machine
end

section
/-! PROOF. The obligation on the commands of the mirrored pair. -/

namespace Sys2Proof.Proofs

open Sys2Proof Sys2Proof.Machine

/-- Settles O22: each command passes its checks, and what is left of its body is the branch that the premises choose by the pair's state. -/
theorem pairCommands : Obligations.PairCommands := by
  refine ⟨?form, ?foreign, ?ends, ?unpaired, ?status, ?resync⟩
  case form =>
    intro s u i c v hi ht hu h0 hpaired hpartner hmember hst hv
    subst hi hu hv
    rw [exec_pairForm, State.pairForm, State.runCmd_of_body ht]
    rw [Ans.check_ok _ _ _ (by simp [h0, hpaired, hpartner, hmember])]
    exact if_neg (by rcases hst with hst | hst <;> simp [hst])
  case foreign =>
    intro s u i c hi ht hu hpartner
    subst hi hu
    rw [exec_pairForm, State.pairForm, State.runCmd_of_body ht]
    exact Ans.check_bad _ _ _ 0 (State.pairForm_firstBad hpartner)
  case ends =>
    intro s u i c hi ht hu hst
    subst hi hu
    rw [exec_pairBreak, State.pairBreak, State.runCmd_of_body ht]
    exact if_neg (not_not_intro hst)
  case unpaired =>
    intro s u i c hi ht hu hst
    subst hi hu
    rw [exec_pairBreak, State.pairBreak, State.runCmd_of_body ht]
    exact if_pos hst
  case status =>
    intro s u i c hi ht hu
    subst hi hu
    rw [exec_pairStatus, State.pairStatus, State.runCmd_of_body ht rfl]
  case resync =>
    intro s u i c v hi ht hu hst hup hv
    subst hi hu hv
    rw [exec_pairResync, State.pairResync, State.runCmd_of_body ht]
    exact if_neg (by simp [hst, hup])

end Sys2Proof.Proofs
end

section
/-! PROOF. What the commands of power, keys and the life cycle do where Keeper takes them (R397, R398, R469–R473, R475, R491, R495–R499), one equation
for each row first. -/

namespace Sys2Proof.Machine

variable {s : State} {c : Cmd}

theorem exec_powerCap (s : State) (c : Cmd) : exec (.powerCap c) s = .next (settle s (s.powerCap c)) := rfl
theorem exec_powerRead (s : State) (c : Cmd) : exec (.powerRead c) s = .next (settle s (s.powerRead c)) := rfl
theorem exec_powerStateRun (s : State) (c : Cmd) : exec (.powerStateRun c) s = .next (settle s (s.powerState 0 c)) := rfl
theorem exec_powerStateTrim (s : State) (c : Cmd) : exec (.powerStateTrim c) s = .next (settle s (s.powerState 1 c)) := rfl
theorem exec_powerStateDrowse (s : State) (c : Cmd) : exec (.powerStateDrowse c) s = .next (settle s (s.powerState 2 c)) := rfl
theorem exec_powerStateHibernate (s : State) (c : Cmd) : exec (.powerStateHibernate c) s = .next (settle s (s.powerState 3 c)) := rfl
theorem exec_ownerKey (s : State) (c : Cmd) : exec (.ownerKey c) s = .next (settle s (s.ownerKey c)) := rfl
theorem exec_rollbackAdvance (s : State) (c : Cmd) : exec (.rollbackAdvance c) s = .next (settle s (s.rollback c)) := rfl
theorem exec_measureRead (s : State) (c : Cmd) : exec (.measureRead c) s = .next (settle s (s.measureRead c)) := rfl

/-! POWER_STATE (R397, R495–R499). -/

/-- The opcode row of POWER_STATE. -/
def powerInfo : OpInfo := { op := 0x0A01, lens := lenIs 20, states := stCRA, m := true, long := true }

/-- What POWER_STATE does and answers at a module that makes no transition and is not in the state asked for. -/
def State.powerMove (s : State) (t : Nat) : State × Ans :=
  if 2 ≤ t && s.mustStay then (s, .no 0x20)
  else if t = 0 && s.power.pstate = 1 && s.gatedCores.isEmpty then (s.powerReached 0, .ok [])
  else if t = 1 && s.power.pstate = 0 then (({ s with power := { s.power with pstate := 1, target := 1 } } : State).trimCores, .ok [])
  else (if 2 ≤ t && s.power.pstate < 2 then (s.powerBegin t).setAccept false else s.powerBegin t, { goes := true, data := [t] })

/-- POWER_STATE by its move. -/
theorem State.powerState_of_move {t : Nat} {v : State} {a : Ans} (ht : s.Takes powerInfo c) (h0 : c.p 0 = t)
    (hbusy : (s.cmdBegin c).power.busy = false) (hne : t ≠ (s.cmdBegin c).power.pstate) (hmove : (s.cmdBegin c).powerMove t = (v, a)) :
    s.powerState t c = v.cmdEnd powerInfo c a := by
  rw [State.powerState]
  refine State.runCmd_of_body ht ?_
  rw [Ans.check_ok _ _ _ (by simp [h0]), hbusy, if_neg Bool.false_ne_true, if_neg hne]
  exact hmove

/-- From TRIM with no core gated, RUN is reached at once (R497). -/
theorem State.powerMove_of_trim (hst : s.power.pstate = 1) (hgated : s.gatedCores = []) : s.powerMove 0 = (s.powerReached 0, .ok []) := by
  simp [State.powerMove, hst, hgated]

/-- From DROWSE, RUN is reached by a wake (R498). -/
theorem State.powerMove_of_drowse (hst : s.power.pstate = 2) : s.powerMove 0 = (s.powerBegin 0, { goes := true, data := [0] }) := by
  simp [State.powerMove, hst]

/-- From RUN, TRIM is reached at once (R497). -/
theorem State.powerMove_of_run (hst : s.power.pstate = 0) :
    s.powerMove 1 = (({ s with power := { s.power with pstate := 1, target := 1 } } : State).trimCores, .ok []) := by
  simp [State.powerMove, hst]

/-- DROWSE and HIBERNATE are entered with ACCEPT 0 where nothing requires the module to stay (R498, R499). -/
theorem State.powerMove_of_sleep {t : Nat} (h2 : 2 ≤ t) (hst : s.power.pstate < 2) (hstay : s.mustStay = false) :
    s.powerMove t = ((s.powerBegin t).setAccept false, { goes := true, data := [t] }) := by
  have h0 : t ≠ 0 := by omega
  have h1 : t ≠ 1 := by omega
  simp [State.powerMove, h2, hst, hstay, h0, h1]

theorem State.powerMove_of_stay {t : Nat} (h2 : 2 ≤ t) (hstay : s.mustStay = true) : s.powerMove t = (s, .no 0x20) :=
  if_pos (by simp [h2, hstay])

/-! ROLLBACK_ADVANCE (R398, R469). -/

/-- No image that is active, loaded or booted from has a counter below `v`. -/
theorem State.noImage_below {v : Nat} (hact : ∀ e ∈ s.cfg.active, ∀ x, e.2 = some x → v ≤ imgCtr x.bytes)
    (hbase : ∀ b, s.cfg.base = some b → v ≤ imgCtr b.bytes)
    (hboot : s.cfg.bootBase = 0 ∨ v ≤ imgCtr (Tbl.get [] s.cfg.flash s.cfg.bootBase)) :
    (s.cfg.active.any (fun e => match e.2 with | some i => decide (imgCtr i.bytes < v) | none => false)
      || (match s.cfg.base with | some b => decide (imgCtr b.bytes < v) | none => false)
      || (s.cfg.bootBase != 0 && decide (imgCtr (Tbl.get [] s.cfg.flash s.cfg.bootBase) < v))) = false := by
  simp only [Bool.or_eq_false_iff]
  refine ⟨⟨?act, ?base⟩, ?boot⟩
  case act =>
    rw [List.any_eq_false]
    intro e he
    split
    next x hx => simp [hact e he x hx]
    next => exact Bool.false_ne_true
  case base =>
    split
    next b hb => simp [hbase b hb]
    next => rfl
  case boot =>
    rcases hboot with h | h <;> simp [h]

/-! LC_CHANGE (R398, R471–R473). -/

/-- The target of an LC_CHANGE. -/
def lcTarget (c : Cmd) : Nat := bits (c.p 0) 0 3

/-- What refuses the change that an LC_CHANGE asks for. -/
def State.lcRefusal (s : State) (c : Cmd) : Nat := s.lcCheck (lcTarget c) ((c.params.drop 4).take 32) ((c.params.drop 36).take 64)

/-- A change that nothing refuses is answered, and then made. -/
theorem State.lcChange_of_allowed (ht : s.Takes lcInfo c) (h3 : bits (c.p 0) 3 29 = 0) (h4 : lcTarget c ≤ 4) (hst : s.lcRefusal c = 0) :
    s.lcChange c = ((s.cmdBegin c).cmdEnd lcInfo c (.ok [])).lcBurn (lcTarget c) := by
  rw [lcTarget] at h4
  rw [State.lcRefusal, lcTarget] at hst
  simp [State.lcChange, State.runCmd_takes _ _ _ _ ht, ht.1, ht.2, h3, h4, hst, Ans.check, firstBad, lcTarget]

/-- A change that something refuses is answered with that status. -/
theorem State.lcChange_of_refused (ht : s.Takes lcInfo c) (h3 : bits (c.p 0) 3 29 = 0) (h4 : lcTarget c ≤ 4) (hst : s.lcRefusal c ≠ 0) :
    s.lcChange c = (s.cmdBegin c).cmdEnd lcInfo c (.no (s.lcRefusal c)) := by
  rw [lcTarget] at h4
  rw [State.lcRefusal, lcTarget] at hst
  simp [State.lcChange, State.runCmd_takes _ _ _ _ ht, h3, h4, hst, Ans.check, firstBad, State.lcRefusal, lcTarget]

end Sys2Proof.Machine
end

section
/-! PROOF. The obligation on the commands of power, keys and the life cycle. -/

namespace Sys2Proof.Proofs

open Sys2Proof Sys2Proof.Machine

/-- Settles O24: each command passes the checks of its parameter words, and what is left of its body is the branch that the premises choose. -/
theorem powerAndSecurityCommands : Obligations.PowerAndSecurityCommands := by
  refine ⟨?cap, ?capOut, ?read, ?run, ?wake, ?trim, ?drowse, ?drowseStay, ?hibernate, ?hibernateStay, ?owner, ?ownerRefused, ?firmware, ?config,
    ?measure, ?change, ?changeRefused⟩
  case cap =>
    intro s u i c hi ht hu hlo hhi
    subst hi hu
    rw [exec_powerCap, State.powerCap, State.runCmd_of_body ht]
    exact Ans.check_ok _ _ _ (by simp [hlo, hhi])
  case capOut =>
    intro s u i c hi ht hu h
    subst hi hu
    have hout : (1500 ≤ c.p 0 && c.p 0 ≤ 3800) = false := by simp; omega
    rw [exec_powerCap, State.powerCap, State.runCmd_of_body ht]
    exact Ans.check_bad _ _ _ 0 (by simp only [hout]; rfl)
  case read =>
    intro s u i c hi ht hu
    subst hi hu
    rw [exec_powerRead, State.powerRead, State.runCmd_of_body ht rfl]
  case run =>
    intro s u i c hi ht hu h0 hbusy hst hgated
    subst hi hu
    rw [exec_powerStateRun, State.powerState_of_move ht h0 hbusy (by simp [hst]) (State.powerMove_of_trim hst hgated), powerInfo]
  case wake =>
    intro s u i c hi ht hu h0 hbusy hst
    subst hi hu
    rw [exec_powerStateRun, State.powerState_of_move ht h0 hbusy (by simp [hst]) (State.powerMove_of_drowse hst), powerInfo]
  case trim =>
    intro s u i c hi ht hu h0 hbusy hst
    subst hi hu
    rw [exec_powerStateTrim, State.powerState_of_move ht h0 hbusy (by simp [hst]) (State.powerMove_of_run hst), powerInfo]
  case drowse =>
    intro s u i c hi ht hu h0 hbusy hst hstay
    subst hi hu
    rw [exec_powerStateDrowse, State.powerState_of_move ht h0 hbusy hst.ne' (State.powerMove_of_sleep le_rfl hst hstay), powerInfo]
  case drowseStay =>
    intro s u i c hi ht hu h0 hbusy hst hstay
    subst hi hu
    rw [exec_powerStateDrowse, State.powerState_of_move ht h0 hbusy hst.ne' (State.powerMove_of_stay le_rfl hstay), powerInfo]
  case hibernate =>
    intro s u i c hi ht hu h0 hbusy hst hstay
    subst hi hu
    rw [exec_powerStateHibernate, State.powerState_of_move ht h0 hbusy (by omega) (State.powerMove_of_sleep (by decide) hst hstay), powerInfo]
  case hibernateStay =>
    intro s u i c hi ht hu h0 hbusy hst hstay
    subst hi hu
    rw [exec_powerStateHibernate, State.powerState_of_move ht h0 hbusy (by omega) (State.powerMove_of_stay (by decide) hstay), powerInfo]
  case owner =>
    intro s u i c hi ht hu hauth
    subst hi hu
    rw [exec_ownerKey, State.ownerKey, State.runCmd_of_body ht]
    exact if_neg (by simp [hauth])
  case ownerRefused =>
    intro s u i c hi ht hu hauth
    subst hi hu
    rw [exec_ownerKey, State.ownerKey, State.runCmd_of_body ht]
    exact if_pos (by simp [hauth])
  case firmware =>
    intro s u i c hi ht hu h0 hlt h255 hfw
    subst hi hu
    rw [exec_rollbackAdvance, State.rollback, State.runCmd_of_body ht]
    rw [Ans.check_ok _ _ _ (by simp [h0, hlt, h255, bits])]
    simp only [h0, bits]
    exact if_neg (by simpa using hfw)
  case config =>
    intro s u i c hi ht hu h0 hlt h255 hact hbase hboot
    subst hi hu
    rw [exec_rollbackAdvance, State.rollback, State.runCmd_of_body ht]
    rw [Ans.check_ok _ _ _ (by simp [h0, hlt, h255, bits])]
    simp only [h0, bits]
    exact if_neg (ne_true_of_eq_false (State.noImage_below hact hbase hboot))
  case measure =>
    intro s u i c hi ht hu
    subst hi hu
    rw [exec_measureRead, State.measureRead, State.runCmd_of_body ht rfl]
  case change =>
    intro s v c ht h3 h4 hst hv
    subst hv
    rw [exec_lcChange, State.lcChange_of_allowed ht h3 h4 hst, lcTarget]
  case changeRefused =>
    intro s c ht h3 h4 hst
    rw [exec_lcChange, State.lcChange_of_refused ht h3 h4 hst, State.lcRefusal, lcTarget]

end Sys2Proof.Proofs
end

section
/-! PROOF. What GOLDEN_SET and INJECT do where Keeper takes them, and how an injection ends (R399, R532, R535, R537, R538), one equation for each row
first. -/

namespace Sys2Proof.Machine

variable {s : State} {c : Cmd}

theorem exec_goldenSet (s : State) (c : Cmd) : exec (.goldenSet c) s = .next (settle s (s.goldenSet c)) := rfl
theorem exec_injectDisarm (s : State) (c : Cmd) : exec (.injectDisarm c) s = .next (settle s (s.injectDisarm c)) := rfl
theorem exec_injectSymbol (s : State) (c : Cmd) : exec (.injectSymbol c) s = .next (settle s (s.injectSymbol c)) := rfl
theorem exec_injectSync (s : State) (c : Cmd) : exec (.injectSync c) s = .next (settle s (s.injectSync c)) := rfl
theorem exec_injectTrailer (s : State) (c : Cmd) : exec (.injectTrailer c) s = .next (settle s (s.injectTrailer c)) := rfl
theorem exec_injectDrop (s : State) (c : Cmd) : exec (.injectDrop c) s = .next (settle s (s.injectDrop c)) := rfl
theorem exec_injectDuplicate (s : State) (c : Cmd) : exec (.injectDuplicate c) s = .next (settle s (s.injectDuplicate c)) := rfl
theorem exec_injectDelay (s : State) (c : Cmd) : exec (.injectDelay c) s = .next (settle s (s.injectDelay c)) := rfl
theorem exec_injectXoff (s : State) (c : Cmd) : exec (.injectXoff c) s = .next (settle s (s.injectXoff c)) := rfl
theorem exec_injectSilence (s : State) (c : Cmd) : exec (.injectSilence c) s = .next (settle s (s.injectSilence c)) := rfl

theorem exec_injectionExpiry (s : State) {p : Nat} (hp : p < 192) : exec (.injectionExpiry p) s = .next (settle s (s.injectExpire p)) :=
  next_settle_if_pos s (s.injectExpire p) hp

/-! GOLDEN_SET (R532, R535). -/

/-- Ports outside the pair's link that carry no flow are refused for no reason that GOLDEN_SET has. -/
theorem State.goldenPorts_free {ports : List Nat} (h : ∀ p ∈ ports, (s.pl.paired = false ∨ p ∉ pairPorts) ∧ s.flowsOn p = []) :
    ports.any (fun p => (s.pl.paired && pairPorts.contains p) || !(s.flowsOn p).isEmpty) = false := by
  rw [List.any_eq_false]
  intro p hp
  obtain ⟨hpair, hflows⟩ := h p hp
  rcases hpair with hpair | hpair <;> simp [hpair, hflows]

/-! INJECT (R537). -/

/-- The opcode row of INJECT for a kind whose parameters take `len` bytes at least. -/
def injectInfo (len : Nat) : OpInfo :=
  { op := 0x0C07, lens := fun l => len ≤ l && l ≤ 64 && l % 4 == 0, states := stRA, m := true, perm := fun s => s.instrument }

/-- Word 0 of an INJECT names the kind and a port that is there. -/
structure State.InjectNames (s : State) (c : Cmd) (kind : Nat) : Prop where
  kind : bits (c.p 0) 8 8 = kind
  rest : bits (c.p 0) 16 16 = 0
  port : s.portThere (cmdPort c) = true

/-- Port `p` with the injection `x` of a kind armed: one that lasts for a time is counted at once (log 77), and XOFF sends FC_STATE. -/
def State.armed (s : State) (p kind : Nat) (x : Inject) : State :=
  let t := s.setInj p { x with kind := kind, delayed := (s.inj p).delayed }
  let u := if kind = 2 || 7 ≤ kind then t.bump (injReg p 4) else t
  if kind = 7 && (u.port p).st = .active then u.emit (.lm p 0x01 (u.fcMask p)) else u

/-- An injection counted by codewords or packets is armed and nothing else. -/
theorem State.armed_of_counted {p kind : Nat} (x : Inject) (h2 : kind ≠ 2) (h7 : kind < 7) :
    s.armed p kind x = s.setInj p { x with kind := kind, delayed := (s.inj p).delayed } := by
  simp [State.armed, h2, Nat.not_le.2 h7, Nat.ne_of_lt h7]

/-- SYNC and SILENCE last for a time. -/
theorem State.armed_of_timed {p kind : Nat} (x : Inject) (h : kind = 2 ∨ kind = 8) :
    s.armed p kind x = (s.setInj p { x with kind := kind, delayed := (s.inj p).delayed }).bump (injReg p 4) := by
  rcases h with rfl | rfl <;> simp [State.armed]

section
variable {len kind : Nat} {chk : List (Nat × Bool)} {x : Inject} (ht : s.Takes (injectInfo len) c) (hn : (s.cmdBegin c).InjectNames c kind)
  (hchk : chk.all (·.2) = true)
include ht hn hchk

/-- INJECT arms its kind on a port where none is armed. -/
theorem State.injectCmd_of_free (hfree : ((s.cmdBegin c).inj (cmdPort c)).kind = 0) :
    s.injectCmd c kind len chk x = ((s.cmdBegin c).armed (cmdPort c) kind x).cmdEnd (injectInfo len) c (.ok []) := by
  rw [State.injectCmd]
  refine State.runCmd_of_body ht ?_
  rw [Ans.check_ok _ _ _ (by simp [hn.kind, hn.rest, hn.port, hchk]), if_neg (not_not_intro hfree)]
  rfl

/-- INJECT is RESOURCE_BUSY on a port where one is armed. -/
theorem State.injectCmd_of_busy (hbusy : ((s.cmdBegin c).inj (cmdPort c)).kind ≠ 0) :
    s.injectCmd c kind len chk x = (s.cmdBegin c).cmdEnd (injectInfo len) c (.no 0x21) := by
  rw [State.injectCmd]
  refine State.runCmd_of_body ht ?_
  rw [Ans.check_ok _ _ _ (by simp [hn.kind, hn.rest, hn.port, hchk]), if_pos hbusy]

end

theorem injMatchChecks_ok (h1 : bits (c.p 1) 20 12 = 0) (h2 : c.p 2 ≠ 0) : (injMatchChecks c).all (·.2) = true := by
  simp [injMatchChecks, h1, h2]

/-! The end of an injection (R538). -/

theorem State.injectExpire_of_symbol {p : Nat} (h : (s.inj p).kind = 1) :
    s.injectExpire p = (s.bumpBy (injReg p 4) (s.inj p).count).injEnd p := by
  rw [State.injectExpire, h]
  rfl

theorem State.injectExpire_of_timed {p : Nat} (h : (s.inj p).kind = 2 ∨ (s.inj p).kind = 7 ∨ (s.inj p).kind = 8) :
    s.injectExpire p = s.injEnd p := by
  rcases h with h | h | h <;> simp [State.injectExpire, h]

end Sys2Proof.Machine
end

section
/-! PROOF. The obligation on the golden end point and on injections. -/

namespace Sys2Proof.Proofs

open Sys2Proof Sys2Proof.Machine

/-- Settles O26: each command passes the checks of its parameter words; an INJECT arms its kind where its port is free, and an expiry is by kind. -/
theorem goldenAndInjectionCommands : Obligations.GoldenAndInjectionCommands := by
  refine ⟨?goldenOff, ?goldenOn, ?disarm, ?symbol, ?sync, ?trailer, ?drop, ?duplicate, ?delay, ?xoff, ?silence, ?busy, ?symbolSpent, ?timeSpent⟩
  case goldenOff =>
    intro s u i c n ports hi ht hu hen hn hchk hports hfree
    subst hi hu hn hports
    rw [exec_goldenSet, State.goldenSet, State.runCmd_of_body ht]
    rw [Ans.check_ok _ _ _ hchk]
    simp only [State.goldenPorts_free hfree, hen]
    rfl
  case goldenOn =>
    intro s u i c n d k b ports v w g ms hi ht hu hen hn hchk hports hfree hv hg hd hk hb hroom hms
    subst hi hu hn hports hv hd hb
    rw [exec_goldenSet, State.goldenSet, State.runCmd_of_body ht]
    rw [Ans.check_ok _ _ _ hchk]
    subst hg
    simp only [State.goldenPorts_free hfree, hen, hk, ← hms, Bool.not_true, Bool.false_eq_true, if_false]
    exact if_neg (Nat.not_lt.2 hroom)
  case disarm =>
    intro s u i c hi ht hu h0 hthere
    subst hi hu
    rw [exec_injectDisarm, State.injectDisarm, State.runCmd_of_body ht]
    exact Ans.check_ok _ _ _ (by simp [h0, hthere])
  case symbol =>
    intro s u i c v hi ht hu hkind h0 hthere hfree hlo hhi h1 h2 hv
    subst hi hu hv
    rw [exec_injectSymbol, State.injectSymbol, State.injectCmd_of_free ht ⟨hkind, h0, hthere⟩ (by simp [hlo, hhi, h1, h2]) hfree,
      State.armed_of_counted _ (by decide) (by decide), injectInfo]
  case sync =>
    intro s u i c v hi ht hu hkind h0 hthere hfree h1 hlo hhi hv
    subst hi hu hv
    rw [exec_injectSync, State.injectSync, State.injectCmd_of_free ht ⟨hkind, h0, hthere⟩ (by simp [h1, hlo, hhi]) hfree,
      State.armed_of_timed _ (.inl rfl), injectInfo]
  case trailer =>
    intro s u i c v hi ht hu hkind h0 hthere hfree h1 h2 hv
    subst hi hu hv
    rw [exec_injectTrailer, State.injectTrailer, State.injectCmd_of_free ht ⟨hkind, h0, hthere⟩ (injMatchChecks_ok h1 h2) hfree,
      State.armed_of_counted _ (by decide) (by decide), injectInfo]
  case drop =>
    intro s u i c v hi ht hu hkind h0 hthere hfree h1 h2 hv
    subst hi hu hv
    rw [exec_injectDrop, State.injectDrop, State.injectCmd_of_free ht ⟨hkind, h0, hthere⟩ (injMatchChecks_ok h1 h2) hfree,
      State.armed_of_counted _ (by decide) (by decide), injectInfo]
  case duplicate =>
    intro s u i c v hi ht hu hkind h0 hthere hfree h1 h2 hv
    subst hi hu hv
    rw [exec_injectDuplicate, State.injectDuplicate, State.injectCmd_of_free ht ⟨hkind, h0, hthere⟩ (injMatchChecks_ok h1 h2) hfree,
      State.armed_of_counted _ (by decide) (by decide), injectInfo]
  case delay =>
    intro s u i c v hi ht hu hkind h0 hthere hfree h1 h2 hlo hhi hv
    subst hi hu hv
    rw [exec_injectDelay, State.injectDelay,
      State.injectCmd_of_free ht ⟨hkind, h0, hthere⟩ (by simp [injMatchChecks_ok h1 h2, hlo, hhi]) hfree,
      State.armed_of_counted _ (by decide) (by decide), injectInfo]
  case xoff =>
    intro s u i c v hi ht hu hkind h0 hthere hfree h1 h2 hv
    subst hi hu hv
    rw [exec_injectXoff, State.injectXoff, State.injectCmd_of_free ht ⟨hkind, h0, hthere⟩ (by simp [h1, h2]) hfree, injectInfo]
    simp [State.armed]
  case silence =>
    intro s u i c v hi ht hu hkind h0 hthere hfree h1 h2 hv
    subst hi hu hv
    rw [exec_injectSilence, State.injectSilence, State.injectCmd_of_free ht ⟨hkind, h0, hthere⟩ (by simp [h1, h2]) hfree,
      State.armed_of_timed _ (.inr rfl), injectInfo]
  case busy =>
    intro s u i c hi ht hu hkind h0 hthere hbusy h1 h2
    subst hi hu
    rw [exec_injectDrop, State.injectDrop, State.injectCmd_of_busy ht ⟨hkind, h0, hthere⟩ (injMatchChecks_ok h1 h2) hbusy, injectInfo]
  case symbolSpent =>
    intro s p hp h
    rw [exec_injectionExpiry s hp, State.injectExpire_of_symbol h]
  case timeSpent =>
    intro s p hp h
    rw [exec_injectionExpiry s hp, State.injectExpire_of_timed h]

end Sys2Proof.Proofs
end

section
/-! PROOF. The bytes of a reply and its RSEQ, and where the final reply of a slot goes (R367, R373, R402). -/

namespace Sys2Proof.Machine

/-! The reply's words (R367). -/

theorem length_flatMap_leBytes (n : Nat) (l : List Nat) : (l.flatMap (leBytes n)).length = l.length * n := by
  induction l with
  | nil => simp
  | cons w l ih => rw [List.flatMap_cons, List.length_append, leBytes_length, ih, List.length_cons, Nat.succ_mul, Nat.add_comm]

theorem getD_zero_lt {l : List Nat} {m : Nat} (hm : 0 < m) (h : ∀ x ∈ l, x < m) (k : Nat) : l.getD k 0 < m := by
  rw [List.getD_eq_getElem?_getD]
  cases hk : l[k]? with
  | none => exact hm
  | some x => exact h x (List.mem_of_getElem? hk)

/-- The sixteen words of a reply. -/
def replyWords (tag status op dev job : Nat) (final : Bool) (progress err resLen : Nat) (q : List Nat) (rseq : Nat) : List Nat :=
  [tag % 2 ^ 16 + status % 2 ^ 16 * 2 ^ 16, op % 2 ^ 16 + dev * 2 ^ 16 + job * 2 ^ 20 + b2n final * 2 ^ 24,
    progress % 2 ^ 10 + err % 2 ^ 16 * 2 ^ 16, resLen % 2 ^ 12] ++ (List.range 10).map (fun i => q.getD i 0 % 2 ^ 32) ++ [0, rseq]

section
variable {tag st op dev job p e n r : Nat} {b : Bool} {q : List Nat}

theorem replyBytes_eq_words : replyBytes tag st op dev job b p e n q r = (replyWords tag st op dev job b p e n q r).flatMap (leBytes 4) := rfl

theorem replyBytes_length : (replyBytes tag st op dev job b p e n q r).length = 64 := by
  rw [replyBytes_eq_words, length_flatMap_leBytes]
  rfl

/-- Each word fits in 32 bits where device state, job state and RSEQ do. -/
theorem replyWords_lt (hdev : dev < 16) (hjob : job < 16) (hr : r < 2 ^ 32) : ∀ w ∈ replyWords tag st op dev job b p e n q r, w < 2 ^ 32 := by
  have hb := b2n_lt_two b
  have hq : ∀ w ∈ (List.range 10).map (fun i => q.getD i 0 % 2 ^ 32), w < 2 ^ 32 := by
    rw [List.forall_mem_map]
    exact fun i _ => Nat.mod_lt _ (by decide)
  simp only [replyWords, List.forall_mem_append, List.forall_mem_cons, List.not_mem_nil, false_imp_iff, implies_true, and_true]
  refine ⟨⟨?head, hq⟩, ?tail⟩
  case head => and_intros <;> omega
  case tail => exact ⟨by decide, hr⟩

/-- Fields within their widths stand in the words as they are. -/
theorem replyWords_of_fit (htag : tag < 2 ^ 16) (hst : st < 2 ^ 16) (hop : op < 2 ^ 16) (hp : p < 2 ^ 10) (he : e < 2 ^ 16) (hn : n < 2 ^ 12) :
    replyWords tag st op dev job b p e n q r =
      (tag + st * 2 ^ 16) :: (op + dev * 2 ^ 16 + job * 2 ^ 20 + b2n b * 2 ^ 24) :: (p + e * 2 ^ 16) :: n ::
        ((List.range 10).map (fun i => q.getD i 0 % 2 ^ 32) ++ [0, r]) := by
  rw [replyWords, Nat.mod_eq_of_lt htag, Nat.mod_eq_of_lt hst, Nat.mod_eq_of_lt hop, Nat.mod_eq_of_lt hp, Nat.mod_eq_of_lt he, Nat.mod_eq_of_lt hn,
    List.append_assoc]
  rfl

/-- The words of a short result stand in words 4 to 13. -/
theorem replyWords_getD_short {k : Nat} (hk : k < 10) : (replyWords tag st op dev job b p e n q r).getD (4 + k) 0 = q.getD k 0 % 2 ^ 32 := by
  rw [Nat.add_comm]
  simp [replyWords, List.getElem?_append_left, hk]

theorem replyWords_getD_last : (replyWords tag st op dev job b p e n q r).getD 15 0 = r := rfl

/-- Word `k` of the reply's bytes. -/
theorem leWord_replyBytes (hdev : dev < 16) (hjob : job < 16) (hr : r < 2 ^ 32) (k : Nat) :
    leWord (replyBytes tag st op dev job b p e n q r) k = (replyWords tag st op dev job b p e n q r).getD k 0 :=
  leWord_flatMap_leBytes _ k (replyWords_lt hdev hjob hr)

end

/-! RSEQ (R373). -/

theorem nextSeq_bounds {n : Nat} (h : n < 2 ^ 32) : nextSeq n ≠ 0 ∧ nextSeq n < 2 ^ 32 := by
  unfold nextSeq
  split <;> omega

/-! Where the final reply of a slot goes (R373, R402). -/

/-- Slot `n` IDLE again, with the RSEQ of its final reply. -/
def State.slotAnswered (s : State) (n : Nat) : State :=
  s.setSlot n { s.cslot n with rseq := nextSeq (s.cslot n).rseq, st := .idle, bytes := [], words := [] }

/-- Address of slot `n`'s reply in the host's memory. -/
def State.replyBase (s : State) (n : Nat) : Nat := s.reg (slotReg n 8) / 4096 * 4096 + s.reg (slotReg n 12) * 2 ^ 32

/-- The bytes of slot `n`'s final reply. -/
def State.finalBytes (s : State) (n tag op job progress : Nat) (a : Ans) : List Byte :=
  replyBytes tag a.status op s.dev.code (s.jobState job) true progress a.err a.block.length a.q (nextSeq (s.cslot n).rseq)

/-- The host's memory with a result block, where there is one, and then the reply. -/
def State.withReply (s : State) (n : Nat) (block bytes : List Byte) : State :=
  (if block.isEmpty then s else s.hostWrite (s.replyBase n + 64) block).hostWrite (s.replyBase n) bytes

theorem State.withReply_of_block {s : State} {n : Nat} {block : List Byte} (bytes : List Byte) (h : block ≠ []) :
    s.withReply n block bytes = (s.hostWrite (s.replyBase n + 64) block).hostWrite (s.replyBase n) bytes := by
  simp [State.withReply, h]

section
variable {s : State} {n : Nat} (tag op job progress : Nat) (a : Ans)

/-- The final reply of a slot: dropped where the slot is not enabled or the host cannot be written, else written, with the interrupt that it asks for. -/
theorem State.reply_slot_final :
    s.reply (.slot n) tag op job progress true a =
      let v := s.slotAnswered n
      let t := v.withReply n a.block (s.finalBytes n tag op job progress a)
      if !decide (v.fld (slotReg n 0) 12 1 = 1) then v.bump (baseCmd + 0x428)
      else if !v.canMaster then (v.bump (baseCmd + 0x428)).raiseMod mCmdReplyFail
      else if t.fld (slotReg n 0) 13 1 = 1 then t.signal (t.fld (slotReg n 0) 16 6) else t := rfl

theorem State.reply_of_disabled (hen : (s.slotAnswered n).fld (slotReg n 0) 12 1 ≠ 1) :
    s.reply (.slot n) tag op job progress true a = (s.slotAnswered n).bump (baseCmd + 0x428) := by
  rw [State.reply_slot_final]
  exact if_pos (by simp [hen])

/-- An enabled slot whose host can be written, and that asks for no interrupt, gets its block and its reply. -/
theorem State.reply_of_enabled (hen : (s.slotAnswered n).fld (slotReg n 0) 12 1 = 1) (hm : (s.slotAnswered n).canMaster = true)
    (hirq : ((s.slotAnswered n).withReply n a.block (s.finalBytes n tag op job progress a)).fld (slotReg n 0) 13 1 = 0) :
    s.reply (.slot n) tag op job progress true a = (s.slotAnswered n).withReply n a.block (s.finalBytes n tag op job progress a) := by
  simp [State.reply_slot_final, hen, hm, hirq]

end

/-- A final status that is not AUTH_FAIL counts under its own number, and the command's buffer goes back. -/
theorem State.finalReplyAt_of_ne {s : State} {progress tag op job : Nat} {src : Src} {a : Ans} (h : a.status ≠ 0x30) :
    s.finalReplyAt progress src tag op job a = ((s.bump (statusCtr a.status)).poolGive 0 2 1).reply src tag op job progress true a := by
  rw [State.finalReplyAt, if_neg h]

end Sys2Proof.Machine
end

section
/-! PROOF. The obligation on the replies of a slot. -/

namespace Sys2Proof.Proofs

open Sys2Proof Sys2Proof.Machine

/-- Settles O49: word by word of the reply's list of words; then by what the slot and its host allow. -/
theorem repliesOfASlot : Obligations.RepliesOfASlot := by
  refine ⟨?bytes, by decide, by decide, fun n h => nextSeq_bounds h, ?enabled, ?disabled, ?counted⟩
  case bytes =>
    intro tag st op dev job b p e n q r htag hst hop hdev hjob hp he hn hr hq
    have word := leWord_replyBytes (tag := tag) (st := st) (op := op) (p := p) (e := e) (n := n) (b := b) (q := q) hdev hjob hr
    have fit := replyWords_of_fit (dev := dev) (job := job) (b := b) (q := q) (r := r) htag hst hop hp he hn
    refine ⟨replyBytes_length, ?tags, ?states, ?progress, ?length, ?short, (word 15).trans replyWords_getD_last⟩
    case tags => rw [word, fit, List.getD_cons_zero]
    case states => rw [word, fit, List.getD_cons_succ, List.getD_cons_zero]
    case progress => rw [word, fit, List.getD_cons_succ, List.getD_cons_succ, List.getD_cons_zero]
    case length => rw [word, fit, List.getD_cons_succ, List.getD_cons_succ, List.getD_cons_succ, List.getD_cons_zero]
    case short =>
      intro k hk
      rw [word, replyWords_getD_short hk, Nat.mod_eq_of_lt (getD_zero_lt (by decide) hq k)]
  case enabled =>
    intro s u n tag op job pr base a x hx hu hbase hen hm hblock hirq
    subst hx hbase hu
    rw [State.reply_of_enabled tag op job pr a hen hm, State.withReply_of_block _ hblock]
    · rfl
    · rw [State.withReply_of_block _ hblock]
      exact hirq
  case disabled =>
    intro s u n tag op job pr a x hx hu hen
    subst hx hu
    exact State.reply_of_disabled tag op job pr a hen
  case counted =>
    intro s pr src tag op job a h
    exact State.finalReplyAt_of_ne h

end Sys2Proof.Proofs
end

section
/-! PROOF. What follows a command where nothing is left for it to do (R444, R552). -/

namespace Sys2Proof.Machine

variable {s : State}

theorem State.owedNone_of_reacted (h : s.faults.owed = []) : s.owedNone = s := by
  rw [State.owedNone, ← h]

/-- Where no reaction is owed, rounds of reactions leave the state as it is. -/
theorem State.reactAll_of_reacted (n : Nat) (h : s.faults.owed = []) : State.reactAll n s = s := by
  cases n with
  | zero => exact State.owedNone_of_reacted h
  | succ n => exact if_pos (by rw [h, List.isEmpty_nil])

theorem State.collSettle_of_no_context (h : s.coll.ctxs = []) : s.collSettle = s := by
  rw [State.collSettle, h, List.foldl_nil]

/-- Where no command waits for a program's end, no wait ends. -/
theorem State.waitsEnd_of_no_wait (h : ∀ e ∈ s.cmd.execs, e.op ≠ 0x0707) : s.waitsEnd = s := by
  rw [State.waitsEnd, List.filter_eq_nil_iff.mpr (fun e he => by simp [h e he]), List.foldl_nil]

/-- Where no command waits for a flow to commit, no admission ends. -/
theorem State.admitsEnd_of_no_admission (h : ∀ e ∈ s.cmd.execs, e.op ≠ 0x0404) : s.admitsEnd = s := by
  rw [State.admitsEnd, List.filter_eq_nil_iff.mpr (fun e he => by simp [h e he]), List.foldl_nil]

theorem State.reportStates_of_no_receiver (old : State) (h : s.host.receiver = none) : s.reportStates old = s := by
  rw [State.reportStates, h]

/-- Reactions, contexts and waits leave a quiet state as it is. -/
theorem State.follow_of_quiet (h : s.Quiet) : s.follow = s := by
  obtain ⟨howed, hctxs, hexecs, -⟩ := h
  rw [State.follow, State.reactAll_of_reacted _ howed, State.collSettle_of_no_context hctxs,
    State.waitsEnd_of_no_wait (fun e he => (hexecs e he).1), State.admitsEnd_of_no_admission (fun e he => (hexecs e he).2)]

theorem settle_of_quiet (old : State) (h : s.Quiet) : settle old s = { s with pending := old.pending } := by
  have hfollow := State.follow_of_quiet h
  obtain ⟨howed, -, -, hreceiver⟩ := h
  rw [settle, hfollow, State.reactAll_of_reacted _ howed, State.reportStates_of_no_receiver old hreceiver]

end Sys2Proof.Machine
end

section
/-! PROOF. What an event of a masked source leaves (R442, R443, R447, R457). -/

namespace Sys2Proof.Machine

variable {s : State} {e : Event}

/-- The event's bit set in its word, and FIRST where the word was 0 (R443). -/
def State.marked (s : State) (e : Event) : State :=
  { s with faults := { s.faults with
      fsw := Tbl.put 0 s.faults.fsw e.word (s.fsw e.word ||| 2 ^ e.source),
      first := if s.fsw e.word = 0 then Tbl.put 0 s.faults.first e.word (e.source + 64) else s.faults.first } }

/-- A record of class LOG of the event, and the time from which R442 counts the next. -/
def State.logged (s : State) (e : Event) : State :=
  let u : State := { s with faults := { s.faults with lastRec := Tbl.put 0 s.faults.lastRec (lastKey e) (s.clk + 1) } }
  u.writeRecord (recordOf u e clsLog)

/-- A record starts no sequence of R460. -/
theorem State.logged_stage : (s.logged e).box.stage = s.box.stage := by
  unfold State.logged State.writeRecord
  dsimp only
  split <;> rfl

/-- A masked source's record carries class LOG (R447). -/
theorem appliedClass_masked (cls : Nat) (paired : Bool) (e : Event) : appliedClass cls true paired e = clsLog := by
  simp [appliedClass, clsReset, clsHalt, clsFence, clsDegrade, clsLog]

theorem State.recordIrq_masked (s : State) (cls : Nat) : s.recordIrq cls true = s := by
  simp [State.recordIrq]

/-- FAULT_N depends on the registers and on the bits of unmasked sources only (R457). -/
theorem State.faultLow_congr {s t : State} (hregs : t.regs = s.regs)
    (hbits : ∀ w i, s.masked w i = false → (t.fsw w).testBit i = (s.fsw w).testBit i) : t.faultLow = s.faultLow := by
  have hmasked : t.masked = s.masked := by
    funext w i
    simp only [State.masked, State.maskW, State.reg, hregs]
  have hset : t.unmaskedSet = s.unmaskedSet := by
    funext w
    rw [State.unmaskedSet, State.unmaskedSet, hmasked]
    refine List.filter_congr fun i _ => ?_
    cases hm : s.masked w i with
    | true => simp
    | false => rw [hbits w i hm]
  simp only [State.faultLow, State.classOf, State.fld, State.reg, hset, hregs]
  rfl

theorem State.marked_fsw_self : (s.marked e).fsw e.word = s.fsw e.word ||| 2 ^ e.source := Tbl.get_put_self ..

theorem State.marked_fsw_ne {w : Nat} (h : w ≠ e.word) : (s.marked e).fsw w = s.fsw w := Tbl.get_put_ne _ _ _ _ _ h

/-- The bit of a masked source is none of FAULT_N's (R447). -/
theorem State.marked_testBit_of_unmasked (hm : s.masked e.word e.source = true) {w i : Nat} (h : s.masked w i = false) :
    ((s.marked e).fsw w).testBit i = (s.fsw w).testBit i := by
  by_cases hw : w = e.word
  · subst hw
    have hi : e.source ≠ i := fun hi => by simp [← hi, hm] at h
    rw [State.marked_fsw_self, Nat.testBit_or, Nat.testBit_two_pow_of_ne hi, Bool.or_false]
  · rw [State.marked_fsw_ne hw]

/-- A state with the registers and the bits of a masked source's event shows no change on FAULT_N. -/
theorem State.faultLow_of_marked {t : State} (hm : s.masked e.word e.source = true) (hregs : t.regs = s.regs)
    (hfsw : t.faults.fsw = (s.marked e).faults.fsw) : t.faultLow = s.faultLow :=
  State.faultLow_congr hregs fun w i h => by
    rw [State.fsw, hfsw]
    exact State.marked_testBit_of_unmasked hm h

/-- An event of a masked source sets its bit and counts, and then its record is suppressed or written (R442, R443, R447). -/
theorem State.event_of_masked (hs : sourceExists e.word e.source = true) (hm : s.masked e.word e.source = true) :
    s.event e =
      (let u := (s.marked e).bump (faultReg e.word (0x200 + 4 * e.source))
       let last := Tbl.get 0 u.faults.lastRec (lastKey e)
       if last ≠ 0 && u.clk < last - 1 + 10 * us then u.bump (baseFault + 0x2014) else u.logged e).pinFrom s := by
  simp only [State.event, hs, hm, Bool.not_true, Bool.false_eq_true, if_false, appliedClass_masked, State.recordIrq_masked]
  rfl

/-- A masked event's whole effect: counters, its bit, and its record unless that is suppressed. -/
theorem State.event_of_masked_cases (hs : sourceExists e.word e.source = true) (hm : s.masked e.word e.source = true) :
    (∃ c, Tbl.get 0 s.faults.lastRec (lastKey e) ≠ 0 ∧ s.event e = { s.marked e with ctrs := c }) ∨
      ∃ c, s.event e = ({ s.marked e with ctrs := c } : State).logged e := by
  rw [State.event_of_masked hs hm]
  obtain ⟨c, hc⟩ := (s.marked e).bump_eq (faultReg e.word (0x200 + 4 * e.source))
  rw [hc]
  dsimp only
  split
  · next hlast =>
    obtain ⟨c', hc'⟩ := State.bump_eq { s.marked e with ctrs := c } (baseFault + 0x2014)
    rw [hc']
    refine .inl ⟨c', ?_, if_pos (State.faultLow_of_marked hm (by rfl) (by rfl))⟩
    simp only [Bool.and_eq_true, decide_eq_true_eq] at hlast
    exact hlast.1
  · exact .inr ⟨c, if_pos (State.faultLow_of_marked hm (by rfl) (by rfl))⟩

end Sys2Proof.Machine
end

section
/-! PROOF. The obligations on what follows a command in a quiet state and on masked sources. -/

namespace Sys2Proof.Proofs

open Sys2Proof Sys2Proof.Machine

/-- Settles O41: each part of what follows a command does nothing where the part of a quiet state that it looks at is empty. -/
theorem aQuietStateSettlesAsItIs : Obligations.AQuietStateSettlesAsItIs := fun old _ h => settle_of_quiet old h

/-- Settles O46: a masked event is its bit, its count and at most a record, and the bit is none of those that FAULT_N shows. -/
theorem maskedSourcesOnlyRecord : Obligations.MaskedSourcesOnlyRecord := by
  intro s t e hs hm ht
  subst ht
  have hself := s.marked_fsw_self (e := e)
  have hne := fun w (h : w ≠ e.word) => s.marked_fsw_ne h
  rcases State.event_of_masked_cases hs hm with ⟨c, hlast, h⟩ | ⟨c, h⟩
  · rw [h]
    exact ⟨hself, hne, rfl, rfl, rfl, rfl, rfl, rfl, State.faultLow_of_marked hm (by rfl) (by rfl), rfl, rfl, rfl, rfl,
      fun hzero => absurd hzero hlast⟩
  · rw [h]
    exact ⟨hself, hne, rfl, State.logged_stage, rfl, rfl, rfl, rfl, State.faultLow_of_marked hm (by rfl) (by rfl), rfl, rfl, rfl, rfl,
      fun _ => ⟨_, rfl, hm, rfl, rfl, rfl⟩⟩

end Sys2Proof.Proofs
end

section
/-! PROOF. What the rows of the mirrored pair do where their guards let them (R420, R421, R430–R432, R435), one equation for each row first. -/

namespace Sys2Proof.Machine

variable (s : State)

theorem exec_heartbeatTimer : exec .heartbeatTimer s = .next (settle s s.heartbeatSend) := rfl
theorem exec_lossOfContact : exec .lossOfContact s = .next (settle s s.loseContact) := rfl
theorem exec_arbitrationTest : exec .arbitrationTest s = .next (settle s s.arbitrate) := rfl
theorem exec_pairAutoForm : exec .pairAutoForm s = .next (settle s s.pairAutoForm) := rfl
theorem exec_pairFormationComplete (x : PairInfo) : exec (.pairFormationComplete x) s = .next (settle s (s.pairFormation x)) := rfl
theorem exec_resyncCopyComplete (n : Nat) : exec (.resyncCopyComplete n) s = .next (settle s (s.resyncDone n)) := rfl

theorem exec_heartbeatReceived {p : Nat} (pkt : Pkt) (hp : p < 192) :
    exec (.heartbeatReceived p pkt) s = .next (settle s (s.heartbeatIn p pkt)) := next_settle_if_pos s (s.heartbeatIn p pkt) hp

theorem exec_homeStateReceived {p : Nat} (pkt : Pkt) (hp : p < 192) :
    exec (.homeStateReceived p pkt) s = .next (settle s (s.homeStateIn p pkt)) := next_settle_if_pos s (s.homeStateIn p pkt) hp

variable {s}

/-! Heartbeats and the chips' reports (R430, R431). -/

theorem lt_of_mem_pairPorts {p : Nat} (h : p ∈ pairPorts) : p < 192 :=
  (show ∀ q ∈ pairPorts, q < 192 by decide) p h

theorem State.heartbeatSend_of_unpaired (h : s.pl.paired = false) : s.heartbeatSend = s := by
  simp [State.heartbeatSend, h]

/-- The state that a member's heartbeats go out from: a period without one counted, and the next sequence number. -/
def State.heartbeatDue (s : State) (missed : Bool) : State :=
  let u := if missed then s.bump (basePair + 0x28) else s
  { u with pair := { u.pair with hbSeq := (u.pair.hbSeq + 1) % 2 ^ 32 } }

theorem State.heartbeatSend_of_paired {t : Nat} (h : s.pl.paired = true) (hlast : s.pair.lastHb = some t) :
    s.heartbeatSend =
      (let v := s.heartbeatDue (decide (t + 2 * us < s.clk))
       v.mirrorUp.foldl (fun s p => s.sendMgmt p (s.port p).ver (8192 + s.pl.partner) s.heartbeatBytes) v) := by
  simp only [State.heartbeatSend, h, hlast, Bool.not_true, Bool.false_eq_true, if_false]
  rfl

/-- A message that was delivered and is of the type asked for is taken. -/
theorem State.takeMgmt_of_delivered {p msgt : Nat} {pkt : Pkt} (k : State → State) (ht : pkt.hdr.type = 0x30)
    (hm : bits (leWord pkt.payload 0) 0 8 = msgt) (hd : (p, pkt) ∈ s.sw.delivered) : s.takeMgmt p pkt msgt k = k (s.taken p pkt) := by
  simp [State.takeMgmt, State.consumeMgmt, ht, hm, hd]

/-- A heartbeat renews contact, unless the module returns to a partner that serves for both (R430, R435). -/
theorem State.heartbeatIn_of_formed {p : Nat} {pkt : Pkt} (hp : p ∈ pairPorts) (hpair : s.pl.paired = true) (ht : pkt.hdr.type = 0x30)
    (hm : bits (leWord pkt.payload 0) 0 8 = 3) (hd : (p, pkt) ∈ s.sw.delivered) (hst : s.pair.st ≠ 1) :
    s.heartbeatIn p pkt =
      { s.taken p pkt with pair := { (s.taken p pkt).pair with
          lastHb := some (s.taken p pkt).clk, lostAt := none, partnerSt := bits (leWord pkt.payload 0) 8 3 } } := by
  have hst' : (s.taken p pkt).pair.st ≠ 1 := hst
  rw [State.heartbeatIn, if_neg (by simp [hp, hpair]), State.takeMgmt_of_delivered _ ht hm hd]
  exact if_neg (by simp [hst'])

theorem State.homeStateIn_of_down {p : Nat} {pkt : Pkt} (hpair : s.pl.paired = true) (hu : (s.useOf p).use = 0) (ht : pkt.hdr.type = 0x30)
    (hm : bits (leWord pkt.payload 0) 0 8 = 4) (hd : (p, pkt) ∈ s.sw.delivered) :
    s.homeStateIn p pkt =
      { s.taken p pkt with pair := { (s.taken p pkt).pair with
          homes := Tbl.put none (s.taken p pkt).pair.homes p (some ((s.taken p pkt).clk, bit (leWord pkt.payload 0) 8)) } } := by
  rw [State.homeStateIn, if_neg (by simp [hpair, hu]), State.takeMgmt_of_delivered _ ht hm hd]

/-! Loss of contact and the test (R430, R432). -/

/-- Contact lost: the time of it, its count and its event. -/
def State.contactLost (s : State) : State :=
  (({ s with pair := { s.pair with lostAt := some s.clk, lastHb := none } } : State).bump (basePair + 0x2C)).event
    { word := 4, source := mPairLost }

theorem State.loseContact_eq : s.loseContact =
    (let returning := s.pair.st == 1 && s.partnerServes
     if !(s.pair.st == 2 || s.pair.st == 5 || returning) || s.pair.lostAt.isSome then s
     else if s.contactLost.pair.st = 5 then
       State.pairAnswer { s.contactLost.pairSet 3 with pair := { (s.contactLost.pairSet 3).pair with lostAt := none, backPend := false } } (.no 0xFF)
     else if returning || s.contactLost.downUp.isEmpty then s.contactLost.selfFence else s.contactLost) := rfl

/-- A paired member without active down ports fences itself at the loss of contact; with one it waits for the test (R430, R432). -/
theorem State.loseContact_of_paired (hst : s.pair.st = 2) (hlost : s.pair.lostAt = none) (hu : s.contactLost.pair.st = 2) :
    s.loseContact = if s.contactLost.downUp = [] then s.contactLost.selfFence else s.contactLost := by
  simp [State.loseContact_eq, hst, hlost, hu]

/-- The partner is gone where some chip reports and every report shows it gone (R432). -/
theorem State.partnerGone_iff : s.partnerGone = true ↔ s.reports ≠ [] ∧ ∀ b ∈ s.reports, b = false := by
  simp [State.partnerGone]

theorem State.partnerGone_of_doubt (h : s.reports = [] ∨ true ∈ s.reports) : ¬ s.partnerGone = true := by
  rw [State.partnerGone_iff]
  rintro ⟨hne, hall⟩
  rcases h with h | h
  · exact hne h
  · exact Bool.noConfusion (hall true h)

/-- The test of a member that has lost contact (R432). -/
theorem State.arbitrate_of_lost (hst : s.pair.st = 2) (hlost : s.pair.lostAt ≠ none) :
    s.arbitrate = if s.partnerGone then s.takeOver else if s.pl.member = 1 then s.selfFence else s :=
  if_neg (by simpa [hst] using hlost)

/-! Formation (R420, R421, R435). -/

/-- What must hold for a module to form its pair by itself (R420, R470). -/
theorem State.pairAutoForm_eq : s.pairAutoForm =
    if s.dev = .ready ∧ s.mayPair = true ∧ s.pl.paired = true ∧ s.fld basePair 0 1 = 1 ∧ s.pair.st = 0 then s.pairSet 1 else s := by
  simp only [State.pairAutoForm, State.pairStart, Bool.and_eq_true, decide_eq_true_eq, and_assoc]

theorem State.pairAnswer_of_unowned (a : Ans) (h : s.pair.owner = none) : s.pairAnswer a = s := by
  rw [State.pairAnswer, h]

theorem State.pairFormation_of_passed {x : PairInfo} (hst : s.pair.st = 1) (hr : s.pairReason x = 0) (hserves : s.partnerServes = false)
    (howner : s.pair.owner = none) :
    s.pairFormation x = { s with pair := { s.pair with st := 2, eventTime := s.now, reason := 0, lostAt := none } } := by
  simp only [State.pairFormation, hst, hr, hserves, if_true, ne_eq, not_true_eq_false, if_false, Bool.false_eq_true]
  exact State.pairAnswer_of_unowned _ howner

theorem State.pairFormation_of_failed {x : PairInfo} (hst : s.pair.st = 1) (hr : s.pairReason x ≠ 0) :
    s.pairFormation x = (((s.pairSet 6).raiseMod mPairRefused).pairAnswer (.no 0x20)).setPairReason (s.pairReason x) := by
  simp only [State.pairFormation, if_pos hst, if_pos hr]

/-- Every check of R420 passes where the partner's identity and settings are those asked for. -/
theorem State.pairReason_of_match {x : PairInfo} (hup : s.mirrorUp ≠ []) (hi : x.index = s.pl.partner) (hpl : x.plane = s.pl.plane)
    (hrx : x.rx = s.pl.rx) (hry : x.ry = s.pl.ry) (hm : x.member ≠ s.pl.member) (hck : x.ck2l = s.ck2l) (hline : x.line = 2)
    (hrel : x.release = s.fwRelease) (hpools : x.pools = s.cfg.pools) : s.pairReason x = 0 := by
  simp [State.pairReason, hup, hi, hpl, hrx, hry, hm, hck, hline, hrel, hpools]

theorem State.resyncDone_of_resync (n : Nat) (hst : s.pair.st = 5) :
    s.resyncDone n = { s with pair := { s.pair with unmirrored := n, backPend := true } } := if_neg (not_not_intro hst)

end Sys2Proof.Machine
end

section
/-! PROOF. The obligation on the rows of the mirrored pair. -/

namespace Sys2Proof.Proofs

open Sys2Proof Sys2Proof.Machine

/-- Settles O31: row by row, the row's own equation and then what its operation does under the premises. -/
theorem pairRows : Obligations.PairRows := by
  refine ⟨?alone, ?beat, ?heard, ?lost, ?lostAll, ?takes, ?fences, ?waits, ?home, ?forms, ?formsNot, ?paired, ?refused, ?copied, ?reason⟩
  case alone =>
    intro s h
    rw [exec_heartbeatTimer, State.heartbeatSend_of_unpaired h]
  case beat =>
    intro s u v t h hlast hu hv
    subst hu hv
    rw [exec_heartbeatTimer, State.heartbeatSend_of_paired h hlast]
    simp only [State.heartbeatDue, decide_eq_true_eq]
  case heard =>
    intro s p b pkt u hp hpair ht hm hd hu hb hst
    subst hu hb
    rw [exec_heartbeatReceived s pkt (lt_of_mem_pairPorts hp), State.heartbeatIn_of_formed hp hpair ht hm hd hst]
  case lost =>
    intro s u hst hlost hu hust hdown
    change u = s.contactLost at hu
    subst hu
    rw [exec_lossOfContact, State.loseContact_of_paired hst hlost hust, if_neg hdown]
  case lostAll =>
    intro s u hst hlost hu hust hdown
    change u = s.contactLost at hu
    subst hu
    rw [exec_lossOfContact, State.loseContact_of_paired hst hlost hust, if_pos hdown]
  case takes =>
    intro s hst hlost hne hall
    rw [exec_arbitrationTest, State.arbitrate_of_lost hst hlost, if_pos (State.partnerGone_iff.mpr ⟨hne, hall⟩)]
  case fences =>
    intro s hst hlost hdoubt hm
    rw [exec_arbitrationTest, State.arbitrate_of_lost hst hlost, if_neg (State.partnerGone_of_doubt hdoubt), if_pos hm]
  case waits =>
    intro s hst hlost hdoubt hm
    rw [exec_arbitrationTest, State.arbitrate_of_lost hst hlost, if_neg (State.partnerGone_of_doubt hdoubt), if_neg (by simp [hm])]
  case home =>
    intro s p pkt u hp hpair huse ht hm hd hu
    subst hu
    rw [exec_homeStateReceived s pkt hp, State.homeStateIn_of_down hpair huse ht hm hd]
  case forms =>
    intro s hdev hmay hpair hauto hst
    rw [exec_pairAutoForm, State.pairAutoForm_eq, if_pos ⟨hdev, hmay, hpair, hauto, hst⟩]
    rfl
  case formsNot =>
    intro s h
    rw [exec_pairAutoForm, State.pairAutoForm_eq, if_neg]
    rintro ⟨hdev, hmay, hpair, hauto, hst⟩
    simp [hdev, hmay, hpair, hauto, hst] at h
  case paired =>
    intro s x hst hr hserves howner
    rw [exec_pairFormationComplete, State.pairFormation_of_passed hst hr hserves howner]
  case refused =>
    intro s x hst hr
    rw [exec_pairFormationComplete, State.pairFormation_of_failed hst hr]
    rfl
  case copied =>
    intro s n hst
    rw [exec_resyncCopyComplete, State.resyncDone_of_resync n hst]
  case reason =>
    intro s x hup hi hpl hrx hry hm hck hline hrel hpools
    exact State.pairReason_of_match hup hi hpl hrx hry hm hck hline hrel hpools

end Sys2Proof.Proofs
end

section
/-! PROOF. What the rows of the sideband and of SPDM do where their guards let them (R465, R467, R474–R476, R550–R553), one equation for each row
first. -/

namespace Sys2Proof.Machine

variable (s : State)

theorem exec_i3cDynamicAddressAssign (a : Nat) : exec (.i3cDynamicAddressAssign a) s = .next (settle s (s.dynAddress a)) := rfl
theorem exec_setEndpointId (e : Nat) : exec (.setEndpointId e) s = .next (settle s (s.setEid e)) := rfl
theorem exec_setEventReceiver (e : Nat) : exec (.setEventReceiver e) s = .next (settle s (s.setReceiver e)) := rfl
theorem exec_getSensorReading (n d : Nat) : exec (.getSensorReading n d) s = .next (settle s (s.sensorReading n d)) := rfl
theorem exec_pldmFirmwareUpdate (w k : List Byte) : exec (.pldmFirmwareUpdate w k) s = .next (settle s (s.fwUpdate w k)) := rfl
theorem exec_activateFirmware : exec .activateFirmware s = .next (settle s s.fwActivate) := rfl
theorem exec_getVersion (p : Nat) : exec (.getVersion p) s = .next (settle s (s.spdmVersion p)) := rfl
theorem exec_getCapabilities (p : Nat) : exec (.getCapabilities p) s = .next (settle s (s.spdmCaps p)) := rfl
theorem exec_negotiateAlgorithms (p : Nat) : exec (.negotiateAlgorithms p) s = .next (settle s (s.spdmAlgs p)) := rfl
theorem exec_getDigests (p : Nat) : exec (.getDigests p) s = .next (settle s (s.spdmDigests p)) := rfl
theorem exec_getCertificate (p off n : Nat) : exec (.getCertificate p off n) s = .next (settle s (s.spdmCert p off n)) := rfl
theorem exec_challenge (p : Nat) (nonce : List Byte) : exec (.challenge p nonce) s = .next (settle s (s.spdmChallenge p nonce)) := rfl
theorem exec_getMeasurements (p k : Nat) (nonce : List Byte) :
    exec (.getMeasurements p k nonce) s = .next (settle s (s.spdmMeasure p k nonce)) := rfl

variable {s}

/-! Addresses and sensors (R550–R552). -/

/-- The sideband answers wherever the module is not off. -/
theorem State.sideband_of_on (h : s.dev ≠ .off) : s.sideband = true := by simp [State.sideband, h]

theorem State.dynAddress_of_range {a : Nat} (h : s.dev ≠ .off) (ha : a < 128) : s.dynAddress a = s.setHost { s.host with dynAddr := some a } :=
  if_pos (by simp [State.sideband_of_on h, ha])

theorem State.setEid_of_range {e : Nat} (h : s.dev ≠ .off) (he : e < 256) : s.setEid e = s.setHost { s.host with eid := e } :=
  if_pos (by simp [State.sideband_of_on h, he])

theorem State.setReceiver_of_range {e : Nat} (h : s.dev ≠ .off) (he : e < 256) :
    s.setReceiver e = s.setHost { s.host with receiver := some e } :=
  if_pos (by simp [State.sideband_of_on h, he])

theorem State.sensorReading_of_listed {n d : Nat} (h : s.dev ≠ .off) (hn : n ≤ 18) (hd : d ≤ 3) :
    s.sensorReading n d = s.emit (.pldm 1 [n, d, b2n (s.sensor n d).1, if (s.sensor n d).1 then (s.sensor n d).2 else 0]) :=
  if_neg (by simp [State.sideband_of_on h, hn, hd])

/-! Firmware (R465, R467, R553). -/

theorem State.fwUpdate_of_free {w k : List Byte} (h : s.dev ≠ .off) (hpend : s.cfg.pend = none)
    (hexecs : ∀ e ∈ s.cmd.execs, e.op ≠ 0x0100 ∧ e.op ≠ 0x0101 ∧ e.op ≠ 0x0800) :
    s.fwUpdate w k =
      ({ s with sec := { s.sec with fw := (s.otherSlot, w, k) :: s.sec.fw.filter (fun e => e.1 != s.otherSlot), armed := none } } : State).emit
        (.pldm 3 [s.otherSlot]) := by
  have hfree : (s.cmd.execs.any (fun e => e.op == 0x0100 || e.op == 0x0101 || e.op == 0x0800)) = false :=
    List.any_eq_false.mpr fun e he => by simp [hexecs e he]
  rw [State.fwUpdate, if_neg (by simp [State.sideband_of_on h]), if_neg (by simp only [hpend, hfree]; decide)]

theorem State.fwActivate_of_written {w k : List Byte} (h : s.dev ≠ .off)
    (hfw : s.sec.fw.find? (fun e => e.1 == s.otherSlot) = some (s.otherSlot, w, k)) (hw : s.fwImageOk 0 w = true) (hk : s.fwImageOk 1 k = true)
    (hrel : imgField w 24 4 = imgField k 24 4) :
    s.fwActivate = ({ s with sec := { s.sec with armed := some s.otherSlot } } : State).emit (.pldm 5 [s.otherSlot]) := by
  simp [State.fwActivate, State.sideband_of_on h, hfw, hw, hk, hrel]

theorem State.fwActivate_of_unwritten (h : s.dev ≠ .off) (hfw : s.sec.fw = []) : s.fwActivate = s.emit (.pldm 4 []) := by
  simp [State.fwActivate, State.sideband_of_on h, hfw]

/-! SPDM requests over MCTP, path 0 (R474). -/

/-- Keeper answers SPDM requests: it runs, outside reset and HIBERNATE. -/
def State.SpdmUp (s : State) : Prop := s.sec.keeperUp = true ∧ s.power.inReset = false ∧ s.power.pstate ≠ 3

section
variable {ready : SpdmPath → Bool} {k : State → State}

/-- A request that the path's negotiated state allows is answered. -/
theorem State.spdmReq_of_ready (h : s.SpdmUp) (hready : ready (s.path 0) = true) : s.spdmReq 0 ready k = k s := by
  obtain ⟨hup, hreset, hstate⟩ := h
  simp [State.spdmReq, hup, hreset, hstate, hready]

theorem State.spdmReq_of_unready (h : s.SpdmUp) (hready : ready (s.path 0) = false) :
    s.spdmReq 0 ready k = s.emit (.spdm 0 spdmUnexpected []) := by
  obtain ⟨hup, hreset, hstate⟩ := h
  simp [State.spdmReq, hup, hreset, hstate, hready]

theorem State.spdmReq_of_down (h : s.sec.keeperUp = false) : s.spdmReq 0 ready k = s.emit (.spdm 0 spdmBusy []) := by
  simp [State.spdmReq, h]

end

/-- The blocks that GET_MEASUREMENTS of index `k` signs (R475). -/
def State.measBody (s : State) (k : Nat) : List Byte :=
  if k = 255 then s.sec.meas.flatten else if 1 ≤ k && k ≤ 11 then s.sec.meas.getD (k - 1) [] else []

theorem State.measBody_of_index {k : Nat} (h1 : 1 ≤ k) (h2 : k ≤ 11) : s.measBody k = s.sec.meas.getD (k - 1) [] := by
  simp [State.measBody, h1, h2, show k ≠ 255 by omega]

theorem State.spdmMeasure_of_ready (k : Nat) (nonce : List Byte) (h : s.SpdmUp) (halgs : (s.path 0).algs = true) :
    s.spdmMeasure 0 k nonce =
      s.emit (.spdm 0 297 (s.measBody k ++ nonce ++ Config.ed25519Sign s.aliasKey (s.measBody k ++ nonce))) :=
  State.spdmReq_of_ready h halgs

end Sys2Proof.Machine
end

section
/-! PROOF. The obligation on the sideband and SPDM. -/

namespace Sys2Proof.Proofs

open Sys2Proof Sys2Proof.Machine

/-- Settles O33: row by row; an SPDM request is answered, Busy or unexpected by whether Keeper runs and by the path's negotiated state. -/
theorem managementRows : Obligations.ManagementRows := by
  refine ⟨?address, ?endpoint, ?receiver, ?reading, ?noReading, ?update, ?activate, ?nothing, ?version, ?busy, ?caps, ?capsEarly, ?algs, ?digests,
    ?cert, ?challenge, ?block, ?blocks⟩
  case address => intro s a h ha; rw [exec_i3cDynamicAddressAssign, State.dynAddress_of_range h ha]
  case endpoint => intro s e h he; rw [exec_setEndpointId, State.setEid_of_range h he]
  case receiver => intro s e h he; rw [exec_setEventReceiver, State.setReceiver_of_range h he]
  case reading =>
    intro s n d h hn hd hok
    rw [exec_getSensorReading, State.sensorReading_of_listed h hn hd, hok]
    rfl
  case noReading =>
    intro s n d h hn hd hok
    rw [exec_getSensorReading, State.sensorReading_of_listed h hn hd, hok]
    rfl
  case update =>
    intro s w k o h hpend hexecs ho
    subst ho
    rw [exec_pldmFirmwareUpdate, State.fwUpdate_of_free h hpend hexecs]
  case activate =>
    intro s o w k h ho hfw hw hk hrel
    subst ho
    rw [exec_activateFirmware, State.fwActivate_of_written h hfw hw hk hrel]
  case nothing =>
    intro s h hfw
    rw [exec_activateFirmware, State.fwActivate_of_unwritten h hfw]
  case version =>
    intro s p hp hup hreset hstate
    subst hp
    rw [exec_getVersion, State.spdmVersion, State.spdmReq_of_ready ⟨hup, hreset, hstate⟩ rfl]
  case busy =>
    intro s p hp hdown
    subst hp
    rw [exec_getVersion, State.spdmVersion, State.spdmReq_of_down hdown]
  case caps =>
    intro s p hp hup hreset hstate hready
    subst hp
    rw [exec_getCapabilities, State.spdmCaps, State.spdmReq_of_ready ⟨hup, hreset, hstate⟩ hready]
  case capsEarly =>
    intro s p hp hup hreset hstate hready
    subst hp
    rw [exec_getCapabilities, State.spdmCaps, State.spdmReq_of_unready ⟨hup, hreset, hstate⟩ hready]
  case algs =>
    intro s p hp hup hreset hstate hready
    subst hp
    rw [exec_negotiateAlgorithms, State.spdmAlgs, State.spdmReq_of_ready ⟨hup, hreset, hstate⟩ hready]
  case digests =>
    intro s p hp hup hreset hstate hready
    subst hp
    rw [exec_getDigests, State.spdmDigests, State.spdmReq_of_ready ⟨hup, hreset, hstate⟩ hready]
  case cert =>
    intro s p off n hp hup hreset hstate hready
    subst hp
    rw [exec_getCertificate, State.spdmCert, State.spdmReq_of_ready ⟨hup, hreset, hstate⟩ hready]
  case challenge =>
    intro s p nonce body hp hup hreset hstate hready hbody
    subst hp hbody
    rw [exec_challenge, State.spdmChallenge, State.spdmReq_of_ready ⟨hup, hreset, hstate⟩ hready]
  case block =>
    intro s p k nonce body hp hup hreset hstate hready h1 h2 hbody
    subst hp hbody
    rw [exec_getMeasurements, State.spdmMeasure_of_ready k nonce ⟨hup, hreset, hstate⟩ hready, State.measBody_of_index h1 h2]
  case blocks =>
    intro s p nonce body hp hup hreset hstate hready hbody
    subst hp hbody
    rw [exec_getMeasurements, State.spdmMeasure_of_ready 255 nonce ⟨hup, hreset, hstate⟩ hready]
    rfl

end Sys2Proof.Proofs
end

section
/-! PROOF. What the rows of the host's accesses do where their guards let them (R542–R548, R559–R565), one equation for each row first. -/

namespace Sys2Proof.Machine

variable (s : State)

theorem exec_bar4Read (w n : Nat) : exec (.bar4Read w n) s = .next (settle s (s.bar4Read w n)) := rfl
theorem exec_bar4Write (w : Nat) (l : List Byte) (b : Bool) : exec (.bar4Write w l b) s = .next (settle s (s.bar4Write w l b)) := rfl
theorem exec_bar4BaseWrite (v : Nat) : exec (.bar4BaseWrite v) s = .next (settle s (s.bar4BaseWrite v)) := rfl
theorem exec_busMasterReadTimeout (id : Nat) : exec (.busMasterReadTimeout id) s = .next (settle s (s.masterReadFails id)) := rfl
theorem exec_msixUnmask (v : Nat) : exec (.msixUnmask v) s = .next (settle s (s.msixUnmask v)) := rfl
theorem exec_l0pIdleTimer : exec .l0pIdleTimer s = .next (settle s s.l0pIdle) := rfl
theorem exec_pcieLinkUp (rate width : Nat) (flit : Bool) :
    exec (.pcieLinkUp rate width flit) s = .next (settle s (s.linkUpPcie rate width flit)) := rfl
theorem exec_pcieLinkDown : exec .pcieLinkDown s = .next (settle s s.linkDownPcie) := rfl
theorem exec_configSpaceWrite (bme : Bool) (d : Nat) (en fm : Bool) (mps mrrs : Nat) :
    exec (.configSpaceWrite bme d en fm mps mrrs) s = .next (settle s (s.configSpace bme d en fm mps mrrs)) := rfl
theorem exec_registerWrite (off n v : Nat) : exec (.registerWrite off n v) s = .next (settle s (s.bar0Write off n v)) := rfl
theorem exec_rcRead (off n : Nat) : exec (.rcRead off n) s = .next (settle s (s.bar0Read off n)) := rfl
theorem exec_splitLowRead (off : Nat) : exec (.splitLowRead off) s = .next (settle s (s.splitLowRead off)) := rfl
theorem exec_splitHighWrite (off v : Nat) : exec (.splitHighWrite off v) s = .next (settle s (s.splitHighWrite off v)) := rfl
theorem exec_bar0IllegalAccess (off n : Nat) (wr : Bool) : exec (.bar0IllegalAccess off n wr) s = .next (settle s (s.illegalAccess wr)) := rfl
theorem exec_unmappedAccess (off : Nat) (wr : Bool) : exec (.unmappedAccess off wr) s = .next (settle s (s.unmappedAccess off wr)) := rfl

variable {s}

/-! BAR4 (R544, R545). -/

section
variable {w n o : Nat} {l : List Byte}

/-- A range outside every core's window is read from the tiers. -/
theorem State.anyRead_of_tier (hwin : s.windowCore o n = none) : s.anyRead o n = s.memRead o n := by
  rw [State.anyRead, hwin]

theorem State.bar4Read_of_ok (hserves : s.bar4Serves = true) (hn : n ≠ 0) (ho : s.bar4Offset w = o) (hok : s.checkHost o n = .ok)
    (hwin : s.windowCore o n = none) (hue : s.ueIn o n = none) : s.bar4Read w n = s.emit (.completion (s.memRead o n)) := by
  have hlines : (if (s.windowCore o n).isSome then none else s.ueIn o n) = none := by simp [hwin, hue]
  rw [State.bar4Read, if_neg (by simp [hserves, hn]), ho, ← State.anyRead_of_tier hwin]
  simp only [hok, hlines]

theorem State.bar4Read_of_refused (hserves : s.bar4Serves = true) (hn : n ≠ 0) (ho : s.bar4Offset w = o) (hno : s.checkHost o n ≠ .ok) :
    s.bar4Read w n = (s.bar4Refuse o).emit (.completionErr 1) := by
  rw [State.bar4Read, if_neg (by simp [hserves, hn]), ho]
  dsimp only
  split
  · next hok => exact absurd hok hno
  · rfl

theorem State.bar4Write_of_ok (hserves : s.bar4Serves = true) (hl : l ≠ []) (ho : s.bar4Offset w = o) (hok : s.checkHost o l.length = .ok)
    (hwin : s.windowCore o l.length = none) (hmir : s.mirroredAt o = false) : s.bar4Write w l false = s.memWrite o l := by
  rw [State.bar4Write, if_neg (by simp [hserves, hl]), if_neg Bool.false_ne_true, ho]
  simp only [hok, hwin, hmir, State.anyWrite, Bool.false_eq_true, if_false]

theorem State.bar4Write_of_poisoned (hserves : s.bar4Serves = true) (hl : l ≠ []) :
    s.bar4Write w l true = (s.bump (baseCmd + 0x424)).raiseMod mPcieErr := by
  simp [State.bar4Write, hserves, hl]

theorem State.bar4Write_of_refused (hserves : s.bar4Serves = true) (hl : l ≠ []) (ho : s.bar4Offset w = o)
    (hno : s.checkHost o l.length ≠ .ok) : s.bar4Write w l false = s.bar4Refuse o := by
  rw [State.bar4Write, if_neg (by simp [hserves, hl]), if_neg Bool.false_ne_true, ho]
  dsimp only
  split
  · next hok => exact absurd hok hno
  · rfl

end

/-! The endpoint (R542, R546–R548, R565). -/

/-- A bus-master read that fails ends the transfer or image load that waits for it (R546). -/
theorem State.masterReadFails_of_waiting {id : Nat} {e : Exec} (he : s.execOf id = some e) (hop : e.op = 0x0606 ∨ e.op = 0x0100 ∨ e.op = 0x0101) :
    s.masterReadFails id = s.execDone id (.no 0xFF) := by
  rw [State.masterReadFails, he]
  exact if_pos (by simpa [or_assoc] using hop)

theorem State.msixUnmask_of_vector {v : Nat} (h : v ≤ 63) : s.msixUnmask v = (s.setFld (0x800000 + 16 * v + 12) 0 1 0).sendPending :=
  if_neg (by omega)

theorem State.l0pIdle_of_enabled (hlink : s.host.linkUp = true) (hl0p : s.host.l0p = false) (hen : s.fld (baseCmd + 0x40C) 0 1 ≠ 0) :
    s.l0pIdle = (s.setHost { s.host with l0p := true, width := 2 }).emit (.pcie 2) :=
  if_neg (by simp [hlink, hl0p, hen])

theorem State.linkUpPcie_of_trained {rate width : Nat} (flit : Bool) (hdown : s.host.linkUp = false) (hreset : s.power.inReset = false)
    (hdev : s.dev ≠ .off) (hstate : s.power.pstate ≠ 3) (hrate : rate = 5 ∨ rate = 6) (hwidth : width = 4 ∨ width = 8) :
    s.linkUpPcie rate width flit = s.setHost { s.host with linkUp := true, rate := rate, width := width, flit := flit, l0p := false } := by
  refine if_neg ?_
  rcases hrate with rfl | rfl <;> rcases hwidth with rfl | rfl <;> simp [hdown, hreset, hdev, hstate]

theorem State.linkDownPcie_of_up (hlink : s.host.linkUp = true) :
    s.linkDownPcie = (s.setHost { s.host with linkUp := false, rate := 0, width := 0, flit := false, l0p := false }).bump (baseCmd + 0x42C) :=
  if_neg (by simp [hlink])

theorem State.configSpace_of_legal (bme en fm : Bool) {d mps mrrs : Nat} (hlink : s.host.linkUp = true) (hd : d = 0 ∨ d = 3)
    (hmps : sizeOk mps 512 = true) (hmrrs : sizeOk mrrs 4096 = true) :
    s.configSpace bme d en fm mps mrrs =
      (s.setHost { s.host with bme := bme, dstate := d, msixEn := en, fmask := fm, mps := mps, mrrs := mrrs }).sendPending := by
  have hd' : (if d = 0 || d = 3 then d else s.host.dstate) = d := if_pos (by simpa using hd)
  simp only [State.configSpace, hlink, hmps, hmrrs, hd', Bool.not_true, Bool.false_eq_true, if_false, if_true]

/-! BAR0 (R544, R559–R562). -/

section
variable {a : Nat}

/-- A write of 4 bytes that is legal and served. -/
theorem State.bar0Write_of_served (v : Nat) (hlink : s.host.linkUp = true) (hserved : s.served a = true) (hlegal : legalAccess a 4 = true) :
    s.bar0Write a 4 v = s.write4 a v := by
  simp [State.bar0Write, hlink, hserved, hlegal]

/-- A write of a word that is no half of a 64-bit register (R562); a half that is held for another register is dropped (R561). -/
theorem State.write4_of_word (v : Nat) (hlow : wideReg a = false) (hhigh : a < 4 ∨ wideReg (a - 4) = false)
    (hword : (s.dropHeld (if 4 ≤ a && wideReg (a - 4) then a - 4 else a)).word a ≠ none) :
    s.write4 a v = (s.dropHeld (if 4 ≤ a && wideReg (a - 4) then a - 4 else a)).writeWord a (v % 2 ^ 32) := by
  have hnot : (decide (4 ≤ a) && wideReg (a - 4)) = false := by
    rcases hhigh with h | h
    · simp [show ¬ 4 ≤ a by omega]
    · simp [h]
  rw [State.write4, if_neg (by simp [hlow]), if_neg (by simp only [hnot, Bool.false_eq_true, not_false_eq_true]),
    if_pos (Option.isSome_iff_ne_none.mpr hword)]

/-- The high half of a 64-bit register is held (R561). -/
theorem State.write4_of_high (v : Nat) (hlow : wideReg a = false) (h4 : 4 ≤ a) (hhigh : wideReg (a - 4) = true) :
    s.write4 a v = (s.dropHeld (a - 4)).setHost { (s.dropHeld (a - 4)).host with highHeld := some (a - 4, v % 2 ^ 32) } := by
  simp [State.write4, hlow, h4, hhigh]

theorem State.splitHighWrite_of_high (v : Nat) (h4 : 4 ≤ a) (hhigh : wideReg (a - 4) = true) : s.splitHighWrite a v = s.bar0Write a 4 v :=
  if_pos (by simp [h4, hhigh])

theorem State.splitLowRead_of_low (hlow : wideReg a = true) : s.splitLowRead a = s.bar0Read a 4 := if_pos hlow

end

/-- A write of 8 bytes to a 64-bit register sets both halves at once (R561). -/
theorem State.bar0Write_of_wide {a v : Nat} (hlink : s.host.linkUp = true) (hlegal : legalAccess a 8 = true) (hserved : s.served a = true)
    (hwide : wideReg a = true) (hv : v < 2 ^ 64) : s.bar0Write a 8 v = (s.setHost { s.host with highHeld := none }).writeWide a v true := by
  rw [State.bar0Write, if_neg (by simp [hlink, hlegal, hserved]), if_neg (by decide), if_pos hwide, Nat.mod_eq_of_lt hv]

/-- BAR4_BASE is no register of the fault collector, so that a write to it moves the window. -/
theorem State.writeWide_bar4Base (v : Nat) : s.writeWide (baseCmd + 0x400) v true = s.bar4Base v := rfl

theorem State.bar4BaseWrite_of_served {v : Nat} (hlink : s.host.linkUp = true) (hserved : s.served (baseCmd + 0x400) = true) (hv : v < 2 ^ 64) :
    s.bar4BaseWrite v = (s.setHost { s.host with highHeld := none }).bar4Base v :=
  (State.bar0Write_of_wide hlink rfl hserved rfl hv).trans (State.writeWide_bar4Base v)

theorem State.illegalAccess_of_up (wr : Bool) (hlink : s.host.linkUp = true) :
    s.illegalAccess wr = if wr then s.bump 0x100 else (s.bump 0x100).emit (.completionErr 1) :=
  if_neg (by simp [hlink])

/-- A reserved offset that is served counts; a read of it answers 0, a write drops a held half of another register (R560, R561). -/
theorem State.unmappedAccess_of_reserved (off : Nat) (wr : Bool) (hlink : s.host.linkUp = true) (hserved : s.served (off / 4 * 4) = true)
    (hword : s.word (off / 4 * 4) = none) :
    s.unmappedAccess off wr =
      if wr then (s.dropHeld (off / 4 * 4)).unmapped else s.unmapped.emit (.completion (leBytes 4 0)) := by
  cases wr <;> simp [State.unmappedAccess, hlink, hserved, hword]

end Sys2Proof.Machine
end

section
/-! PROOF. The obligation on the host's accesses. -/

namespace Sys2Proof.Proofs

open Sys2Proof Sys2Proof.Machine

/-- Settles O32: row by row, the row's own equation and then what its operation does under the premises. -/
theorem hostAccessRows : Obligations.HostAccessRows := by
  refine ⟨?read, ?readRefused, ?write, ?poisoned, ?writeRefused, ?base, ?readFails, ?unmask, ?l0p, ?linkUp, ?linkDown, ?config, ?register, ?rc,
    ?low, ?high, ?illegalWrite, ?illegalRead, ?unmappedRead, ?unmappedWrite⟩
  case read =>
    intro s w n hserves hn hok hwin hue
    rw [exec_bar4Read, State.bar4Read_of_ok hserves hn rfl hok hwin hue]
  case readRefused =>
    intro s w n hserves hn hno
    rw [exec_bar4Read, State.bar4Read_of_refused hserves hn rfl hno]
    rfl
  case write =>
    intro s w l hserves hl hok hwin hmir
    rw [exec_bar4Write, State.bar4Write_of_ok hserves hl rfl hok hwin hmir]
  case poisoned =>
    intro s w l hserves hl
    rw [exec_bar4Write, State.bar4Write_of_poisoned hserves hl]
    rfl
  case writeRefused =>
    intro s w l hserves hl hno
    rw [exec_bar4Write, State.bar4Write_of_refused hserves hl rfl hno]
    rfl
  case base =>
    intro s v u hlink hserved hv hu
    subst hu
    rw [exec_bar4BaseWrite, State.bar4BaseWrite_of_served hlink hserved hv]
    rfl
  case readFails =>
    intro s id e he hop
    rw [exec_busMasterReadTimeout, State.masterReadFails_of_waiting he hop]
  case unmask =>
    intro s v hv
    rw [exec_msixUnmask, State.msixUnmask_of_vector hv]
  case l0p =>
    intro s hlink hl0p hen
    rw [exec_l0pIdleTimer, State.l0pIdle_of_enabled hlink hl0p hen]
  case linkUp =>
    intro s rate width flit hdown hreset hdev hstate hrate hwidth
    rw [exec_pcieLinkUp, State.linkUpPcie_of_trained flit hdown hreset hdev hstate hrate hwidth]
  case linkDown =>
    intro s hlink
    rw [exec_pcieLinkDown, State.linkDownPcie_of_up hlink]
  case config =>
    intro s bme en fm d mps mrrs hlink hd hmps hmrrs
    rw [exec_configSpaceWrite, State.configSpace_of_legal bme en fm hlink hd hmps hmrrs]
  case register =>
    intro s off v hlink hserved _ hlegal hword hlow hhigh
    rw [exec_registerWrite, State.bar0Write_of_served v hlink hserved hlegal, State.write4_of_word v hlow hhigh hword]
  case rc =>
    intro s off n
    exact exec_rcRead s off n
  case low =>
    intro s off hlow
    rw [exec_splitLowRead, State.splitLowRead_of_low hlow]
  case high =>
    intro s off v hlink hserved hlegal h4 hhigh hlow
    rw [exec_splitHighWrite, State.splitHighWrite_of_high v h4 hhigh, State.bar0Write_of_served v hlink hserved hlegal,
      State.write4_of_high v hlow h4 hhigh]
  case illegalWrite =>
    intro s off n hlink
    rw [exec_bar0IllegalAccess, State.illegalAccess_of_up true hlink, if_pos rfl]
  case illegalRead =>
    intro s off n hlink
    rw [exec_bar0IllegalAccess, State.illegalAccess_of_up false hlink, if_neg Bool.false_ne_true]
  case unmappedRead =>
    intro s off hlink hserved hword
    rw [exec_unmappedAccess, State.unmappedAccess_of_reserved off false hlink hserved hword, if_neg Bool.false_ne_true]
  case unmappedWrite =>
    intro s off hlink hserved hword
    rw [exec_unmappedAccess, State.unmappedAccess_of_reserved off true hlink hserved hword, if_pos rfl]

end Sys2Proof.Proofs
end

section
/-! PROOF. What the rows of power, temperature, voltage and the reference do where their guards let them (R480, R481, R484, R486, R487, R489, R492,
R494), one equation for each row first. -/

namespace Sys2Proof.Machine

variable (s : State)

theorem exec_startCondition : exec .startCondition s = .next (settle s s.startCondition) := rfl
theorem exec_pfWarn : exec .pfWarn s = .next (settle s s.pfWarnIn) := rfl
theorem exec_powerSample (mv ma temp : Nat) : exec (.powerSample mv ma temp) s = .next (settle s (s.powerReading mv ma temp)) := rfl
theorem exec_cappingLoop (w : Nat) : exec (.cappingLoop w) s = .next (settle s (s.capLoop w)) := rfl
theorem exec_avsAdjust (l : List Nat) : exec (.avsAdjust l) s = .next (settle s (s.avs l)) := rfl
theorem exec_islandStepComplete (k : Nat) : exec (.islandStepComplete k) s = .next (settle s (s.islandStep k)) := rfl
theorem exec_phaseFault (p : Nat) : exec (.phaseFault p) s = .next (settle s (s.phaseFaultIn p)) := rfl
theorem exec_refLost : exec .refLost s = .next (settle s s.refLostIn) := rfl
theorem exec_refRelock : exec .refRelock s = .next (settle s s.refBack) := rfl

section
variable {d : Nat} (hd : d < 4)
include hd

theorem exec_denThermalLoop (t : Nat) : exec (.denThermalLoop d t) s = .next (settle s (s.thermalLoop d t)) :=
  next_settle_if_pos s (s.thermalLoop d t) hd

theorem exec_railFault : exec (.railFault d) s = .next (settle s (s.railOut d)) := next_settle_if_pos s (s.railOut d) hd

end

variable {s}

/-! The Start condition and the readings (R480, R481). -/

theorem State.startCondition_of_waiting (hdev : s.dev ≠ .off) (hwait : s.power.waitStart = true) (hpf : s.power.pfWarn = false) :
    s.startCondition = { s with power := { s.power with
      waitStart := false, locked := false, pfWarn := false, inReset := s.power.pinLow, phase := if s.power.pinLow then 0 else 1, startAt := s.clk } } := by
  simp only [State.startCondition, hwait, hpf, Bool.false_eq_true, if_false, if_true]
  exact if_neg hdev

/-- A first warning outside a pin reset begins the sequence of R460. -/
theorem State.pfWarnIn_of_first (hdev : s.dev ≠ .off) (hpf : s.power.pfWarn = false) (hreset : s.power.inReset = false) :
    s.pfWarnIn = (({ s with power := { s.power with pfWarn := true } } : State).emit (.pin 2 false)).event { word := 4, source := mPfWarn } := by
  have hreset' : (({ s with power := { s.power with pfWarn := true } } : State).emit (.pin 2 false)).power.inReset = false := hreset
  rw [State.pfWarnIn, if_neg (by simp [hpf, hdev])]
  exact if_neg (by simp [hreset'])

/-- The powers of the last 1 ms in mW, with the reading's in front (R481). -/
def State.powers (s : State) (mv ma : Nat) : List Nat := (mv * ma / 1000 :: s.power.samples).take 100

/-- A reading kept, with its average; the loads and the 12 V rail are free values. -/
def State.sampled (s : State) (mv ma temp : Nat) : State :=
  { s with power := { s.power with
      vin := mv, iin := ma, stage1 := temp, samples := s.powers mv ma,
      pin := (s.powers mv ma).foldl (· + ·) 0 / (1000 * max 1 (s.powers mv ma).length), pload := s.free % 4096, v12 := s.used.free % 65536 } }

theorem State.powerReading_of_within {mv ma temp : Nat} (hdev : s.dev ≠ .off) (hlo : 35000 ≤ mv) (hhi : mv ≤ 60000) :
    s.powerReading mv ma temp = (s.sampled mv ma temp).used.used.condEnd 4 mInputFault 0 := by
  rw [State.powerReading, if_neg hdev]
  refine (if_neg ?_).trans (if_neg (by omega))
  simp only [Bool.or_eq_true, decide_eq_true_eq]
  omega

/-! The capping loop (R491–R493). -/

section
variable {w : Nat}

/-- The loop runs in RUN and TRIM, from WIPE on. -/
theorem State.capLoop_runs (hst : s.power.pstate < 2) (hdev : 2 ≤ s.dev.code) : ¬ (2 ≤ s.power.pstate || s.dev.code < 2) = true := by
  simp only [Bool.or_eq_true, decide_eq_true_eq]
  omega

theorem State.capLoop_of_lowerable {e : Nat} (hst : s.power.pstate < 2) (hdev : 2 ≤ s.dev.code) (hover : s.power.cap < w)
    (hlow : s.lowerable (stepsOf s.power.capSteps) = some e) :
    s.capLoop w =
      ({ s with power := { s.power with capSteps := e :: s.power.capSteps, lowLoops := 0, unmet := false } } : State).retarget := by
  rw [State.capLoop, if_neg (State.capLoop_runs hst hdev)]
  simp only [if_pos hover, hlow]

theorem State.capLoop_of_unmet (hst : s.power.pstate < 2) (hdev : 2 ≤ s.dev.code) (hover : s.power.cap < w)
    (hlow : s.lowerable (stepsOf s.power.capSteps) = none) : s.capLoop w = { s with power := { s.power with lowLoops := 0, unmet := true } } := by
  rw [State.capLoop, if_neg (State.capLoop_runs hst hdev)]
  simp only [if_pos hover, hlow]

/-- After 20 loops below 97 % of the cap a step is given back. -/
theorem State.capLoop_of_twentieth_low (hst : s.power.pstate < 2) (hdev : 2 ≤ s.dev.code) (hwithin : w ≤ s.power.cap)
    (hlow : 100 * w < 97 * s.power.cap) (hloops : 20 ≤ s.power.lowLoops + 1) :
    s.capLoop w =
      ({ s with power := { s.power with capSteps := s.power.capSteps.drop 1, lowLoops := 0, unmet := false } } : State).retarget := by
  rw [State.capLoop, if_neg (State.capLoop_runs hst hdev)]
  simp only [if_neg (Nat.not_lt.mpr hwithin), if_pos hlow, if_pos hloops]

end

/-! A den's temperature (R490, R494). -/

section
variable {d t : Nat}

/-- The steps that den `d` has taken for its temperature become `l`, and the islands' targets follow. -/
def State.setThermal (s : State) (d : Nat) (l : List Nat) : State :=
  ({ s with power := { s.power with thermal := Tbl.put [] s.power.thermal d l } } : State).retarget

theorem State.thermalLoop_of_hot {e : Nat} (hd : d < 4) (hdev : 2 ≤ s.dev.code) (ht : 100 ≤ t)
    (hlow : (s.junction d t).lowerable (stepsOf ((s.junction d t).thermalOf d)) = some e) :
    s.thermalLoop d t = (s.junction d t).setThermal d (e :: (s.junction d t).thermalOf d) := by
  rw [State.thermalLoop, if_neg (by simp only [Bool.or_eq_true, decide_eq_true_eq]; omega)]
  simp only [if_pos ht, hlow]
  rfl

theorem State.thermalLoop_of_cool (hd : d < 4) (hdev : 2 ≤ s.dev.code) (ht : t < 97) (hskew : (s.junction d t).power.skew.contains d = false)
    (hsteps : (s.junction d t).thermalOf d ≠ []) :
    s.thermalLoop d t = (s.junction d t).setThermal d (((s.junction d t).thermalOf d).drop 1) := by
  rw [State.thermalLoop, if_neg (by simp only [Bool.or_eq_true, decide_eq_true_eq]; omega)]
  simp only [if_neg (show ¬ 100 ≤ t by omega), hskew, Bool.false_eq_true, if_false, if_pos ht, List.isEmpty_iff, if_neg hsteps]
  rfl

end

/-! Islands, phases and rails, and the reference (R484, R487, R489). -/

theorem State.islandStep_of_pending {k : Nat} (hk : k < 195) (h : (s.island k).mhz ≠ (s.island k).target) :
    s.islandStep k = s.setIsland k { s.island k with mhz := (s.island k).target } :=
  if_pos (by simp [hk, h])

theorem State.phaseFaultIn_of_running {p : Nat} (hp : p < 96) (h : p ∉ s.power.stopped) :
    s.phaseFaultIn p = (s.event { word := p / 24, source := fPhase, unit := p, kind := .phase }).stopPhase p :=
  if_neg (by simp [h, hp])

theorem State.railOut_of_den {d : Nat} (hd : d < 4) : s.railOut d = s.condBegin { word := d, source := fRail } := if_neg (by omega)

/-- The locked lanes of every port hunt again, and their ports lose them (R89, R489). -/
def State.unlockLanes (s : State) : State :=
  (List.range 192).foldl (fun s p => (List.range (2 ^ (s.port p).width)).foldl (fun s k =>
    if (s.lane (4 * p + k)).lock = .locked then
      (s.setLane (4 * p + k) { s.lane (4 * p + k) with lock := .hunt, win := [], good := 0, soaking := false }).laneLost p k
    else s) s) s

theorem State.refLostIn_of_present (h : s.power.refLost = false) :
    s.refLostIn = ({ s with power := { s.power with refLost := true } } : State).unlockLanes :=
  if_neg (by simp [h])

end Sys2Proof.Machine
end

section
/-! PROOF. The obligation on power, temperature, voltage and the reference. -/

namespace Sys2Proof.Proofs

open Sys2Proof Sys2Proof.Machine

/-- Settles O28: row by row, the row's own equation and then what its operation does under the premises. -/
theorem powerRows : Obligations.PowerRows := by
  refine ⟨?start, ?warn, ?sample, ?lowers, ?givesBack, ?unmet, ?hot, ?cool, ?avs, ?step, ?phase, ?rail, ?lost, ?back⟩
  case start =>
    intro s hdev hwait hpf
    rw [exec_startCondition, State.startCondition_of_waiting hdev hwait hpf]
  case warn =>
    intro s hdev hpf hreset
    rw [exec_pfWarn, State.pfWarnIn_of_first hdev hpf hreset]
  case sample =>
    intro s mv ma temp l v hdev hlo hhi hl hv
    subst hl hv
    rw [exec_powerSample, State.powerReading_of_within hdev hlo hhi]
    rfl
  case lowers =>
    intro s w e hst hdev hover hlow
    rw [exec_cappingLoop, State.capLoop_of_lowerable hst hdev hover hlow]
  case givesBack =>
    intro s w hst hdev hwithin hlow hloops
    rw [exec_cappingLoop, State.capLoop_of_twentieth_low hst hdev hwithin hlow hloops]
  case unmet =>
    intro s w hst hdev hover hlow
    rw [exec_cappingLoop, State.capLoop_of_unmet hst hdev hover hlow]
  case hot =>
    intro s d t e v hd hdev ht hv hlow
    subst hv
    rw [exec_denThermalLoop s hd, State.thermalLoop_of_hot hd hdev ht hlow]
    rfl
  case cool =>
    intro s d t v hd hdev ht hv hskew hsteps
    subst hv
    rw [exec_denThermalLoop s hd, State.thermalLoop_of_cool hd hdev ht hskew hsteps]
    rfl
  case avs =>
    intro s l
    rw [exec_avsAdjust]
    rfl
  case step =>
    intro s k hk h
    rw [exec_islandStepComplete, State.islandStep_of_pending hk h]
  case phase =>
    intro s p hp h
    rw [exec_phaseFault, State.phaseFaultIn_of_running hp h]
  case rail =>
    intro s d hd
    rw [exec_railFault s hd, State.railOut_of_den hd]
  case lost =>
    intro s v h hv
    subst hv
    rw [exec_refLost, State.refLostIn_of_present h]
    rfl
  case back =>
    intro s
    rw [exec_refRelock]
    rfl

end Sys2Proof.Proofs
end

section
/-! PROOF. The power state is none of the business of events, of a packet's way into the switch, of streams and of replies: one lemma for each
operation, in the order of the model. -/

namespace Sys2Proof.Machine

variable {s : State}

/-- What every step of a fold leaves, the fold leaves. -/
theorem foldl_keeps {α β γ : Type} {f : β → α → β} (g : β → γ) (h : ∀ b a, g (f b a) = g b) (l : List α) (b : β) : g (l.foldl f b) = g b := by
  induction l generalizing b with
  | nil => rfl
  | cons a l ih => rw [List.foldl_cons, ih, h]

/-! Outputs, counters and events (R442, R546). -/

theorem EventFrame.power {s t : State} (h : EventFrame s t) : t.power = s.power := by obtain ⟨_, _, _, _, _, rfl⟩ := h; rfl

@[simp] theorem State.emit_power (o : Out) : (s.emit o).power = s.power := (s.emit_frame o).power
@[simp] theorem State.bump_power (a : Nat) : (s.bump a).power = s.power := (s.bump_frame a).power
@[simp] theorem State.bumpLink_power (p o : Nat) : (s.bumpLink p o).power = s.power := s.bump_power _
@[simp] theorem State.event_power (e : Event) : (s.event e).power = s.power := (s.event_frame e).power
@[simp] theorem State.raiseMod_power (n : Nat) : (s.raiseMod n).power = s.power := s.event_power _
@[simp] theorem State.signal_power (v : Nat) : (s.signal v).power = s.power := (s.signal_frame v).power
@[simp] theorem State.maxCtr_power (a v : Nat) : (s.maxCtr a v).power = s.power := rfl

@[simp] theorem State.bump64_power (a n : Nat) : (s.bump64 a n).power = s.power := by
  obtain ⟨c, h⟩ := s.bump64_eq a n
  rw [h]

@[simp] theorem State.hostWrite_power (a : Nat) (l : List Byte) : (s.hostWrite a l).power = s.power := by
  unfold State.hostWrite
  split <;> simp

/-! Pools and cell chains (R110–R113, R139, R165). -/

@[simp] theorem State.setPool_power (d p : Nat) (x : Pool) : (s.setPool d p x).power = s.power := rfl
@[simp] theorem State.setChain_power (c : Nat) (x : Chain) : (s.setChain c x).power = s.power := rfl
@[simp] theorem State.poolEmpty_power (d p : Nat) : (s.poolEmpty d p).power = s.power := rfl
@[simp] theorem State.chainRef_power (c : Nat) : (s.chainRef c).power = s.power := rfl

@[simp] theorem State.updXoff_power (p : Nat) : (s.updXoff p).power = s.power := by
  unfold State.updXoff
  dsimp only
  split
  · rfl
  · split <;> simp

@[simp] theorem State.updXoffDen_power (d : Nat) : (s.updXoffDen d).power = s.power :=
  foldl_keeps State.power (fun _ _ => State.updXoff_power _) _ s

@[simp] theorem State.enterLevel_power (d p l : Nat) : (s.enterLevel d p l).power = s.power := by simp [State.enterLevel]

@[simp] theorem State.relevel_power (d p : Nat) : (s.relevel d p).power = s.power := by
  have hlevels (l : List Nat) (u : State) : (l.foldl (fun s k => s.enterLevel d p k) u).power = u.power :=
    foldl_keeps State.power (fun _ _ => State.enterLevel_power ..) l u
  unfold State.relevel
  dsimp only
  split
  · rfl
  · split <;> simp [hlevels]

@[simp] theorem State.poolUse_power (d p n : Nat) : (s.poolUse d p n).power = s.power := by simp [State.poolUse]
@[simp] theorem State.poolGive_power (d p n : Nat) : (s.poolGive d p n).power = s.power := by simp [State.poolGive]

@[simp] theorem State.chainFree_power (c : Nat) : (s.chainFree c).power = s.power := by
  unfold State.chainFree
  dsimp only
  split <;> simp

@[simp] theorem State.chainUnref_power (c : Nat) : (s.chainUnref c).power = s.power := by
  unfold State.chainUnref
  dsimp only
  split <;> simp

@[simp] theorem State.mcMark_power (c m : Nat) : (s.mcMark c m).power = s.power := by
  unfold State.mcMark
  split <;> simp

theorem State.chainTake_power {c d n tc : Nat} {hp : Option Nat} {t : State} (h : s.chainTake c d n tc hp = some t) : t.power = s.power := by
  unfold State.chainTake at h
  split at h
  · cases h
  · cases h
    dsimp only
    split
    · split <;> simp
    · simp

/-! Queues and deep segments (R146, R157, R171–R183). -/


@[simp] theorem State.judge_power (d : Nat) (h : Hdr) (colour cells : Nat) (spilled : Bool) :
    (s.judge d h colour cells spilled).1.power = s.power := by
  unfold State.judge
  dsimp only
  split_ifs <;> rfl

theorem State.takePage_power {d tc : Nat} {t : State} (h : s.takePage d tc = some t) : t.power = s.power := by
  unfold State.takePage at h
  dsimp only at h
  split at h
  · cases h
    simp
  · split at h
    · cases h
    · cases h
      simp

@[simp] theorem State.givePage_power (d tc : Nat) : (s.givePage d tc).power = s.power := by
  unfold State.givePage
  dsimp only
  split <;> simp

@[simp] theorem State.unstage_power (d att q : Nat) : (s.unstage d att q).power = s.power := by
  unfold State.unstage
  refine foldl_keeps (fun acc : State × Nat => acc.1.power) (fun acc h => ?_) _ (s, 0)
  dsimp only
  split <;> simp

@[simp] theorem State.writePage_power (d att q : Nat) : (s.writePage d att q).power = s.power := by
  unfold State.writePage
  dsimp only
  split <;> simp

/-- The page that packets are staged in, opened where none is. -/
theorem State.pageOpened_power {d att q tc : Nat} {t : State}
    (h : (if (s.queue (qKey d att q)).pageOpen.isSome then some s
      else (s.takePage d tc).map (fun s => s.setQueue (qKey d att q) { s.queue (qKey d att q) with pageOpen := some s.clk })) = some t) :
    t.power = s.power := by
  split at h
  · cases h
    rfl
  · obtain ⟨u, hu, rfl⟩ := Option.map_eq_some_iff.mp h
    rw [State.setQueue_power, State.takePage_power hu]

@[simp] theorem State.pageWork_power (n d att q tc : Nat) : (s.pageWork n d att q tc).power = s.power := by
  induction n generalizing s with
  | zero => rfl
  | succ n ih =>
    unfold State.pageWork
    dsimp only
    split
    · rfl
    · split
      · simp
      · next t ht =>
        have hopened := State.pageOpened_power ht
        split
        · rw [ih, State.writePage_power, hopened]
        · exact hopened

@[simp] theorem State.vcSub_power (p v n : Nat) : (s.vcSub p v n).power = s.power := by simp [State.vcSub]

@[simp] theorem State.closeDeep_power (d att q tc : Nat) : (s.closeDeep d att q tc).power = s.power := by
  unfold State.closeDeep
  dsimp only
  split
  · rfl
  · exact foldl_keeps State.power (fun _ _ => State.givePage_power ..) _ _

/-! A packet's way through a slice (R136, R137, R150–R163). -/

@[simp] theorem State.takeHeld_power (h : Held) : (s.takeHeld h).power = s.power := by
  unfold State.takeHeld
  extract_lets sw s₁ s₂ s₃
  have h₂ : s₂.power = s.power := by
    dsimp only [s₂]
    split <;> simp [s₁]
  have h₃ : s₃.power = s.power := by
    dsimp only [s₃]
    split
    · split <;> simp [h₂]
    · exact h₂
  split
  · extract_lets k s₄
    have h₄ : s₄.power = s.power := by
      dsimp only [s₄]
      split <;> exact h₃
    split <;> simp [h₄]
  · exact h₃

theorem State.choosePort_power {d p : Nat} {cands : List Nat} {h : Hdr} {inPort : Option Nat} {t : State}
    (hc : s.choosePort d cands h inPort = some (p, t)) : t.power = s.power := by
  unfold State.choosePort at hc
  extract_lets vcOf el dirs inDir dirEst at hc
  split at hc
  · cases hc
  · extract_lets axis k s₁ best at hc
    have h₁ : s₁.power = s.power := by
      dsimp only [s₁]
      split <;> rfl
    split at hc
    · cases hc
    · split at hc
      · obtain ⟨-, rfl⟩ := Prod.mk.inj (Option.some.inj hc)
        exact h₁
      · cases hc
        exact h₁

@[simp] theorem State.steer_power (h : Held) : (s.steer h).1.power = s.power := by
  unfold State.steer
  split
  · rfl
  · rfl
  · rfl
  · split
    · next hc => exact State.choosePort_power hc
    · rfl

@[simp] theorem State.enqueue_power (h : Held) (att : Nat) : (s.enqueue h att).power = s.power := by
  unfold State.enqueue
  extract_lets d hd q k x v ts tf spill h' s₁ sw s₂ n s₃ s₄
  have h₁ : s₁.power = s.power := by
    dsimp only [s₁]
    split <;> simp
  have h₃ : s₃.power = s.power := by
    dsimp only [s₃]
    split <;> exact h₁
  have h₄ : s₄.power = s.power := by
    dsimp only [s₄]
    split <;> simp [h₃]
  split
  · rw [State.pageWork_power, h₄]
  · exact h₃

@[simp] theorem State.stage7_power (h : Held) (fresh : Bool) : (s.stage7 h fresh).power = s.power := by
  have hsteer := s.steer_power h
  unfold State.stage7
  generalize s.steer h = u at *
  obtain ⟨u, h'⟩ := u
  dsimp -zeta only at hsteer ⊢
  extract_lets +onlyGivenNames bridging
  generalize u.judgeDepth h' = cells
  obtain ⟨dep, spl⟩ := cells
  have hjudge : (if fresh && !bridging then u.judge h'.den h'.pkt.hdr h'.colour dep spl else (u, .pass)).1.power = u.power := by
    split <;> simp
  dsimp -zeta only
  generalize (if fresh && !bridging then u.judge h'.den h'.pkt.hdr h'.colour dep spl else (u, .pass)) = j at *
  obtain ⟨v, verdict⟩ := j
  dsimp -zeta only at hjudge ⊢
  have hv : v.power = s.power := hjudge.trans hsteer
  split
  · extract_lets w
    have hw : w.power = s.power := (v.takeHeld_power h').trans hv
    split
    · simp [hw]
    · simp [hw]
    · split <;> simp [hw]
  · extract_lets marked w h₁ cut h₂
    have hw : w.power = s.power := by
      dsimp only [w]
      split
      · exact hv
      · split <;> simp [hv]
    split
    · rw [State.enqueue_power, hw]
    · exact hw

@[simp] theorem State.offer_power (h : Held) : (s.offer h).power = s.power := by
  have hsteer : (if h.mc = 0 then (s, h) else s.steer h).1.power = s.power := by
    split <;> simp
  unfold State.offer
  generalize (if h.mc = 0 then (s, h) else s.steer h) = u at *
  obtain ⟨u, h'⟩ := u
  dsimp -zeta only at hsteer ⊢
  split
  · exact hsteer
  · dsimp only [State.newId]
    split
    · simp [hsteer]
    · split
      · next ht => simpa [hsteer] using State.chainTake_power ht
      · rfl

@[simp] theorem State.originateMc_power (pkt : Pkt) (o : Origin) (ring fixed : Option Nat) (mc : Nat) :
    (s.originateMc pkt o ring fixed mc).power = s.power := by
  unfold State.originateMc
  split <;> simp

@[simp] theorem State.originate_power (pkt : Pkt) (o : Origin) (ring fixed : Option Nat) : (s.originate pkt o ring fixed).power = s.power :=
  State.originateMc_power ..

/-! End-to-end streams (R114–R120). -/

@[simp] theorem State.sendCompl_power (dst : Nat) (like : Hdr) (c : Compl) (ece : Bool) : (s.sendCompl dst like c ece).power = s.power :=
  State.originate_power ..

@[simp] theorem State.pathLost_power (o : Origin) (pkt : Pkt) : (s.pathLost o pkt).power = s.power := by simp [State.pathLost]

@[simp] theorem State.offerPkt_power (o : OutPkt) : (s.offerPkt o).power = s.power := by
  unfold State.offerPkt
  dsimp only
  split
  · split <;> simp
  · simp

@[simp] theorem State.launchPkt_power (o : OutPkt) : (s.launchPkt o).1.power = s.power := by
  unfold State.launchPkt
  split <;> simp

@[simp] theorem State.pump_power (n dst tc : Nat) : (s.pump n dst tc).power = s.power := by
  induction n generalizing s with
  | zero => rfl
  | succ n ih =>
    unfold State.pump
    dsimp only
    split
    · rfl
    · split
      · rfl
      · rw [ih, State.setTxs_power, State.launchPkt_power]

@[simp] theorem State.openAtSeq_power (dst tc q : Nat) : (s.openAtSeq dst tc q).power = s.power := by
  simp [State.openAtSeq]

@[simp] theorem State.enterStream_power (o : OutPkt) : (s.enterStream o).power = s.power := by
  unfold State.enterStream
  dsimp only
  split <;> simp [State.pumpAll]

@[simp] theorem State.sendPkt_power (pkt : Pkt) (o : Origin) (ring deadline : Option Nat) : (s.sendPkt pkt o ring deadline).power = s.power := by
  unfold State.sendPkt
  split
  · exact State.enterStream_power _
  · simp

/-! Replies (R367, R373, R375, R382, R384). -/

@[simp] theorem State.withReply_power (n : Nat) (block bytes : List Byte) : (s.withReply n block bytes).power = s.power := by
  unfold State.withReply
  split <;> simp

@[simp] theorem State.reply_final_power (src : Src) (tag op job progress : Nat) (a : Ans) :
    (s.reply src tag op job progress true a).power = s.power := by
  cases src with
  | slot n =>
    have hanswered : (s.slotAnswered n).power = s.power := rfl
    rw [State.reply_slot_final]
    dsimp only
    split
    · simp [hanswered]
    · split
      · simp [hanswered]
      · split <;> simp [hanswered]
  | fabric e => exact (State.sendPkt_power ..).trans rfl

@[simp] theorem State.finalReplyAt_power (progress : Nat) (src : Src) (tag op job : Nat) (a : Ans) :
    (s.finalReplyAt progress src tag op job a).power = s.power := by
  unfold State.finalReplyAt
  dsimp only
  split <;> simp

@[simp] theorem State.execDone_power (id : Nat) (a : Ans) : (s.execDone id a).power = s.power := by
  unfold State.execDone
  split
  · rfl
  · dsimp only
    split <;> simp

@[simp] theorem State.execsDone_power (op n : Nat) (a : Ans) : (s.execsDone op n a).power = s.power :=
  foldl_keeps State.power (fun _ _ => State.execDone_power ..) _ s

end Sys2Proof.Machine
end

section
/-! PROOF. What the rows of the power states do where their guards let them (R490, R494–R500), one equation for each row first. -/

namespace Sys2Proof.Machine

variable (s : State)

theorem exec_drowseDrainTimeout : exec .drowseDrainTimeout s = .next (settle s s.drainOut) := rfl
theorem exec_hibernateEntryComplete : exec .hibernateEntryComplete s = .next (settle s s.hibernated) := rfl
theorem exec_wakeN : exec .wakeN s = .next (settle s s.wakeRequest) := rfl
theorem exec_i3cWakeRequest : exec .i3cWakeRequest s = .next (settle s s.wakeRequest) := rfl
theorem exec_wakeComplete (ok : Bool) : exec (.wakeComplete ok) s = .next (settle s (s.wakeComplete ok)) := rfl
theorem exec_drowseWakeComplete : exec .drowseWakeComplete s = .next (settle s s.drowseWoken) := rfl

theorem exec_corePowerOnComplete {k : Nat} (hk : k < 128) : exec (.corePowerOnComplete k) s = .next (settle s (s.powerOn k)) :=
  next_settle_if_pos s (s.powerOn k) hk

theorem exec_denJunctionTemperature {d : Nat} (t : Nat) (isl : List (Nat × Nat)) (hd : d < 4) :
    exec (.denJunctionTemperature d t isl) s = .next (settle s (s.denTemp d t isl)) := next_settle_if_pos s (s.denTemp d t isl) hd

variable {s}

/-! The entries to DROWSE and HIBERNATE (R498, R499). -/

/-- What remains at the end of the forwarding window is discarded, and buffers are flushed. -/
def State.windowEnded (s : State) : State := ((s.sw.held.map (·.id)).foldl (fun s k => s.residenceOut k) s).flushWhere (fun _ => true)

/-- DROWSE is reached: targets for it, clocks stopped, and the command's answer. -/
def State.intoDrowse (s : State) : State :=
  ((({ s with power := { s.power with pstate := 2 } } : State).retarget).stopClocks true).powerReached 2

theorem State.drainOut_of_drowse (hbusy : s.power.busy = true) (ht : s.power.target = 2) (ht' : s.windowEnded.power.target = 2)
    (hwake : s.windowEnded.intoDrowse.power.wakeReq = false) : s.drainOut = s.windowEnded.intoDrowse := by
  rw [State.drainOut, if_neg (by simp [hbusy, ht])]
  exact (if_pos ht').trans (if_neg (ne_true_of_eq_false hwake))

theorem State.drainOut_of_no_entry (h : s.power.busy = false ∨ s.power.target < 2) : s.drainOut = s :=
  if_pos (by simpa using h)

/-- Every port is out of service and DISABLED. -/
def State.portsDisabled (s : State) : State :=
  (List.range 192).foldl (fun s p =>
    if (s.port p).st = .disabled then s else (s.outOfService p).setPort p { (s.outOfService p).port p with st := .disabled }) s

/-- The PCI Express link is down, uncounted. -/
def State.hostDown (s : State) : State := { s with host := { s.host with linkUp := false, rate := 0, width := 0, flit := false, l0p := false } }

/-- HIBERNATE is reached: lanes are gone, Keeper's measurement is kept for the wake, and every island but the one on VAON is off. -/
def State.asleep (s : State) : State :=
  (List.range 195).foldl (fun s k => if k = 193 then s else s.setIsland k { s.island k with gated := true, mhz := 0 })
    ({ s with lanes := [], power := { s.power with pstate := 3, busy := false, hibMeas := s.fwMeasured true } } : State)

theorem State.hibernated_eq : s.hibernated =
    if !s.power.busy || s.power.target ≠ 3 || s.power.owner.isSome then s
    else
      let u := s.portsDisabled.hostDown.asleep
      if u.power.wakeReq then { u with power := { u.power with busy := true, target := 0, wakeReq := false } } else u := by
  simp only [State.hibernated, State.asleep, State.hostDown, State.portsDisabled]

theorem State.hibernated_of_entered (hbusy : s.power.busy = true) (ht : s.power.target = 3) (howner : s.power.owner = none)
    (hwake : s.portsDisabled.hostDown.asleep.power.wakeReq = false) : s.hibernated = s.portsDisabled.hostDown.asleep := by
  rw [State.hibernated_eq, if_neg (by simp [hbusy, ht, howner])]
  exact if_neg (ne_true_of_eq_false hwake)

/-! Wakes (R496, R500). -/

theorem State.wakeRequest_of_hibernate (hst : s.power.pstate = 3) (hbusy : s.power.busy = false) :
    s.wakeRequest = { s with power := { s.power with busy := true, target := 0 } } := by
  simp [State.wakeRequest, hst, hbusy]

theorem State.wakeRequest_of_entry (hbusy : s.power.busy = true) (ht : 2 ≤ s.power.target) :
    s.wakeRequest = { s with power := { s.power with wakeReq := true } } :=
  if_pos (by simp [hbusy, ht])

/-- A wake whose checks pass, Keeper's measurement among them, reaches RUN. -/
theorem State.wakeComplete_of_passed (hbusy : s.power.busy = true) (hst : s.power.pstate = 3) (hmeas : s.power.hibMeas = s.fwMeasured true) :
    s.wakeComplete true = s.hibernateWoken := by
  rw [State.wakeComplete, if_neg (by simp [hbusy, hst]), if_pos (by simp [hmeas])]

theorem State.wakeComplete_of_failed (hbusy : s.power.busy = true) (hst : s.power.pstate = 3) :
    s.wakeComplete false = s.moduleReset 5 none false := by
  rw [State.wakeComplete, if_neg (by simp [hbusy, hst]), if_neg (by simp)]

/-! A gated core, and a den's temperatures (R490, R494, R497). -/

/-- A core that has powered on, its island on with it. -/
def State.coreAwake (s : State) (k : Nat) : State := (s.corePowered k).setIsland k { (s.corePowered k).island k with gated := false }

/-- A core that powers on answers the commands that wait for it, which is none of the power state's business. -/
@[simp] theorem State.corePowered_power (k : Nat) : (s.corePowered k).power = s.power := by
  unfold State.corePowered
  dsimp only
  split
  · rfl
  · split <;> simp

theorem State.corePowered_island (k : Nat) : (s.corePowered k).island k = s.island k := by
  rw [State.island, State.corePowered_power, State.island]

/-- A gated core powers on for a command that needs it; no transition of the module waits for it. -/
theorem State.powerOn_of_bound {k : Nat} (hgated : (s.core k).gated = true) (hbound : (s.core k).binding ≠ 0)
    (hbusy : (s.coreAwake k).power.busy = false) :
    s.powerOn k = (s.coreAwake k).setCore k { (s.coreAwake k).core k with gated := false } := by
  have hawake : (s.corePowered k).setIsland k { s.island k with gated := false } = s.coreAwake k := by
    rw [State.coreAwake, State.corePowered_island]
  rw [State.powerOn, if_neg (by simp [hgated, hbound]), hawake]
  exact if_neg (by simp [hbusy])

/-- The temperatures of a den's islands as read. -/
def State.islandTemps (s : State) (d : Nat) (isl : List (Nat × Nat)) : State :=
  isl.foldl (fun s x => if x.1 < 160 && islandDen x.1 = d then s.setIsland x.1 { s.island x.1 with temp := x.2 } else s) s

/-- Whether a den's Sett islands are skewed is noted (R490). -/
def State.noteSkew (s : State) (d : Nat) : State :=
  { s with power := { s.power with skew := if s.skewed d then d :: s.power.skew.filter (· != d) else s.power.skew.filter (· != d) } }

theorem State.denTemp_of_den {d : Nat} (t : Nat) (isl : List (Nat × Nat)) (hd : d < 4) :
    s.denTemp d t isl = ((s.islandTemps d isl).noteSkew d).junction d t := if_neg (by omega)

/-! The way back from DROWSE (R498). -/

/-- The device state and the pair are none of the islands' business. -/
theorem State.stopClocks_keeps (b : Bool) : (s.stopClocks b).dev = s.dev ∧ (s.stopClocks b).pair = s.pair :=
  ⟨foldl_keeps State.dev (fun _ _ => by split <;> rfl) _ s, foldl_keeps State.pair (fun _ _ => by split <;> rfl) _ s⟩

theorem State.retarget_keeps : s.retarget.dev = s.dev ∧ s.retarget.pair = s.pair :=
  ⟨foldl_keeps State.dev (by intros; rfl) _ s, foldl_keeps State.pair (by intros; rfl) _ s⟩

/-- DROWSE's steps reversed, before the module says whether it accepts. -/
def State.outOfDrowse (s : State) : State := (({ s with power := { s.power with pstate := 0 } } : State).stopClocks false).retarget

theorem State.outOfDrowse_keeps : s.outOfDrowse.dev = s.dev ∧ s.outOfDrowse.pair = s.pair := by
  refine ⟨?dev, ?pair⟩
  case dev => rw [State.outOfDrowse, State.retarget_keeps.1, (State.stopClocks_keeps false).1]
  case pair => rw [State.outOfDrowse, State.retarget_keeps.2, (State.stopClocks_keeps false).2]

/-- Every gated core that is not fenced is on. -/
def State.coresOn (s : State) : State :=
  (List.range 128).foldl (fun s k => if (s.core k).gated && !(s.core k).fenced then s.setCore k { s.core k with gated := false } else s) s

theorem State.drowseWoken_eq : s.drowseWoken =
    if !s.power.busy || s.power.pstate ≠ 2 || 2 ≤ s.power.target then s
    else
      let v := s.outOfDrowse.setAccept (s.dev.code ≥ 4 && s.pair.st != 4)
      (if s.power.target = 1 then v.trimCores else v.coresOn).powerReached s.power.target := rfl

theorem State.drowseWoken_of_run (hbusy : s.power.busy = true) (hst : s.power.pstate = 2) (ht : s.power.target = 0) :
    s.drowseWoken =
      (s.outOfDrowse.setAccept (s.outOfDrowse.dev.code ≥ 4 && s.outOfDrowse.pair.st != 4)).coresOn.powerReached 0 := by
  obtain ⟨hdev, hpair⟩ := s.outOfDrowse_keeps
  rw [State.drowseWoken_eq, if_neg (by simp [hbusy, hst, ht]), hdev, hpair, ht]
  rfl

end Sys2Proof.Machine
end

section
/-! PROOF. The obligation on the power states. -/

namespace Sys2Proof.Proofs

open Sys2Proof Sys2Proof.Machine

/-- Settles O29: row by row, the row's own equation and then what its operation does under the premises. -/
theorem powerStateRows : Obligations.PowerStateRows := by
  refine ⟨?drowse, ?noEntry, ?hibernate, ?wake, ?wakeLater, ?i3c, ?i3cLater, ?woken, ?failed, ?core, ?temps, ?back⟩
  case drowse =>
    intro s u v w hbusy ht hu hut hv hw hwake
    change u = s.windowEnded at hu
    subst hu hv hw
    rw [exec_drowseDrainTimeout, State.drainOut_of_drowse hbusy ht hut hwake]
    rfl
  case noEntry =>
    intro s h
    rw [exec_drowseDrainTimeout, State.drainOut_of_no_entry h]
  case hibernate =>
    intro s u v hbusy ht howner hu hv hwake
    change u = s.portsDisabled at hu
    change v = u.hostDown at hv
    subst v u
    rw [exec_hibernateEntryComplete, State.hibernated_of_entered hbusy ht howner hwake, State.asleep]
  case wake => intro s hst hbusy; rw [exec_wakeN, State.wakeRequest_of_hibernate hst hbusy]
  case wakeLater => intro s hbusy ht; rw [exec_wakeN, State.wakeRequest_of_entry hbusy ht]
  case i3c => intro s hst hbusy; rw [exec_i3cWakeRequest, State.wakeRequest_of_hibernate hst hbusy]
  case i3cLater => intro s hbusy ht; rw [exec_i3cWakeRequest, State.wakeRequest_of_entry hbusy ht]
  case woken =>
    intro s hbusy hst hmeas
    rw [exec_wakeComplete, State.wakeComplete_of_passed hbusy hst hmeas]
  case failed =>
    intro s hbusy hst
    rw [exec_wakeComplete, State.wakeComplete_of_failed hbusy hst]
  case core =>
    intro s k v hk hgated hbound _ hv hbusy
    change v = s.coreAwake k at hv
    subst hv
    rw [exec_corePowerOnComplete s hk, State.powerOn_of_bound hgated hbound hbusy]
  case temps =>
    intro s d t isl u hd hu
    change u = s.islandTemps d isl at hu
    subst hu
    rw [exec_denJunctionTemperature s t isl hd, State.denTemp_of_den t isl hd]
    rfl
  case back =>
    intro s u v hbusy hst ht hu hv
    change u = s.outOfDrowse at hu
    subst hu hv
    rw [exec_drowseWakeComplete, State.drowseWoken_of_run hbusy hst ht]
    rfl

end Sys2Proof.Proofs
end

section
/-! PROOF. What the rows of Fox units and of the golden end point do where their guards let them (R522–R529, R533, R536), one equation for each row
first. -/

namespace Sys2Proof.Machine

variable (s : State)

theorem exec_foxStartTime (n : Nat) : exec (.foxStartTime n) s = .next (settle s (s.foxStartTime n)) := rfl
theorem exec_foxStreamPacket (n k : Nat) : exec (.foxStreamPacket n k) s = .next (settle s (s.foxEmit n k)) := rfl
theorem exec_foxCheckerSettle (n : Nat) : exec (.foxCheckerSettle n) s = .next (settle s (s.foxSettle n)) := rfl

theorem exec_goldenResultReceived {p : Nat} (pkt : Pkt) (hp : p < 192) :
    exec (.goldenResultReceived p pkt) s = .next (settle s (s.goldenIn p pkt)) := next_settle_if_pos s (s.goldenIn p pkt) hp

variable {s}

/-! A unit's start and end (R527, R529). -/

theorem State.foxStartTime_of_armed {n : Nat} (h : (s.foxUnit n).start ≠ none) : s.foxStartTime n = s.foxBegin n :=
  if_pos (Option.isSome_iff_ne_none.mpr h)

theorem State.foxStartTime_of_unarmed {n : Nat} (h : (s.foxUnit n).start = none) : s.foxStartTime n = s :=
  if_neg (by simp [h])

/-- The losses of the unit's flows that run are settled. -/
def State.flowsSettled (s : State) (n : Nat) : State :=
  ((s.foxUnit n).flows.filter (fun e => e.2.running)).foldl (fun s e => s.settleFlow n e.1) s

theorem State.foxSettle_of_settling {n : Nat} (h : (s.foxUnit n).settling = true) :
    s.foxSettle n = (s.flowsSettled n).setFox n { (s.flowsSettled n).foxUnit n with running := false, settling := false } :=
  if_neg (by simp [h])

/-! A stream's next packet (R523, R524, R526). -/

section
variable {n k : Nat} {x : FoxStream} {t : Rat}

/-- A stream after a packet of `bytes` bytes from a bucket at level `t`. -/
def FoxStream.after (x : FoxStream) (t : Rat) (bytes clk : Nat) : FoxStream :=
  { x with n := x.n + 1, tok := t - (bytes : Rat), tokAt := clk, running := !(x.count != 0 && x.count == x.n + 1) }

/-- The level of a stream's bucket, filled at its rate since it was last read. -/
def State.bucketOf (s : State) (x : FoxStream) : Rat := x.tok + rateOf x.rate * ((s.clk - x.tokAt : Nat) : Rat) / 1000000000000

/-- The stream's next packet taken from it: its count, its bucket and its counters have moved on. -/
def State.streamSent (s : State) (n k : Nat) (x : FoxStream) (t : Rat) (pkt : Pkt) : State :=
  let v := s.setFox n { s.foxUnit n with streams := Tbl.put {} (s.foxUnit n).streams k (x.after t pkt.hdr.bytesTotal s.clk) }
  (v.bump64 (foxReg n (0x100 + 0x10 * k)) 1).bump64 (foxReg n (0x108 + 0x10 * k)) pkt.hdr.bytesTotal

/-- A running stream whose bucket holds a positive level, not over its burst, and whose length is not drawn at random. -/
structure State.Sends (s : State) (n k : Nat) (x : FoxStream) (t : Rat) : Prop where
  stream : x = Tbl.get {} (s.foxUnit n).streams k
  unitRuns : (s.foxUnit n).running = true
  runs : x.running = true
  level : t = s.bucketOf x
  positive : 0 < t
  within : t ≤ ((256 * x.burst : Nat) : Rat)
  fixed : x.lenMode ≠ 2

theorem State.foxEmit_of_switched (h : s.Sends n k x t) (hsw : x.switched = true) :
    s.foxEmit n k =
      (s.streamSent n k x t (x.packet n k s.ownId s.free)).originate (x.packet n k s.ownId s.free) (.fox n) none none := by
  obtain ⟨rfl, hunit, hruns, rfl, hpos, hfull, hfixed⟩ := h
  simp only [State.bucketOf] at hfull hpos
  simp only [State.foxEmit, if_neg (not_lt.mpr hfull), if_neg hfixed]
  refine (if_neg ?_).trans ((if_neg ?_).trans (if_pos hsw))
  · simp [hunit, hruns, hpos]
  · simp [hsw]

theorem State.foxEmit_of_direct (h : s.Sends n k x t) (hsw : x.switched = false) (htc : x.tc = 0) (hel : s.eligible (8 * n + x.port) 0 = true) :
    s.foxEmit n k =
      (let pkt := x.packet n k s.ownId s.free
       let w := s.streamSent n k x t pkt
       let hd := { pkt.hdr with ver := if (w.port (8 * n + x.port)).ver = 0 then 2 else (w.port (8 * n + x.port)).ver }
       w.sendOut (8 * n + x.port) { hdr := hd, payload := w.stampTest pkt.payload } (trailerOf hd (w.stampTest pkt.payload))) := by
  obtain ⟨rfl, hunit, hruns, rfl, hpos, hfull, hfixed⟩ := h
  simp only [State.bucketOf] at hfull hpos
  simp only [State.foxEmit, if_neg (not_lt.mpr hfull), if_neg hfixed]
  refine (if_neg ?_).trans ((if_neg ?_).trans ((if_neg (ne_true_of_eq_false hsw)).trans (if_pos htc)))
  · simp [hunit, hruns, hpos]
  · simp [htc, hel]

end

/-! A packet of the DUT for an emulated member (R533, R536). -/

section
variable {p : Nat} {pkt : Pkt} {m : Member}

/-- The end point's inbox without the packet. -/
def State.goldTaken (s : State) (p : Nat) (pkt : Pkt) : State := s.setGold { s.gold with inbox := s.gold.inbox.erase (p, pkt) }

/-- A packet for the emulated member behind the port is taken by its TYPE, and every member then sends what it may. -/
theorem State.goldenIn_of_member (hm : s.emulated p = some m) (hin : (p, pkt) ∈ s.gold.inbox) (hrun : s.gold.stopped = false)
    (hdst : pkt.hdr.dst = m.ep) :
    s.goldenIn p pkt =
      (let v := s.goldTaken p pkt
       if pkt.hdr.type = 0x04 then v.memberComplIn m pkt.hdr (complOf pkt.payload)
       else if pkt.hdr.type = 0x09 then v.memberResult m pkt
       else if pkt.hdr.type = 0x28 then v.memberAgain m pkt
       else v).goldPump := by
  have hrun' : (s.goldTaken p pkt).gold.stopped = false := hrun
  rw [State.goldenIn, hm]
  refine (if_neg (by simp [hin])).trans (if_neg ?_)
  change ¬ ((s.goldTaken p pkt).gold.stopped || decide (pkt.hdr.dst ≠ m.ep)) = true
  simp [hrun', hdst]

end

end Sys2Proof.Machine
end

section
/-! PROOF. The obligation on Fox units and the golden end point. -/

namespace Sys2Proof.Proofs

open Sys2Proof Sys2Proof.Machine

/-- Settles O35: row by row; a stream that sends is its packet, its counts and the way out that its configuration names. -/
theorem foxAndGoldenRows : Obligations.FoxAndGoldenRows := by
  refine ⟨?armed, ?unarmed, ?switched, ?direct, ?settles, ?result, ?completion, fun x n k own r => ⟨rfl, rfl, rfl, rfl, rfl⟩⟩
  case armed =>
    intro s n u h hu
    subst u
    rw [exec_foxStartTime, State.foxStartTime_of_armed h]
    rfl
  case unarmed =>
    intro s n h
    rw [exec_foxStartTime, State.foxStartTime_of_unarmed h]
  case switched =>
    intro s n k x y t pkt v w hx hunit hruns ht hpos hfull hfixed hpkt hy hv hw hsw
    have hsends : s.Sends n k x t := ⟨hx, hunit, hruns, ht, hpos, hfull, hfixed⟩
    subst w v y pkt
    rw [exec_foxStreamPacket, State.foxEmit_of_switched hsends hsw]
    rfl
  case direct =>
    intro s n k x y t pkt v w hd hx hunit hruns ht hpos hfull hfixed hpkt hy hv hw hsw htc hel hhd
    have hsends : s.Sends n k x t := ⟨hx, hunit, hruns, ht, hpos, hfull, hfixed⟩
    subst hd w v y pkt
    rw [exec_foxStreamPacket, State.foxEmit_of_direct hsends hsw htc hel]
    rfl
  case settles =>
    intro s n v h hv
    change v = s.flowsSettled n at hv
    subst v
    rw [exec_foxCheckerSettle, State.foxSettle_of_settling h]
  case result =>
    intro s p pkt m v hp hm hin hrun hdst hv ht
    change v = s.goldTaken p pkt at hv
    subst v
    rw [exec_goldenResultReceived s pkt hp, State.goldenIn_of_member hm hin hrun hdst]
    simp only [ht, Nat.reduceEqDiff, if_false, if_true]
  case completion =>
    intro s p pkt m v hp hm hin hrun hdst hv ht
    change v = s.goldTaken p pkt at hv
    subst v
    rw [exec_goldenResultReceived s pkt hp, State.goldenIn_of_member hm hin hrun hdst]
    simp only [ht, if_true]

end Sys2Proof.Proofs
end
